-- ==== Sys2Proof/Word.lean ====
section
/-! DEFINITION. The words of the MY2440 node and the operand types of its commands: plain data only.
Bit vectors hold what the manual treats as bits; counts and exact readings are `Nat` and `Int`. -/
namespace Sys2Proof

/-- One byte of a memory, a frame or a payload. -/
abbrev Byte := BitVec 8
/-- A 16-bit half-word. -/
abbrev Half := BitVec 16
/-- A 32-bit register, parameter or memory word. -/
abbrev Word := BitVec 32
/-- A 64-bit serial number or time. -/
abbrev DWord := BitVec 64
/-- A 12-bit fabric address (R2): string in bits 11 to 6, strap in bits 5 to 0. -/
abbrev FAddr := BitVec 12

/-- The outcome of a check under the retry rule R19: passed at once, passed on the repeat, failed twice. -/
inductive Check where
  | pass
  | transient
  | lasting
  deriving DecidableEq, Repr

/-- The three host ports (R63), in the order of the OWNER coding of MBX_STAT (R72). -/
inductive HostPort where
  | spi
  | can
  | uart
  deriving DecidableEq, Repr

/-- Whose request a mailbox command executes: the node's own mailbox, or the head of its fabric request queue (R76). -/
inductive Src where
  | mbx
  | fabric
  deriving DecidableEq, Repr

/-- What the boot logic finds in a firmware slot (R60): valid, or the first check that fails. -/
inductive SlotCheck where
  | valid
  | signature
  | version
  | readback
  deriving DecidableEq, Repr

/-- What one housekeeping round brings from outside (R9, R151): the pace in MHz, and the raw lane codes of its 12 conversions in ascending channel
index: STACK, T0 to T5, REFCHK, V5, VCORE, VIO, VLINK. -/
structure RoundIn where
  pace  : Nat
  codes : List (BitVec 16)
  deriving DecidableEq, Repr

/-- What a Chisel slice attempt returns (R394): the outcome word of each completed step, and the readings the slice's own rule judges: the raw codes
of its conversions in order (slices 1 to 8), cells before and during a pulse in 100 µV (R110, R114), STACK in 2.5 mV, the seal samples (R378), the
reference ticks counted over 4 slow ticks (slice 26), and the elements found at fault (switches and shuttles of R231; the banks of a march). -/
structure SliceIn where
  outcomes : List Word
  codes    : List (BitVec 16)
  before   : List Int
  during   : List Int
  stack    : Nat
  seals    : List Byte
  ticks    : Nat
  faulty   : List Nat
  deriving DecidableEq, Repr

/-- What start-up meets outside the node (R58): the crystal, the lead samples of R37 (first read and repeat); the MRAM pages whose reading fails, by
address, with what R19 makes of it; whether the signatures of the images in the two firmware slots and of the node's certificate hold (R60, R425); the
attempts of the Chisel slices that do not pass at once (R59); and the first 16 bytes of the running image's SHA-256. -/
structure StartUpIn where
  xtal    : Bool
  addr1   : List (BitVec 6)
  addr2   : List (BitVec 6)
  seal1   : List Byte
  seal2   : List Byte
  mram    : List (Nat × Check)
  signA   : Bool
  signB   : Bool
  slices  : List (Fin 48 × List SliceIn)
  digest  : List Byte
  deriving DecidableEq, Repr

/-- One port in a TOPO frame (R269): up, whether the neighbour left with a SLEEP notice, whether it runs no firmware, its serial number and port. -/
structure TopoPort where
  up    : Bool
  slept : Bool
  nofw  : Bool
  nbr   : DWord
  nport : Fin 4
  deriving DecidableEq, Repr

/-- What a node floods about itself (R269): the fields of its training block (R259) and its four ports. -/
structure TopoNode where
  serial  : DWord
  strapOk : Bool
  strap   : BitVec 6
  fw      : Bool
  hostset : Bool
  string  : BitVec 6
  xtal    : Bool
  host    : Bool
  ports   : List TopoPort
  deriving DecidableEq, Repr

/-- What a node floods of itself for the Maquette (R312 to R314, R331): the work units it offers, its REBAL, whether it has a shunt and fitted contactors,
its cells, its state, its `plc.copies`, ⌈fs / 250,000⌉ of its running table (R200), and of its impedance plan the most SRC 0 entries that run
together and whether another entry is enabled. -/
structure Offer where
  units  : Nat
  rebal  : Nat
  shunt  : Bool
  fitted : Bool
  cells  : Nat
  state  : BitVec 4
  copies : Nat
  demod  : Nat
  runs   : Nat
  others : Bool
  deriving DecidableEq, Repr

/-- The contents a TOPO frame can carry: a node's record, flooded by a DISCOVER or not (R269, R273), its Armature CRC (R269), a string number (R275), an
acceptance (R432) and a node's offer (R312). -/
inductive TopoMsg where
  | node      (n : TopoNode) (discover : Bool)
  | armCrc    (serial : DWord) (crc : Word)
  | number    (serial : DWord) (num : BitVec 6) (clear : Bool)
  | accept    (addr : FAddr) (serial : DWord)
  | offer     (addr : FAddr) (o : Offer)
  deriving DecidableEq, Repr

/-- A TIME frame (R280) with its stamps in 1/256 tick: SYNC with t1, DREQ, and the parent's reply with t4. -/
inductive TimeMsg where
  | sync  (t1 : Int)
  | dreq
  | reply (t4 : Int)
  deriving DecidableEq, Repr

/-- The key of a job: its kind code of R313 and its goal slot. -/
structure JobKey where
  kind : BitVec 4
  slot : Fin 32
  deriving DecidableEq, Repr

/-- A record of R317: TYPE, owner, SEQ, RERUN and its stored bytes. -/
structure Rec where
  kind  : Byte
  owner : FAddr
  seq   : Word
  rerun : Bool
  bytes : List Byte
  deriving DecidableEq, Repr

/-- The charge count of one cell in a STATE job (R327): its SoC in 0.01 % and the charge counted at its last rest, the same at the rest its next
capacity is measured from, and its SoH in 0.01 %. Charge is in mA·s since the job began. -/
structure SocCell where
  rest : Option (Int × Int)
  from_ : Option (Int × Int)
  soh  : Option Nat
  deriving DecidableEq, Repr

/-- What a STATE job holds of one node (R327): a row per cell. -/
structure SocRow where
  node  : FAddr
  cells : List SocCell
  deriving DecidableEq, Repr

/-- A complex phasor of R188: a cell's in 10⁻¹⁰ V, a current's in 10⁻⁹ A. -/
structure Phasor where
  re : Int
  im : Int
  deriving DecidableEq, Repr, Inhabited

/-- A node's frame for one segment (R188, R201). The segment counts from 0 over the passes of the entry, `at_` from t0. `out`: the node does not
measure this pass (R199); `left`: it takes no part in the measurement (R186). Per cell its phasor and its mean in µV, none where it has no usable
segment; and the shunt node's current phasor. -/
structure SegIn where
  node    : FAddr
  entry   : Fin 16
  segment : Nat
  at_     : Nat
  out     : Bool
  left    : Bool
  cells   : List (Option (Phasor × Int))
  current : Option Phasor
  /-- The node's lines that have been open in the measurement (R195). -/
  opened  : BitVec 25
  deriving DecidableEq, Repr

/-- CELLTEMP of one cell of a node (R197): measurements in a row at or above the limit, and below the release, and whether it is active. -/
structure TempRun where
  node   : FAddr
  cell   : Nat
  hits   : Nat
  misses : Nat
  active : Bool
  deriving DecidableEq, Repr

/-- The fit of a string's impedance measurements, the job of an IMPEDANCE goal (R186, R201): its goal slot and string, whether a measurement is under
way, its t0, the string's shunt node and that node's copy of 0x1400 to 0x143F (R203), the frames that came, the segments that count as missing (node,
entry, segment), the nodes that were not in Run or were lost at any time of it, RERUN, and CELLTEMP. -/
structure FitJob where
  slot    : Fin 32
  string  : Nat
  live    : Bool
  t0      : DWord
  shunt   : Option FAddr
  plan    : List Word
  frames  : List SegIn
  missing : List (FAddr × Nat × Nat)
  left    : List FAddr
  rerun   : Bool
  temps   : List TempRun
  deriving DecidableEq, Repr

/-- A checkpoint (R319): its bytes, which the firmware lays out, and what they carry: of a STATE job the charge counted and the rows, of an IMPF job
its measurement. -/
structure JobBody where
  bytes  : List Byte
  charge : Int
  soc    : List SocRow
  fit    : Option FitJob
  deriving DecidableEq, Repr

/-- What one interval brings a STATE job of one node (R327): per cell its voltage in mV at the end of a rest of R216, if one ended. -/
structure RestIn where
  node  : FAddr
  cells : List (Option Nat)
  deriving DecidableEq, Repr

/-- A string's block of a site digest (R328): its number, nodes present, lowest and highest cell in mV, mean SoC and lowest SoH in 0.5 %, highest cell
temperature in 0.1 °C, last rest spread in 0.1 mV, and the five flags in the order of their bits. -/
structure DigestString where
  string  : BitVec 6
  present : Nat
  low     : Nat
  high    : Nat
  soc     : Option Nat
  soh     : Option Nat
  temp    : Int
  spread  : Nat
  flags   : BitVec 5
  deriving DecidableEq, Repr

/-- What the site saw of one event in a digest's period (R328): its number, how often, minutes from the period's start to the first, the address of
the first source, and DATA bits 15 to 0 of the last. -/
structure DigestEvent where
  num    : BitVec 7
  count  : Nat
  minute : Nat
  src    : FAddr
  data   : Half
  deriving DecidableEq, Repr

/-- What the digest host gathers over a period (R328): resets, link frames lost, incomplete snapshots, the strings and the events. -/
structure DigestIn where
  resets  : Nat
  lost    : Nat
  partial_ : Nat
  strings : List DigestString
  events  : List DigestEvent
  deriving DecidableEq, Repr

/-- The contents of a JOB frame (R264, R319): a checkpoint for a holder, a checkpoint that moves a job, a record copy,
the end of an impedance measurement, which releases its nodes, a moved or restarted fit that asks for the phasors again (R201), and a hand-over
without a checkpoint, after which the job restarts (R320). -/
inductive JobMsg where
  | checkpoint (key : JobKey) (host : FAddr) (seq : Word) (crcOk : Bool) (body : JobBody)
  | move       (key : JobKey) (host : FAddr) (seq : Word) (crcOk : Bool) (guard : Bool) (body : JobBody)
  | copy       (r : Rec)
  | release    (t0 : DWord)
  | resend     (t0 : DWord) (host : FAddr)
  | restart    (key : JobKey) (host : FAddr)
  deriving DecidableEq, Repr

/-- One goal of the goal table (R309): KIND, STRING and the two arguments. -/
structure Goal where
  kind   : BitVec 4
  string : BitVec 6
  arg1   : Word
  arg2   : Word
  /-- The node a REDUCE goal was set on: its sweep is the goal's scope. -/
  node   : FAddr
  deriving DecidableEq, Repr

/-- What a shunt node's report says of rest (R215, R216): its copies of the plan period in s and the rest time in s, and the reference ticks for
which its current has stayed within `bal.rest.i`, none where it lies outside. -/
structure BalRest where
  period : Nat
  time   : Nat
  quiet  : Option Nat
  deriving DecidableEq, Repr

/-- A node's report to the blocking plan (R215). Per cell: the latest output of a BLANK entry in 0.1 mV with its age in reference ticks, the
latest compensated output of a sweep without BLANK in 0.1 mV with the bound of R225, and the state of charge in 0.1 % that the state-of-charge
job gives. Then the headroom in mW, eligible switches and shuttles, switches stuck closed, the node's shuttle current in mA, and from the
shunt node what the plan takes of it. -/
structure BalReport where
  node     : FAddr
  blank    : List (Option (Int × Nat))
  sweep    : List (Option (Int × Int))
  soc      : List (Option Int)
  headroom : Nat
  sw       : BitVec 24
  sht      : BitVec 23
  stuck    : BitVec 24
  imax     : Nat
  rest     : Option BalRest
  deriving DecidableEq, Repr

/-- One item of an assignment (R216): a bleed of a cell, or a shuttle with its signed current in mA. -/
inductive BalItem where
  | bleed   (cell : Fin 24)
  | shuttle (j : Fin 23) (ma : Int)
  deriving DecidableEq, Repr

end Sys2Proof
end

