-- ==== Sys2Proof/Syntax.lean ====
section
/-! DEFINITION. The commands of the MY2440 node: one constructor per row of the command table.
An operand is what the row's occasion brings from outside the node: a reading, a frame, a written value, or whose request runs. -/
namespace Sys2Proof

/-- The commands, one per row of the table of operations and events. -/
inductive Instr where
  /-- POWER_ON (R44): VSTK rises through the start threshold, so the node leaves Off and begins start-up. -/
  | powerOn (islandKept : Bool)
  /-- START_UP (R58): The node runs the start-up sequence: rails, trim, full Chisel round, image check, straps and seals, link training and discovery. -/
  | startUp (i : StartUpIn)
  /-- READY (R58): Discovery has completed, so the node enters Run or Guard, applies the saved configuration, places held events and starts the sequencer. -/
  | ready (micros : Nat) (mram : List (Nat × Check))
  /-- BROWN_OUT (R53): VSTK stays below the brown-out threshold for 10 µs, so the outputs go off, the page write under way completes and the node goes to Off. -/
  | brownOut
  /-- NRST_ACCEPTED (R55): The filter accepts a low level on nRST, so the node holds reset after completing any page write under way. -/
  | nrstAccepted
  /-- NRST_RELEASE (R55): nRST rises after an accepted reset and start-up begins. -/
  | nrstRelease (testHigh : Bool)
  /-- STUCKRESET (R57): nRST has stayed low for 262,144 slow ticks, so the node declares the pin stuck and starts up. -/
  | stuckreset (testHigh : Bool)
  /-- NRST_REARM (R57): nRST has been high for 100 ms after being declared stuck, so the pin is obeyed again and the outputs may turn on. -/
  | nrstRearm
  /-- REFFAIL (R11): The crystal stops for 2 µs and the reference switches to the fabric-locked or free-running oscillator. -/
  | reffail
  /-- REFLOCK (R10): The fabric-locked oscillator gains or loses lock. -/
  | reflock (gained : Bool)
  /-- HOUSEKEEPING_ROUND (R151): Every 20 ms the node converts the die sensors, REFCHK, the rails and STACK and applies their monitors. -/
  | housekeepingRound (r : RoundIn)
  /-- GUARD_ENTRY_AFTER_STOP (R338): Job moves end, 60 ms pass, or the Doff comes, so the node enters Guard with GCAUSE 1. -/
  | guardEntryAfterStop
  /-- THERMAL_HW_CUT (R341): Two cut comparators stay above their level for 100 µs, so all drives go off and the node holds itself in reset. -/
  | thermalHwCut (tripped : BitVec 6)
  /-- THERMAL_CUT_RELEASE (R342): Every cut comparator has been released for 1 s, so the node starts up and reports THWCUT. -/
  | thermalCutRelease (seconds : Nat)
  /-- STATE_REQ_RUN (R48): A host write requests Run from Watch. -/
  | stateReqRun (src : Src)
  /-- STATE_REQ_WATCH (R48): A host write requests Watch, which is entered at the next sequencer boundary. -/
  | stateReqWatch (src : Src)
  /-- STATE_REQ_HATBOX (R49): A host write requests Hatbox, which is refused while an output is on and otherwise starts the entry procedure. -/
  | stateReqHatbox (src : Src)
  /-- HATBOX_ENTRY_COMPLETE (R49): Jobs are handed over, the page write is done and sleep notices are sent, so the node stops its timers and sleeps. -/
  | hatboxEntryComplete
  /-- NWAKE (R50): nWAKE is low for 50 µs in Hatbox, which is a wake source. -/
  | nwake
  /-- LINK_ACTIVITY_WAKE (R50): The squelch detector sees signal on an enabled port for 1 µs in Hatbox. -/
  | linkActivityWake (port : Fin 4)
  /-- HATBOX_ALARM (R50): The wake timer expires after sys.hatbox.alarm slow ticks. -/
  | hatboxAlarm
  /-- SAFETY_COMPARATOR_WAKE (R50): A cell stays outside its seal limits for 500 µs in Hatbox. -/
  | safetyComparatorWake
  /-- HATBOX_WAKE (R50): The crystal, rails and links are back, so the node returns to Run and catches its timers up. -/
  | hatboxWake (slept : Nat)
  /-- SPI_FRAME (R64): nCS rises after an SPI frame, which is checked for length and CRC and then executed. -/
  | spiFrame (cycles : Nat) (bits : BitVec 56)
  /-- CAN_FD_REQUEST (R69): A CAN FD request frame is received, its records are executed as one group and a response is queued. -/
  | canFdRequest (ident : BitVec 11) (bytes : List Byte)
  /-- UART_FRAME (R70): A UART frame closes with 0x7E and is unescaped, checked and executed. -/
  | uartFrame (bytes : List Byte)
  /-- UART_FRAME_TIMEOUT (R70): No closing 0x7E arrives within 1 ms, so the frame is discarded. -/
  | uartFrameTimeout
  /-- HOSTERR (R448): A 1 s interval in which a host port discarded a frame ends. -/
  | hosterr
  /-- HOST_PORT_RECONFIG (R92): 10 ms after the response, a new port enable, CAN or UART setting takes effect. -/
  | hostPortReconfig
  /-- REGISTER_WRITE (R72): A write to a direct register that has no row of its own. -/
  | registerWrite (port : HostPort) (addr : Byte) (value : Word)
  /-- READ_CLEAR (R67): A read of an RC field or of PORT_STAT returns the value and clears it. -/
  | readClear (port : HostPort) (addr : Byte)
  /-- STREAM_WIN_READ (R140): A read of STREAM_WIN returns the next word and moves the tail in MODE 0, or OFFSET in MODE 1. -/
  | streamWinRead (port : HostPort) (chk : Check)
  /-- EVT_TAIL_WRITE (R85): The host consumes ring entries by writing EVT_TAIL, which is checked and may admit a RINGOVF. -/
  | evtTailWrite (port : HostPort) (value : Word)
  /-- DOORBELL_GO (R74): Writing GO starts the command in MBX_CMD, or is refused while BUSY or DONE is 1. -/
  | doorbellGo (port : HostPort)
  /-- DOORBELL_ABORT (R78): Writing ABORT ends a running remote command or CFG_SAVE, where that is allowed. -/
  | doorbellAbort (port : HostPort)
  /-- NOP (R79): A command that does nothing. -/
  | nop (src : Src)
  /-- IDENTIFY (R79): Returns the identity, the address and the state. -/
  | identify (src : Src)
  /-- SYS_RESET (R79): Resets the node within 1 ms with SOFT set. -/
  | sysReset (src : Src)
  /-- PARAM_GET (R82): Reads 1 to 8 consecutive parameters at one instant. -/
  | paramGet (src : Src) (chk : Check)
  /-- PARAM_SET (R81): Checks a masked write to one parameter and applies it as a read-modify-write. -/
  | paramSet (src : Src)
  /-- PARAM_STAGE (R83): Checks a write and adds it to the staging set. -/
  | paramStage (src : Src)
  /-- PARAM_APPLY (R83): Applies every staged entry as one change, now or at the next sequencer boundary. -/
  | paramApply (src : Src)
  /-- PARAM_DISCARD (R83): Empties the staging set. -/
  | paramDiscard (src : Src)
  /-- CFG_SAVE (R84): Writes the saved parameters and the active sequencer bank into the older configuration bank. -/
  | cfgSave (src : Src)
  /-- CFG_DEFAULTS (R79): Sets all saved parameters to their reset values without saving them. -/
  | cfgDefaults (src : Src)
  /-- NV_PAGE_WRITE_DONE (R418): An MRAM page write and its verify complete, with a repeat or NVWRFAIL on failure. -/
  | nvPageWriteDone (chk : Check)
  /-- REMOTE_REQUEST (R451): A REQUEST frame reaches the target and is queued and executed, or answered BUSY. -/
  | remoteRequest (sender : FAddr) (fid : Half) (bytes : List Byte)
  /-- REMOTE_RESPONSE (R451): A RESPONSE frame reaches the sender and completes the waiting command, or is discarded. -/
  | remoteResponse (sender : FAddr) (bytes : List Byte)
  /-- REMOTE_TIMEOUT (R75): host.mbx.timeout passes without a reply and the command completes with TIMEOUT. -/
  | remoteTimeout
  /-- EVENT_FRAME (R90): A forwarded EVENT frame is placed with FWD set in the ring of a host-attached node. -/
  | eventFrame (w0 w1 w2 w3 : Word)
  /-- FW_BEGIN (R94): Starts an update: the target slot is marked invalid and NEXT is set to 0. -/
  | fwBegin (src : Src)
  /-- FW_DATA (R94): Writes 12 image bytes at NEXT. -/
  | fwData (src : Src)
  /-- FW_END (R94): Verifies the staged image and raises FWSTAGED or FWFAIL. -/
  | fwEnd (src : Src) (sign : Bool) (chk : Check)
  /-- FW_ACTIVATE (R95): Sets PREF to the staged slot and resets, and is refused while an output is on. -/
  | fwActivate (src : Src)
  /-- FW_COMMIT (R94): Raises the rollback counter to the running SECVER. -/
  | fwCommit (src : Src)
  /-- FW_ABORT (R94): Abandons the update and leaves the target slot invalid. -/
  | fwAbort (src : Src)
  /-- SEQ_PASS_START (R147): A pass of the sequence table starts, opening the aperture and placing conversions, and pending boundary changes are taken. -/
  | seqPassStart
  /-- SEQ_TRIGGER (R148): A timer event releases a WAITTRIG entry, whose lead-in or first pass then starts. -/
  | seqTrigger
  /-- TRIGMISS (R148): No trigger arrives within seq.trig.tmo and the entry is skipped. -/
  | trigmiss
  /-- BLANKED_SPAN_END (R219): The last aperture of a BLANK entry closes and switches and shuttles are restored. -/
  | blankedSpanEnd
  /-- SEQ_LOAD (R154): Writing LOAD starts the check of the pending bank. -/
  | seqLoad (src : Src)
  /-- TABLE_CHECK_DONE (R154): The bank check finishes, and the bank is refused with SEQERR or awaits its swap. -/
  | tableCheckDone
  /-- SEQ_RUN_WRITE (R157): Writing RUN stops or starts the sequencer at the next boundary. -/
  | seqRunWrite (src : Src)
  /-- CONVERSION_RESULT (R116): A lane hands on a result 7 lane clocks after its start, and it is corrected, tagged and filtered. -/
  | conversionResult (lane : Fin 5) (code : BitVec 16)
  /-- STREAM_BURST_WRITE (R137): A DMA engine gets its bank and writes a burst piece into a stream buffer. -/
  | streamBurstWrite (stream : Fin 8)
  /-- STREAM_ENABLE (R136): Setting EN checks placement and overlap and resets HEAD and TAIL. -/
  | streamEnable (src : Src)
  /-- STREAM_TAIL_WRITE (R140): A write to conv.sN.tail consumes words or is refused. -/
  | streamTailWrite (src : Src)
  /-- HOST_INJECTION_REQUEST (R130): A write to conv.inj.host queues one injected conversion or is refused when the queue is full. -/
  | hostInjectionRequest (src : Src)
  /-- INJECTION_START (R131): An injected conversion takes a lane at the first admissible edge, aborting a non-sweep conversion if needed. -/
  | injectionStart (edge : Nat)
  /-- WINTRACK_TIMEOUT (R129): No valid INVSYNC capture arrives within 4 × P and window tracking is lost. -/
  | wintrackTimeout
  /-- PATINA_ROTATION_MARK (R165): Every 1.024 ms a rotation mark advances conv.rot at the next sweep aperture. -/
  | patinaRotationMark
  /-- PATINA_UPDATE (R168): At the end of each update period Patina replaces the lane coefficients and may raise PATINACONV. -/
  | patinaUpdate (gains : List Word)
  /-- PATINA_SET (R173): Command to measure cell channel offsets with the shorting switches. -/
  | patinaSet (src : Src)
  /-- PATINA_SET_START (R174): At the sequencer boundary, with injections drained, the calibration table replaces the active table. -/
  | patinaSetStart
  /-- PATINA_SET_GROUP (R174): One group of shorting switches is closed, its samples averaged and the switches opened. -/
  | patinaSetGroup
  /-- PATINA_SET_APPLY (R174): After the last group the new offsets apply, the active table restarts and PATSETDONE is raised. -/
  | patinaSetApply
  /-- CAL_COMMIT (R179): Writes the working calibration set into the bank not in force. -/
  | calCommit (src : Src)
  /-- CAL_RELOAD (R181): Reloads the bank in force into the working set. -/
  | calReload (src : Src) (chk : Check)
  /-- PAT_HOLD_RELEASE (R177): Writing HOLD to 0 applies the shadow writes together at the next sweep boundary. -/
  | patHoldRelease (src : Src)
  /-- IMP_MEASUREMENT_START (R201): The fitting node starts a measurement under the goal interval and announces t0. -/
  | impMeasurementStart (slot : Fin 32) (plan : List Word)
  /-- IMP_ANNOUNCE_RECEIVED (R201): A node receives t0, claims its timers and holds the blocking plan. -/
  | impAnnounceReceived (t0 : DWord) (fit : FAddr) (plan : List Word)
  /-- IMP_PASS_START (R194): A pass of the impedance plan starts at a segment boundary or at t0. -/
  | impPassStart
  /-- IMP_SEGMENT_END (R188): A segment ends and each node forms its phasors and sends them to the fitting node. -/
  | impSegmentEnd (entry : Fin 16)
  /-- IMP_PHASOR_RECEIVED (R201): The fitting node receives a node's phasors for a segment. -/
  | impPhasorReceived (p : SegIn)
  /-- IMP_PHASOR_TIMEOUT (R201): A segment's phasors are missing 100 ms after the segment ends. -/
  | impPhasorTimeout (node : FAddr)
  /-- IMP_FIT_DONE (R201): The fit computes Z, U and temperatures, writes records and raises IMPDONE. -/
  | impFitDone
  /-- BAL_PLAN_EVALUATE (R216): At a plan period boundary the plan evaluates reports and sends assignments. -/
  | balPlanEvaluate (slot : Fin 32) (reports : List BalReport)
  /-- BAL_REPORT (R215): A node sends its plan report at the plan period boundary. -/
  | balReport (plan : FAddr)
  /-- BAL_ASSIGNMENT_RECEIVED (R217): A node receives its assignment from the plan. -/
  | balAssignmentReceived (items : List BalItem)
  /-- BAL_ASSIGNMENT_APPLY (R217): At the first sequencer boundary outside a blanked span the node applies its assignment. -/
  | balAssignmentApply
  /-- BAL_LEASE_LAPSE (R217): An assignment not renewed within 3 plan periods lapses and balancing stops. -/
  | balLeaseLapse
  /-- BAL_OVERCURRENT_TRIP (R205): A switch's over-current comparator trips and the switch opens. -/
  | balOvercurrentTrip (cell : Fin 24)
  /-- BAL_RECLOSE (R205): 1 ms after a trip the switch closes again once. -/
  | balReclose (cell : Fin 24)
  /-- SHUTTLE_FRAME_SEND (R208): A shuttle driver sends a RUN or IDLE frame at a command change or every 50 µs. -/
  | shuttleFrameSend (j : Fin 23) (sense : BitVec 2)
  /-- PROBENOW (R229): Writing PROBENOW requests a probe of every switch. -/
  | probenow (src : Src)
  /-- PROBE_START (R229): A line-resistance probe of a switch starts when the table and budget allow. -/
  | probeStart (cell : Fin 24)
  /-- PROBE_CYCLE_END (R227): An off or on half of a probe cycle ends and, after four cycles, the coefficients are computed. -/
  | probeCycleEnd (off on : List Int)
  /-- TIMER_WRAP (R235): A timer count passes TOP and wraps to 0, applying WRAPACT and preload. -/
  | timerWrap (u : Fin 8)
  /-- TIMER_MATCH (R240): A compare channel matches and applies MATCHACT and its event. -/
  | timerMatch (u : Fin 8) (c : Fin 4)
  /-- TIMER_CAPTURE (R243): A filtered pin edge captures the count into a capture channel. -/
  | timerCapture (u : Fin 8) (c : Fin 4)
  /-- TIMER_START_STOP (R236): A write to tmr.start starts or stops the named units at one tick. -/
  | timerStartStop (src : Src)
  /-- TIMER_AT_START (R236): Fabric time reaches tmr.at time and the named units start. -/
  | timerAtStart
  /-- TIMER_COUNT_WRITE (R237): A write to a count is loaded at the next counter tick. -/
  | timerCountWrite (src : Src)
  /-- LINK_CONTROL_RECEIVED (R258): A link control set arrives and is removed from the stream and acted on. -/
  | linkControlReceived (port : Fin 4) (code arg1 arg2 : Byte)
  /-- LINK_TRAIN_BLOCK (R260): A whole training block is received, which may set HEARD and bring the port up. -/
  | linkTrainBlock (port : Fin 4) (block : List Byte)
  /-- LINK_DOWN (R261): No code group, no KEEPALIVE, too many errors or lost frames take the port down. -/
  | linkDown (port : Fin 4) (cause : Fin 4)
  /-- LINK_RETRAIN_DELAY (R261): 1 s after an ERRDOWN link loss the port trains again. -/
  | linkRetrainDelay (port : Fin 4)
  /-- KEEPALIVE_SEND (R258): An up port sends KEEPALIVE at least every 10 µs. -/
  | keepaliveSend (port : Fin 4)
  /-- FRAME_RECEIVE (R262): A frame ends with EOF and is checked, acknowledged, forwarded or delivered. -/
  | frameReceive (port : Fin 4) (bytes : List Byte) (aborted : Bool)
  /-- LINK_ACK_TIMEOUT (R266): No ACK arrives within 6 µs and the frame is retransmitted or dropped. -/
  | linkAckTimeout (port : Fin 4) (lseq : Byte) (chk : Check)
  /-- DISCOVER (R275): Command to run discovery over the whole fabric. -/
  | discover (src : Src)
  /-- TOPO_FRAME (R273): A TOPO frame updates the Armature, routes, addresses and the time tree. -/
  | topoFrame (port : Fin 4) (m : TopoMsg)
  /-- DISCDONE (R269): Every Armature CRC agrees, so addresses and routes take force and the time-keeper and Maquette are recomputed. -/
  | discdone
  /-- STRING_ASSIGN (R275): Gives a string a permanent number and saves it. -/
  | stringAssign (src : Src) (outputOn : Bool)
  /-- FAB_WAKE (R276): A write to fab.wake sends a WAKE frame towards a sleeping node. -/
  | fabWake (src : Src)
  /-- WAKE_FRAME (R276): The neighbour receives a WAKE frame and sends Idle for 20 µs towards the sleeping node. -/
  | wakeFrame (target : FAddr)
  /-- TIME_SYNC_SEND (R280): Every 1 ms a parent sends SYNC to each child. -/
  | timeSyncSend
  /-- TIME_FRAME (R280): A TIME frame is stamped and the child computes delay and offset and steers, steps or slews. -/
  | timeFrame (port : Fin 4) (m : TimeMsg) (stamp : Int)
  /-- SWEEP_START (R287): Starts a fabric sweep collected on this node and announces it. -/
  | sweepStart (src : Src)
  /-- SWEEP_STOP (R289): SWEEP_START with STOP ends the running sweep. -/
  | sweepStop (src : Src)
  /-- SWEEP_ANNOUNCE (R288): A node receives a sweep announcement and aligns its table to the grid. -/
  | sweepAnnounce (bytes : List Byte)
  /-- SNAPSHOT_TIME (R292): Fabric time reaches Ts and a participating node builds its record. -/
  | snapshotTime
  /-- SWEEP_RECORD_SEND (R297): At its slot time a node sends its record to the collector. -/
  | sweepRecordSend
  /-- SWEEP_RECORD_RECEIVE (R293): The collector receives a record and stores it, writes it LATE, or closes the snapshot when complete. -/
  | sweepRecordReceive (bytes : List Byte) (rerouted : Bool) (port : Fin 4) (chk : Check)
  /-- SNAPSHOT_CLOSE_TIMEOUT (R299): Ts plus period arrives and an incomplete snapshot is closed with SWEEPPART. -/
  | snapshotCloseTimeout
  /-- SWEEP_ISOLATED (R302): A node has no route to the collector for 1 ms and starts holding records. -/
  | sweepIsolated
  /-- SWEEP_HOLD_EXPIRY (R302): fab.sweep.hold passes while isolated and snapshots stop. -/
  | sweepHoldExpiry
  /-- HELD_RECORD_SEND (R303): A reconnected node delivers one held record per 100 µs and raises HELDDELIV when empty. -/
  | heldRecordSend
  /-- SNAPSHOT_TRIGGER (R304): A trigger event or MANUAL starts the post-trigger fill of a capture slot. -/
  | snapshotTrigger (event : BitVec 7)
  /-- SNAPSHOT_FROZEN (R304): The post-trigger sweeps are written and the slot freezes with SNAPSHOT. -/
  | snapshotFrozen
  /-- FABRIC_TRIGGER_RECEIVED (R305): A fabric trigger frame makes a node freeze a capture around the trigger time. -/
  | fabricTriggerReceived (sender : FAddr) (event : BitVec 7) (time : DWord)
  /-- SNAP_FREE (R304): Writing FREE releases a capture slot. -/
  | snapFree (src : Src)
  /-- GOAL_SET (R309): States a goal, forwarded to the anchor, which updates and floods the goal table. -/
  | goalSet (src : Src)
  /-- GOAL_CLEAR (R311): Clears one or all goal slots and stops their jobs. -/
  | goalClear (src : Src)
  /-- GOAL_TABLE_FRAME (R308): A node receives the flooded goal table and saves it. -/
  | goalTableFrame (sender : FAddr) (seq : Word) (slots : List (Option Goal))
  /-- CHECKPOINT (R319): A floating job writes a checkpoint every plc.ckpt and sends it to its holders. -/
  | checkpoint (key : JobKey) (body : List Byte)
  /-- JOB_FRAME (R319): A JOB frame carrying a checkpoint, record copy or job traffic is received and stored. -/
  | jobFrame (m : JobMsg)
  /-- JOB_MOVE_ACK (R320): The new host acknowledges a moved job and the old host drops it with JOBMOVE. -/
  | jobMoveAck (key : JobKey) (host : FAddr)
  /-- JOB_MOVE_TIMEOUT (R322): The new host has not acknowledged after 50 ms and the old host resumes the job. -/
  | jobMoveTimeout (key : JobKey)
  /-- RECORD_COPY (R318): Holders copy records onto a changed holder list and clear REPLICALOW. -/
  | recordCopy (owner : FAddr)
  /-- RECORD_READ (R326): Reads 24 bytes of a record from its nearest holder. -/
  | recordRead (src : Src) (chk : Check)
  /-- DIGEST_CLOSE (R328): At offset plus k periods the digest host writes the DIGEST record. -/
  | digestClose (slot : Fin 32) (d : DigestIn)
  /-- DIGEST_READ (R329): Reads 24 bytes of a digest record. -/
  | digestRead (src : Src) (chk : Check)
  /-- SAFETY_TICK (R351): Each 1 ms the safety monitor averages samples, evaluates the functions, the inputs and the ramp. -/
  | safetyTick
  /-- SAFE_ACK (R355): Sets PERMIT and clears LATCH when no refusing condition holds. -/
  | safeAck (src : Src)
  /-- SAFE_STOP (R356): Starts Ramp and Doff or an immediate Doff on a contactor node. -/
  | safeStop (src : Src)
  /-- FEEDBACK_CHANGE (R365): A new level is accepted on FBH or FBL and the closing sequence or readback proceeds. -/
  | feedbackChange (low : Bool) (level : Bool)
  /-- CLOSE_SEQUENCE (R367): With all conditions met the node drives SAFEL then SAFEH high against their feedback. -/
  | closeSequence
  /-- FEEDBACK_TIMEOUT (R368): Feedback disagrees with its output for sf.fb.time, a first or lasting failure. -/
  | feedbackTimeout (low : Bool)
  /-- CLOSE_SEQUENCE_RETRY (R367): 100 ms after a first failure the closing sequence runs again. -/
  | closeSequenceRetry
  /-- OFFTEST_PULSE_END (R369): The pulse ends and the result is judged, with a repeat or OFFTEST on failure. -/
  | offtestPulseEnd (delay : Option Nat)
  /-- OFFTEST_RETRY (R369): 10 ms after a failed off-test the output is tested again. -/
  | offtestRetry
  /-- TP_PULSE (R371): At each period boundary TPA, and at half period TPB, pulses low. -/
  | tpPulse (b : Bool)
  /-- TP_PULSE_END (R373): The test pulse and its blanking end and the short checks are applied. -/
  | tpPulseEnd (b : Bool) (ownLow otherLow otherAround : Bool)
  /-- INPUT_CHANGE (R372): A new level is accepted on INA or INB. -/
  | inputChange (b : Bool) (level : Bool)
  /-- TWIN_FRAME_SEND (R379): A node sends a twin frame pair every PERIOD or within 50 µs of a trip or demand change. -/
  | twinFrameSend
  /-- TWIN_FRAME_RECEIVE (R382): A contactor node checks a twin frame copy and acts on its demand. -/
  | twinFrameReceive (port : Fin 4) (bytes : List Byte)
  /-- TWIN_COPY_TIMEOUT (R383): The second copy of a pair does not arrive within 2 ms. -/
  | twinCopyTimeout (sender : FAddr)
  /-- SAFEWDOG (R384): A direction from an expected sender is silent for WDOG, making an immediate demand. -/
  | safewdog (sender : FAddr) (down : Bool)
  /-- CHISEL_SLICE_START (R390): A Chisel slice attempt starts at its place in the round. -/
  | chiselSliceStart
  /-- CHISEL_SLICE_END (R394): A slice attempt ends and is judged PASS, FAIL or INCOMPLETE, with repeat and reaction. -/
  | chiselSliceEnd (r : SliceIn)
  /-- LANE_REPAIR (R401): At the next sweep boundary L4 replaces a failed lane and Patina re-arms. -/
  | laneRepair
  /-- MEMORY_REPAIR_DONE (R402): A failed row block or group is copied to a spare and the address range switches. -/
  | memoryRepairDone
  /-- CHISEL_STATUS (R409): Returns the Chisel results at the last slice boundary. -/
  | chiselStatus (src : Src)
  /-- SCAN_UNLOCK_FRAME (R406): With TEST high at reset an SPI unlock frame is checked and may enter scan. -/
  | scanUnlockFrame (cycles : Nat) (bits : BitVec 56)
  /-- SCAN_UNLOCK_TIMEOUT (R406): The 10 ms unlock window ends and start-up runs with TEST ignored. -/
  | scanUnlockTimeout
  /-- EDRAM_REFRESH (R413): The refresh controller refreshes the next row group at its pacing interval. -/
  | edramRefresh
  /-- EDRAM_REFRESH_LATE (R416): A row group not refreshed within 1.5 intervals makes every eDRAM region lost. -/
  | edramRefreshLate (groups : Nat)
  /-- KEY_CHECK (R427): Within 1 s after Ready the node checks its key records and key pair. -/
  | keyCheck (chk : Check) (cause : Fin 3)
  /-- ATTEST (R428): Signs a statement with a nonce, or returns its parts, key and certificate. -/
  | attest (src : Src) (r s : BitVec 256)
  /-- OWNER_ACCEPT (R432): Accepts a newcomer at a position and floods the acceptance. -/
  | ownerAccept (src : Src)
  /-- LOG_READ (R423): Reads one event log entry. -/
  | logRead (src : Src) (chk : Check)
  /-- TIMER_GATE_PIN_CHANGE (R248): The synchronised level of a TMP pin named as GATESRC changes, and one tick later the target unit's gate opens or closes and counting starts or stops. -/
  | timerGatePinChange (pin : Fin 8) (level : Bool)
  /-- CHOP_PASS_BUDGET_TIMEOUT (R192): A chop pass that has waited 60 s for dissipation headroom is abandoned and its cells carry NOTMEAS. -/
  | chopPassBudgetTimeout
  /-- SWEEP_ANNOUNCE_REPEAT (R288): The collector sends the second and third copies of a sweep announcement, each 1 ms after the one before. -/
  | sweepAnnounceRepeat
  /-- JOB_RECORD_INTERVAL (R327): At the end of each goal interval, a STATE or SRED job writes its per-node records and sends their copies to the holders. -/
  | jobRecordInterval (slot : Fin 32) (charge : Int) (rests : List RestIn)
  /-- HATBOX_REFRESH_COMPARATOR_READ (R415): Every 20 ms in Hatbox the always-on island reads the refresh comparators and selects the 4 ms or 16 ms interval. -/
  | hatboxRefreshComparatorRead (tripped : BitVec 6)
  /-- INT_NOTICE_HOLDOFF_END (R71): The 100 µs spacing after the last interrupt notice ends, and a notice held back meanwhile is sent with the state at that moment. -/
  | intNoticeHoldoffEnd
  deriving DecidableEq, Repr

end Sys2Proof
end

