-- ==== Sys2Proof/Decode.lean ====
section
/-! DEFINITION. The command a word spells by the table's bits. Every row of the table has an empty list of fields, so no row has bits and no
word spells a command. -/
namespace Sys2Proof

/-- None: the table gives no row any bits. -/
def decodeTableWord (_nbits _w : Nat) : Option Instr := none

end Sys2Proof
end

