-- ==== Sys2Proof/Config.lean ====
section
/-! DEFINITION. What the spec leaves open: free values, as constants without a body. No proof can see a value of theirs,
so what is proved holds for every value. -/
namespace Sys2Proof

/-- Whether the quotient `n / d` goes to the integer above it, where the spec states a real result and no rounding, and the division
is not exact (R163, R188, R212, R223): free. -/
opaque Config.roundsUp : Int → Nat → Bool

/-- The raw code after recombination with stage gains that are not nominal (R163, step 1), in 1/256 LSB: the stage
decisions are inside the lane, so the value is free. -/
opaque Config.recombine : List Word → Int → Int

/-- The NTC temperature in 0.1 °C (R105) where the beta equation has no result: an input at or above V5, or a resistance whose reciprocal temperature
is not positive. Free. Arguments: AUX value, its gain bit, V5 value, r25, beta, rpull. -/
opaque Config.ntcTemp : Nat → Bool → Nat → Nat → Nat → Nat → Int

/-- The pseudo-random sequence of R164 over its 32,767 lane clocks: its polynomial is not stated. -/
opaque Config.ditherBit : Nat → Bool

/-- What the dither phases of two neighbouring lanes differ by, less one lane clock (R164): with it no two of the five phases are equal. -/
opaque Config.ditherStep : Fin 8191

/-- A new lane offset (index 0 to 4) or lane gain (5 to 9) of an update period (R165, R166), from the old value and what the comparisons gave: the
spec states what is compared and not how the result is split between offset and gain. -/
opaque Config.laneValue : Nat → Word → List (Int × Nat) → Word

/-- A filter output of order 2 whose window reaches back before the restart (R123, R126), where no samples exist: free. -/
opaque Config.partialOutput : Nat → Int

/-- Whether the standard deviation of n estimates in R196 divides by n − 1 or by n: the spec does not say. -/
opaque Config.sampleStd : Bool

/-- Z in nΩ (Re, Im) and U of a cell whose excitation current is zero in a kept segment, or whose Z is zero (R188, R196): the spec states no quotient.
Arguments: t0 of the measurement, and a number for node, entry and cell. -/
opaque Config.noExcitation : Nat → Nat → (Int × Int) × Half

/-- `tmr.slow.ratio` as measured before a Hatbox (R252), above its least value: the slow oscillator is uncalibrated to ±3 % (R57). Drawn by a counter
of the state. -/
opaque Config.slowRatio : Nat → Fin 4804325
/-- The time a hardware path takes and the spec only bounds, drawn by a counter of the state (R369, R394). -/
opaque Config.freeNat : Nat → Nat

/-- A word whose content the spec does not state, drawn by a counter of the state. -/
opaque Config.freeWord : Nat → Word

/-- The Rice-coded first differences with tags of one channel of a capture (R327): the code parameter is not stated. Arguments: the
sweeps' result words of the channel. -/
opaque Config.rice : List Word → List Byte

/-- Public key X and Y and certificate r and s of a node (R424), 32 bytes each, written at the factory: no value is stated. -/
opaque Config.factory : BitVec 64 → List (BitVec 8)

end Sys2Proof
end

