-- ==== Sys2Proof/Machine/ParamTable.lean ====
section
/-! DEFINITION. The parameter map: every row of the parameter tables of the spec (R22, R62, R92, R115, R144, R161, R185, R203,
R234, R256, R286, R307, R331, R345, R364, R388, R410, R434), with its fields, access codes, reset values, the range the
owning chapter gives each writable field, and whether CFG_SAVE saves it (R84). Bits no field names are reserved: they
read 0 and ignore writes (R4). -/
namespace Sys2Proof.Machine

/-- The access codes of the spec (00_scope, Conventions). -/
inductive Acc where
  | ro
  | rw
  | wo
  | w1c
  | rc
  deriving DecidableEq, Repr

/-- The range a writable field accepts (R81, step 3). -/
inductive Chk where
  | any
  | rng (lo hi : Nat)
  | srng (lo hi : Int)
  | zeroOr (lo hi : Nat)
  | pow2 (lo hi : Nat)
  deriving DecidableEq, Repr

/-- One field of a parameter word. -/
structure Field where
  lo    : Nat
  width : Nat
  acc   : Acc
  reset : Nat
  chk   : Chk
  saved : Bool
  deriving DecidableEq, Repr

/-- `count` parameters from ID `first` on, `stride` apart, that share one field map. -/
structure ParamRow where
  first  : Nat
  count  : Nat
  stride : Nat
  fields : List Field
  deriving DecidableEq, Repr

/-- A read-only field. -/
def ro (lo width reset : Nat) : Field := ⟨lo, width, .ro, reset, .any, false⟩
/-- A readable and writable field. -/
def rw (lo width reset : Nat) (chk : Chk) (saved : Bool) : Field := ⟨lo, width, .rw, reset, chk, saved⟩
/-- A write-only field: it reads 0. -/
def wo (lo width : Nat) (chk : Chk) : Field := ⟨lo, width, .wo, 0, chk, false⟩
/-- A field whose bits a written 1 clears. -/
def w1c (lo width : Nat) : Field := ⟨lo, width, .w1c, 0, .any, false⟩
/-- A field that a read returns and then clears. -/
def rc (lo width reset : Nat) : Field := ⟨lo, width, .rc, reset, .any, false⟩

/-- Rows of block 0x01. -/
def rows01 : List ParamRow := [
  ⟨0x0110, 1, 1, [ro 2 1 0, ro 0 2 2]⟩,
  ⟨0x0111, 1, 1, [ro 0 32 0]⟩,
  ⟨0x0112, 1, 1, [ro 0 16 0]⟩,
  ⟨0x0118, 1, 1, [ro 0 32 0]⟩,
  ⟨0x0119, 1, 1, [ro 0 32 0]⟩,
  ⟨0x011A, 1, 1, [ro 0 32 0]⟩,
  ⟨0x011B, 1, 1, [ro 0 32 0]⟩,
  ⟨0x011C, 1, 1, [ro 0 32 0]⟩,
  ⟨0x011D, 1, 1, [ro 0 32 0]⟩,
  ⟨0x011F, 1, 1, [rw 0 16 16 .any true]⟩,
  ⟨0x0100, 1, 1, [ro 4 4 0, ro 0 4 1]⟩,
  ⟨0x0101, 1, 1, [rw 0 2 0 (.rng 0 2) false]⟩,
  ⟨0x0102, 1, 1, [ro 5 1 0, ro 4 1 0, ro 3 1 0, ro 2 1 0, ro 1 1 0, ro 0 1 0]⟩,
  ⟨0x0103, 1, 1, [ro 0 16 0]⟩,
  ⟨0x0104, 1, 1, [ro 4 4 0, ro 3 1 0, ro 2 1 0, ro 1 1 0, ro 0 1 0]⟩,
  ⟨0x0105, 1, 1, [rw 4 4 15 .any true, ro 3 1 1, rw 2 1 1 .any true, rw 0 1 1 .any true]⟩,
  ⟨0x0106, 1, 1, [rw 0 32 0 .any true]⟩,
  ⟨0x0107, 1, 1, [ro 0 16 0]⟩,
  ⟨0x0108, 1, 1, [ro 9 1 0, ro 8 1 0, ro 0 2 0]⟩,
  ⟨0x0109, 1, 1, [ro 0 32 0]⟩]

/-- Rows of block 0x02. -/
def rows02 : List ParamRow := [
  ⟨0x0200, 1, 1, [rw 0 3 7 .any true]⟩,
  ⟨0x0201, 1, 1, [rw 0 11 768 (.rng 0 0x7FD) true]⟩,
  ⟨0x0202, 1, 1, [rw 4 4 1 (.rng 0 2) true, rw 0 4 2 (.rng 0 3) true]⟩,
  ⟨0x0203, 1, 1, [rw 0 2 0 (.rng 0 2) true]⟩,
  ⟨0x0204, 1, 1, [rw 0 16 100 (.rng 1 65535) true]⟩,
  ⟨0x0205, 1, 1, [ro 0 3 0]⟩,
  ⟨0x0208, 1, 1, [rw 1 31 0x7FF7FFFF .any true, ro 0 1 1]⟩,
  ⟨0x0209, 1, 1, [rw 0 32 0xFFBFFDFF .any true]⟩,
  ⟨0x020A, 1, 1, [rw 0 32 0xFFFFFFFF .any true]⟩,
  ⟨0x020B, 1, 1, [rw 0 32 0 .any true]⟩,
  ⟨0x020C, 1, 1, [rw 0 32 0 .any true]⟩,
  ⟨0x020D, 1, 1, [rw 0 32 0 .any true]⟩,
  ⟨0x020E, 1, 1, [rc 0 16 0]⟩,
  ⟨0x020F, 1, 1, [ro 20 3 0, ro 0 20 0]⟩]

/-- Rows of block 0x10. -/
def rows10 : List ParamRow := [
  ⟨0x1000, 1, 1, [rw 0 5 24 (.rng 1 24) true]⟩,
  ⟨0x1001, 1, 1, [rw 2 2 0 (.rng 0 2) true, rw 0 2 0 (.rng 0 2) true]⟩,
  ⟨0x1002, 1, 1, [rw 0 32 0 (.rng 0 100000000) true]⟩,
  ⟨0x1003, 1, 1, [rw 16 16 5000 (.rng 0 5500) true, rw 0 16 500 (.rng 0 5500) true]⟩,
  ⟨0x1004, 1, 1, [ro 0 25 0]⟩,
  ⟨0x1005, 1, 1, [rw 0 16 20 (.rng 5 200) true]⟩,
  ⟨0x1006, 1, 1, [ro 0 24 0]⟩,
  ⟨0x1007, 1, 1, [rw 0 32 0x2710 (.rng 100 1000000) true]⟩,
  ⟨0x1008, 1, 1, [rw 0 16 3435 (.rng 1000 10000) true]⟩,
  ⟨0x1009, 1, 1, [rw 0 32 0xDB88 (.rng 1000 1000000) true]⟩,
  ⟨0x1010, 16, 1, [rw 2 1 0 .any true, rw 0 2 0 (.rng 0 1) true]⟩,
  ⟨0x1020, 8, 1, [ro 16 16 0x8000, ro 0 16 0x8000]⟩]

/-- Rows of block 0x11. -/
def rows11 : List ParamRow := [
  ⟨0x1100, 1, 1, [ro 8 3 7, ro 0 5 31]⟩,
  ⟨0x1101, 1, 1, [ro 0 2 0]⟩,
  ⟨0x1102, 1, 1, [ro 0 32 0]⟩,
  ⟨0x1103, 1, 1, [ro 0 26 0]⟩,
  ⟨0x1104, 1, 1, [rw 0 8 0 .any true]⟩,
  ⟨0x1105, 1, 1, [rw 0 8 0 .any true]⟩,
  ⟨0x1106, 1, 1, [rw 11 2 0 .any true, rw 8 3 0 .any true, rw 0 8 1 (.rng 1 255) true]⟩,
  ⟨0x1107, 1, 1, [ro 0 32 0]⟩,
  ⟨0x1108, 1, 1, [rw 15 1 0 .any true, rw 12 3 0 .any true, rw 10 2 0 .any true, rw 7 3 0 .any true, rw 0 6 0 (.rng 0 57) true]⟩,
  ⟨0x1109, 1, 1, [wo 0 6 (.rng 0 57)]⟩,
  ⟨0x110A, 1, 1, [ro 0 32 0]⟩,
  ⟨0x110B, 1, 1, [ro 0 32 0]⟩,
  ⟨0x110C, 1, 1, [rc 0 16 0]⟩,
  ⟨0x1110, 1, 1, [rc 16 16 0, ro 4 1 0, rw 3 1 0 .any true, rw 2 1 0 .any true, rw 1 1 0 .any true, rw 0 1 0 .any true]⟩,
  ⟨0x1118, 1, 1, [rc 16 16 0, ro 4 1 0, rw 3 1 0 .any true, rw 2 1 0 .any true, rw 1 1 0 .any true, rw 0 1 0 .any true]⟩,
  ⟨0x1120, 1, 1, [rc 16 16 0, ro 4 1 0, rw 3 1 0 .any true, rw 2 1 0 .any true, rw 1 1 0 .any true, rw 0 1 0 .any true]⟩,
  ⟨0x1128, 1, 1, [rc 16 16 0, ro 4 1 0, rw 3 1 0 .any true, rw 2 1 0 .any true, rw 1 1 0 .any true, rw 0 1 0 .any true]⟩,
  ⟨0x1130, 1, 1, [rc 16 16 0, ro 4 1 0, rw 3 1 0 .any true, rw 2 1 0 .any true, rw 1 1 0 .any true, rw 0 1 0 .any true]⟩,
  ⟨0x1138, 1, 1, [rc 16 16 0, ro 4 1 0, rw 3 1 0 .any true, rw 2 1 0 .any true, rw 1 1 0 .any true, rw 0 1 0 .any true]⟩,
  ⟨0x1140, 1, 1, [rc 16 16 0, ro 4 1 0, rw 3 1 0 .any true, rw 2 1 0 .any true, rw 1 1 0 .any true, rw 0 1 0 .any true]⟩,
  ⟨0x1148, 1, 1, [rc 16 16 0, ro 4 1 0, rw 3 1 0 .any true, rw 2 1 0 .any true, rw 1 1 0 .any true, rw 0 1 0 .any true]⟩,
  ⟨0x1111, 1, 1, [rw 0 32 0x28000 .any true]⟩,
  ⟨0x1119, 1, 1, [rw 0 32 0x29000 .any true]⟩,
  ⟨0x1121, 1, 1, [rw 0 32 0x2A000 .any true]⟩,
  ⟨0x1129, 1, 1, [rw 0 32 0x2B000 .any true]⟩,
  ⟨0x1131, 1, 1, [rw 0 32 0x2C000 .any true]⟩,
  ⟨0x1139, 1, 1, [rw 0 32 0x2D000 .any true]⟩,
  ⟨0x1141, 1, 1, [rw 0 32 0x2E000 .any true]⟩,
  ⟨0x1149, 1, 1, [rw 0 32 0x2F000 .any true]⟩,
  ⟨0x1112, 1, 1, [rw 0 19 1024 (.pow2 64 262144) true]⟩
] ++ [
  ⟨0x111A, 1, 1, [rw 0 19 1024 (.pow2 64 262144) true]⟩,
  ⟨0x1122, 1, 1, [rw 0 19 1024 (.pow2 64 262144) true]⟩,
  ⟨0x112A, 1, 1, [rw 0 19 1024 (.pow2 64 262144) true]⟩,
  ⟨0x1132, 1, 1, [rw 0 19 1024 (.pow2 64 262144) true]⟩,
  ⟨0x113A, 1, 1, [rw 0 19 1024 (.pow2 64 262144) true]⟩,
  ⟨0x1142, 1, 1, [rw 0 19 1024 (.pow2 64 262144) true]⟩,
  ⟨0x114A, 1, 1, [rw 0 19 1024 (.pow2 64 262144) true]⟩,
  ⟨0x1113, 1, 1, [ro 0 32 0]⟩,
  ⟨0x111B, 1, 1, [ro 0 32 0]⟩,
  ⟨0x1123, 1, 1, [ro 0 32 0]⟩,
  ⟨0x112B, 1, 1, [ro 0 32 0]⟩,
  ⟨0x1133, 1, 1, [ro 0 32 0]⟩,
  ⟨0x113B, 1, 1, [ro 0 32 0]⟩,
  ⟨0x1143, 1, 1, [ro 0 32 0]⟩,
  ⟨0x114B, 1, 1, [ro 0 32 0]⟩,
  ⟨0x1114, 1, 1, [rw 0 32 0 .any false]⟩,
  ⟨0x111C, 1, 1, [rw 0 32 0 .any false]⟩,
  ⟨0x1124, 1, 1, [rw 0 32 0 .any false]⟩,
  ⟨0x112C, 1, 1, [rw 0 32 0 .any false]⟩,
  ⟨0x1134, 1, 1, [rw 0 32 0 .any false]⟩,
  ⟨0x113C, 1, 1, [rw 0 32 0 .any false]⟩,
  ⟨0x1144, 1, 1, [rw 0 32 0 .any false]⟩,
  ⟨0x114C, 1, 1, [rw 0 32 0 .any false]⟩,
  ⟨0x1115, 1, 1, [rw 0 19 512 (.rng 1 262144) true]⟩,
  ⟨0x111D, 1, 1, [rw 0 19 512 (.rng 1 262144) true]⟩,
  ⟨0x1125, 1, 1, [rw 0 19 512 (.rng 1 262144) true]⟩,
  ⟨0x112D, 1, 1, [rw 0 19 512 (.rng 1 262144) true]⟩,
  ⟨0x1135, 1, 1, [rw 0 19 512 (.rng 1 262144) true]⟩,
  ⟨0x113D, 1, 1, [rw 0 19 512 (.rng 1 262144) true]⟩,
  ⟨0x1145, 1, 1, [rw 0 19 512 (.rng 1 262144) true]⟩
] ++ [
  ⟨0x114D, 1, 1, [rw 0 19 512 (.rng 1 262144) true]⟩,
  ⟨0x1116, 1, 1, [rw 0 32 0x3FFFFFF .any true]⟩,
  ⟨0x111E, 1, 1, [rw 0 32 0 .any true]⟩,
  ⟨0x1126, 1, 1, [rw 0 32 0 .any true]⟩,
  ⟨0x112E, 1, 1, [rw 0 32 0 .any true]⟩,
  ⟨0x1136, 1, 1, [rw 0 32 0 .any true]⟩,
  ⟨0x113E, 1, 1, [rw 0 32 0 .any true]⟩,
  ⟨0x1146, 1, 1, [rw 0 32 0 .any true]⟩,
  ⟨0x114E, 1, 1, [rw 0 32 0 .any true]⟩,
  ⟨0x1117, 1, 1, [rw 0 26 0 .any true]⟩,
  ⟨0x111F, 1, 1, [rw 0 26 0 .any true]⟩,
  ⟨0x1127, 1, 1, [rw 0 26 0 .any true]⟩,
  ⟨0x112F, 1, 1, [rw 0 26 0 .any true]⟩,
  ⟨0x1137, 1, 1, [rw 0 26 0 .any true]⟩,
  ⟨0x113F, 1, 1, [rw 0 26 0 .any true]⟩,
  ⟨0x1147, 1, 1, [rw 0 26 0 .any true]⟩,
  ⟨0x114F, 1, 1, [rw 0 26 0 .any true]⟩,
  ⟨0x1150, 58, 1, [rw 17 1 0 .any true, rw 16 1 0 .any true, rw 0 16 0 .any true]⟩]

/-- Rows of block 0x12. -/
def rows12 : List ParamRow := [
  ⟨0x1200, 1, 1, [rw 2 1 0 .any true, rw 1 1 0 .any false, rw 0 1 1 .any true]⟩,
  ⟨0x1201, 1, 1, [ro 16 12 0, ro 12 2 0, ro 11 1 0, ro 0 6 0]⟩,
  ⟨0x1202, 1, 1, [ro 0 32 0]⟩,
  ⟨0x1203, 1, 1, [ro 0 14 0]⟩,
  ⟨0x1204, 4, 1, [rw 6 1 0 .any true, rw 4 2 0 .any true, rw 1 3 0 .any true, rw 0 1 0 .any true]⟩,
  ⟨0x1208, 1, 1, [rw 0 16 100 .any true]⟩,
  ⟨0x1210, 1, 1, [rw 6 1 0 .any false, rw 0 6 0 .any false]⟩,
  ⟨0x1211, 1, 1, [rw 0 32 0 .any false]⟩,
  ⟨0x1212, 1, 1, [rw 0 32 0 (.rng 0 0x03FFFFFF) false]⟩,
  ⟨0x1213, 1, 1, [rw 31 1 0 .any false, rw 30 1 0 .any false, rw 29 1 0 .any false, rw 28 1 0 .any false, rw 26 2 0 .any false, rw 0 12 0 .any false]⟩,
  ⟨0x1214, 1, 1, [rw 0 20 0 .any false]⟩,
  ⟨0x1218, 1, 1, [rw 0 16 0 .any true]⟩,
  ⟨0x1219, 1, 1, [rw 16 6 1 (.rng 1 63) true, rw 0 16 40 (.rng 40 65535) true]⟩]

/-- Rows of block 0x13. -/
def rows13 : List ParamRow := [
  ⟨0x1300, 1, 1, [rw 1 1 0 .any false, rw 0 1 1 .any true]⟩,
  ⟨0x1301, 1, 1, [ro 8 8 0, ro 3 1 0, ro 2 1 0, ro 1 1 0, ro 0 1 0]⟩,
  ⟨0x1302, 1, 1, [ro 0 32 0]⟩,
  ⟨0x1303, 1, 1, [ro 0 32 0]⟩,
  ⟨0x1304, 1, 1, [ro 0 32 0]⟩,
  ⟨0x1305, 1, 1, [ro 0 32 0]⟩,
  ⟨0x1306, 1, 1, [ro 4 1 0, ro 3 1 0, ro 0 2 0]⟩,
  ⟨0x1307, 1, 1, [rw 0 16 20 .any true]⟩,
  ⟨0x1308, 1, 1, [ro 0 16 0]⟩,
  ⟨0x1320, 55, 1, [rw 0 32 0x40000000 (.rng 0x30000000 0x50000000) false]⟩,
  ⟨0x1357, 5, 1, [rw 0 32 0 (.srng (-65536) 65536) false]⟩,
  ⟨0x135C, 5, 1, [rw 0 32 0x40000000 (.rng 0x3999999A 0x46666666) false]⟩,
  ⟨0x1361, 58, 2, [rw 0 32 0x40000000 (.rng 0x3999999A 0x46666666) false]⟩,
  ⟨0x1362, 58, 2, [rw 0 32 0 (.srng (-65536) 65536) false]⟩,
  ⟨0x13D5, 2, 2, [rw 0 32 0x40000000 (.rng 0x3999999A 0x46666666) false]⟩,
  ⟨0x13D6, 2, 2, [rw 0 32 0 (.srng (-65536) 65536) false]⟩,
  ⟨0x13D9, 2, 2, [rw 0 32 0x40000000 (.rng 0x3999999A 0x46666666) false]⟩,
  ⟨0x13DA, 2, 2, [rw 0 32 0 (.srng (-65536) 65536) false]⟩,
  ⟨0x13DD, 16, 1, [rw 0 32 0x40000000 (.rng 0x3999999A 0x46666666) false]⟩,
  ⟨0x13ED, 1, 1, [rw 0 32 0x7A120 (.rng 0 6553500) false]⟩,
  ⟨0x13EE, 1, 1, [rw 0 32 0x16E360 (.rng 0 6553500) false]⟩,
  ⟨0x13EF, 1, 1, [rw 0 32 0x2625A0 (.rng 0 6553500) false]⟩,
  ⟨0x13F0, 1, 1, [rw 0 32 0x44AA20 (.rng 0 6553500) false]⟩,
  ⟨0x13F1, 1, 1, [rw 0 32 0x40000000 (.rng 0x3E000000 0x42000000) false]⟩,
  ⟨0x13F2, 1, 1, [rw 0 32 0 (.srng (-100000) 100000) false]⟩,
  ⟨0x13F3, 1, 1, [rw 0 32 0 (.srng (-100000) 100000) false]⟩]

/-- Rows of block 0x14. -/
def rows14 : List ParamRow := [
  ⟨0x1400, 1, 1, [rw 2 1 0 .any true, rw 1 1 0 .any true, rw 0 1 1 .any true]⟩,
  ⟨0x1401, 1, 1, [ro 16 16 0, ro 4 4 0, ro 0 2 0]⟩,
  ⟨0x1402, 1, 1, [rw 3 3 7 .any true, rw 0 3 6 .any true]⟩,
  ⟨0x1403, 1, 1, [rw 0 16 200 (.rng 1 10000) true]⟩,
  ⟨0x1404, 1, 1, [rw 0 16 250 (.rng 10 500) true]⟩,
  ⟨0x1405, 1, 1, [rw 0 16 50 (.rng 0 1000) true]⟩,
  ⟨0x1406, 1, 1, [rw 0 16 0 .any true]⟩,
  ⟨0x1407, 1, 1, [rw 0 32 0 (.rng 0 1000000) true]⟩,
  ⟨0x1408, 1, 1, [rw 0 16 10 (.rng 0 1000) true]⟩,
  ⟨0x1409, 1, 1, [rw 0 4 0 .any true]⟩,
  ⟨0x140A, 1, 1, [rw 0 16 600 (.srng (-400) 1500) true]⟩,
  ⟨0x140B, 1, 1, [rw 0 5 0 (.rng 0 16) true]⟩,
  ⟨0x1410, 16, 2, [rw 31 1 0 .any true, rw 29 2 0 (.rng 0 2) true, rw 0 21 0 .any true]⟩,
  ⟨0x1411, 16, 2, [rw 16 8 8 (.rng 2 255) true, rw 0 16 1 (.rng 1 65535) true]⟩,
  ⟨0x1430, 16, 1, [rw 16 16 0 (.srng (-9000) 9000) true, rw 0 16 0 .any true]⟩,
  ⟨0x1440, 1, 1, [ro 0 32 0]⟩,
  ⟨0x1441, 1, 1, [ro 0 32 0]⟩]

/-- Rows of block 0x15. -/
def rows15 : List ParamRow := [
  ⟨0x1500, 1, 1, [wo 1 1 .any, rw 0 1 0 .any true]⟩,
  ⟨0x1501, 1, 1, [ro 4 1 0, ro 3 1 0, ro 2 1 0, ro 1 1 0, ro 0 1 0]⟩,
  ⟨0x1502, 1, 1, [ro 0 24 0]⟩,
  ⟨0x1503, 1, 1, [ro 0 23 0]⟩,
  ⟨0x1504, 1, 1, [rw 0 32 0 (.zeroOr 1000 1000000) true]⟩,
  ⟨0x1505, 1, 1, [rw 0 16 3000 (.rng 0 5000) true]⟩,
  ⟨0x1506, 1, 1, [rw 0 16 1050 (.srng (-400) 1050) true]⟩,
  ⟨0x1507, 1, 1, [ro 0 16 400]⟩,
  ⟨0x1508, 1, 1, [ro 0 16 0]⟩,
  ⟨0x1509, 1, 1, [rw 0 16 50 (.rng 5 500) true]⟩,
  ⟨0x150A, 1, 1, [rw 0 23 0 .any true]⟩,
  ⟨0x150B, 1, 1, [rw 0 16 1000 (.rng 10 2000) true]⟩,
  ⟨0x150C, 1, 1, [rw 0 16 20 (.rng 5 500) true]⟩,
  ⟨0x1510, 1, 1, [rw 0 16 10 (.rng 1 3600) true]⟩,
  ⟨0x1511, 1, 1, [rw 0 16 50 .any true]⟩,
  ⟨0x1512, 1, 1, [rw 0 16 60 (.rng 1 65535) true]⟩,
  ⟨0x1518, 1, 1, [rw 0 16 60 (.zeroOr 1 10080) true]⟩,
  ⟨0x1519, 1, 1, [rw 0 16 400 (.rng 16 4000) true]⟩,
  ⟨0x151A, 1, 1, [ro 0 16 0x8000]⟩,
  ⟨0x151B, 1, 1, [ro 0 24 0]⟩,
  ⟨0x151C, 1, 1, [rw 0 16 2500 (.rng 100 6500) true]⟩,
  ⟨0x151D, 1, 1, [w1c 0 24]⟩,
  ⟨0x151E, 1, 1, [w1c 0 23]⟩,
  ⟨0x1520, 24, 1, [ro 16 16 0, ro 0 16 0]⟩]

/-- Rows of block 0x16. -/
def rows16 : List ParamRow := [
  ⟨0x1600, 1, 1, [wo 8 8 .any, wo 0 8 .any]⟩,
  ⟨0x1601, 1, 1, [rw 0 8 0 .any false]⟩,
  ⟨0x1602, 1, 1, [rw 0 32 0 .any false]⟩,
  ⟨0x1603, 1, 1, [rw 0 32 0 .any false]⟩,
  ⟨0x1604, 1, 1, [ro 0 32 0x4C4B400]⟩,
  ⟨0x1605, 1, 1, [ro 0 32 0]⟩,
  ⟨0x1606, 1, 1, [ro 0 8 0]⟩,
  ⟨0x1610, 4, 32, [ro 7 1 0, rw 6 1 0 .any true, rw 4 2 0 (.rng 0 1) true, rw 0 2 0 (.rng 0 2) true]⟩,
  ⟨0x1620, 4, 32, [rw 7 1 0 .any true, rw 6 1 0 .any true, rw 4 2 0 (.rng 0 1) true, rw 0 2 0 (.rng 0 2) true]⟩,
  ⟨0x1611, 8, 16, [rw 0 16 0 .any true]⟩,
  ⟨0x1612, 8, 16, [rw 0 32 0xFFFFFFFF (.rng 1 0xFFFFFFFF) true]⟩,
  ⟨0x1613, 8, 16, [rw 0 32 0 .any false]⟩,
  ⟨0x1614, 8, 16, [ro 0 32 0]⟩,
  ⟨0x1615, 8, 16, [rw 16 7 127 .any true, rw 8 7 127 .any true, rw 0 7 127 .any true]⟩,
  ⟨0x1616, 8, 16, [ro 20 4 0, w1c 16 4, w1c 12 4, w1c 11 1, w1c 10 1, ro 9 1 0, ro 8 1 0, ro 7 1 1]⟩,
  ⟨0x1617, 8, 16, [ro 0 32 0xFFFFFFFF]⟩,
  ⟨0x1618, 4, 2, [rw 31 1 0 .any true, rw 23 8 0 .any true, rw 19 4 1 (.rng 1 15) true, rw 17 2 0 (.rng 0 2) true, rw 16 1 0 .any true, rw 12 3 0 .any true, rw 9 3 0 (.rng 0 4) true, rw 6 3 0 (.rng 0 4) true, rw 0 2 0 (.rng 0 2) true]⟩,
  ⟨0x1628, 4, 2, [rw 31 1 0 .any true, rw 23 8 0 .any true, rw 19 4 1 (.rng 1 15) true, rw 17 2 0 (.rng 0 2) true, rw 16 1 0 .any true, rw 12 3 0 .any true, rw 9 3 0 (.rng 0 4) true, rw 6 3 0 (.rng 0 4) true, rw 0 2 0 (.rng 0 2) true]⟩,
  ⟨0x1638, 4, 2, [rw 31 1 0 .any true, rw 23 8 0 .any true, rw 19 4 1 (.rng 1 15) true, rw 17 2 0 (.rng 0 2) true, rw 16 1 0 .any true, rw 12 3 0 .any true, rw 9 3 0 (.rng 0 4) true, rw 6 3 0 (.rng 0 4) true, rw 0 2 0 (.rng 0 2) true]⟩,
  ⟨0x1648, 4, 2, [rw 31 1 0 .any true, rw 23 8 0 .any true, rw 19 4 1 (.rng 1 15) true, rw 17 2 0 (.rng 0 2) true, rw 16 1 0 .any true, rw 12 3 0 .any true, rw 9 3 0 (.rng 0 4) true, rw 6 3 0 (.rng 0 4) true, rw 0 2 0 (.rng 0 2) true]⟩,
  ⟨0x1658, 4, 2, [rw 31 1 0 .any true, rw 23 8 0 .any true, rw 19 4 1 (.rng 1 15) true, rw 17 2 0 (.rng 0 2) true, rw 16 1 0 .any true, rw 12 3 0 .any true, rw 9 3 0 (.rng 0 4) true, rw 6 3 0 (.rng 0 4) true, rw 0 2 0 (.rng 0 2) true]⟩,
  ⟨0x1668, 4, 2, [rw 31 1 0 .any true, rw 23 8 0 .any true, rw 19 4 1 (.rng 1 15) true, rw 17 2 0 (.rng 0 2) true, rw 16 1 0 .any true, rw 12 3 0 .any true, rw 9 3 0 (.rng 0 4) true, rw 6 3 0 (.rng 0 4) true, rw 0 2 0 (.rng 0 2) true]⟩,
  ⟨0x1678, 4, 2, [rw 31 1 0 .any true, rw 23 8 0 .any true, rw 19 4 1 (.rng 1 15) true, rw 17 2 0 (.rng 0 2) true, rw 16 1 0 .any true, rw 12 3 0 .any true, rw 9 3 0 (.rng 0 4) true, rw 6 3 0 (.rng 0 4) true, rw 0 2 0 (.rng 0 2) true]⟩,
  ⟨0x1688, 4, 2, [rw 31 1 0 .any true, rw 23 8 0 .any true, rw 19 4 1 (.rng 1 15) true, rw 17 2 0 (.rng 0 2) true, rw 16 1 0 .any true, rw 12 3 0 .any true, rw 9 3 0 (.rng 0 4) true, rw 6 3 0 (.rng 0 4) true, rw 0 2 0 (.rng 0 2) true]⟩,
  ⟨0x1619, 4, 2, [rw 0 32 0 .any true]⟩,
  ⟨0x1629, 4, 2, [rw 0 32 0 .any true]⟩,
  ⟨0x1639, 4, 2, [rw 0 32 0 .any true]⟩,
  ⟨0x1649, 4, 2, [rw 0 32 0 .any true]⟩,
  ⟨0x1659, 4, 2, [rw 0 32 0 .any true]⟩,
  ⟨0x1669, 4, 2, [rw 0 32 0 .any true]⟩,
  ⟨0x1679, 4, 2, [rw 0 32 0 .any true]⟩
] ++ [
  ⟨0x1689, 4, 2, [rw 0 32 0 .any true]⟩,
  ⟨0x1690, 8, 1, [rw 7 1 0 .any true, rw 4 3 0 .any true, rw 2 2 0 .any true, rw 0 2 0 (.rng 0 2) true]⟩]

/-- Rows of block 0x20. -/
def rows20 : List ParamRow := [
  ⟨0x2000, 1, 1, [rw 1 1 1 .any true, rw 0 1 1 .any true]⟩,
  ⟨0x2001, 1, 1, [ro 5 1 0, ro 4 1 0, ro 3 1 0, ro 2 1 0, ro 1 1 0, ro 0 1 0]⟩,
  ⟨0x2002, 1, 1, [ro 0 32 0]⟩,
  ⟨0x2003, 1, 1, [rw 0 4 15 .any true]⟩,
  ⟨0x2004, 1, 1, [ro 16 13 0, ro 0 7 0]⟩,
  ⟨0x2005, 1, 1, [ro 0 16 0]⟩,
  ⟨0x2006, 1, 1, [ro 12 1 0, ro 0 12 0]⟩,
  ⟨0x2007, 1, 1, [ro 0 32 0]⟩,
  ⟨0x2008, 1, 1, [ro 0 32 0]⟩,
  ⟨0x2009, 1, 1, [ro 0 32 0]⟩,
  ⟨0x200A, 1, 1, [ro 10 1 0, ro 8 2 0, ro 0 8 0]⟩,
  ⟨0x200B, 1, 1, [ro 0 32 0]⟩,
  ⟨0x200C, 1, 1, [rw 0 16 10 (.rng 1 1000) true]⟩,
  ⟨0x200D, 1, 1, [rw 0 8 128 (.rng 16 255) true]⟩,
  ⟨0x200E, 1, 1, [ro 6 1 0, ro 0 6 0]⟩,
  ⟨0x200F, 1, 1, [rc 0 16 0]⟩,
  ⟨0x2010, 4, 1, [ro 0 32 0xFFFFFFFF]⟩,
  ⟨0x2014, 4, 1, [rw 0 32 0 (.srng (-5000) 5000) true]⟩,
  ⟨0x2018, 4, 1, [rc 16 16 0, rc 0 16 0]⟩,
  ⟨0x201C, 4, 1, [ro 0 16 0]⟩,
  ⟨0x2020, 1, 1, [rw 15 1 0 .any false, rw 0 12 0 .any false]⟩,
  ⟨0x2021, 4, 1, [ro 0 32 0]⟩,
  ⟨0x2025, 1, 1, [wo 0 12 .any]⟩,
  ⟨0x2030, 1, 1, [ro 3 1 0, ro 2 1 0, ro 0 2 0]⟩,
  ⟨0x2031, 1, 1, [ro 0 16 0]⟩,
  ⟨0x2032, 1, 1, [ro 12 1 0, ro 0 12 0]⟩,
  ⟨0x2033, 1, 1, [rw 3 1 0 .any true, rw 0 3 0 .any true]⟩,
  ⟨0x2034, 1, 1, [ro 11 1 0, ro 9 2 0, ro 0 9 0]⟩,
  ⟨0x2035, 1, 1, [ro 0 16 0]⟩,
  ⟨0x2036, 1, 1, [rw 0 16 60 (.rng 1 3600) true]⟩
] ++ [
  ⟨0x2037, 1, 1, [ro 16 16 0, ro 0 16 0]⟩,
  ⟨0x2038, 1, 1, [rc 16 16 0, rc 0 16 0]⟩,
  ⟨0x2039, 1, 1, [rc 0 16 0]⟩,
  ⟨0x2040, 1, 1, [wo 8 2 .any, ro 4 2 0, wo 2 1 .any, rw 1 1 0 .any true, rw 0 1 0 .any true]⟩,
  ⟨0x2041, 1, 1, [rw 0 5 1 .any true]⟩,
  ⟨0x2042, 1, 1, [rw 0 16 0 .any true]⟩,
  ⟨0x2043, 1, 1, [rw 0 11 512 (.rng 0 1024) true]⟩,
  ⟨0x2044, 1, 1, [rc 0 16 0]⟩]

/-- Rows of block 0x21. -/
def rows21 : List ParamRow := [
  ⟨0x2100, 1, 1, [rw 0 2 2 (.rng 1 3) true]⟩,
  ⟨0x2101, 1, 1, [rw 0 16 250 (.rng 50 10000) true]⟩,
  ⟨0x2102, 1, 1, [rw 16 8 20 (.rng 0 50) true, rw 8 8 20 (.rng 0 100) true, rw 0 8 100 (.rng 0 100) true]⟩,
  ⟨0x2103, 1, 1, [ro 24 5 0, ro 16 8 0, ro 8 8 0, ro 0 8 0]⟩,
  ⟨0x2104, 1, 1, [ro 0 32 0]⟩,
  ⟨0x2105, 1, 1, [ro 0 6 0]⟩,
  ⟨0x2106, 1, 1, [ro 0 32 0]⟩,
  ⟨0x2107, 1, 1, [ro 12 1 0, ro 0 12 0]⟩,
  ⟨0x2108, 1, 1, [ro 16 16 0, ro 0 16 0]⟩,
  ⟨0x2109, 1, 1, [rc 0 16 0]⟩,
  ⟨0x210A, 1, 1, [rc 16 16 0, rc 0 16 0]⟩,
  ⟨0x2110, 1, 1, [rw 0 5 0 .any false]⟩,
  ⟨0x2111, 1, 1, [ro 31 1 0, ro 0 31 0]⟩,
  ⟨0x2112, 1, 1, [ro 0 32 0]⟩,
  ⟨0x2113, 1, 1, [ro 0 32 0]⟩,
  ⟨0x2114, 1, 1, [ro 16 13 0, ro 12 1 0, ro 0 12 0]⟩,
  ⟨0x2118, 1, 1, [rw 0 4 0 .any false]⟩,
  ⟨0x2119, 1, 1, [ro 25 1 0, ro 24 1 0, ro 16 8 0, ro 10 6 0, ro 4 6 63, ro 0 4 0]⟩,
  ⟨0x2120, 16, 1, [rw 16 16 0 (.rng 0 5500) true, rw 0 16 0 (.rng 0 10000) true]⟩]

/-- Rows of block 0x30. -/
def rows30 : List ParamRow := [
  ⟨0x3000, 1, 1, [ro 8 6 0, w1c 7 1, ro 3 1 0, ro 2 1 0, ro 1 1 0, ro 0 1 0]⟩,
  ⟨0x3001, 1, 1, [ro 16 3 0, ro 0 16 0x8000]⟩,
  ⟨0x3002, 1, 1, [ro 16 16 0x8000, ro 0 16 0x8000]⟩,
  ⟨0x3003, 1, 1, [ro 16 16 0x8000, ro 0 16 0x8000]⟩,
  ⟨0x3004, 1, 1, [ro 16 16 0x8000, ro 0 16 0x8000]⟩,
  ⟨0x3005, 1, 1, [rw 0 8 5 (.rng 1 20) true]⟩,
  ⟨0x3006, 1, 1, [ro 0 16 0]⟩,
  ⟨0x3007, 1, 1, [rc 0 16 0x8000]⟩,
  ⟨0x3008, 1, 1, [ro 0 16 0]⟩]

/-- Rows of block 0x31. -/
def rows31 : List ParamRow := [
  ⟨0x3100, 1, 1, [ro 8 4 0, ro 7 1 0, ro 6 1 0, ro 5 1 1, ro 4 1 0, ro 3 1 0, ro 2 1 0, ro 1 1 0, ro 0 1 0]⟩,
  ⟨0x3101, 1, 1, [ro 0 8 0]⟩,
  ⟨0x3102, 1, 1, [ro 16 16 0, ro 0 16 0]⟩,
  ⟨0x3103, 1, 1, [rw 0 5 1 (.rng 1 16) true]⟩,
  ⟨0x3104, 1, 1, [rw 0 16 0 (.rng 0 32000) true]⟩,
  ⟨0x3105, 1, 1, [rw 0 16 0 (.rng 0 32000) true]⟩,
  ⟨0x3106, 1, 1, [rw 0 1 0 .any true]⟩,
  ⟨0x3107, 1, 1, [rw 0 16 0 (.srng (-400) 32767) true]⟩,
  ⟨0x3108, 1, 1, [rw 0 16 0 .any true]⟩,
  ⟨0x3109, 1, 1, [rw 0 16 50 (.rng 1 1000) true]⟩,
  ⟨0x310A, 1, 1, [rw 0 16 200 (.rng 0 10000) true]⟩,
  ⟨0x310B, 1, 1, [rw 12 1 0 .any true, rw 0 12 0 .any true]⟩,
  ⟨0x310C, 1, 1, [ro 16 16 0, ro 0 16 0]⟩,
  ⟨0x310D, 1, 1, [ro 0 16 0]⟩,
  ⟨0x3120, 1, 1, [rw 0 1 0 .any true]⟩,
  ⟨0x3121, 1, 1, [ro 8 1 0, ro 7 1 0, ro 6 1 0, ro 5 1 0, ro 4 1 0, ro 3 1 0, ro 0 3 0]⟩,
  ⟨0x3122, 1, 1, [rw 0 16 20 (.rng 1 500) true]⟩,
  ⟨0x3123, 1, 1, [rw 0 9 200 (.rng 50 300) true]⟩,
  ⟨0x3124, 1, 1, [ro 16 16 0xFFFF, ro 0 16 0xFFFF]⟩,
  ⟨0x3125, 1, 1, [rw 16 7 10 (.rng 2 100) true, rw 0 9 100 (.rng 20 500) true]⟩,
  ⟨0x3126, 1, 1, [ro 16 16 0, ro 6 1 0, ro 5 1 0, ro 4 1 0, ro 3 1 0, ro 2 1 0, ro 1 1 0, ro 0 1 0]⟩,
  ⟨0x3127, 1, 1, [ro 0 12 0]⟩,
  ⟨0x3128, 1, 1, [rw 16 1 0 .any true, rw 8 8 20 (.rng 5 100) true, rw 0 8 5 (.rng 1 50) true]⟩,
  ⟨0x3129, 1, 1, [ro 16 16 0, ro 15 1 0, ro 0 7 0]⟩,
  ⟨0x312A, 1, 1, [rc 16 16 0, rc 0 16 0]⟩,
  ⟨0x312B, 1, 1, [ro 0 32 0]⟩,
  ⟨0x312C, 1, 1, [rw 0 12 0 .any false]⟩,
] ++ [
  ⟨0x312D, 1, 1, [ro 31 1 0, ro 30 1 0, ro 29 1 0, ro 28 1 0, ro 16 4 0, ro 0 16 0]⟩]

/-- Rows of block 0x32. -/
def rows32 : List ParamRow := [
  ⟨0x3200, 1, 1, [rw 0 1 1 .any true]⟩,
  ⟨0x3201, 1, 1, [rw 0 16 1000 (.rng 200 10000) true]⟩,
  ⟨0x3202, 1, 1, [ro 10 6 0, ro 9 1 0, ro 8 1 0, ro 0 6 0]⟩,
  ⟨0x3203, 1, 1, [ro 0 32 0]⟩,
  ⟨0x3204, 1, 1, [ro 0 32 0]⟩,
  ⟨0x3205, 1, 1, [ro 0 16 0]⟩,
  ⟨0x3206, 1, 1, [ro 0 32 0]⟩,
  ⟨0x3207, 1, 1, [ro 0 16 0]⟩,
  ⟨0x3208, 1, 1, [ro 0 32 0]⟩,
  ⟨0x3209, 1, 1, [ro 0 16 0]⟩,
  ⟨0x320A, 1, 1, [ro 8 8 32, ro 0 8 32]⟩,
  ⟨0x320B, 1, 1, [ro 16 16 0, ro 0 16 0]⟩,
  ⟨0x320C, 1, 1, [ro 0 8 0]⟩,
  ⟨0x3210, 1, 1, [rw 0 6 0 (.rng 0 47) false]⟩,
  ⟨0x3211, 1, 1, [ro 30 2 0, ro 29 1 0, ro 24 3 0, ro 16 8 0, ro 8 8 0]⟩,
  ⟨0x3212, 1, 1, [ro 16 16 0, ro 0 16 0]⟩,
  ⟨0x3213, 1, 1, [ro 0 32 0]⟩,
  ⟨0x3214, 1, 1, [ro 0 32 0]⟩]

/-- Rows of block 0x40. -/
def rows40 : List ParamRow := [
  ⟨0x4000, 1, 1, [ro 4 1 0, ro 3 1 0, w1c 2 1, ro 1 1 0, ro 0 1 0]⟩,
  ⟨0x4001, 1, 1, [ro 0 16 0x3E80]⟩,
  ⟨0x4002, 1, 1, [ro 16 16 0, ro 0 16 0]⟩,
  ⟨0x4003, 1, 1, [ro 0 32 0]⟩,
  ⟨0x4004, 1, 1, [rc 0 16 0]⟩,
  ⟨0x4008, 1, 1, [ro 0 32 0]⟩,
  ⟨0x4009, 1, 1, [ro 0 32 0]⟩,
  ⟨0x400A, 1, 1, [rc 0 16 0]⟩,
  ⟨0x4010, 1, 1, [ro 0 16 0]⟩,
  ⟨0x4011, 1, 1, [ro 16 16 0xFFFF, ro 0 16 0xFFFF]⟩,
  ⟨0x4012, 1, 1, [ro 0 16 0]⟩,
  ⟨0x4018, 1, 1, [ro 0 8 0]⟩,
  ⟨0x4019, 1, 1, [rw 0 8 0 .any false]⟩,
  ⟨0x401A, 1, 1, [ro 12 1 0, ro 0 12 0]⟩,
  ⟨0x401B, 1, 1, [ro 0 32 0]⟩,
  ⟨0x401C, 1, 1, [ro 0 32 0]⟩,
  ⟨0x401D, 1, 1, [ro 0 32 0]⟩,
  ⟨0x401E, 1, 1, [ro 0 32 0]⟩]

/-- The rows of the block that the high byte of an ID names (R81). -/
def blockRows (hi : Nat) : List ParamRow :=
  match hi with
  | 0x01 => rows01
  | 0x02 => rows02
  | 0x10 => rows10
  | 0x11 => rows11
  | 0x12 => rows12
  | 0x13 => rows13
  | 0x14 => rows14
  | 0x15 => rows15
  | 0x16 => rows16
  | 0x20 => rows20
  | 0x21 => rows21
  | 0x30 => rows30
  | 0x31 => rows31
  | 0x32 => rows32
  | 0x40 => rows40
  | _ => []

/-- The blocks of the parameter map, ascending. -/
def blocks : List Nat := [0x01, 0x02, 0x10, 0x11, 0x12, 0x13, 0x14, 0x15, 0x16, 0x20, 0x21, 0x30, 0x31, 0x32, 0x40]

/-- Whether a row covers an ID. -/
def ParamRow.covers (r : ParamRow) (id : Nat) : Bool :=
  r.first ≤ id && (id - r.first) % r.stride == 0 && (id - r.first) / r.stride < r.count

/-- The field map of a parameter, or none when the ID does not exist (BADPARAM, R81). -/
def fieldsOf (id : Nat) : Option (List Field) :=
  ((blockRows (id / 256)).find? (·.covers id)).map (·.fields)

/-- The word a field contributes at reset. -/
def Field.resetWord (f : Field) : Word := BitVec.ofNat 32 (f.reset * 2 ^ f.lo)

/-- The reset value of a parameter: the fields of its row put together; 0 for an ID that does not exist. -/
def resetParam (id : Nat) : Word :=
  ((fieldsOf id).getD []).foldl (fun w f => w ||| f.resetWord) 0

/-- The mask of the bits a field holds. -/
def Field.mask (f : Field) : Word := BitVec.ofNat 32 ((2 ^ f.width - 1) * 2 ^ f.lo)

/-- The mask of the fields of a row that satisfy `p`. -/
def maskOf (fs : List Field) (p : Field → Bool) : Word :=
  fs.foldl (fun w f => if p f then w ||| f.mask else w) 0

end Sys2Proof.Machine
end

