-- ==== Sys2Proof/Machine/State.lean ====
section
/-! DEFINITION. The state of one MY2440 node as plain data, its value right after reset, and the reasons a step can stop.
Every parameter of the spec has one home: its ID in `par` (a sparse list, unlisted IDs hold their reset value), except
the few words that a read computes from the tables below. Every memory of R16 is one sparse byte list `mem`. The rest is
the state the rules imply: counts, queues, tables and levels. -/
namespace Sys2Proof.Machine

/-- A step stops with a fault: the spec names no such stop for this node, so there is no reason to give. -/
inductive Fault where
  deriving DecidableEq, Repr

/-- A step is refused. -/
inductive Refusal where
  /-- Raised by a dispatch arm whose command has no meaning yet. Safe: nothing is claimed of it. -/
  | notModelled (mnemonic : String)
  deriving DecidableEq, Repr

/-- The six states of R46. -/
inductive Mode where
  | off
  | start
  | run
  | watch
  | hatbox
  | guard
  deriving DecidableEq, Repr

/-- Where a node in Start stands (R53, R55, R57, R58, R61, R341, R406). -/
inductive Phase where
  /-- Reset ended; step 0 of R58 may run. -/
  | begin
  /-- nRST is held low (R55). -/
  | held
  /-- Held in reset by the hardware cut (R341). -/
  | cut
  /-- Steps 0 to 5 of R58 done; discovery runs (R269). -/
  | discovery
  /-- No valid image: boot logic alone (R61). -/
  | bootOnly
  /-- TEST was high: the unlock window of R406 is open. -/
  | scanWindow
  /-- Scan chains enabled (R406). -/
  | scan
  /-- Ready has been reached. -/
  | ready
  deriving DecidableEq, Repr

/-- How far Hatbox entry has gone (R49). -/
inductive HatboxStep where
  | none
  /-- Accepted; waits for the sequencer boundary (step 1). -/
  | accepted
  /-- Streams and sequencer stopped; jobs and page writes finish (steps 2 and 3). -/
  | stopping
  deriving DecidableEq, Repr

/-- The clocks of a node (R6, R278): reference ticks since reset, fabric ticks, slow ticks since Hatbox entry. -/
structure Clock where
  ref    : DWord
  fabric : DWord
  slow   : Nat
  deriving DecidableEq, Repr

/-- Power, reset and state (R43 to R62). -/
structure Power where
  mode       : Mode
  phase      : Phase
  gcause     : BitVec 4
  /-- The change of state that waits for the next sequencer boundary (R48). -/
  request    : Option Mode
  hatbox     : HatboxStep
  /-- nRST ignored since it was declared stuck, until high for 100 ms (R57). -/
  stuck      : Bool
  stuckDue   : Bool
  brownDue   : Bool
  /-- THWCUT to raise at Ready: tripped comparators and seconds held (R342, R344). -/
  cutDue     : Option (BitVec 6 × Nat)
  cutMask    : BitVec 6
  /-- BOOTSLOT to raise at Ready (R60): its DATA. -/
  bootDue    : Option Word
  scanDue    : Bool
  /-- Guard to enter at Ready because a slice of step 2 failed (R58, R405): its GCAUSE. -/
  guardDue   : Option (BitVec 4)
  /-- Outputs stay off until a full Chisel round has passed in Run (R51, R340). -/
  roundDue   : Bool
  /-- The Chisel round under way began in Run while one was due. -/
  roundOn    : Bool
  /-- The orderly stop is set and waits for Guard entry (R338). -/
  stopping   : Bool
  /-- A reset that a completed command brings within 1 ms (R79, R94): the bit of `sys.reset.cause`. -/
  resetDue   : Option Nat
  /-- The unlock frames of R406 accepted so far. -/
  unlock     : Nat
  strapOk    : Bool
  strap      : BitVec 6
  deriving DecidableEq, Repr

/-- A mailbox request (R73, R451): CODE, TAG and the four argument words. -/
structure Req where
  code : Byte
  tag  : Byte
  /-- The reference tick of its arrival (R14, R324). -/
  at_  : DWord
  a0   : Word
  a1   : Word
  a2   : Word
  a3   : Word
  /-- The command has started and completes at a later step. -/
  started : Bool
  deriving DecidableEq, Repr

/-- Who asked (R83): a port of this node or a fabric source address. -/
inductive Requester where
  | port (p : HostPort)
  | node (a : FAddr)
  deriving DecidableEq, Repr

/-- A request in the fabric queue (R76), with the frame number its RESPONSE carries and the TARGET it names (R451). -/
structure FabricReq where
  sender : FAddr
  fid    : Half
  target : FAddr
  req    : Req
  deriving DecidableEq, Repr

/-- A staged write (R83). -/
structure Staged where
  id    : Half
  value : Word
  mask  : Word
  deriving DecidableEq, Repr

/-- The host ports, the direct registers of R72 and the mailbox. -/
structure HostIf where
  cmd        : Word
  args       : List Word
  status     : Byte
  tag        : Byte
  owner      : BitVec 2
  rej        : Bool
  done       : Bool
  busy       : Bool
  rsp        : List Word
  /-- The request taken at step 4 of R73 while BUSY is 1. -/
  req        : Option Req
  /-- The port that gave GO to the running request. -/
  goPort     : HostPort
  /-- The REQUEST frame a running remote command waits for: its FID and TARGET (R75, R451). -/
  remote     : Option (Half × FAddr)
  head       : Half
  tail       : Half
  intSafe    : Bool
  intOvf     : Bool
  intStream  : Bool
  intReady   : Bool
  intMask    : BitVec 6
  sel        : Word
  crcCnt     : Nat
  frameCnt   : Nat
  badTail    : Bool
  lastPort   : BitVec 2
  scratch    : Word
  fw         : BitVec 24
  spiResp    : BitVec 56
  /-- What SDO carried during the last SPI frame: the 56 bits shifted out, or none where it stayed high impedance (R66). While nCS is high it is high
  impedance always (R23). -/
  sdo        : Option (BitVec 56)
  /-- The word that the last read of READ_CLEAR or STREAM_WIN_READ returned (R67, R140, R412). -/
  shownWord  : Word
  canTx      : List (BitVec 11 × List Byte)
  uartTx     : List (List Byte)
  noticeSeq  : Byte
  /-- The 100 µs after the last interrupt notice run (R71); a notice waits for their end. -/
  holdoff    : Bool
  noticeDue  : Bool
  /-- Frames discarded in the present 1 s interval (R448): ports, bad frames, CRC failures. -/
  errPorts   : BitVec 3
  errFrames  : Nat
  errCrc     : Nat
  /-- Port settings in force (R92): enable, CAN identifier, CAN rates, UART rate. -/
  portsOn    : BitVec 3
  canBase    : BitVec 11
  canRate    : Byte
  uartRate   : BitVec 2
  staged     : List Staged
  stageOwner : Option Requester
  /-- PARAM_APPLY with WHEN 1 waits for a sequencer boundary: whose request it is (R83, R155). -/
  applyWait  : Option Src
  queue      : List FabricReq
  /-- The REQUEST frame that the head of the queue waits for, where it was forwarded to the anchor (R308). -/
  relay      : Option (Half × FAddr)
  /-- Parameter IDs written by requests that arrived in the tick `tickAt`, with the requester that wrote each (R325). -/
  tickAt     : DWord
  tickIds    : List (Nat × Requester)
  deriving DecidableEq, Repr

/-- An event as raised (R86): number, CLEARED, DATA, time and whether the time is LOCAL. -/
structure EvEntry where
  num     : BitVec 7
  cleared : Bool
  src     : FAddr
  isLocal : Bool
  time    : DWord
  data    : Word
  deriving DecidableEq, Repr

/-- The event machinery beside the ring (R87, R88, R21, R422). -/
structure Events where
  holding   : List EvEntry
  /-- Loggable events raised before Ready, in order (R420). -/
  preLog    : List EvEntry
  /-- Events discarded since the last RINGOVF, and whether the holding list was the one that overflowed. -/
  discarded : Nat
  ringLost  : Bool
  holdLost  : Bool
  /-- Times of the log entries of the last 1 s (R422). -/
  logTimes  : List DWord
  /-- Retry counts of the last 1 s: counter of R449 and time (R21); and the counters already reported in that second. -/
  retries   : List (Nat × DWord)
  reported  : List (Nat × DWord)
  /-- Times of the last raise of events that are raised at most once in a span: event number, unit, time. -/
  lastRaise : List (Nat × Nat × DWord)
  deriving DecidableEq, Repr

/-- What a page write belongs to (R418). -/
inductive NvJob where
  | log
  | cfg     (bank : Bool) (src : Src)
  | cal     (bank : Bool) (src : Src)
  | string  (src : Option Src)
  | goals
  | armature
  | slot    (b : Bool) (src : Src)
  | boot    (src : Src)
  | rollback (src : Src)
  | scan
  deriving DecidableEq, Repr

/-- One page write that waits for the MRAM port (R418): the bytes to change inside a page; `last` ends its job. -/
structure NvWrite where
  job  : NvJob
  addr : Nat
  data : List Byte
  last : Bool
  deriving DecidableEq, Repr

/-- MRAM writes (R418, R419) and firmware update (R94). -/
structure Nv where
  queue    : List NvWrite
  /-- No new page write starts (R53, R56, R338, R341). -/
  hold     : Bool
  /-- The page under way when `hold` was set has been written: the rest wait (R338, R339). -/
  drained  : Bool
  fwLength : Word
  fwTarget : Bool
  fwVer    : Word
  /-- Slots that FW_BEGIN has marked invalid and no FW_END has found good since, A bit 0, B bit 1: kept without power (R94, R96, log 128). -/
  marked   : BitVec 2
  noImage  : Bool
  /-- The last statement and signature of ATTEST PART 0 (R428). -/
  attest   : Option (List Byte × List Byte × List Byte)
  digest   : List Byte
  deriving DecidableEq, Repr

/-- A counted condition (R105, R109, R142, R336): consecutive hits, consecutive misses, and whether it is active. -/
structure Run where
  hits   : Nat
  misses : Nat
  active : Bool
  deriving DecidableEq, Repr

/-- The tag of a result word (R120), in the order of its coding. -/
inductive Tag where
  | valid
  | settling
  | redone
  | clipped
  deriving DecidableEq, Repr

/-- The latest compensated value of a cell, its sweep pass, and the value of the sweep before (R223). -/
structure CompCell where
  pass   : Nat
  now    : Int
  before : Int
  deriving DecidableEq, Repr

/-- Sense front end (R97 to R115). Lists run over cells, AUX inputs, lines or channels, from index 0. -/
structure Sense where
  cellRange : List Run
  /-- CLIPPED at 0 to 15 and a short at 16 to 31 (R105). -/
  auxRange  : List Run
  /-- The last delivered value of each channel 0 to 57 (uncompensated), and the compensated one of each cell (R223). -/
  last      : List Int
  comp      : List CompCell
  /-- The gains of I1 and I2 in force, coded as `sense.i.gain` (R102): taken at each sweep's aperture. -/
  gain      : BitVec 4
  /-- V5 of the latest housekeeping round since Ready or wake (R105). -/
  v5        : Option Nat
  /-- Rounds in a row in which an open line showed no open pattern (R112). -/
  clean     : List Nat
  /-- Lines a pulse of R110 is on, with the window of R111 around it. -/
  pulsed    : List Nat
  /-- Per cell: the latest output of a BLANK entry with its time, and the latest output of a sweep without BLANK (R215). -/
  blankOut  : List (Option (Int × DWord))
  sweepOut  : List (Option Int)
  deriving DecidableEq, Repr

/-- Where a result goes (R135, R146, R166, R351): the table's filters, a stream for a timer injection, the host's request (none where it was
staged), the safety monitor, Patina. -/
inductive Dest where
  | table
  | timer (stream : Fin 8)
  | host  (src : Option Src)
  | safety
  | patina
  deriving DecidableEq, Repr

/-- A conversion planned on a lane (R117, R119): lane clock, lane that converts, channel, its pass, its sampling time (whether LOCAL, and the
reference tick), the calibration set and the settings in force at its sampling (R102, R104, R126, R163), whether its channel's filter restarts with
it (R156), whether the result reaches the filters (R146), whether it belongs to a sweep (R131), is SETTLING (R111, R113) or
REDONE (R133), comes from a BLANK entry, the switches closed at its aperture (R223), and its destination. -/
structure Conversion where
  clk     : Nat
  lane    : Fin 5
  chan    : Nat
  pass    : Nat
  time    : DWord
  isLocal : Bool
  at_     : Nat
  cal     : Word
  gain    : Nat
  window  : Nat
  order2  : Bool
  restart : Bool
  deliver : Bool
  sweep   : Bool
  settle  : Bool
  redone  : Bool
  blank   : Bool
  sw      : BitVec 24
  dest    : Dest
  deriving DecidableEq, Repr

/-- An injected conversion in the queue (R130): timer requests stand before host requests. -/
structure Injection where
  chan : Nat
  dest : Dest
  deriving DecidableEq, Repr

/-- An averaging filter (R123): samples newest first, samples since the last output, outputs still to tag SETTLING (R125,
R126), samples still to tag SETTLING after a gain change (R125), and the settings in force; window 0 before the first sample. -/
structure Filter where
  win      : List (Int × Tag)
  count    : Nat
  settle   : Nat
  gainLeft : Nat
  gain     : Nat
  window   : Nat
  order2   : Bool
  deriving DecidableEq, Repr

/-- A word on its way to a stream (R137): its pass, channel, tag, the value as numerator and denominator so that an average keeps
its fraction, its sampling time, and whether it is a timer's one-word burst, which no mask selects (R135). -/
structure StageWord where
  pass   : Nat
  chan   : Nat
  tag    : Tag
  num    : Int
  den    : Nat
  time   : DWord
  isLocal : Bool
  direct : Bool
  deriving DecidableEq, Repr

/-- What a stream holds beside its parameters (R136 to R141): words on their way, whether the watermark is armed (R138), words lost
since the last CONVOVF (R143), the burst whose first pieces are already in the buffer (R137), and the settings taken at the
start of that burst, the watermark among them (R141). -/
structure Stream where
  stage   : List StageWord
  armed   : Bool
  lost    : Nat
  burst   : Option Nat
  mask    : DWord
  align   : Bool
  signed  : Bool
  mark    : Bool
  policy  : Bool
  wm      : Nat
  deriving DecidableEq, Repr

/-- Conversion lanes, filters and streams (R116 to R144). -/
structure Conv where
  plan      : List Conversion
  inject    : List Injection
  /-- Channels the safety monitor asks for, the first outstanding (R130). -/
  safetyInj : List Nat
  /-- Lane clocks at which injections started: clock, lane, and whether timer or host (R130). -/
  started   : List (Nat × Fin 5 × Bool)
  filters   : List Filter
  streams   : List Stream
  clip      : List Run
  /-- Valid INVSYNC captures in a row since tracking was lost (R129), and whether it is lost. -/
  captures  : Nat
  lost      : Bool
  /-- Tc of each channel in the running table (R153), as loop ticks and passes that deliver it; (0, 0) when not converted. -/
  tc        : List (Nat × Nat)
  /-- Channels whose Tc changed at a swap: their filter restarts at their first conversion in the new table (R156). -/
  refresh   : List Nat
  /-- A lane that L4 replaces at the next sweep boundary (R401). -/
  repair    : Option (Fin 5)
  passNo    : Nat
  /-- Lane clocks and lane numbers of conversions that have left the plan, or of a housekeeping round, within the last 10 clocks (R119). -/
  busy      : List (Nat × Nat)
  /-- The lane clock of the last conversion the table has planned (R156). -/
  lastTable : Option Nat
  deriving DecidableEq, Repr

/-- One entry of the sequence table (R145), as its four window words show it. -/
structure Entry where
  mask0 : Word
  mask1 : Word
  ctrl  : Word
  delay : Word
  deriving DecidableEq, Repr

/-- What the sequencer does (R161, STATE of `seq.status`). -/
inductive SeqPhase where
  | stopped
  | running
  | waiting
  | leadIn
  | watch
  | calibration
  deriving DecidableEq, Repr

/-- The sequencer (R145 to R161). -/
structure Seq where
  active  : List Entry
  pending : List Entry
  phase   : SeqPhase
  /-- The entry and the pass that start next. -/
  entry   : Nat
  pass    : Nat
  /-- Reference tick at which the next pass starts (R147). -/
  due     : DWord
  /-- The next pass is the first of a new loop. -/
  wrap    : Bool
  /-- WHEN of a checked bank that awaits its boundary (R154). -/
  checked : Option Bool
  /-- The present 10 ms of the Watch table: its start, and COUNT_W, INT_W and channels taken there (R158, R161). -/
  base    : DWord
  wCount  : Nat
  wInt    : Nat
  wAux    : BitVec 16
  /-- Timer events of the present reference tick (tick, unit, channel, capture), and the tick of the event that releases the waiting entry (R148). -/
  trigNow : List (DWord × Nat × Nat × Bool)
  fired   : Option DWord
  /-- The tick at which the blanked span ends, once its last pass has started (R149). -/
  spanEnd : Option DWord
  deriving DecidableEq, Repr

/-- PATINA_SET under way (R174): whose command, whether the calibration table runs, its start, the group measured and whether its switches are
closed, and per cell the sum of its samples, their number, and whether one was CLIPPED. -/
structure PatSet where
  src     : Src
  started : Bool
  start   : Nat
  group   : Nat
  closed  : Bool
  sums    : List (Int × Nat × Bool)
  deriving DecidableEq, Repr

/-- Patina (R162 to R185). -/
structure Pat where
  /-- A rotation mark waits for its sweep aperture (R165). -/
  mark    : Bool
  /-- Quiet updates in a row (R169), and the values of the last update, to judge the next. -/
  quiet   : Nat
  /-- Writes that wait for HOLD, and changes that take effect at the next sweep boundary (R168, R177). -/
  held    : List (Nat × Word)
  due     : List (Nat × Word)
  /-- A background update that waits for its boundary while the node stays in Run (R168, R169). -/
  update  : List (Nat × Word)
  /-- Of the present update period: per cell and lane number the sum and number of values (R165); per lane number the sums of its codes and of
  the second conversions of the same samples, and their number; per lane and loop-back channel the sum and number of codes (R166). -/
  cells   : List (Int × Nat)
  pairs   : List (Int × Int × Nat)
  loops   : List (Int × Nat)
  /-- The last code of each fast channel's sweep: pass, lane number, code (R166); the latest sweep's slot 0 and pass; the next loop-back channel. -/
  codes   : List (Nat × Nat × Int)
  sweep   : Nat × Nat
  nextLb  : Nat
  /-- Values replaced, with `pat.count` before the change: what a conversion sampled earlier is corrected with (R163). -/
  past    : List (Word × Nat × Word)
  set     : Option PatSet
  /-- CAL_RELOAD waits for its sweep boundary, with what its read of the bank meets (R181, R20); CAL_COMMIT waits for it, or writes (R179). -/
  reload  : Option (Src × Check)
  commit  : Option (Src × Bool)
  deriving DecidableEq, Repr

/-- What an entry takes of one channel in one segment (R188): the segment from t0, the channel, the usable samples, the sum of their values, and
the two parts of Σ x e^(−j2πf(t − t0)) in fixed point. -/
structure ImpSum where
  at_  : Nat
  chan : Nat
  n    : Nat
  sum  : Int
  re   : Int
  im   : Int
  deriving DecidableEq, Repr

/-- An entry of the run under way (R188, R194): the part `num / den` of a turn that its frequency makes in 5 ns, CYC, NSEG, the first segment of the
present pass counted from t0, the segments of the pass that have ended, and the sums of those that have not. -/
structure ImpEntry where
  entry : Nat
  num   : Nat
  den   : Nat
  cyc   : Nat
  nseg  : Nat
  first : Nat
  done  : Nat
  sums  : List ImpSum
  deriving DecidableEq, Repr

/-- This node's own part in an impedance measurement (R186 to R203) and its place in the plan (R194). -/
structure Imp where
  /-- The fitting node. -/
  fit      : Option FAddr
  t0       : DWord
  /-- The node takes part: it has stayed in Run since the announcement, with EN at 1 (R186). -/
  part     : Bool
  /-- Some node of the string has an odd number of cells, so a shuttle entry has two passes (R191, R194). -/
  odd      : Bool
  /-- The run of entries under way, its pass, and whether the next pass has not started yet. -/
  entry    : Nat
  pass     : Nat
  between  : Bool
  /-- The idle segment of a chop or shuttle pass runs (R194). -/
  idle     : Bool
  /-- The entries of the run in the present pass. -/
  run      : List ImpEntry
  /-- The value of 64 that the shuttle sinusoid stands at (R191). -/
  sine     : Nat
  /-- The impedance parameters 0x1400 to 0x143F of this measurement (R203): the shunt node's copy, with this node's own EN and `imp.tmr`, as they
  stood at the announcement. -/
  held     : List Word
  /-- The frames of this node, kept until the records are written (R201). -/
  own      : List SegIn
  /-- Passes abandoned by the budget (R192): run and pass. -/
  notMeas  : List (Nat × Nat)
  /-- Entries in whose present segment a blanked span or a table swap fell (R194, R195). -/
  spoiled  : List Nat
  /-- Lines open at any time of the measurement (R195). -/
  opened   : BitVec 25
  deriving DecidableEq, Repr

/-- A probe of one switch under way (R227): its cell, the cycle, whether the on half runs, whether this is the repeat of R228, the
sums of the present off half and of the finished cycles. -/
structure Probe where
  cell  : Fin 24
  cycle : Nat
  on    : Bool
  again : Bool
  off   : List Int
  done  : List (List Int × List Int)
  deriving DecidableEq, Repr

/-- Balancing (R204 to R234). -/
structure Bal where
  /-- The assignment in force (R217), highest rank first, and one received that waits for its boundary. -/
  assigned : List BalItem
  waiting  : Option (List BalItem)
  /-- The assignment less the items dropped by the budget (R213). -/
  applied  : List BalItem
  /-- The time of receipt of the assignment in force (R217). -/
  leased   : Option DWord
  overBudget : Bool
  /-- Switches opened by a trip until their reclosure, and reclosed switches with the time of reclosure (R205). -/
  tripped  : BitVec 24
  reclosed : List (Nat × DWord)
  /-- Switches found stuck closed (R231). -/
  stuckOn  : BitVec 24
  /-- Lines last probed above `bal.line.max` (R230). -/
  lineHigh : List Nat
  stackHigh : Run
  /-- Cells below `bal.vmin` at the last housekeeping round (R206). -/
  lowCell  : BitVec 24
  /-- Per shuttle: command in mA, IDLE frames still to send, a failure on the last frame, and the last frame sent (R207 to R210). -/
  command  : List Int
  idleLeft : List Nat
  shtBad   : List Bool
  shtFrame : List (Option (BitVec 20))
  probe    : Option Probe
  /-- Switches due for a probe; when the probe period last fell due, and when the die temperature last set off a probe (R229). -/
  toProbe  : BitVec 24
  probeAt  : DWord
  tempAt   : Option DWord
  /-- Since when this node's current has stayed within `bal.rest.i` (R216). -/
  quiet    : Option DWord
  /-- Goal slots whose BALGOAL is active (R218). -/
  goals    : List (Fin 32)
  /-- Cells of the chop pass under way (R192, R195), and which of their switches its square wave closes now. -/
  chopSet  : BitVec 24
  chop     : BitVec 24
  /-- Shuttles the impedance job drives (R191), and the currents it commands. -/
  impDrv   : BitVec 23
  impSht   : List Int
  /-- What a plan this node runs last sent to each node of its string, per goal slot (R216). -/
  planned  : List (Fin 32 × FAddr × List BalItem)
  deriving DecidableEq, Repr

/-- What a timer channel holds beside its parameters (R239 to R245). -/
structure TimerChan where
  level  : Bool
  active : Word
  prev   : Option Word
  edges  : Nat
  /-- The level the capture filter has accepted, and the samples in a row that differ from it (R243). -/
  accepted : Bool
  agree    : Nat
  deriving DecidableEq, Repr

/-- What a timer unit holds beside its parameters (R235 to R253). -/
structure Timer where
  residue : Nat
  psc     : Nat
  running : Bool
  armed   : Bool
  gate    : Bool
  loaded  : Option Word
  chans   : List TimerChan
  /-- The events raised that act at the next tick (R248): 0 its wrap, 1 to 4 those of channel 0 to 3. -/
  out     : List Nat
  deriving DecidableEq, Repr

/-- A frame (R262) before LSEQ and CRC are set for a link. -/
structure Frame where
  type     : Byte
  retx     : Bool
  rerouted : Bool
  bcast    : Bool
  dst      : FAddr
  src      : FAddr
  hops     : Byte
  fid      : Half
  payload  : List Byte
  deriving DecidableEq, Repr

/-- A frame that awaits acknowledgement (R266): whether it is sent a second time, and whether that sending still waits for its place. -/
structure Unacked where
  lseq  : Byte
  retry : Bool
  due   : Bool
  frame : Frame
  deriving DecidableEq, Repr

/-- One Shazon port (R258 to R267, R286). -/
structure Port where
  up       : Bool
  stopped  : Bool
  delayed  : Bool
  heard    : Bool
  nbrHeard : Bool
  block    : Option (List Byte)
  same     : Nat
  slept    : Bool
  miswire  : Bool
  credit   : Nat
  lseq     : Byte
  queue    : List Frame
  unacked  : List Unacked
  /-- Frames sent on the line, newest last: what an analyser would see. -/
  sent     : List (List Byte)
  control  : List (Byte × Byte × Byte)
  lostAt   : List DWord
  lostNow  : Nat
  /-- Stamps of the exchange under way (R280): t1, t2, t3. -/
  stamps   : Option (Int × Int × Int)
  deriving DecidableEq, Repr

/-- One node as the Armature knows it (R274): what it flooded, its place and its flags. `str` is the number of its string; 64 before one is
given, 65 and above for the strings that found none (R270, rule 4), each its own. -/
structure Node extends Offer where
  topo    : TopoNode
  addr    : Option FAddr
  str     : Nat
  quar    : Bool
  sleep   : Bool
  lost    : Bool
  pending : Bool
  deriving DecidableEq, Repr

/-- The fabric as this node knows it (R268 to R286). -/
structure Fabric where
  valid    : Bool
  addr     : FAddr
  nodes    : List Node
  crcs     : List (DWord × Word)
  disc     : Option (Option Src)
  hasTime  : Bool
  aligned  : Nat
  misaligned : Nat
  timeAlarm : Bool
  parent   : Option (Fin 4)
  keeper   : Option FAddr
  discKeeper : Option FAddr
  fid      : Half
  /-- Frames accepted or forwarded in the last 10 ms: source, FID, time (R267). -/
  seen     : List (FAddr × Half × DWord)
  /-- Nodes addressed at the last DISCDONE (R316). -/
  voters   : List FAddr
  assign   : Option (Src × DWord × BitVec 6 × Bool)
  woke     : Bool
  /-- The time-keeper has changed and no exchange has followed: an offset then may be that of a join (R283). -/
  rejoin   : Bool
  deriving DecidableEq, Repr

/-- A snapshot the collector holds open (R299): SNAP, Ts, expected addresses and records in. -/
structure Snapshot where
  snap     : Half
  ts       : DWord
  expected : List FAddr
  scope    : DWord
  records  : List (FAddr × List Byte)
  changed  : Nat
  deriving DecidableEq, Repr

/-- A fabric sweep (R287): what its announcement says. -/
structure SweepPlan where
  coll   : FAddr
  t0     : DWord
  period : Word
  count  : Word
  scope  : DWord
  deriving DecidableEq, Repr

/-- A snapshot this node takes part in, until its record goes out (R292, R293): SNAP, Ts, the period and the collector; its STATUS where it is known at
Ts; OFFGRID; and of the sweep it samples the pass, the sampling instant, and tags and values as they come. -/
structure SweepShot where
  snap    : Nat
  ts      : DWord
  period  : Nat
  coll    : FAddr
  status  : Nat
  offgrid : Bool
  pass    : Option Nat
  at_     : DWord
  tags    : List Tag
  values  : List Int
  got     : Nat
  deriving DecidableEq, Repr

/-- Fabric sweeps and the collector (R287 to R307). -/
structure Sweep where
  plan     : Option SweepPlan
  collect  : Option SweepPlan
  /-- The next snapshot to take part in, and the next one to collect. -/
  next     : Nat
  cnext    : Nat
  stop     : Bool
  /-- The step of an ON GRID table, and whether its restart waits for the next sequencer boundary (R290). -/
  grid     : Option Nat
  align    : Bool
  announce : Nat
  /-- The announcement that is repeated (R288). -/
  said     : List Byte
  open_    : List Snapshot
  shot     : Option SweepShot
  isolated : Bool
  holding  : Bool
  held     : List (List Byte)
  heldSent : Nat
  /-- The collector of the held records (R303). -/
  heldTo   : FAddr
  /-- The reference tick of the last held record sent (R303). -/
  heldAt   : DWord
  collDrop : Nat
  deriving DecidableEq, Repr

/-- A capture slot (R304). -/
inductive Slot where
  | free
  | filling (left : Nat) (pos : Nat)
  | full
  deriving DecidableEq, Repr

/-- Event snapshots (R304, R305). -/
structure Snap where
  slots   : List Slot
  /-- The place of the next sweep in the slot that records, sweeps to skip before it, the sweep being written and its place. -/
  pos     : Nat
  skip    : Nat
  pass    : Nat
  put     : Option Nat
  /-- Times of the sweeps held, newest first, and triggers that have arrived. -/
  times   : List DWord
  due     : List (BitVec 7)
  trigger : Option (FAddr × BitVec 7 × Bool × DWord)
  late    : Bool
  lastFab : Option DWord
  deriving DecidableEq, Repr

/-- A floating job this node hosts (R313, R319 to R322). -/
structure Job where
  key    : JobKey
  str    : BitVec 6
  cost   : Nat
  seq    : Word
  rerun  : Bool
  moving : Option FAddr
  paused : Bool
  deriving DecidableEq, Repr

/-- A checkpoint slot of a holder (R319): the two halves, and which is in force. -/
structure Checkpoint where
  key   : JobKey
  host  : FAddr
  seq   : Word
  half0 : Option JobBody
  half1 : Option JobBody
  inHalf1 : Bool
  deriving DecidableEq, Repr

/-- A placed floating job as the Maquette has it (R314). -/
structure Placed where
  key     : JobKey
  host    : Option FAddr
  /-- The host before this one, from which the job comes (R320, R321). -/
  prev    : Option FAddr
  cost    : Nat
  /-- Reference ticks at the last rebalancing move (R315). -/
  movedAt : Option DWord
  deriving DecidableEq, Repr

/-- What a REDUCE goal has of one node in the present interval (R327): minimum, maximum and sum per cell, the snapshots counted, whether
one lacked the node, and the SEQ its next record takes. -/
structure Sred where
  slot  : Fin 32
  node  : FAddr
  cells : List (Int × Int × Int)
  count : Nat
  part  : Bool
  seq   : Word
  deriving DecidableEq, Repr

/-- What a STATE job on this node has counted (R327): the charge in mA·s since it began, and its rows. -/
structure SocJob where
  slot   : Fin 32
  charge : Int
  rows   : List SocRow
  deriving DecidableEq, Repr

/-- Placement (R308 to R331). -/
structure Plc where
  goals    : List (Option Goal)
  /-- Whose saved goal table this is: what settles two of one number after a discovery (R308). -/
  goalFrom : FAddr
  jobs     : List Job
  placed   : List Placed
  ckpts    : List Checkpoint
  recs     : List Rec
  low      : List FAddr
  /-- The nodes that hold the records of an owner (R318). -/
  hold     : List (FAddr × List FAddr)
  capacity : Bool
  sred     : List Sred
  soc      : List SocJob
  /-- The impedance fits of the jobs here (R186, R201). -/
  fits     : List FitJob
  deriving DecidableEq, Repr

/-- Die temperature (R332 to R345). -/
structure Therm where
  suspect : BitVec 6
  warn    : Run
  rate    : Run
  stop    : Run
  history : List Int
  refslow : Nat
  /-- The pace, a rail or REFCHK out (R9, R347): 0 good, 1 first round, 2 lasting and reported; and the first low pace. -/
  paceLow : Nat
  paceBad : Nat
  railBad : List Nat
  refBad  : Nat
  /-- Interval at Hatbox entry, comparator reads below release, and an interval change to report (R415). -/
  hatFast : Bool
  released : Nat
  lateGroups : Option (Nat × Bool)
  row     : Nat
  deriving DecidableEq, Repr

/-- A sender of twin frames as a contactor node sees it (R382 to R386): its address, 0xFFE for one that has none, and its serial number. -/
structure Peer where
  addr    : FAddr
  serial  : DWord
  /-- Per direction: fresh (R384), the safety tick of the last good copy or of the start of its time, silence already reported. -/
  upOk    : Bool
  downOk  : Bool
  upAt    : Nat
  downAt  : Nat
  upSaid  : Bool
  downSaid : Bool
  /-- Directions to watch (R385). -/
  watchUp   : Bool
  watchDown : Bool
  /-- Last accepted SEQ; any SEQ is taken once (R382); SEQ seen last per direction. -/
  seq     : Word
  anySeq  : Bool
  upSeq   : Option Word
  downSeq : Option Word
  /-- STATE and byte 20 of the last accepted copy, and the demands already acted on (R386). -/
  state   : Half
  cause   : BitVec 4
  acted   : Half
  /-- First failures that await their repeat: a failed copy per direction (R382), a pair that differs (R383). -/
  upBad   : Bool
  downBad : Bool
  differ  : Bool
  /-- The first copy of a pair that waits for its second: direction down, and its bytes; and a pair whose late copy is discarded. -/
  first   : Option (Bool × List Byte)
  missed  : Option (Bool × Word)
  deriving DecidableEq, Repr

/-- An output's off-test (R369): a pulse under way, and whether it is the repeat. -/
structure OffTest where
  busy  : Bool
  again : Bool
  deriving DecidableEq, Repr

/-- An input channel (R372, R373): its accepted level, the state kept while blanked, the two checks' first failures and passes in
a row, and whether it is shorted. -/
structure Channel where
  level   : Bool
  closed  : Bool
  blanked : Bool
  fail1   : Bool
  fail2   : Bool
  pass1   : Nat
  pass2   : Nat
  short   : Bool
  deriving DecidableEq, Repr

/-- The safety monitor, its outputs, inputs and twin frames (R346 to R388). -/
structure Safety where
  /-- Safety ticks since Ready (R369). -/
  ticks    : Nat
  /-- Samples of the present tick and of the ticks before, newest first: channel, value, CLIPPED or not valid (R351). -/
  now      : List (Nat × Int × Bool)
  window   : List (List (Nat × Int × Bool))
  /-- The last value taken of each channel: what stands in for a held cell (R113, R229). -/
  held     : List (Nat × Int)
  /-- Ticks in a row a watched NTC has read 0x8000 (R351). -/
  ntcBad   : List Nat
  /-- Active conditions: cells over and under, AUX inputs, charging and discharging (R350). -/
  ov       : BitVec 24
  uv       : BitVec 24
  ot       : BitVec 16
  oc       : BitVec 2
  /-- The ramp (R353): ticks since its start, I0 as numerator and denominator in A, its cause. -/
  ramp     : Option (Nat × Int × Nat × BitVec 4)
  /-- PHASE of `sf.out.state`, failures of the closing sequence, and the repeat that waits (R367). -/
  phase    : BitVec 3
  failures : Nat
  retryDue : Bool
  /-- First failures of feedback outside the sequence: SAFEH bit 0, SAFEL bit 1 (R368). -/
  feedFail : BitVec 2
  testH    : OffTest
  testL    : OffTest
  /-- Off-tests to repeat 10 ms later: SAFEH bit 0, SAFEL bit 1 (R369). -/
  testDue  : BitVec 2
  /-- Off-tests that wait for the end of Chisel slice 19 or 20 (R398): SAFEH bit 0, SAFEL bit 1. -/
  testWait : BitVec 2
  inA      : Channel
  inB      : Channel
  /-- The channel OPEN first in the present disagreement is INB (R387); both were OPEN since DISCREP (R376). -/
  firstB   : Bool
  cycleOpen : Bool
  /-- The seal has changed in service (R378), or was faulty at start-up (R39): outputs stay off until a reset. -/
  sealChg  : Bool
  sealBad  : Bool
  peers    : List Peer
  /-- Addresses no sender is expected at whose last copy in a direction (down) failed R382. -/
  strangers : List (FAddr × Bool)
  /-- STATE bits of this node's own demands, held until SAFE_ACK on a contactor node (R386). -/
  latched  : Half
  /-- A twin frame to send beside the periodic STATUS: KIND and cause (R379); the sequence numbers of RAMPREQ taken (R380). -/
  twinDue  : Option (Byte × BitVec 4)
  rampSeq  : List (FAddr × Word)
  deriving DecidableEq, Repr

/-- The record of one Chisel slice (R393, R394, R410). -/
structure Slice where
  result   : BitVec 2
  notruns  : Nat
  count    : Nat
  sig      : Half
  time     : DWord
  timeLocal : Bool
  retired  : Bool
  /-- A lasting failure has been reported and the slice has not passed since (R395). -/
  lasting  : Bool
  deriving DecidableEq, Repr

/-- Chisel (R389 to R410). -/
structure Chisel where
  slices   : List Slice
  busy     : Bool
  repeat_  : Bool
  next     : Nat
  full     : Bool
  fullDue  : Bool
  /-- The attempt under way was aborted (R397, R398), and the elements that failed in the first attempt. -/
  aborted  : Bool
  found    : List Nat
  /-- The reference tick at which the present round began, and its period P in ticks (R389, R390). -/
  roundAt  : Nat
  period   : Nat
  /-- Repairs under way, eDRAM or SRAM and bank (R402), and the spares left in each bank (R400). -/
  repairs  : List (Bool × Nat)
  spares   : List Nat
  deriving DecidableEq, Repr

/-- Leads and drives a logic analyser would see (R23, R47, R89, R242, R371). -/
structure Pins where
  safeH : Bool
  safeL : Bool
  fbH   : Bool
  fbL   : Bool
  tpA   : Bool
  tpB   : Bool
  tmpIn  : BitVec 8
  tmpOut : BitVec 8
  /-- The first and second stage of the synchronisers of the timer pins (R243). -/
  tmpSync1 : BitVec 8
  tmpSync2 : BitVec 8
  test  : Bool
  idleOut : List (Fin 4)
  deriving DecidableEq, Repr

/-- The state of one node, with the queue of commands that wait, first in, first out. -/
structure State where
  clk    : Clock
  pwr    : Power
  par    : List (Nat × Word)
  mem    : List Host.Cell
  host   : HostIf
  ev     : Events
  nv     : Nv
  sense  : Sense
  conv   : Conv
  seq    : Seq
  pat    : Pat
  imp    : Imp
  bal    : Bal
  tmr    : List Timer
  ports  : List Port
  fab    : Fabric
  sweep  : Sweep
  snap   : Snap
  plc    : Plc
  therm  : Therm
  safe   : Safety
  chis   : Chisel
  pins   : Pins
  serial : DWord
  /-- The counter the free values of Config are drawn by: the model's own field. -/
  free   : Nat
  pending : List Instr
  deriving DecidableEq, Repr

/-! ## Reset -/

/-- Entry 0 of the sequence table after reset (R161): a sweep of the cells, I1 and I2 every 40,000 ticks, all else disabled. -/
def firstEntry : Entry := ⟨0x03FFFFFF, 0, 0xC0000001, 39960⟩

/-- A counted condition at rest. -/
def Run.zero : Run := ⟨0, 0, false⟩

/-- An input channel as it stands before its watch begins: open (R371). -/
def Channel.zero : Channel := ⟨false, false, false, false, false, 0, 0, false⟩

/-- A lead of R23 with an internal pull that this model shows the level of. -/
inductive Lead where
  | sck | sdi | nCs | crx | urx | nWake | nRst | test | addr | seal | tmp | safeH | safeL | fbH | fbL | inA | inB
  deriving DecidableEq, Repr

/-- The level the internal pull of a lead gives it: up or down (R23). The pulls act from power-up and through reset. -/
def Lead.pull : Lead → Bool
  | .nCs | .crx | .urx | .nWake | .nRst | .seal => true
  | .sck | .sdi | .test | .addr | .tmp | .safeH | .safeL | .fbH | .fbL | .inA | .inB => false

/-- The level of a lead: what drives it, or its pull where nothing does (R23). -/
def Lead.level (l : Lead) (driven : Option Bool) : Bool := driven.getD l.pull

/-- The records in MRAM as a node leaves the factory (R182; the Evrus 3.2 image in slot A): the header of the image, and in calibration bank 0 the
factory set. Only bytes that are not 0 are listed. The image's LENGTH, SECVER and body and the values of the set are not stated: the model takes
LENGTH 4,096, SECVER 0 and zeros, and the nominal values of R180 (DESIGN CHOICE, log 127). -/
def factoryMem : List Host.Cell :=
  [(0x20000000, 69), (0x20000001, 86), (0x20000002, 82), (0x20000003, 83), (0x20000006, 16), (0x20000009, 3), (0x2000000A, 2), (0x200C0000, 80),
   (0x200C0001, 65), (0x200C0002, 84), (0x200C0003, 49), (0x200C0007, 1), (0x200C0013, 1), (0x200C0017, 20), (0x200C0018, 64), (0x200C001C, 64),
   (0x200C0020, 64), (0x200C0024, 64), (0x200C0028, 64), (0x200C002C, 64), (0x200C0030, 64), (0x200C0034, 64), (0x200C0038, 64), (0x200C003C, 64)] ++
  [(0x200C0040, 64), (0x200C0044, 64), (0x200C0048, 64), (0x200C004C, 64), (0x200C0050, 64), (0x200C0054, 64), (0x200C0058, 64), (0x200C005C, 64),
   (0x200C0060, 64), (0x200C0064, 64), (0x200C0068, 64), (0x200C006C, 64), (0x200C0070, 64), (0x200C0074, 64), (0x200C0078, 64), (0x200C007C, 64),
   (0x200C0080, 64), (0x200C0084, 64), (0x200C0088, 64), (0x200C008C, 64), (0x200C0090, 64), (0x200C0094, 64), (0x200C0098, 64), (0x200C009C, 64)] ++
  [(0x200C00A0, 64), (0x200C00A4, 64), (0x200C00A8, 64), (0x200C00AC, 64), (0x200C00B0, 64), (0x200C00B4, 64), (0x200C00B8, 64), (0x200C00BC, 64),
   (0x200C00C0, 64), (0x200C00C4, 64), (0x200C00C8, 64), (0x200C00CC, 64), (0x200C00D0, 64), (0x200C00D4, 64), (0x200C00D8, 64), (0x200C00DC, 64),
   (0x200C00E0, 64), (0x200C00E4, 64), (0x200C00E8, 64), (0x200C00EC, 64), (0x200C00F0, 64), (0x200C0108, 64), (0x200C010C, 64), (0x200C0110, 64)] ++
  [(0x200C0114, 64), (0x200C0118, 64), (0x200C011C, 64), (0x200C0124, 64), (0x200C012C, 64), (0x200C0134, 64), (0x200C013C, 64), (0x200C0144, 64),
   (0x200C014C, 64), (0x200C0154, 64), (0x200C015C, 64), (0x200C0164, 64), (0x200C016C, 64), (0x200C0174, 64), (0x200C017C, 64), (0x200C0184, 64),
   (0x200C018C, 64), (0x200C0194, 64), (0x200C019C, 64), (0x200C01A4, 64), (0x200C01AC, 64), (0x200C01B4, 64), (0x200C01BC, 64), (0x200C01C4, 64)] ++
  [(0x200C01CC, 64), (0x200C01D4, 64), (0x200C01DC, 64), (0x200C01E4, 64), (0x200C01EC, 64), (0x200C01F4, 64), (0x200C01FC, 64), (0x200C0204, 64),
   (0x200C020C, 64), (0x200C0214, 64), (0x200C021C, 64), (0x200C0224, 64), (0x200C022C, 64), (0x200C0234, 64), (0x200C023C, 64), (0x200C0244, 64),
   (0x200C024C, 64), (0x200C0254, 64), (0x200C025C, 64), (0x200C0264, 64), (0x200C026C, 64), (0x200C0274, 64), (0x200C027C, 64), (0x200C0284, 64)] ++
  [(0x200C028C, 64), (0x200C0294, 64), (0x200C029C, 64), (0x200C02A4, 64), (0x200C02AC, 64), (0x200C02B4, 64), (0x200C02BC, 64), (0x200C02C4, 64),
   (0x200C02CC, 64), (0x200C02D4, 64), (0x200C02DC, 64), (0x200C02E4, 64), (0x200C02EC, 64), (0x200C02F4, 64), (0x200C02FC, 64), (0x200C0304, 64),
   (0x200C030C, 64), (0x200C0310, 64), (0x200C0314, 64), (0x200C0318, 64), (0x200C031C, 64), (0x200C0320, 64), (0x200C0324, 64), (0x200C0328, 64)] ++
  [(0x200C032C, 64), (0x200C0330, 64), (0x200C0334, 64), (0x200C0338, 64), (0x200C033C, 64), (0x200C0340, 64), (0x200C0344, 64), (0x200C0348, 64),
   (0x200C034D, 7), (0x200C034E, 161), (0x200C034F, 32), (0x200C0351, 22), (0x200C0352, 227), (0x200C0353, 96), (0x200C0355, 38), (0x200C0356, 37),
   (0x200C0357, 160), (0x200C0359, 68), (0x200C035A, 170), (0x200C035B, 32), (0x200C035C, 64), (0x200C03FC, 170), (0x200C03FD, 88), (0x200C03FE, 131)] ++
  [(0x200C03FF, 93)]

/-- The node right after reset with its always-on island powered up anew (R43 to R62): every parameter at its reset value but POWERON in
`sys.reset.cause`, in memory only what the factory writes, outputs off, and start-up about to begin. Values the spec gives no reset value for are named in
log entries 1 to 4. -/
def State.reset : State :=
  { clk := { ref := 0, fabric := 0, slow := 0 }
    pwr := { mode := .start, phase := .begin, gcause := 0, request := none, hatbox := .none, stuck := false, stuckDue := false,
             brownDue := false, cutDue := none, cutMask := 0, bootDue := none, scanDue := false, guardDue := none, roundDue := false,
             roundOn := false, stopping := false, resetDue := none, unlock := 0, strapOk := false, strap := 0 }
    par := [(0x0102, 1)]
    mem := factoryMem
    host := { cmd := 0, args := List.replicate 4 0, status := 0, tag := 0, owner := 3, rej := false, done := false, busy := false,
              rsp := List.replicate 8 0, req := none, goPort := .spi, remote := none, head := 0, tail := 0, intSafe := false, intOvf := false,
              intStream := false, intReady := false, intMask := 0x3F, sel := 0, crcCnt := 0, frameCnt := 0, badTail := false, lastPort := 3,
              scratch := 0, fw := 0, spiResp := 0, sdo := none, shownWord := 0, canTx := [], uartTx := [], noticeSeq := 0, holdoff := false,
              noticeDue := false, errPorts := 0, errFrames := 0, errCrc := 0, portsOn := 7, canBase := 0x300, canRate := 0x12, uartRate := 0,
              staged := [], stageOwner := none, applyWait := none, queue := [], relay := none, tickAt := 0, tickIds := [] }
    ev := { holding := [], preLog := [], discarded := 0, ringLost := false, holdLost := false, logTimes := [], retries := [], reported := [],
            lastRaise := [] }
    nv := { queue := [], hold := false, drained := false, fwLength := 0, fwTarget := false, fwVer := 0, marked := 0,
            noImage := false, attest := none, digest := [] }
    sense := { cellRange := List.replicate 24 Run.zero, auxRange := List.replicate 32 Run.zero, last := List.replicate 58 0,
               comp := List.replicate 26 ⟨0, 0, 0⟩, v5 := none, clean := List.replicate 25 0, pulsed := [],
               gain := 0, blankOut := List.replicate 24 none, sweepOut := List.replicate 24 none }
    conv := { plan := [], inject := [], safetyInj := [], started := [], filters := List.replicate 58 ⟨[], 0, 0, 0, 0, 0, false⟩,
              streams := List.replicate 8 ⟨[], true, 0, none, 0, false, false, false, false, 512⟩, clip := List.replicate 58 Run.zero,
              captures := 0, lost := false, tc := List.replicate 58 (0, 0), refresh := [], repair := none, passNo := 1,
              busy := [], lastTable := none }
    seq := { active := firstEntry :: List.replicate 63 ⟨0, 0, 0, 0⟩, pending := List.replicate 64 ⟨0, 0, 0, 0⟩, phase := .stopped, entry := 0,
             pass := 0, due := 0, wrap := false, checked := none, base := 0, wCount := 0, wInt := 0, wAux := 0, trigNow := [],
             fired := none, spanEnd := none }
    pat := { mark := false, quiet := 0, held := [], due := [], update := [], cells := List.replicate 96 (0, 0), pairs := List.replicate 4 (0, 0, 0),
             loops := List.replicate 20 (0, 0), codes := List.replicate 26 (0, 0, 0), sweep := (0, 0), nextLb := 0, past := [], set := none, reload := none, commit := none }
    imp := { fit := none, t0 := 0, part := false, odd := false, entry := 0, pass := 0, between := false, idle := false, run := [], sine := 0,
             held := [], own := [], notMeas := [], spoiled := [], opened := 0 }
    bal := { assigned := [], waiting := none, applied := [], leased := none, overBudget := false, tripped := 0, reclosed := [], stuckOn := 0,
             lineHigh := [], stackHigh := Run.zero, lowCell := 0, command := List.replicate 23 0, idleLeft := List.replicate 23 0,
             shtBad := List.replicate 23 false, shtFrame := List.replicate 23 none, probe := none, toProbe := 0, probeAt := 0, tempAt := none, quiet := none, goals := [], chopSet := 0,
             chop := 0, impDrv := 0, impSht := List.replicate 23 0, planned := [] }
    tmr := List.replicate 8 { residue := 0, psc := 0, running := false, armed := false, gate := true, loaded := none,
                              chans := List.replicate 4 ⟨false, 0, none, 0, false, 0⟩, out := [] }
    ports := List.replicate 4 { up := false, stopped := false, delayed := false, heard := false, nbrHeard := false, block := none, same := 0,
                                slept := false, miswire := false, credit := 0, lseq := 0, queue := [], unacked := [], sent := [],
                                control := [], lostAt := [], lostNow := 0, stamps := none }
    fab := { valid := false, addr := 0, nodes := [], crcs := [], disc := none, hasTime := false, aligned := 0, misaligned := 0,
             timeAlarm := false, parent := none, keeper := none, discKeeper := none, fid := 0, seen := [], voters := [], assign := none,
             woke := false, rejoin := false }
    sweep := { plan := none, collect := none, next := 0, cnext := 0, stop := false, grid := none, align := false, announce := 0, said := [],
               open_ := [], shot := none, isolated := false, holding := false, held := [], heldSent := 0, heldTo := 0, heldAt := 0,
               collDrop := 0 }
    snap := { slots := List.replicate 2 .free, pos := 0, skip := 0, pass := 0, put := none, times := [], due := [], trigger := none,
              late := false, lastFab := none }
    plc := { goals := List.replicate 32 none, goalFrom := 0, jobs := [], placed := [], ckpts := [], recs := [], low := [], hold := [],
             capacity := false, sred := [], soc := [], fits := [] }
    therm := { suspect := 0, warn := Run.zero, rate := Run.zero, stop := Run.zero, history := [], refslow := 0, paceLow := 0, paceBad := 0,
               railBad := List.replicate 4 0, refBad := 0, hatFast := false, released := 0, lateGroups := none, row := 0 }
    safe := { ticks := 0, now := [], window := [], held := [], ntcBad := List.replicate 16 0, ov := 0, uv := 0, ot := 0, oc := 0, ramp := none,
              phase := 0, failures := 0, retryDue := false, feedFail := 0, testH := ⟨false, false⟩, testL := ⟨false, false⟩, testDue := 0,
              testWait := 0, inA := Channel.zero, inB := Channel.zero, firstB := false, cycleOpen := false, sealChg := false,
              sealBad := false, peers := [], strangers := [], latched := 0, twinDue := none, rampSeq := [] }
    chis := { slices := List.replicate 48 ⟨0, 0, 0, 0, 0, false, false, false⟩, busy := false, repeat_ := false, next := 0, full := false,
              fullDue := false, aborted := false, found := [], roundAt := 0, period := 0, repairs := [],
              spares := List.replicate 16 2 ++ List.replicate 8 4 }
    pins := { safeH := false, safeL := false, fbH := Lead.level .fbH none, fbL := Lead.level .fbL none, tpA := false, tpB := false, tmpIn := 0, tmpOut := 0, tmpSync1 := 0, tmpSync2 := 0,
              test := false,
              idleOut := [] }
    serial := 0
    free := 0
    pending := [] }

end Sys2Proof.Machine
end

