-- ==== Sys2Proof/Machine/Store.lean ====
section
/-! DEFINITION. The named operations over the parameter store and the memories: sparse lists in one canonical form (keys
strictly rising, no entry equal to what an unlisted key reads as), and the reads and writes built on them. -/
namespace Sys2Proof.Machine

/-- The value an entry of a sparse list holds, if it is listed. -/
def sparseFind {α : Type} : List (Nat × α) → Nat → Option α
  | [], _ => none
  | (k, v) :: t, i => if i = k then some v else sparseFind t i

/-- Set key `i` to `v`, where an unlisted key reads as `d`: setting `d` removes the entry. -/
def sparseSet {α : Type} [DecidableEq α] (d : α) : List (Nat × α) → Nat → α → List (Nat × α)
  | [], i, v => if v = d then [] else [(i, v)]
  | (k, w) :: t, i, v =>
    if i < k then (if v = d then (k, w) :: t else (i, v) :: (k, w) :: t)
    else if i = k then (if v = d then t else (i, v) :: t)
    else (k, w) :: sparseSet d t i v

/-- Keys strictly rise from above `lo`, and no entry equals what its key reads as when unlisted. -/
def sparseWfFrom {α : Type} [DecidableEq α] (d : Nat → α) : Nat → List (Nat × α) → Bool
  | _, [] => true
  | lo, (k, v) :: t => decide (lo ≤ k) && decide (v ≠ d k) && sparseWfFrom d (k + 1) t

/-- The canonical form of a memory: addresses strictly rising, no listed byte equal to 0. -/
def Memory.wf (m : List Host.Cell) : Bool := sparseWfFrom (fun _ => (0 : Byte)) 0 m

/-- The canonical form of the parameter store: IDs strictly rising, no listed word equal to its reset value. -/
def Params.wf (p : List (Nat × Word)) : Bool := sparseWfFrom resetParam 0 p

/-- What an unlisted byte of memory reads as: 0 (R140, R391, R417 for SRAM and eDRAM; R16 for reserved MRAM). -/
def memDefault : Byte := 0

/-- The word a parameter holds. -/
def State.rd (s : State) (id : Nat) : Word := (sparseFind s.par id).getD (resetParam id)

/-- Give a parameter a word. -/
def State.wr (s : State) (id : Nat) (v : Word) : State := { s with par := sparseSet (resetParam id) s.par id v }

/-- Bits `lo` to `lo + width - 1` of a word, as a number. -/
def bitsOf (w : Word) (lo width : Nat) : Nat := w.toNat / 2 ^ lo % 2 ^ width

/-- A word with its bits from `lo` replaced. -/
def putBits (w : Word) (lo width : Nat) (v : Nat) : Word :=
  (w &&& ~~~ (BitVec.ofNat 32 ((2 ^ width - 1) * 2 ^ lo))) ||| BitVec.ofNat 32 ((v % 2 ^ width) * 2 ^ lo)

/-- A field of a parameter, as a number. -/
def State.fld (s : State) (id lo width : Nat) : Nat := bitsOf (s.rd id) lo width

/-- One bit of a parameter. -/
def State.bit (s : State) (id n : Nat) : Bool := (s.rd id).getLsbD n

/-- A field of a parameter read as two's complement. -/
def State.sfld (s : State) (id lo width : Nat) : Int := (BitVec.ofNat width (s.fld id lo width)).toInt

/-- Replace a field of a parameter. -/
def State.setFld (s : State) (id lo width v : Nat) : State := s.wr id (putBits (s.rd id) lo width v)

/-- Replace one bit of a parameter. -/
def State.setBit (s : State) (id n : Nat) (b : Bool) : State := s.setFld id n 1 (if b then 1 else 0)

/-- Add to a field that saturates at its greatest value. -/
def State.addSat (s : State) (id lo width n : Nat) : State :=
  s.setFld id lo width (min (2 ^ width - 1) (s.fld id lo width + n))

/-- Add to a word modulo 2³². -/
def State.addWord (s : State) (id n : Nat) : State := s.wr id (s.rd id + BitVec.ofNat 32 n)

/-- The bits of an `Int` in a field of `width` bits, saturating at both ends. -/
def satField (width : Nat) (v : Int) : Nat :=
  (BitVec.ofInt width (max (-(2 ^ (width - 1) : Int)) (min ((2 ^ (width - 1) : Int) - 1) v))).toNat

/-- A 0 or a 1. -/
def b2n (b : Bool) : Nat := if b then 1 else 0

/-- Some bits of a word, packed from (lowest bit, width, value). -/
def pack (fs : List (Nat × Nat × Nat)) : Word := fs.foldl (fun w f => putBits w f.1 f.2.1 f.2.2) 0

/-- The byte at an address. -/
def State.ldByte (s : State) (a : Nat) : Byte := (sparseFind s.mem a).getD memDefault

/-- Write one byte. -/
def State.stByte (s : State) (a : Nat) (b : Byte) : State := { s with mem := sparseSet memDefault s.mem a b }

/-- Write a run of bytes upward from an address. -/
def State.stBytes (s : State) : Nat → List Byte → State
  | _, [] => s
  | a, b :: t => (s.stByte a b).stBytes (a + 1) t

/-- Read `n` bytes upward from an address. -/
def State.ldBytes (s : State) (a n : Nat) : List Byte := (List.range n).map fun i => s.ldByte (a + i)

/-- The `n` bytes of a number, most significant first: the order of every multi-byte field of the spec. -/
def bytesBE (n v : Nat) : List Byte := (List.range n).map fun i => BitVec.ofNat 8 (v / 256 ^ (n - 1 - i))

/-- Words as bytes, each most significant byte first. -/
def wordsBE (ws : List Word) : List Byte := ws.flatMap fun w => bytesBE 4 w.toNat

/-- The number a run of bytes spells, most significant first. -/
def numBE (bs : List Byte) : Nat := bs.foldl (fun n b => n * 256 + b.toNat) 0

/-- The word at an address, its most significant byte at the lowest address. -/
def State.ldWord (s : State) (a : Nat) : Word := BitVec.ofNat 32 (numBE (s.ldBytes a 4))

/-- Write a word, its most significant byte at the lowest address. -/
def State.stWord (s : State) (a : Nat) (w : Word) : State := s.stBytes a (bytesBE 4 w.toNat)

/-- Write words upward from an address. -/
def State.stWords (s : State) : Nat → List Word → State
  | _, [] => s
  | a, w :: t => (s.stWord a w).stWords (a + 4) t

/-- The part of a memory that lies in `[lo, hi)`. -/
def memPart (m : List Host.Cell) (lo hi : Nat) : List Host.Cell := m.filter fun c => decide (lo ≤ c.1) && decide (c.1 < hi)

/-- MRAM begins here (R16): it keeps its bytes without power. -/
def mramBase : Nat := 0x20000000

/-- The integer for `n / d`: exact where it divides; where it does not and the spec states no rounding, one of the two integers next to it, and
which one is free (log 8). -/
def quot (n : Int) (d : Nat) : Int := if n % (d : Int) = 0 then n / d else if Config.roundsUp n d then n / d + 1 else n / d

/-- The nearest integer to `n / d`, halves towards +∞ (R122). -/
def nearest (n : Int) (d : Nat) : Int := (2 * n + d) / (2 * d : Int)

/-- The nearest integer to `n / d`; where two are equally near the spec names neither, and which one it is is free. -/
def roundNear (n : Int) (d : Nat) : Int :=
  let q := n / (d : Int)
  let r := n % (d : Int)
  if 2 * r < d then q else if (d : Int) < 2 * r then q + 1 else if Config.roundsUp n d then q + 1 else q

/-- The element of a list, or a default. -/
def nth {α : Type} (l : List α) (i : Nat) (d : α) : α := l.getD i d

/-- Change the element of a list at an index. -/
def alter {α : Type} : List α → Nat → (α → α) → List α
  | [], _, _ => []
  | x :: t, 0, f => f x :: t
  | x :: t, i + 1, f => x :: alter t i f

/-- A copy of `n` equal elements. -/
def copies {α : Type} (n : Nat) (x : α) : List α := List.replicate n x

/-- Give a bit of a bit vector a value. -/
def setBitV {w : Nat} (v : BitVec w) (i : Nat) (b : Bool) : BitVec w :=
  if b then v ||| BitVec.ofNat w (2 ^ i) else v &&& ~~~ (BitVec.ofNat w (2 ^ i))

/-- The positions of the 1 bits of a number below `n`, ascending. -/
def ones (n v : Nat) : List Nat := (List.range n).filter fun i => v.testBit i

end Sys2Proof.Machine
end

