-- ==== Sys2Proof/Machine/Numeric.lean ====
section
/-! DEFINITION. Square roots, logarithms, angles and sines in fixed point, for the rules that state a result as a formula over the reals (R105, R188,
R191, R192, R196, R197). A number x stands as the integer next to x × 10¹⁸, far below every unit a rule reports in; which of the two neighbouring
units a result that is not exact takes is free (`quot`, log 8). -/
namespace Sys2Proof.Machine

/-- One in fixed point. -/
def fxOne : Int := 1000000000000000000

/-- π in fixed point. -/
def fxPi : Int := 3141592653589793238

/-- The natural logarithm of 2 in fixed point. -/
def fxLn2 : Int := 693147180559945309

/-- The product of two numbers in fixed point. -/
def fxMul (a b : Int) : Int := a * b / fxOne

/-- A quotient of two integers in fixed point. -/
def fxQuot (a b : Int) : Int := a * fxOne / b

/-- One bit of a square root, from bit `n` down: the greatest root whose square does not pass `v`. -/
def isqrtFrom (v : Nat) : Nat → Nat → Nat
  | 0, r => if (r + 1) * (r + 1) ≤ v then r + 1 else r
  | n + 1, r => isqrtFrom v n (if (r + 2 ^ (n + 1)) * (r + 2 ^ (n + 1)) ≤ v then r + 2 ^ (n + 1) else r)

/-- The integer part of a square root. -/
def isqrt (v : Nat) : Nat := isqrtFrom v (Nat.log2 v / 2 + 1) 0

/-- The square root of a number in fixed point. -/
def fxSqrt (x : Int) : Int := isqrt (x * fxOne).toNat

/-- The terms of a sine or cosine from term `k` on: each is the one before times −x² / ((k + 1)(k + 2)). -/
def fxSeries (x2 : Int) : Nat → Nat → Int → Int
  | 0, _, _ => 0
  | n + 1, k, t => t + fxSeries x2 n (k + 2) (-(fxMul t x2) / ((k + 1) * (k + 2) : Nat))

/-- sin x for x in fixed point between 0 and π / 2. -/
def fxSinQ (x : Int) : Int := fxSeries (fxMul x x) 14 1 x

/-- cos x for x in fixed point between 0 and π / 2. -/
def fxCosQ (x : Int) : Int := fxSeries (fxMul x x) 14 0 fxOne

/-- cos and sin of a part `p / q` of a whole turn, `q` not 0; exact at the quarters. -/
def fxTurn (p : Int) (q : Nat) : Int × Int :=
  let r := (p % (q : Int)).toNat
  let quarter := 4 * r / q
  let x := 2 * fxPi * ((4 * r - quarter * q : Nat) : Int) / ((4 * q : Nat) : Int)
  let c := fxCosQ x
  let s := fxSinQ x
  match quarter with
  | 0 => (c, s)
  | 1 => (-s, c)
  | 2 => (-c, -s)
  | _ => (s, -c)

/-- The terms of an arc tangent or its hyperbolic kin (`sign` −1 or 1): t, t³ / 3, t⁵ / 5, … -/
def fxAtanSeries (sign t2 : Int) : Nat → Nat → Int → Int
  | 0, _, _ => 0
  | n + 1, k, t => t / (k : Int) + fxAtanSeries sign t2 n (k + 2) (sign * fxMul t t2)

/-- atan z for z in fixed point between 0 and 1, after two halvings of the angle. -/
def fxAtan (z : Int) : Int :=
  let half (z : Int) : Int := fxQuot z (fxOne + fxSqrt (fxOne + fxMul z z))
  let t := half (half z)
  4 * fxAtanSeries (-1) (fxMul t t) 16 1 t

/-- atan2 (y, x) in fixed point radians, −π < result ≤ π; 0 at the origin. -/
def fxAtan2 (y x : Int) : Int :=
  let ay : Int := y.natAbs
  let ax : Int := x.natAbs
  let a := if ax = 0 ∧ ay = 0 then 0
    else if ay ≤ ax then fxAtan (fxQuot ay ax) else fxPi / 2 - fxAtan (fxQuot ax ay)
  let b := if x < 0 then fxPi - a else a
  if y < 0 then -b else b

/-- ln (n / d) in fixed point for positive integers. -/
def fxLn (n d : Nat) : Int :=
  let k : Int := (Nat.log2 n : Int) - (Nat.log2 d : Int)
  let num : Int := if k < 0 then n * 2 ^ (-k).toNat else n
  let den : Int := if k < 0 then d else d * 2 ^ k.toNat
  let t := fxQuot (num - den) (num + den)
  k * fxLn2 + 2 * fxAtanSeries 1 (fxMul t t) 40 1 t

/-- The integer for a number in fixed point times `n / d`. -/
def fxInt (x n : Int) (d : Nat) : Int := quot (x * n) (d * fxOne.toNat)

end Sys2Proof.Machine
end

