-- ==== Sys2Proof/Machine/Net.lean ====
section
/-! DEFINITION. Checks and frames of the links: CRC-8 (R65), CRC-32C (R263), the frame layout (R262), the classes of R264, the
graph of the Armature, hops and routes (R276), and the ports' queues, credit and acknowledgement (R264, R266). -/
namespace Sys2Proof.Machine

/-- `n` rounds of a bit-serial step. -/
def rounds (f : Nat → Nat) : Nat → Nat → Nat
  | 0, c => c
  | n + 1, c => rounds f n (f c)

/-- CRC-8 of R65: polynomial 0x07, initial value 0, no reflection, no final XOR. -/
def crc8 (bs : List Byte) : Byte :=
  BitVec.ofNat 8 (bs.foldl (fun c b =>
    rounds (fun c => if c < 128 then 2 * c else (2 * c - 256) ^^^ 0x07) 8 (c ^^^ b.toNat)) 0)

/-- CRC-32C of R263: polynomial 0x1EDC6F41 reflected, initial value and final XOR 0xFFFF_FFFF. -/
def crc32c (bs : List Byte) : Word :=
  BitVec.ofNat 32 (0xFFFFFFFF ^^^ bs.foldl (fun c b =>
    rounds (fun c => if c % 2 = 1 then (c / 2) ^^^ 0x82F63B78 else c / 2) 8 (c ^^^ b.toNat)) 0xFFFFFFFF)

/-- A record with its CRC-32C over the bytes before it (R421, R452), most significant byte first. -/
def sealed (bs : List Byte) : List Byte := bs ++ bytesBE 4 (crc32c bs).toNat

/-- Whether the last four bytes of a record are the CRC-32C of the bytes before them. -/
def sealedOk (bs : List Byte) : Bool :=
  decide (4 ≤ bs.length) && decide (bytesBE 4 (crc32c (bs.take (bs.length - 4))).toNat = bs.drop (bs.length - 4))

/-- Bytes padded with zeros to a length. -/
def padTo (n : Nat) (bs : List Byte) : List Byte := bs ++ copies (n - bs.length) 0

/-- Frame types of R264. -/
def tySafe : Byte := 0x01
def tyTime : Byte := 0x02
def tyTopo : Byte := 0x03
def tyRequest : Byte := 0x04
def tyResponse : Byte := 0x05
def tyEvent : Byte := 0x06
def tyWake : Byte := 0x07
def tyRecord : Byte := 0x08
def tyJob : Byte := 0x09

/-- The class of a frame type (R264); a type R264 does not name travels in the lowest class (DESIGN CHOICE, log 21). -/
def classOf (ty : Byte) : Nat :=
  if ty = 1 then 0 else if ty = 2 then 1 else if 3 ≤ ty.toNat ∧ ty.toNat ≤ 7 then 2 else 3

/-- The address of every BCAST frame (R262). -/
def bcastAddr : FAddr := 0xFFF
/-- The source address of a node without an address (R262). -/
def noAddr : FAddr := 0xFFE

/-- The 12 header bytes of R262 for a link sequence number. -/
def Frame.header (f : Frame) (lseq : Byte) : List Byte :=
  let flags := b2n f.retx * 128 + b2n f.rerouted * 64 + b2n f.bcast * 32 + f.dst.toNat / 256
  [f.type, BitVec.ofNat 8 flags, BitVec.ofNat 8 f.dst.toNat, BitVec.ofNat 8 (f.src.toNat / 256), BitVec.ofNat 8 f.src.toNat,
   f.hops, lseq, 0, BitVec.ofNat 8 (f.payload.length / 256), BitVec.ofNat 8 f.payload.length] ++ bytesBE 2 f.fid.toNat

/-- The bytes between SOF and EOF: header, payload, and the CRC-32C sent least significant byte first (R262, R263). -/
def Frame.wire (f : Frame) (lseq : Byte) : List Byte :=
  let body := f.header lseq ++ f.payload
  body ++ (bytesBE 4 (crc32c body).toNat).reverse

/-- The payload length a frame's header states. -/
def wireLen (bs : List Byte) : Nat := (nth bs 8 0).toNat % 4 * 256 + (nth bs 9 0).toNat

/-- R262: the content between SOF and EOF is 16 + LEN bytes long, with LEN at most 512. -/
def wireLengthOk (bs : List Byte) : Bool := decide (bs.length = 16 + wireLen bs) && decide (wireLen bs ≤ 512)

/-- R263: the CRC-32C covers header and payload. -/
def wireCrcOk (bs : List Byte) : Bool :=
  decide ((bytesBE 4 (crc32c (bs.take (bs.length - 4))).toNat).reverse = bs.drop (bs.length - 4))

/-- The frame that the bytes between SOF and EOF spell. -/
def parseFrame (bs : List Byte) : Frame :=
  let b (i : Nat) : Byte := nth bs i 0
  { type := b 0, retx := (b 1).getLsbD 7, rerouted := (b 1).getLsbD 6, bcast := (b 1).getLsbD 5,
    dst := BitVec.ofNat 12 ((b 1).toNat * 256 + (b 2).toNat), src := BitVec.ofNat 12 ((b 3).toNat * 256 + (b 4).toNat),
    hops := b 5, fid := BitVec.ofNat 16 (numBE [b 10, b 11]), payload := (bs.drop 12).take (wireLen bs) }

/-- R260: A pairs with B, and C with D. -/
def pairOk (p q : Nat) : Bool :=
  (p == 0 && q == 1) || (p == 1 && q == 0) || (p == 2 && q == 3) || (p == 3 && q == 2)

/-- The node with a serial number. -/
def nodeOf (ns : List Node) (serial : DWord) : Option Node := ns.find? fun n => n.topo.serial == serial

/-- The node at an address. -/
def nodeAt (ns : List Node) (a : FAddr) : Option Node := ns.find? fun n => n.addr == some a

/-- A node forwards when it is neither asleep nor lost (R276). -/
def Node.present (n : Node) : Bool := !n.sleep && !n.lost

/-- The neighbour on a port, over an up link of a normal pairing; a rung inside one string is MISWIRE (R260). -/
def Node.peer (ns : List Node) (n : Node) (p : Nat) : Option Node :=
  match n.topo.ports[p]? with
  | none => none
  | some t =>
    if t.up && pairOk p t.nport.val then
      match nodeOf ns t.nbr with
      | some m => if p ≥ 2 && m.str == n.str && n.str != 64 && !(m.topo.serial == n.topo.serial) then none else some m
      | none => none
    else none

/-- The neighbours of a node over its usable links, port A to port D. -/
def Node.peers (ns : List Node) (n : Node) : List Node := (List.range 4).filterMap fun p => n.peer ns p

/-- The members of a list, each once, in the order first met. -/
def distinct {α : Type} [DecidableEq α] (l : List α) : List α :=
  l.foldl (fun acc x => if x ∈ acc then acc else acc ++ [x]) []

/-- Breadth-first distances over a neighbour function, from a frontier at distance `d`. -/
def spread (adj : DWord → List DWord) : Nat → List DWord → Nat → List (DWord × Nat) → List (DWord × Nat)
  | 0, _, _, seen => seen
  | fuel + 1, frontier, d, seen =>
    let next := distinct ((frontier.flatMap adj).filter fun x => !(seen.any fun y => y.1 == x))
    if next.isEmpty then seen else spread adj fuel next (d + 1) (seen ++ next.map fun x => (x, d + 1))

/-- The present neighbours of a present node, by serial number. -/
def adjPresent (ns : List Node) (x : DWord) : List DWord :=
  match nodeOf ns x with
  | some n => if n.present then ((n.peers ns).filter (·.present)).map (·.topo.serial) else []
  | none => []

/-- Hops from a node to every node it reaches through forwarders (R276). -/
def hopsFrom (ns : List Node) (x : DWord) : List (DWord × Nat) := spread (adjPresent ns) ns.length [x] 0 [(x, 0)]

/-- The entry of an association list. -/
def lookupD (l : List (DWord × Nat)) (x : DWord) : Option Nat := (l.find? fun y => y.1 == x).map (·.2)

/-- The smaller of two keyed choices; the earlier one on a tie. -/
def lesser {α : Type} (a : Option (Nat × α)) (b : Nat × α) : Option (Nat × α) :=
  match a with
  | none => some b
  | some x => if b.1 < x.1 then some b else some x

/-- The choice with the least key. -/
def least {α : Type} (l : List (Nat × α)) : Option α := (l.foldl lesser none).map (·.2)

/-- This node's port. -/
def State.port (s : State) (p : Fin 4) : Option Port := s.ports[p.val]?

/-- Change a port of this node. -/
def State.setPort (s : State) (p : Fin 4) (f : Port → Port) : State := { s with ports := alter s.ports p.val f }

/-- A port may carry routed frames: up, not stopped (R404), not MISWIRE (R260). -/
def Port.usable (p : Port) : Bool := p.up && !p.stopped && !p.miswire

/-- The four ports. -/
def allPorts : List (Fin 4) := [0, 1, 2, 3]

/-- This node's own record. -/
def State.me (s : State) : Option Node := nodeOf s.fab.nodes s.serial

/-- R276: the first port of the shortest route to an address and its hop count; ties settled by port pair, then by the
lower address of the next node. -/
def State.route (s : State) (dst : FAddr) : Option (Fin 4 × Nat) :=
  match nodeAt s.fab.nodes dst, s.me with
  | some d, some me =>
    if d.present && !(d.topo.serial == s.serial) then
      let dist := hopsFrom s.fab.nodes d.topo.serial
      least (allPorts.filterMap fun p =>
        match s.port p, me.peer s.fab.nodes p.val with
        | some q, some n =>
          if q.usable && n.present then
            (lookupD dist n.topo.serial).map fun h =>
              (h * 16384 + p.val / 2 * 8192 + (n.addr.getD noAddr).toNat, (p, h + 1))
          else none
        | _, _ => none)
    else none
  | _, _ => none

/-- Whether a frame may start now on a port (R264, R266): at most 4 unacknowledged, and credit unless it is SAFE. -/
def Port.maySend (q : Port) (f : Frame) : Bool :=
  decide (q.unacked.length < 4) && (classOf f.type == 0 || decide (1 ≤ q.credit))

/-- The frame a port sends next: the first of the highest class that may start (R264). A frame to send once more stands before the frames of its
class that reached the port later (R266). -/
def Port.head (q : Port) : Option (Option Unacked × Frame) :=
  let again := q.unacked.filter fun u => u.due && (classOf u.frame.type == 0 || decide (1 ≤ q.credit))
  least ((again.map fun u => (classOf u.frame.type, (some u, u.frame)))
    ++ (q.queue.filter q.maySend).map fun f => (classOf f.type, (none, f)))

/-- Send one frame if R264 and R266 let the port start it. -/
def Port.sendOne (q : Port) : Port :=
  if !q.up then q
  else match q.head with
  | none => q
  | some (u, f) =>
    let left := if classOf f.type == 0 then q.credit else q.credit - 1
    match u with
    | some u =>
      { q with unacked := q.unacked.map (fun (x : Unacked) => if x == u then { x with due := false } else x), sent := q.sent ++ [f.wire u.lseq],
               credit := left }
    | none =>
      { q with queue := q.queue.erase f, unacked := q.unacked ++ [⟨q.lseq, false, false, f⟩], sent := q.sent ++ [f.wire q.lseq],
               lseq := q.lseq + 1, credit := left }

/-- Send what the port may send. -/
def Port.pump : Nat → Port → Port
  | 0, q => q
  | n + 1, q => Port.pump n q.sendOne

/-- Put a frame in a port's queue and send what may be sent. -/
def State.enqueue (s : State) (p : Fin 4) (f : Frame) : State :=
  s.setPort p fun q => Port.pump 5 { q with queue := q.queue ++ [f] }

/-- A frame that found no route is discarded and counted (R276). -/
def State.noRoute (s : State) : State := s.addSat 0x200F 0 16 1

/-- R276: forward a frame to its destination on the route's first port. -/
def State.forward (s : State) (f : Frame) : State :=
  match s.route f.dst with
  | some (p, _) => s.enqueue p f
  | none => s.noRoute

/-- R276: a BCAST frame goes out on every usable port but the one it came from; TOPO also on MISWIRE ports (R260). -/
def State.flood (s : State) (f : Frame) (from_ : Option (Fin 4)) : State :=
  allPorts.foldl (fun s p =>
    match s.port p with
    | some q => if (q.usable || (f.type == tyTopo && q.up && !q.stopped)) && !(from_ == some p) then s.enqueue p f else s
    | none => s) s

/-- This node's source address in frames (R262). -/
def State.srcAddr (s : State) : FAddr := if s.fab.valid then s.fab.addr else noAddr

/-- A frame this node originates, with the FID it carries (R262). -/
def State.newFrame (s : State) (ty : Byte) (bcast : Bool) (dst : FAddr) (payload : List Byte) : Frame :=
  { type := ty, retx := false, rerouted := false, bcast := bcast, dst := dst, src := s.srcAddr, hops := 0, fid := s.fab.fid,
    payload := payload }

/-- Originate a frame to one address: FID rises by one, and the frame takes its route. -/
def State.sendTo (s : State) (ty : Byte) (dst : FAddr) (payload : List Byte) : State :=
  let f := s.newFrame ty false dst payload
  { s with fab := { s.fab with fid := s.fab.fid + 1 } }.forward f

/-- Originate a BCAST frame. -/
def State.sendAll (s : State) (ty : Byte) (payload : List Byte) : State :=
  let f := s.newFrame ty true bcastAddr payload
  { s with fab := { s.fab with fid := s.fab.fid + 1, seen := s.fab.seen ++ [(f.src, f.fid, s.clk.ref)] } }.flood f none

/-- Send a link control set on a port (R258). -/
def State.control (s : State) (p : Fin 4) (code a1 a2 : Byte) : State :=
  s.setPort p fun q => { q with control := q.control ++ [(code, a1, a2)] }

/-- The STATE code of R62. -/
def Mode.code : Mode → Nat
  | .off => 0
  | .start => 1
  | .run => 2
  | .watch => 3
  | .hatbox => 4
  | .guard => 5

end Sys2Proof.Machine
end

