-- ==== Sys2Proof/Machine/Ops.lean ====
section
/-! DEFINITION. The operations every family shares: the time of an event, interrupt lines and notices (R71, R89), the event
ring, holding list and log (R85 to R91, R420 to R422), forwarding (R90), the retry counters (R20, R21), the queue of page
writes (R418), and the completion of mailbox requests (R73 to R80, R451). -/
namespace Sys2Proof.Machine

/-- The digital core runs: not Off, not Hatbox, not held in reset, not in scan. -/
def State.awake (s : State) : Bool :=
  match s.pwr.mode with
  | .run | .watch | .guard => true
  | .start => s.pwr.phase == .begin || s.pwr.phase == .discovery || s.pwr.phase == .bootOnly || s.pwr.phase == .ready
  | .off | .hatbox => false

/-- Ready has been reached since the last reset and the node is awake. -/
def State.up (s : State) : Bool :=
  match s.pwr.mode with
  | .run | .watch | .guard => true
  | .start | .off | .hatbox => false

/-- The firmware runs: Ready, or in step 6 or 7 of start-up. -/
def State.evrus (s : State) : Bool := s.up || (s.pwr.mode == .start && s.pwr.phase == .discovery)

/-- A step that happens only where `c` allows it. -/
def whenever (c : Bool) (f : State → State) (s : State) : State := if c then f s else s

/-- The time an event carries (R86): fabric time, or reference ticks since reset with LOCAL. -/
def State.stamp (s : State) : Bool × DWord := if s.fab.hasTime then (false, s.clk.fabric) else (true, s.clk.ref)

/-- A free value of the state's counter, and the state with the counter advanced. -/
def State.draw (s : State) : Nat × State := (s.free, { s with free := s.free + 1 })

/-- Reference ticks pass until a tick (log 28): fabric time counts with them. -/
def State.advanceTo (s : State) (t : DWord) : State :=
  if s.clk.ref.toNat < t.toNat then
    { s with clk := { s.clk with ref := t, fabric := if s.fab.hasTime then s.clk.fabric + (t - s.clk.ref) else s.clk.fabric } }
  else s

/-! ## Interrupts -/

/-- INT_STAT (R72). -/
def State.intStat (s : State) : BitVec 6 :=
  BitVec.ofNat 6 (b2n s.host.intSafe * 32 + b2n s.host.intOvf * 16 + b2n s.host.intStream * 8 + b2n s.host.done * 4
    + b2n (s.host.head != s.host.tail) * 2 + b2n s.host.intReady)

/-- nINT is pulled low while an INT_STAT bit and its INT_MASK bit are both 1 (R89), in Hatbox as well; without power nothing pulls it. -/
def State.nIntLow (s : State) : Bool := s.pwr.mode != .off && (s.intStat &&& s.host.intMask) != 0

/-- MBX_STAT (R72). -/
def State.mbxStat (s : State) : Word :=
  pack [(16, 8, s.host.status.toNat), (8, 8, s.host.tag.toNat), (6, 2, s.host.owner.toNat), (2, 1, b2n s.host.rej),
    (1, 1, b2n s.host.done), (0, 1, b2n s.host.busy)]

/-- The next valid CAN FD data length of R69. -/
def canLength (n : Nat) : Nat :=
  if n ≤ 12 then 12 else if n ≤ 16 then 16 else if n ≤ 20 then 20 else if n ≤ 24 then 24 else if n ≤ 32 then 32
  else if n ≤ 48 then 48 else 64

/-- R70: 0x7E and 0x7D are escaped inside a UART frame. -/
def uartEscape (bs : List Byte) : List Byte :=
  bs.flatMap fun b => if b = 0x7E then [0x7D, 0x5E] else if b = 0x7D then [0x7D, 0x5D] else [b]

/-- R70: a UART frame around a payload. -/
def uartWrap (payload : List Byte) : List Byte := 0x7E :: (uartEscape (payload ++ [crc8 payload]) ++ [0x7E])

/-- Put a payload on the CAN FD port (R69). -/
def State.canSend (s : State) (offset : Nat) (payload : List Byte) : State :=
  if s.host.portsOn.getLsbD 1 then
    { s with host := { s.host with canTx := s.host.canTx ++ [(s.host.canBase + BitVec.ofNat 11 offset, padTo (canLength payload.length) payload)] } }
  else s

/-- Put a payload on the UART port (R70). -/
def State.uartSend (s : State) (payload : List Byte) : State :=
  if s.host.portsOn.getLsbD 2 then { s with host := { s.host with uartTx := s.host.uartTx ++ [uartWrap payload] } } else s

/-- The payload of an interrupt notice (R68): INT_STAT, EVT_HEAD and MBX_STAT as they stand. -/
def State.notice (s : State) : List Byte :=
  [0x82, s.host.noticeSeq, 0] ++ bytesBE 4 s.intStat.toNat ++ bytesBE 4 s.host.head.toNat ++ bytesBE 4 s.mbxStat.toNat

/-- Send an interrupt notice on both ports (R71). -/
def State.sendNotice (s : State) : State :=
  let t := (s.canSend 2 s.notice).uartSend s.notice
  { t with host := { t.host with noticeSeq := t.host.noticeSeq + 1, holdoff := true, noticeDue := false } }

/-- R71: when an unmasked INT_STAT bit has set since `old`, a notice is sent, or waits for the 100 µs spacing. -/
def State.notifyFrom (old s : State) : State :=
  if (s.intStat &&& ~~~ old.intStat &&& s.host.intMask) != 0 then
    if s.host.holdoff then { s with host := { s.host with noticeDue := true } } else s.sendNotice
  else s

/-! ## Page writes -/

/-- Cut bytes at page boundaries of 128 (R418). -/
def pieces : Nat → Nat → List Byte → List (Nat × List Byte)
  | 0, _, _ => []
  | fuel + 1, a, bs =>
    if bs.isEmpty then [] else
      let n := 128 - a % 128
      (a, bs.take n) :: pieces fuel (a + n) (bs.drop n)

/-- Queue the page writes of one job; the last one completes it. -/
def State.nvPut (s : State) (job : NvJob) (a : Nat) (bs : List Byte) : State :=
  let ps := pieces (bs.length / 128 + 2) a bs
  let ws := ps.zipIdx.map fun p => (⟨job, p.1.1, p.1.2, p.2 + 1 == ps.length⟩ : NvWrite)
  { s with nv := { s.nv with queue := s.nv.queue ++ ws } }

/-! ## Events -/

/-- Events of class F (R91). -/
def faultEvents : List Nat :=
  [1, 2, 5, 16, 19, 38, 39, 49, 68, 70, 71, 72, 73, 74, 76, 77, 78, 79, 80, 81, 82, 83, 84, 85, 89, 94]

/-- Events of class W (R91). -/
def warnEvents : List Nat :=
  [4, 6, 7, 8, 9, 11, 14, 17, 18, 21, 22, 23, 24, 27, 28, 32, 34, 35, 37, 40, 44, 46, 47, 52, 53, 55, 57, 60, 62, 63, 65, 66,
   67, 69, 75, 86, 88, 90, 95]

/-- CLASS of R86: 0 information, 1 warning, 2 fault. -/
def eventClass (n : Nat) : Nat := if n ∈ faultEvents then 2 else if n ∈ warnEvents then 1 else 0

/-- R420: what the event log keeps. -/
def loggable (n : Nat) : Bool := decide (n ∈ faultEvents) || decide (n ∈ [8, 9, 88, 90, 93])

/-- The four words of R86. -/
def EvEntry.words (e : EvEntry) (fwd : Bool) : List Word :=
  [pack [(30, 2, eventClass e.num.toNat), (29, 1, b2n e.cleared), (28, 1, b2n fwd), (16, 12, e.src.toNat), (15, 1, b2n e.isLocal),
     (0, 7, e.num.toNat)],
   BitVec.ofNat 32 e.time.toNat, BitVec.ofNat 32 (e.time.toNat / 2 ^ 32), e.data]

/-- The bit of an event in three words from `id` on (R89, R90). -/
def State.evBit (s : State) (id n : Nat) : Bool := s.bit (id + n / 32) (n % 32)

/-- Base of the event ring (R85) and of the event log (R16). -/
def ringBase : Nat := 0x5F000
def logBase : Nat := 0x200C3000

/-- Entries in the ring. -/
def State.ringFill (s : State) : Nat := (s.host.head - s.host.tail).toNat

/-- Write an entry's words at HEAD and advance HEAD (R85); INT_STAT bits follow (R72). RINGOVF of another node, with FWD at 1, says
nothing of this ring (R88, R90). -/
def State.ringPut (s : State) (ws : List Word) (n : Nat) : State :=
  let t := s.stWords (ringBase + 16 * (s.host.head.toNat % 256)) ws
  let h := { t.host with head := t.host.head + 1, intSafe := t.host.intSafe || (decide (71 ≤ n) && decide (n ≤ 84)),
                         intOvf := t.host.intOvf || (n == 0 && !(nth ws 0 0).getLsbD 28) }
  State.notifyFrom s { t with host := h }

/-- R88: a discarded event is counted. -/
def State.evDiscard (s : State) (fromRing : Bool) : State :=
  let t := s.addSat 0x020E 0 16 1
  { t with ev := { t.ev with discarded := t.ev.discarded + 1, ringLost := t.ev.ringLost || fromRing,
                             holdLost := t.ev.holdLost || !fromRing } }

/-- An entry enters the ring, or is discarded while the ring is full or a RINGOVF is owed (R88). -/
def State.ringAdd (s : State) (ws : List Word) (n : Nat) : State :=
  if s.ev.ringLost || s.ringFill == 256 then s.evDiscard true else s.ringPut ws n

/-- The nodes that hold an attached host, other than this one (R90). -/
def State.hostNodes (s : State) : List FAddr :=
  s.fab.nodes.filterMap fun n => if n.topo.host && n.present && !(n.topo.serial == s.serial) then n.addr else none

/-- R90: send an event to every node with an attached host. -/
def State.evForward (s : State) (e : EvEntry) : State :=
  if s.evBit 0x020B e.num.toNat && s.fab.valid then
    s.hostNodes.foldl (fun s a => s.sendTo tyEvent a (wordsBE (e.words true))) s
  else s

/-- R421: the 32 bytes of a log entry. -/
def logBytes (ws : List Word) (lseq : Word) (resets : Nat) : List Byte :=
  sealed (wordsBE ws ++ bytesBE 4 lseq.toNat ++ bytesBE 2 resets ++ copies 6 0)

/-- Reference ticks in 1 s. -/
def oneSecond : Nat := 40000000

/-- Whether a time lies within the last second. -/
def State.recent (s : State) (t : DWord) : Bool := decide (s.clk.ref.toNat < t.toNat + oneSecond)

/-- An event as this node raises it now. -/
def State.entryNow (s : State) (n : Nat) (data : Word) (cleared : Bool) : EvEntry :=
  { num := BitVec.ofNat 7 n, cleared := cleared, src := if s.fab.valid then s.fab.addr else 0, isLocal := s.stamp.1,
    time := s.stamp.2, data := data }

/-- An enabled event enters the ring and is forwarded (R87, R89, R90). -/
def State.evPlace (s : State) (e : EvEntry) : State :=
  if s.evBit 0x0208 e.num.toNat then (s.ringAdd (e.words false) e.num.toNat).evForward e else s

/-- R420 to R422: write one log entry, at most 100 in any second; LOGWRAP when the oldest is about to be overwritten. -/
def State.logPut (s : State) (e : EvEntry) : State :=
  let times := s.ev.logTimes.filter s.recent
  if times.length < 100 then
    let n := s.rd 0x4008 + 1
    let s1 := { s with ev := { s.ev with logTimes := times ++ [s.clk.ref] } }
    let old := s.rd 0x4009
    let oldest := if old = 0 then n else if n.toNat ≥ old.toNat + 2048 then n - 2047 else old
    let s2 := (s1.wr 0x4008 n).wr 0x4009 oldest
    let s3 := s2.nvPut .log (logBase + 32 * ((n.toNat - 1) % 2048)) (logBytes (e.words false) n (s.fld 0x0103 0 16))
    if n.toNat > 2048 ∧ (n.toNat - 1) % 2048 = 0 then s3.evPlace (s3.entryNow 92 oldest false) else s3
  else s.addSat 0x400A 0 16 1

/-- R304: an event of a category set in `fab.snap.trig` is a trigger of the recording slot. -/
def State.triggers (s : State) (n : Nat) : State :=
  let cat : Option Nat := if (71 ≤ n ∧ n ≤ 74) ∨ n = 76 then some 0 else if 78 ≤ n ∧ n ≤ 84 then some 1
    else if n = 16 then some 2 else if n = 68 then some 3 else none
  match cat with
  | some c => if s.bit 0x2040 0 && s.bit 0x2041 c then { s with snap := { s.snap with due := s.snap.due ++ [BitVec.ofNat 7 n] } } else s
  | none => s

/-- R86 to R91, R420: raise an event. Before Ready it waits in the holding list (R87), and its log entry waits too. -/
def State.raiseC (s0 : State) (n : Nat) (data : Word) (cleared : Bool) : State :=
  let e := s0.entryNow n data cleared
  let s := if cleared then s0 else s0.triggers n
  if s.up then
    (if loggable n then s.logPut e else s).evPlace e
  else
    let s1 := if loggable n then { s with ev := { s.ev with preLog := s.ev.preLog ++ [e] } } else s
    if s1.evBit 0x0208 n then
      if s1.ev.holding.length < 32 then { s1 with ev := { s1.ev with holding := s1.ev.holding ++ [e] } }
      else s1.evDiscard false
    else s1

/-- Raise an event whose condition begins, or that has no end. -/
def State.raise (s : State) (n : Nat) (data : Word) : State := s.raiseC n data false

/-- R88: write RINGOVF with the count of events discarded since the last one. -/
def State.ringOverflow (s : State) : State :=
  let e := s.entryNow 0 (BitVec.ofNat 32 (min 0xFFFF s.ev.discarded)) false
  ({ s with ev := { s.ev with discarded := 0, ringLost := false, holdLost := false } }.ringPut (e.words false) 0).evForward e

/-- Raise an event at most once in a second for one unit (a port, a timer, a line). -/
def State.raiseSlow (s : State) (n unit : Nat) (data : Word) : State :=
  if s.ev.lastRaise.any (fun (r : Nat × Nat × DWord) => r.1 == n && r.2.1 == unit && s.recent r.2.2) then s
  else
    let keep := s.ev.lastRaise.filter fun r => !(r.1 == n && r.2.1 == unit)
    { s with ev := { s.ev with lastRaise := keep ++ [(n, unit, s.clk.ref)] } }.raise n data

/-- R19 to R21: count `n` transients in retry counter `k` (order of R449), and raise TRANSIENT once for a second in which
the counter has risen by more than `sys.retry.thresh`. -/
def State.transient (s : State) (k n : Nat) : State :=
  let s1 := s.addSat (0x0118 + k) 0 32 n
  let times := (s1.ev.retries.filter fun r => s1.recent r.2) ++ copies n (k, s1.clk.ref)
  let s2 := { s1 with ev := { s1.ev with retries := times } }
  let rise := (times.filter fun r => r.1 == k).length
  let lim := s2.fld 0x011F 0 16
  if lim ≠ 0 ∧ lim < rise ∧ (s2.ev.reported.any fun (r : Nat × DWord) => r.1 == k && s2.recent r.2) = false then
    { s2 with ev := { s2.ev with reported := (s2.ev.reported.filter fun (r : Nat × DWord) => !(r.1 == k)) ++ [(k, s2.clk.ref)] } }.raise 4
      (pack [(0, 4, k), (16, 16, min 0xFFFF rise)])
  else s2

/-! ## Mailbox requests -/

/-- Status codes of R80. -/
def stOk : Byte := 0x00
def stBadCmd : Byte := 0x01
def stBadParam : Byte := 0x02
def stBadValue : Byte := 0x03
def stReadOnly : Byte := 0x04
def stBadAddr : Byte := 0x05
def stRefused : Byte := 0x06
def stTimeout : Byte := 0x07
def stNoRoute : Byte := 0x08
def stNotReady : Byte := 0x09
def stNoFw : Byte := 0x0A
def stStageFull : Byte := 0x0B
def stNvFail : Byte := 0x0C
def stSigFail : Byte := 0x0D
def stOldVersion : Byte := 0x0E
def stAborted : Byte := 0x0F
def stSealed : Byte := 0x10
def stDataErr : Byte := 0x11
def stBusy : Byte := 0x12

/-- The name by which a requester is known (R83). -/
def portCode : HostPort → Nat
  | .spi => 0
  | .can => 1
  | .uart => 2

/-- R73, step 6: the node's own mailbox command completes. -/
def State.mbxDone (s : State) (tag status : Byte) (rsp : List Word) : State :=
  let h := { s.host with rsp := rsp.take 8 ++ copies (8 - rsp.length) 0, status := status, tag := tag, busy := false, done := true,
                         req := none, remote := none }
  State.notifyFrom s { s with host := h }

/-- R451: the payload of a RESPONSE frame. -/
def responseBytes (status tag : Byte) (fid : Half) (rsp : List Word) : List Byte :=
  [status, tag] ++ bytesBE 2 fid.toNat ++ wordsBE (rsp.take 8 ++ copies (8 - rsp.length) 0)

/-- R451: the payload of a REQUEST frame. -/
def requestBytes (r : Req) (target : FAddr) : List Byte :=
  [r.code, r.tag] ++ bytesBE 2 target.toNat ++ wordsBE [r.a0, r.a1, r.a2, r.a3]

/-- The request a source has running: in the mailbox, or at the head of the fabric queue (R76). -/
def State.running (s : State) : Src → Option Req
  | .mbx => if s.host.busy && s.host.remote.isNone then s.host.req else none
  | .fabric => (s.host.queue.head?).map (·.req)

/-- Complete the request of a source: the mailbox, or a RESPONSE frame to the sender (R76, R451). -/
def State.complete (s : State) (src : Src) (status : Byte) (rsp : List Word) : State :=
  match src with
  | .mbx =>
    match s.host.req with
    | some r => s.mbxDone r.tag status rsp
    | none => s
  | .fabric =>
    match s.host.queue with
    | q :: t =>
      { s with host := { s.host with queue := t } }.sendTo tyResponse q.sender (responseBytes status q.req.tag q.fid rsp)
    | [] => s

/-- Mark the request of a source as started: it completes at a later step. -/
def State.markStarted (s : State) (src : Src) : State :=
  match src with
  | .mbx => { s with host := { s.host with req := s.host.req.map fun r => { r with started := true } } }
  | .fabric => { s with host := { s.host with queue := alter s.host.queue 0 fun q => { q with req := { q.req with started := true } } } }

/-- How a command ends: completed with a status and a response, or to be completed at a later step. -/
inductive Reply where
  | done (status : Byte) (rsp : List Word)
  | later
  deriving DecidableEq, Repr

/-- R14, R324: a fabric request waits while a mailbox request that arrived in its tick has not been served. -/
def State.outranked (s : State) (src : Src) (r : Req) : Bool :=
  match src, s.running .mbx with
  | .fabric, some m => !m.started && m.at_ == r.at_
  | _, _ => false

/-- Run the request of a source, if it is the one `want` names and has not started yet; otherwise nothing happens. -/
def State.serve (s : State) (src : Src) (want : Req → Bool) (f : State → Req → State × Reply) : State :=
  match s.running src with
  | some r =>
    if s.awake && want r && !r.started && !s.outranked src r then
      let o := f s r
      match o.2 with
      | .done st rsp => o.1.complete src st rsp
      | .later => o.1.markStarted src
    else s
  | none => s

/-- Run the request of a source if its CODE is `code` (R79). -/
def State.serveCode (s : State) (src : Src) (code : Byte) (f : State → Req → State × Reply) : State :=
  s.serve src (fun r => r.code == code) f

/-- A command that only completes with an error. -/
def State.fail (s : State) (status : Byte) : State × Reply := (s, .done status [])

/-- Who stands behind a request (R83). -/
def State.requester (s : State) : Src → Requester
  | .mbx => .port s.host.goPort
  | .fabric =>
    match s.host.queue.head? with
    | some q => .node q.sender
    | none => .node 0

/-- NODE_ADDR (R72). -/
def State.nodeAddr (s : State) : Word :=
  pack [(16, 4, s.pwr.mode.code), (12, 1, b2n s.fab.valid), (0, 12, if s.fab.valid then s.fab.addr.toNat else 0)]

/-- ID_REV (R72): die revision 2, then the firmware version in force. -/
def State.idRev (s : State) : Word := pack [(24, 8, 2), (0, 24, s.host.fw.toNat)]

/-- `sys.state` (R62). -/
def State.sysState (s : State) : Word := pack [(4, 4, s.pwr.gcause.toNat), (0, 4, s.pwr.mode.code)]

/-- An impedance parameter as the measurement under way uses it (R203). -/
def State.impRd (s : State) (id : Nat) : Word := if s.imp.held.isEmpty then s.rd id else nth s.imp.held (id - 0x1400) 0

/-- Outputs off by level (R47): a lead reads 1 while it is on. -/
def State.outputsOn (s : State) : Bool := s.pins.safeH || s.pins.safeL

end Sys2Proof.Machine
end

