-- ==== Sys2Proof/Machine/Balance.lean ====
section
/-! DEFINITION. Balancing (R204 to R234): which switches are closed and which shuttles run, the dissipation budget, shuttle frames,
the assignment and its lease, the blocking plan's evaluation, and the line-resistance probe. Cells, lines and shuttles are
indexed from 0 in lists; events carry them from 1 as the manual does. -/
namespace Sys2Proof.Machine

/-- The number N of connected cells (R107). -/
def State.cells (s : State) : Nat := s.fld 0x1000 0 5

/-- Line Ck is declared open (R112). -/
def State.lineOpen (s : State) (k : Nat) : Bool := s.bit 0x1004 k

/-- R206, first two causes, and the orderly thermal stop (R338): all switches open, all shuttles idle. -/
def State.balStopped (s : State) : Bool :=
  !(s.pwr.mode == .run || s.pwr.mode == .watch) || s.bal.stackHigh.active || s.therm.stop.active || s.pwr.stopping

/-- R206: what holds the switch of cell `k` (from 0) open by itself: not connected (R107), a line of its own open, below `bal.vmin`. -/
def State.swBarred (s : State) (k : Nat) : Bool :=
  decide (s.cells ≤ k) || s.lineOpen k || s.lineOpen (k + 1) || s.bal.lowCell.getLsbD k

/-- Cell `k` (from 0) may not be bled: barred by R206, its switch tripped (R205) or faulted (R231). -/
def State.swHeld (s : State) (k : Nat) : Bool := s.swBarred k || s.bal.tripped.getLsbD k || s.bit 0x151D k

/-- The assignment has lapsed (R217): LEASE of `bal.status`. -/
def State.balLapsed (s : State) : Bool := s.bit 0x1501 4

/-- The plan's assignment is in force (R206, R217). -/
def State.balAssigned (s : State) : Bool := s.bit 0x1500 0 && s.bal.leased.isSome

/-- In a blanked span (R219). -/
def State.blanked (s : State) : Bool := s.bit 0x1501 1

/-- A bleed of cell `k` stands in a list of items. -/
def bleeds (items : List BalItem) (k : Nat) : Bool :=
  items.any fun i => match i with | .bleed c => c.val == k | .shuttle _ _ => false

/-- The current a list of items commands on shuttle `j` (from 0), in mA. -/
def shuttles (items : List BalItem) (j : Nat) : Int :=
  items.foldl (fun v i => match i with | .shuttle c ma => if c.val == j then ma else v | .bleed _ => v) 0

/-- R111: a pulse holds the switch of cell `k` (from 0) as it is: the cells on either side of the pulsed line. -/
def State.swPulsed (s : State) (k : Nat) : Bool := s.sense.pulsed.any fun l => l == k || l == k + 1

/-- The probe under way is one of switch `k` (from 0) (R227). -/
def State.probes (s : State) (k : Nat) : Bool := match s.bal.probe with | some p => p.cell.val == k | none => false

/-- R206, last two causes: with the assignment not in force only the probe and the impedance chop may close switch `k` (from 0), and with
`bal.rbal` at 0 only the probe. -/
def State.swMay (s : State) (k : Nat) : Bool := s.probes k || (s.rd 0x1504 != 0 && (s.balAssigned || s.bal.chopSet.getLsbD k))

/-- Switch `k` (from 0) closed or open as R204 to R206, R219, R111, R222, R227 and R231 have it now: a trip, a fault and each cause of R206
open it whatever else holds; a window of R111 then keeps it as it is. -/
def State.swWanted (s : State) (k : Nat) : Bool :=
  let plan := bleeds s.bal.applied k && s.balAssigned && !s.bal.chopSet.getLsbD k
  let chop := s.bal.chopSet.getLsbD k && s.bal.chop.getLsbD k
  if s.bal.stuckOn.getLsbD k then true
  else if s.balStopped || s.swHeld k || !s.swMay k then false
  else if s.swPulsed k then s.bit 0x1502 k
  else if s.blanked then false
  else match s.bal.probe with
    | some p => if p.cell.val == k then p.on else plan || chop
    | none => plan || chop

/-- Whether shuttle `j` (from 0) may run (R206, R107, R231, `bal.sht.en`). -/
def State.shtFree (s : State) (j : Nat) : Bool :=
  s.bit 0x150A j && decide (j + 1 < s.cells) && !s.bit 0x151E j && !s.lineOpen j && !s.lineOpen (j + 1) && !s.lineOpen (j + 2)
    && !s.balStopped

/-- A current on shuttle `j` would discharge a cell below `bal.vmin` (R206, R207): positive current discharges cell j + 1. -/
def State.shtLow (s : State) (j : Nat) (ma : Int) : Bool :=
  (decide (0 < ma) && s.bal.lowCell.getLsbD (j + 1)) || (decide (ma < 0) && s.bal.lowCell.getLsbD j)

/-- R111: a pulse holds shuttle `j` (from 0) as it is: it connects to the pulsed line. -/
def State.shtPulsed (s : State) (j : Nat) : Bool := s.sense.pulsed.any fun l => l == j || l == j + 1 || l == j + 2

/-- Whether shuttle `j` is commanded and the current it is to carry. A shuttle the impedance job drives is commanded at 0 mA as well (R191, R207);
it is idle in each case of R206, and held at 0 in a blanked span (R195, R219). -/
def State.shtWanted (s : State) (j : Nat) : Option Int :=
  let held := if s.bit 0x1503 j then some (nth s.bal.command j 0) else none
  let cmd := if s.bal.impDrv.getLsbD j then some (nth s.bal.impSht j 0)
    else if s.balAssigned && shuttles s.bal.applied j != 0 then some (shuttles s.bal.applied j) else none
  let want := if s.shtPulsed j then (if s.bal.impDrv.getLsbD j || s.balAssigned then held else none)
    else if s.blanked then none else cmd
  match want with
  | some ma => if s.shtFree j && !s.shtLow j ma then some ma else none
  | none => none

/-- Bring switches and shuttles to what is wanted now; a command that becomes idle owes three IDLE frames (R208). -/
def State.balRefresh (s : State) : State :=
  let sw := (List.range 24).foldl (fun n k => n + b2n (s.swWanted k) * 2 ^ k) 0
  let cmd := (List.range 23).map s.shtWanted
  let idle := (List.range 23).map fun j =>
    if (nth cmd j none).isSome then 0 else if s.bit 0x1503 j then 3 else nth s.bal.idleLeft j 0
  let run := (List.range 23).foldl (fun n j => n + b2n (nth cmd j none).isSome * 2 ^ j) 0
  let t := (s.setFld 0x1502 0 24 sw).setFld 0x1503 0 23 run
  { t with bal := { t.bal with command := cmd.map fun c => c.getD 0, idleLeft := idle } }

/-! ## Dissipation budget -/

/-- The budget B in mW (R211). -/
def State.budget (s : State) : Nat :=
  let ta := s.sfld 0x1506 0 16
  if s.therm.warn.active then 400 else if ta ≤ 850 then 1200 else (1200 - 4 * (ta - 850)).toNat

/-- The latest compensated value of a cell, in 100 µV. -/
def State.cellV (s : State) (k : Nat) : Int := (nth s.sense.comp k ⟨0, 0, 0⟩).now

/-- R212 over a common denominator `2 × (Rbal + 700)²`, in mW: switches of the items and those closed apart from the plan, a chopped
one at half, and 12 mW for each active shuttle. -/
def State.powerNum (s : State) (items : List BalItem) : Int × Nat :=
  let den : Nat := 2 * ((s.rd 0x1504).toNat + 700) ^ 2
  let one (k : Nat) : Int := 13 * s.cellV k * s.cellV k
  let sw := (List.range 24).foldl (fun a k =>
    let probe := match s.bal.probe with | some p => p.cell.val == k && p.on | none => false
    if s.bal.stuckOn.getLsbD k || probe then a + 2 * one k
    else if s.bal.chopSet.getLsbD k then a + one k
    else if bleeds items k && s.rd 0x1504 != 0 then a + 2 * one k else a) (0 : Int)
  let sht := ((List.range 23).filter fun j => shuttles items j != 0 || s.bal.impDrv.getLsbD j).length
  (sw + ((12 * sht * den : Nat) : Int), den)

/-- P of a list of items is at most B. -/
def State.fits (s : State) (items : List BalItem) : Bool :=
  let p := s.powerNum items
  decide (p.1 ≤ s.budget * p.2)

/-- R213: drop the lowest-ranked items until P ≤ B. -/
def State.dropToFit (s : State) : Nat → List BalItem → List BalItem
  | 0, l => l
  | n + 1, l => if s.fits l then l else s.dropToFit n l.dropLast

/-- P of a list of items in mW. -/
def State.powerOf (s : State) (items : List BalItem) : Int := quot (s.powerNum items).1 (s.powerNum items).2

/-- DATA of BALBUDGET (R233). -/
def State.budgetData (s : State) : Word :=
  pack [(0, 16, s.budget), (16, 16, min 0xFFFF (s.powerOf s.bal.assigned).toNat)]

/-- R195: a segment of an impedance measurement runs, so the plan changes no switch or shuttle. -/
def State.segmentRuns (s : State) : Bool := s.fld 0x1401 0 2 == 2 && !s.imp.between

/-- No dropped item comes back now: a probe runs, during which every other switch and shuttle stays as it is (R227), or a segment of an
impedance measurement (R195). Items that no longer fit are dropped all the same (R213). -/
def State.balKeeps (s : State) : Bool := s.bal.probe.isSome || s.segmentRuns

/-- R213: apply as much of the assignment as the budget admits; BALBUDGET when items are dropped. -/
def State.applyBudget (s : State) : State :=
  let app := if s.balKeeps then s.dropToFit s.bal.applied.length s.bal.applied else s.dropToFit s.bal.assigned.length s.bal.assigned
  let t := { s with bal := { s.bal with applied := app } }
  let u := if app ≠ s.bal.assigned ∧ s.bal.overBudget = false then
      { t with bal := { t.bal with overBudget := true } }.raise 37 s.budgetData
    else t
  u.balRefresh

/-- R211 to R213 at a housekeeping round: P, and BALBUDGET cleared when the whole assignment fits. `bal.budget` is computed at a read. -/
def State.budgetRound (s : State) : State :=
  let s1 := s.setBit 0x1501 3 s.therm.warn.active
  let s2 := s1.applyBudget
  let closed := (List.range 24).filterMap fun k =>
    if s2.bit 0x1502 k && bleeds s2.bal.applied k then some (BalItem.bleed (Fin.ofNat 24 k)) else none
  let running := (List.range 23).filterMap fun j =>
    if nth s2.bal.command j 0 ≠ 0 ∧ s2.bal.impDrv.getLsbD j = false then some (BalItem.shuttle (Fin.ofNat 23 j) (nth s2.bal.command j 0)) else none
  let s3 := s2.setFld 0x1508 0 16 (min 0xFFFF (s2.powerOf (closed ++ running)).toNat)
  if s3.bal.overBudget && s3.fits s3.bal.assigned then
    { s3 with bal := { s3.bal with overBudget := false } }.raiseC 37 s3.budgetData true
  else s3

/-! ## Faults of switches and shuttles -/

/-- R231: a balance switch fault; cause 0 over-current twice, 1 stuck open, 2 stuck closed. -/
def State.swFault (s : State) (k cause : Nat) : State :=
  let t := (s.setBit 0x151D k true).raise 38 (pack [(0, 5, k + 1), (8, 2, cause)])
  (if cause = 2 then { t with bal := { t.bal with stuckOn := setBitV t.bal.stuckOn k true } } else t).balRefresh

/-- R231: a shuttle fault; cause 0 open load, 1 load short, 2 driver readback. The lead is held low. -/
def State.shtFault (s : State) (j cause : Nat) : State :=
  let t := (s.setBit 0x151E j true).raise 39 (pack [(0, 5, j + 1), (8, 2, cause)])
  let u := t.balRefresh
  { u with bal := { u.bal with idleLeft := u.bal.idleLeft.set j 0, shtBad := u.bal.shtBad.set j false } }

/-- BAL_OVERCURRENT_TRIP (R205): the switch opens; a second trip within 1 s of the reclosure is lasting. -/
def balOvercurrentTrip (cell : Fin 24) (s : State) : State :=
  let k := cell.val
  if s.bit 0x1502 k then
    let t := { s with bal := { s.bal with tripped := setBitV s.bal.tripped k true,
                                          reclosed := s.bal.reclosed.filter fun (r : Nat × DWord) => !(r.1 == k) } }
    if s.bal.reclosed.any fun r => r.1 == k && s.recent r.2 then
      { t with bal := { t.bal with tripped := setBitV t.bal.tripped k false } }.swFault k 0
    else t.balRefresh
  else s

/-- BAL_RECLOSE (R205): 1 ms after a trip the switch closes again once, and the event is counted in `sys.retry.check`. -/
def balReclose (cell : Fin 24) (s : State) : State :=
  let k := cell.val
  if s.bal.tripped.getLsbD k then
    ({ s with bal := { s.bal with tripped := setBitV s.bal.tripped k false,
                                  reclosed := (s.bal.reclosed.filter fun (r : Nat × DWord) => !(r.1 == k)) ++ [(k, s.clk.ref)] } }.transient 5 1).balRefresh
  else s

/-! ## Shuttle frames -/

/-- CRC-6 of R207: polynomial 0x03, initial value 0, most significant bit first, over `n` bits. -/
def crc6 : Nat → Nat → Nat → Nat
  | 0, _, c => c
  | n + 1, v, c =>
    let top := (c / 32 + v / 2 ^ n) % 2
    crc6 n v ((c * 2 % 64) ^^^ (if top = 1 then 3 else 0))

/-- A shuttle frame (R207): RUN with a current, which may be 0, or IDLE with 0. -/
def shuttleFrame (run : Bool) (ma : Int) : BitVec 20 :=
  let ty := if run then 1 else 2
  let body := ty * 4096 + (BitVec.ofInt 12 ma).toNat
  BitVec.ofNat 20 (body * 64 + crc6 14 body 0)

/-- SHUTTLE_FRAME_SEND (R208, R210): the driver sends RUN or an owed IDLE frame and senses its load; a failure on two frames in a
row is lasting. `sense` bit 0: current below 0.10 mA; bit 1: the 8 mA limit reached. -/
def shuttleFrameSend (j : Fin 23) (sense : BitVec 2) (s : State) : State :=
  let n := j.val
  let ma := nth s.bal.command n 0
  let run := s.bit 0x1503 n
  if run = false ∧ nth s.bal.idleLeft n 0 = 0 then s
  else
    let left := if run then 0 else nth s.bal.idleLeft n 0 - 1
    let bad := sense ≠ 0
    let again := nth s.bal.shtBad n false
    let t := { s with bal := { s.bal with shtFrame := s.bal.shtFrame.set n (some (shuttleFrame run ma)),
                                          idleLeft := s.bal.idleLeft.set n left, shtBad := s.bal.shtBad.set n (decide bad) } }
    if bad then (if again then t.shtFault n (if sense.getLsbD 1 then 1 else 0) else t)
    else if again then t.transient 5 1 else t

/-! ## Assignments -/

/-- BAL_ASSIGNMENT_RECEIVED (R217): the assignment waits for its boundary; its lease runs from the receipt. -/
def balAssignmentReceived (items : List BalItem) (s : State) : State :=
  if s.up then { s with bal := { s.bal with waiting := some items, leased := some s.clk.ref } }.setBit 0x1501 4 false else s

/-- BAL_ASSIGNMENT_APPLY (R217): at a sequencer boundary outside a blanked span, outside an impedance segment (R195), and outside a probe,
during which every other switch and shuttle stays as it is (R227). -/
def balAssignmentApply (s : State) : State :=
  match s.bal.waiting with
  | some items =>
    if s.blanked || s.segmentRuns || s.bal.probe.isSome then s
    else ({ s with bal := { s.bal with waiting := none, assigned := items } }.setBit 0x1501 0 true).applyBudget
  | none => s

/-- BAL_LEASE_LAPSE (R217): the assignment lapses and LEASE is set. -/
def balLeaseLapse (s : State) : State :=
  if s.bal.leased.isSome then
    (({ s with bal := { s.bal with leased := none, waiting := none, assigned := [], applied := [] } }.setBit 0x1501 4 true).setBit 0x1501 0 false).balRefresh
  else s

/-- Eligible switches (R215): not held off under R206, no fault bit, coefficients valid. Lines probed above the limit bar both cells that share
them (R230). -/
def State.swEligible (s : State) (k : Nat) : Bool :=
  !s.balStopped && !s.swBarred k && !s.bit 0x151D k && s.bit 0x151B k && s.rd 0x1504 != 0 && s.bit 0x1500 0 && !s.balLapsed
    && !(s.bal.lineHigh.any fun l => l == k || l == k + 1)

/-- Eligible shuttles (R215). -/
def State.shtEligible (s : State) (j : Nat) : Bool := s.shtFree j && s.bit 0x1500 0 && !s.balLapsed

/-- A bit mask of the indices below `n` that satisfy a test. -/
def maskN (n : Nat) (p : Nat → Bool) : Nat := (List.range n).foldl (fun a k => a + b2n (p k) * 2 ^ k) 0


/-! ## Compensation and the report -/

/-- The absolute value of a rational. -/
def ratAbs (r : Rat) : Rat := if r < 0 then -r else r

/-- A cell's coefficients UP and DN in 0.1 mΩ, where valid (R223, R234). -/
def State.coef (s : State) (k : Nat) : Option (Nat × Nat) :=
  if s.bit 0x151B k then some (s.fld (0x1520 + k) 16 16, s.fld (0x1520 + k) 0 16) else none

/-- R223: the drop C_m in 100 µV for cell `m` with the given switches closed; V̂ of a switch's cell by `v`. -/
def State.dropOf (s : State) (sw : BitVec 24) (v : Nat → Int) (m : Nat) : Rat :=
  (List.range 24).foldl (fun a k =>
    if sw.getLsbD k then
      match s.coef k with
      | some (up, dn) =>
        let r : Rat := ((s.rd 0x1504).toNat * 10 + 10000 + up + dn : Nat)
        let i : Rat := (v k : Rat) / r
        if m == k then a - i * ((up + dn : Nat) : Rat)
        else if m == k + 1 then a + i * (up : Rat)
        else if m + 1 == k then a + i * (dn : Rat) else a
      | none => a
    else a) 0

/-- The size of the drop C_m (R225): the sum over closed switches of |I_s × e(s, m)| in 100 µV. -/
def State.dropSize (s : State) (sw : BitVec 24) (v : Nat → Int) (m : Nat) : Rat :=
  (List.range 24).foldl (fun a k => a + ratAbs (s.dropOf (sw &&& BitVec.ofNat 24 (2 ^ k)) v m)) 0

/-- R225: the bound in 100 µV of a compensated sample of cell `m` with the switches closed now: 1.5 % of the drop's size and 30 µV, and 0.2 % for
each °C by which the die lies further than 5 °C from `bal.probe.temp`. What the node cannot measure, the board's temperature and the time since
each probe, is taken as within the reference conditions (DESIGN CHOICE, log 108). -/
def State.dropBound (s : State) (m : Nat) : Int :=
  let size := s.dropSize (BitVec.ofNat 24 (s.fld 0x1502 0 24)) s.cellV m
  let far : Int := max 0 (((s.sfld 0x3001 0 16 - s.sfld 0x151A 0 16).natAbs : Int) - 50)
  let b : Rat := size * (15 / 1000 + (far : Rat) / 5000) + 3 / 10
  quot b.num b.den

/-- What this node reports to the plan (R215), with what the plan's rules take from it: the bound of R225 beside each compensated output (R216), the
switches stuck closed (R231), and from a shunt node the plan period, the rest time and for how long its current has stayed within `bal.rest.i`. -/
def State.report (s : State) : BalReport :=
  { node := s.fab.addr
    blank := (List.range s.cells).map fun k => (nth s.sense.blankOut k none).map fun x => (x.1, (s.clk.ref - x.2).toNat)
    sweep := (List.range s.cells).map fun k => (nth s.sense.sweepOut k none).map fun v => (v, s.dropBound k)
    soc := []
    headroom := s.budget - s.fld 0x1508 0 16
    sw := BitVec.ofNat 24 (maskN 24 s.swEligible)
    sht := BitVec.ofNat 23 (maskN 23 s.shtEligible)
    stuck := s.bal.stuckOn
    imax := s.fld 0x150B 0 16
    rest := if s.rd 0x1002 = 0 then none else
      some ⟨s.fld 0x1510 0 16, s.fld 0x1512 0 16, match s.bal.quiet with | some t => some (s.clk.ref - t).toNat | none => none⟩ }

/-- The bytes of a plan report; a value that is absent reads 0x8000_0000. The layout is the model's (log 22). -/
def reportBytes (r : BalReport) : List Byte :=
  let absent : List Byte := bytesBE 4 0x80000000
  let word (v : Int) : List Byte := bytesBE 4 (BitVec.ofInt 32 v).toNat
  r.blank.flatMap (fun x => match x with | some (v, age) => word v ++ bytesBE 8 age | none => absent ++ bytesBE 8 0)
    ++ r.sweep.flatMap (fun x => match x with | some (v, b) => word v ++ word b | none => absent ++ absent)
    ++ bytesBE 2 r.headroom ++ bytesBE 3 r.sw.toNat ++ bytesBE 3 r.sht.toNat ++ bytesBE 3 r.stuck.toNat ++ bytesBE 2 r.imax
    ++ match r.rest with
      | some x => bytesBE 2 x.period ++ bytesBE 2 x.time ++ (match x.quiet with | some t => [1] ++ bytesBE 8 t | none => [0] ++ bytesBE 8 0)
      | none => []

/-- BAL_REPORT (R215): the node sends its report to the node of its string's plan. -/
def balReport (plan : FAddr) (s : State) : State :=
  if s.up && s.fab.valid && !(plan == s.fab.addr) then s.sendTo tyJob plan (reportBytes s.report) else s

/-! ## The line-resistance probe -/

/-- The reference ticks that `n` SWEEP passes take from pass `p` of the first entry of a list on, none where the list ends or waits for a trigger
before. A pass without SWEEP takes its time and counts for nothing. -/
def sweepTicks (blank : Nat) : List Entry → Nat → Nat → Option Nat
  | _, _, 0 => some 0
  | [], _, _ + 1 => none
  | e :: rest, p, n + 1 =>
    let interval := 40 + bitsOf e.delay 0 20
    let left := bitsOf e.ctrl 0 12 - p
    if e.ctrl.getLsbD 29 && p == 0 then none
    else
      let lead := if e.ctrl.getLsbD 28 && p == 0 then blank else 0
      if e.ctrl.getLsbD 30 then
        if n + 1 ≤ left then some (lead + (n + 1) * interval)
        else (sweepTicks blank rest 0 (n + 1 - left)).map fun t => lead + left * interval + t
      else (sweepTicks blank rest 0 (n + 1)).map fun t => lead + left * interval + t

/-- R229: the running table gives `n` SWEEP passes within 500 µs (20,000 ticks), from some pass of it on. 500 µs hold at most 500 passes, so
four turns of the table and the last 500 passes of each entry are all that can matter. The Watch table and a stopped sequencer give none. -/
def State.tableProbes (s : State) (n : Nat) : Bool :=
  let es := s.seq.active.filter fun e => e.ctrl.getLsbD 31
  let runs := s.seq.phase == .running || s.seq.phase == .waiting || s.seq.phase == .leadIn
  let turns := (List.replicate (if es.isEmpty then 0 else 2 + 500 / es.length) es).flatten
  let quick (es : List Entry) (p : Nat) : Bool := match sweepTicks (40 * s.fld 0x1509 0 16) es p n with
    | some t => decide (t ≤ 20000)
    | none => false
  runs && decide (n ≤ 500) && (List.range es.length).any fun i =>
    let from_ := turns.drop i
    let count := match from_ with | e :: _ => bitsOf e.ctrl 0 12 | [] => 0
    quick from_ 0 || (List.range (min 500 count)).any fun k => quick from_ (count - 1 - k)

/-- R229: every switch is due for a probe: at Ready, every `bal.probe.period`, when the die has moved, and at PROBENOW. -/
def State.probeAll (s : State) : State := { s with bal := { s.bal with toProbe := BitVec.ofNat 24 (2 ^ s.cells - 1) } }

/-- R229 at a housekeeping round: the probe period has passed, or the die lies more than 5 °C from `bal.probe.temp` and has not set off a
probe in the last 10 minutes. -/
def State.probeRound (s : State) : State :=
  let now := s.clk.ref.toNat
  let period := s.fld 0x1518 0 16 * 60 * oneSecond
  let s1 := if period != 0 && decide (s.bal.probeAt.toNat + period ≤ now) then
      { s with bal := { s.bal with probeAt := s.clk.ref } }.probeAll
    else s
  let moved := s.rd 0x151A != 0x8000 && decide (50 < (s.sfld 0x3001 0 16 - s.sfld 0x151A 0 16).natAbs)
  let free := match s.bal.tempAt with | some t => decide (t.toNat + 600 * oneSecond ≤ now) | none => true
  if moved && free then { s1 with bal := { s1.bal with tempAt := some s.clk.ref } }.probeAll else s1

/-- PROBE_START (R229): the probe of a switch that is due starts when no other runs and table, resistor and budget allow it. -/
def probeStart (cell : Fin 24) (s : State) : State :=
  let k := cell.val
  let with_ := { s with bal := { s.bal with probe := some ⟨cell, 0, true, false, [], []⟩ } }
  if s.pwr.mode == .run && s.bal.toProbe.getLsbD k && s.bal.probe.isNone && s.rd 0x1504 != 0 && !s.swHeld k && !s.balStopped
      && !s.bal.stuckOn.getLsbD k && s.tableProbes (s.fld 0x1519 0 16) && with_.fits s.bal.applied then
    ({ s with bal := { s.bal with probe := some ⟨cell, 0, false, false, [], []⟩, toProbe := setBitV s.bal.toProbe k false } }.setBit 0x1501 2 true).balRefresh
  else s

/-- One refinement of R227 for cell `k` of `n` cells: new UP and DN in mΩ from the mean differences and the off value. -/
def probeStep (n k : Nat) (rbal : Rat) (voff : Rat) (d : Nat → Rat) (c : Rat × Rat) : Rat × Rat :=
  let r := (rbal + 1000 + c.1 + c.2) / voff
  if n = 1 then (-(d k) * r / 2, -(d k) * r / 2)
  else if k = 0 then (d 1 * r, -(d 0) * r - d 1 * r)
  else if k + 1 = n then (-(d k) * r - d (k - 1) * r, d (k - 1) * r)
  else (d (k + 1) * r, d (k - 1) * r)

/-- A resistance in mΩ as a coefficient in 0.1 mΩ. -/
def coefOf (r : Rat) : Nat := min 0xFFFF (quot (r * 10).num (r * 10).den).toNat


/-- The end of a probe: the probe bit falls and the switch returns to its assignment; a complete set records the temperature. -/
def State.probeEnd (s : State) : State := ({ s with bal := { s.bal with probe := none } }.setBit 0x1501 2 false).balRefresh

/-- R230: lines now below the limit are readmitted, lines above it raise LINERES. -/
def State.lineCheck (s : State) (line : Nat) (r : Rat) : State :=
  let keep := s.bal.lineHigh.filter fun l => !(l == line)
  if ((s.fld 0x151C 0 16 : Nat) : Rat) < r then
    { s with bal := { s.bal with lineHigh := keep ++ [line] } }.raise 40
      (pack [(0, 5, line), (16, 16, min 0xFFFF (quot r.num r.den).toNat)])
  else { s with bal := { s.bal with lineHigh := keep } }

/-- R227, R228: judge the four cycles of a switch and take its coefficients. -/
def State.probeJudge (s : State) (p : Probe) : State :=
  let k := p.cell.val
  let n := s.cells
  let np : Rat := (s.fld 0x1519 0 16 : Nat)
  let diff (m : Nat) (c : List Int × List Int) : Rat := ((nth c.2 m 0 - nth c.1 m 0 : Int) : Rat) / np
  let mean (m : Nat) : Rat := (p.done.foldl (fun a c => a + diff m c) 0) / 4
  let voff : Rat := (p.done.foldl (fun a c => a + ((nth c.1 k 0 : Int) : Rat)) 0) / (4 * np)
  let near := [k - 1, k, k + 1].filter fun m => decide (m < n)
  let agree := near.all fun m => p.done.all fun c =>
    decide (ratAbs (diff m c - mean m) ≤ ratAbs (mean m) / 50 + 1 / 5)
  if agree then
    let s0 := if p.again then s.transient 5 1 else s
    let rbal : Rat := ((s.rd 0x1504).toNat : Nat)
    let old : Rat × Rat := match s.coef k with
      | some (u, d) => ((u : Rat) / 10, (d : Rat) / 10)
      | none => (500, 500)
    if ratAbs (mean k) * 10 < ratAbs voff * (1000 + old.1 + old.2) / (rbal + 1000 + old.1 + old.2) then s0.probeEnd.swFault k 1
    else
      let c := probeStep n k rbal voff mean (probeStep n k rbal voff mean (0, 0))
      let s1 := s0.wr (0x1520 + k) (pack [(16, 16, coefOf c.1), (0, 16, coefOf c.2)])
      let s2 := (s1.setBit 0x151B k true).setFld 0x151A 0 16 (s1.fld 0x3001 0 16)
      ((s2.lineCheck (k + 1) c.1).lineCheck k c.2).probeEnd
  else if p.again then s.probeEnd
  else { s with bal := { s.bal with probe := some ⟨p.cell, 0, false, true, [], []⟩ } }.balRefresh

/-- PROBE_CYCLE_END (R227, R228): a half of a cycle ends with the sums of its `bal.probe.n` samples per cell; the first ends the off
half, the second the on half. A blanked span in the cycle restarts it. -/
def probeCycleEnd (off on : List Int) (s : State) : State :=
  match s.bal.probe with
  | none => s
  | some p =>
    if s.blanked then { s with bal := { s.bal with probe := some { p with on := false, off := [] } } }.balRefresh
    else if p.on then
      let q := { p with on := false, off := [], cycle := p.cycle + 1, done := p.done ++ [(p.off, on)] }
      let t := { s with bal := { s.bal with probe := some q } }.balRefresh
      if q.cycle = 4 then t.probeJudge q else t
    else { s with bal := { s.bal with probe := some { p with on := true, off := off } } }.balRefresh

/-! ## The blocking plan -/

/-- v of a cell (R216): for a SOC goal its state of charge; for a SPREAD goal its BLANK output, if not older than one plan period, else its
compensated output minus the bound of R225. `period` is the plan period in reference ticks. -/
def repValue (soc : Bool) (period : Nat) (r : BalReport) (c : Nat) : Option Int :=
  if soc then nth r.soc c none
  else
    let comp := (nth r.sweep c none).map fun x => x.1 - x.2
    match nth r.blank c none with
    | some (v, age) => if age ≤ period then some v else comp
    | none => comp

/-- Insert by falling rank, behind items of equal rank. -/
def insertRank : Int × BalItem → List (Int × BalItem) → List (Int × BalItem)
  | x, [] => [x]
  | x, y :: t => if y.1 < x.1 then x :: y :: t else y :: insertRank x t

/-- R216: one node's bleeds and commands, highest rank first, for the value of each of its cells, the lowest value of the string and the target. A
cell whose switch is stuck closed is treated as bled (R231). -/
def planItems (value : Nat → Option Int) (lo target : Int) (r : BalReport) : List BalItem :=
  let bl := (List.range 24).filterMap fun c =>
    match value c with
    | some v => if r.stuck.getLsbD c || (r.sw.getLsbD c && decide (2 * (v - lo) > target)) then some (v - lo, BalItem.bleed (Fin.ofNat 24 c)) else none
    | none => none
  let sh := (List.range 23).filterMap fun j =>
    match value j, value (j + 1) with
    | some a, some b =>
      let d := a - b
      if r.sht.getLsbD j && decide (4 * (if d < 0 then -d else d) > target) then
        some ((if d < 0 then -d else d), BalItem.shuttle (Fin.ofNat 23 j) (if d < 0 then (r.imax : Int) else -(r.imax : Int)))
      else none
    | _, _ => none
  ((bl ++ sh).foldl (fun l x => insertRank x l) []).map (·.2)

/-- The bytes of an assignment (R216): kind, index and signed current of each item in order. The layout is the model's (log 22). -/
def itemBytes (items : List BalItem) : List Byte :=
  items.flatMap fun i => match i with
    | .bleed c => [0, BitVec.ofNat 8 (c.val + 1), 0, 0]
    | .shuttle j ma => [1, BitVec.ofNat 8 (j.val + 1)] ++ bytesBE 2 (BitVec.ofInt 16 ma).toNat

/-- Send an assignment to a node, or take it oneself. -/
def State.sendItems (s : State) (a : FAddr) (items : List BalItem) : State :=
  if a == s.fab.addr then balAssignmentReceived items s else s.sendTo tyJob a (itemBytes items)

/-- Send one node's assignment and remember it, so that it can be renewed unchanged. -/
def State.planSend (s : State) (slot : Fin 32) (a : FAddr) (items : List BalItem) : State :=
  let keep := s.bal.planned.filter fun (x : Fin 32 × FAddr × List BalItem) => !(x.1 == slot && x.2.1 == a)
  { s with bal := { s.bal with planned := keep ++ [(slot, a, items)] } }.sendItems a items

/-- Whether this node runs a job (R313). -/
def State.runs (s : State) (k : JobKey) : Bool := s.plc.jobs.any fun j => j.key == k && !j.paused

/-- R218: BALGOAL at the first evaluation with the spread within the target, cleared at the first above 1.25 × target. -/
def State.goalCheck (s : State) (slot : Fin 32) (g : Goal) (spread : Int) : State :=
  let target : Int := g.arg1.toNat
  let data := pack [(0, 6, g.string.toNat), (8, 1, if g.kind == 2 then 1 else 0), (16, 16, min 0xFFFF spread.toNat)]
  if slot ∈ s.bal.goals then
    if 4 * spread > 5 * target then { s with bal := { s.bal with goals := s.bal.goals.erase slot } }.raiseC 36 data true else s
  else if spread ≤ target then { s with bal := { s.bal with goals := s.bal.goals ++ [slot] } }.raise 36 data
  else s

/-- What the reports say of rest (R215, R216): the copies of the shunt node. -/
def restOf (reports : List BalReport) : Option BalRest := (reports.filterMap (·.rest)).head?

/-- R216: the string is at rest while the shunt node's current has stayed within ±`bal.rest.i` for `bal.rest.t`. -/
def atRest (reports : List BalReport) : Bool :=
  match restOf reports with
  | some x => match x.quiet with | some t => decide (x.time * oneSecond ≤ t) | none => false
  | none => false

/-- The plan period in reference ticks: the shunt node's copy (R215); without one, this node's own. -/
def State.planTicks (s : State) (reports : List BalReport) : Nat :=
  (match restOf reports with | some x => x.period | none => s.fld 0x1510 0 16) * oneSecond

/-- BAL_PLAN_EVALUATE (R216, R218): the plan of a goal slot evaluates the reports and sends the assignments; a SPREAD goal without
rest renews every assignment unchanged. -/
def balPlanEvaluate (slot : Fin 32) (reports : List BalReport) (s : State) : State :=
  match nth s.plc.goals slot.val none with
  | none => s
  | some g =>
    if !(s.up && (g.kind == 1 || g.kind == 2) && s.runs ⟨1, slot⟩) then s
    else if g.kind == 1 && !atRest reports then
      (s.bal.planned.filter fun (x : Fin 32 × FAddr × List BalItem) => x.1 == slot).foldl (fun t x => t.sendItems x.2.1 x.2.2) s
    else
      let value := repValue (g.kind == 2) (s.planTicks reports)
      match reports.flatMap fun r => (List.range 24).filterMap (value r) with
      | [] => s
      | v :: vs =>
        let lo := vs.foldl min v
        let hi := vs.foldl max v
        (reports.foldl (fun t r => t.planSend slot r.node (planItems (value r) lo g.arg1.toNat r)) s).goalCheck slot g (hi - lo)

end Sys2Proof.Machine
end

