-- ==== Sys2Proof/Machine/Lanes.lean ====
section
/-! DEFINITION. Conversion lanes, result words, filters and streams (R97 to R144), and the correction of a result (R163). A
reference tick is 25 ns; lane clock n has its edge at reference tick 4n. -/
namespace Sys2Proof.Machine

/-! ## Runs of consecutive samples -/

/-- Count one sample of a condition that sets after `n` hits in a row and clears after `n` misses in a row; `some true` when it
sets, `some false` when it clears. -/
def Run.count (r : Run) (bad : Bool) (n : Nat) : Run × Option Bool :=
  if bad then
    let h := r.hits + 1
    if !r.active && decide (n ≤ h) then (⟨h, 0, true⟩, some true) else (⟨h, 0, r.active⟩, none)
  else
    let m := r.misses + 1
    if r.active && decide (n ≤ m) then (⟨0, m, false⟩, some false) else (⟨0, m, r.active⟩, none)

/-! ## Entries of the sequence table -/

/-- An entry that is all 0. -/
def noEntry : Entry := ⟨0, 0, 0, 0⟩

/-- The fields of an entry (R145, R161). -/
def Entry.en (e : Entry) : Bool := e.ctrl.getLsbD 31
def Entry.sweep (e : Entry) : Bool := e.ctrl.getLsbD 30
def Entry.wait (e : Entry) : Bool := e.ctrl.getLsbD 29
def Entry.blank (e : Entry) : Bool := e.ctrl.getLsbD 28
def Entry.tsel (e : Entry) : Nat := bitsOf e.ctrl 26 2
def Entry.count (e : Entry) : Nat := bitsOf e.ctrl 0 12
def Entry.dly (e : Entry) : Nat := bitsOf e.delay 0 20
/-- Channel `c` is selected by the scan mask. -/
def Entry.selects (e : Entry) (c : Nat) : Bool := if c < 32 then e.mask0.getLsbD c else e.mask1.getLsbD (c - 32)
/-- The non-fast channels an entry selects, ascending. -/
def Entry.slow (e : Entry) : List Nat := ((List.range 58).filter fun c => decide (26 ≤ c) && e.selects c)
/-- The base time B (R147). -/
def Entry.base (e : Entry) : Nat := if e.sweep then 40 else max 4 (4 * ((e.slow.length + 3) / 4))
/-- The pass interval I (R147). -/
def Entry.interval (e : Entry) : Nat := e.base + e.dly

/-! ## Settings of a conversion -/

/-- The gain code in force for a channel (R102, R104). -/
def State.gainOf (s : State) (c : Nat) : Nat :=
  if c = 24 then s.sense.gain.toNat % 4 else if c = 25 then s.sense.gain.toNat / 4
  else if 27 ≤ c ∧ c ≤ 42 then s.fld (0x1010 + (c - 27)) 2 1 else 0

/-- Window and order in force for a channel's filter; window 0 stands for tracking (R123, R128). While the Watch table runs, the fast channels take
window COUNT_W at order 1 and the auxiliary ones window 1 (R159); every other channel keeps its own setting. -/
def State.filterSet (s : State) (c : Nat) : Nat × Bool :=
  let w := s.rd (0x1150 + c)
  let own := if w.getLsbD 17 then 0 else bitsOf w 0 16 + 1
  if s.seq.phase == .watch then
    (if c < 26 then (s.seq.wCount, false) else if 27 ≤ c ∧ c ≤ 42 then (1, w.getLsbD 16) else (own, w.getLsbD 16))
  else (own, w.getLsbD 16)

/-- The lane that carries lane number `n` (R118): L4 where it replaces it. -/
def State.lane (s : State) (n : Nat) : Fin 5 := if s.fld 0x1100 8 3 = n then 4 else Fin.ofNat 5 n

/-- A fast sample of cell `c` (from 0) is SETTLING while its switch is shorted (R113) or a pulse is on one of its lines (R111). -/
def State.settles (s : State) (c : Nat) : Bool :=
  decide (c < 24) && (s.bit 0x1006 c || s.sense.pulsed.any fun l => l == c || l == c + 1)

/-- A reference tick as the time a result carries: fabric ticks, or reference ticks since reset (R137). -/
def State.tickTime (s : State) (t : Nat) : DWord :=
  if s.fab.hasTime then s.clk.fabric + (BitVec.ofNat 64 t - s.clk.ref) else BitVec.ofNat 64 t

/-- A conversion of channel `c`, sampled at a reference tick, with the settings in force now. -/
def State.newConv (s : State) (clk : Nat) (lane : Fin 5) (c pass at_ : Nat) (deliver sweep blank : Bool) (dest : Dest) : Conversion :=
  { clk := clk, lane := lane, chan := c, pass := pass, time := s.tickTime at_, isLocal := !s.fab.hasTime, at_ := at_, cal := s.rd 0x1302,
    gain := s.gainOf c, window := (s.filterSet c).1, order2 := (s.filterSet c).2, restart := decide (c ∈ s.conv.refresh), deliver := deliver,
    sweep := sweep, settle := s.settles c, redone := false, blank := blank, sw := BitVec.ofNat 24 (s.fld 0x1502 0 24), dest := dest }

/-- Insert a conversion into the plan by its lane clock. -/
def insertConv (x : Conversion) : List Conversion → List Conversion
  | [] => [x]
  | y :: t => if x.clk < y.clk then x :: y :: t else y :: insertConv x t

/-- Sweep slots (R117): slot ⌊c / 4⌋ on lane (c + r) mod 4, from the first edge after the aperture of 8 ticks has closed. -/
def sweepSlots (start r : Nat) : List (Nat × Nat × Nat) :=
  (List.range 26).map fun c => ((start + 8) / 4 + 1 + c / 4, (c + r) % 4, c)

/-- The earliest clock from `clk` on with a free lane, and the lowest-numbered lane free there (R119). -/
def freeSlot (occ : List (Nat × Nat)) : Nat → Nat → Nat × Nat
  | 0, clk => (clk, 0)
  | n + 1, clk =>
    match (List.range 4).find? fun l => !(occ.contains (clk, l)) with
    | some l => (clk, l)
    | none => freeSlot occ n (clk + 1)

/-- Place non-fast channels in ascending order (R119): every clock before the last one taken is full. -/
def placeSlow (occ : List (Nat × Nat)) (from_ : Nat) : List Nat → List (Nat × Nat × Nat)
  | [] => []
  | c :: t =>
    let p := freeSlot occ (occ.length + 1) from_
    (p.1, p.2, c) :: placeSlow (p :: occ) p.1 t

/-- Conversions of a lane among 10 lane clocks from `c` on. -/
def laneLoad (slots : List (Nat × Nat)) (lane c : Nat) : Nat :=
  (slots.filter fun y => y.2 == lane && decide (c ≤ y.1) && decide (y.1 < c + 10)).length

/-- R151: place one conversion of a housekeeping round from clock `c` on, within `span` clocks, where the lane's limit of 8 in 10 admits it. -/
def placeRound (slots : List (Nat × Nat)) (c span : Nat) : Option (Nat × Nat) :=
  let at_ := (List.range span).flatMap fun k => [0, 1, 2, 3].map fun l => (c + k, l)
  at_.find? fun p => !(slots.contains p) && (List.range 10).all fun d => decide (laneLoad slots p.2 (p.1 - d) < 8)

/-- The conversions of one pass of an entry that starts at a reference tick: (lane clock, lane number, channel) (R117, R119, R147). -/
def passSlots (occ : List (Nat × Nat)) (e : Entry) (start r : Nat) : List (Nat × Nat × Nat) :=
  let sw := if e.sweep then sweepSlots start r else []
  let first := if e.sweep then (start + 8) / 4 + 1 else (start + 3) / 4
  sw ++ placeSlow (occ ++ sw.map fun x => (x.1, x.2.1)) first e.slow

/-- The lane number of a planned conversion. -/
def State.laneNo (s : State) (l : Fin 5) : Nat := if l.val = 4 then s.fld 0x1100 8 3 else l.val

/-- The lane clocks and lane numbers that conversions take or have just taken (R119). -/
def State.occupied (s : State) : List (Nat × Nat) := (s.conv.plan.map fun c => (c.clk, s.laneNo c.lane)) ++ s.conv.busy

/-- The later of a lane clock and the clocks of some conversions. -/
def lastClock (old : Option Nat) (cs : List Conversion) : Option Nat :=
  cs.foldl (fun m k => some (max (m.getD 0) k.clk)) old

/-- A free choice among a list's elements, drawn by `n`. -/
def freePick {α : Type} (l : List α) (n : Nat) : Option α := l[Config.freeNat n % l.length]?

/-- R166: what Patina converts in lane clock `clk`: in 3 of 4 clocks a fast channel of the latest sweep that is still held after its slot
conversion, which one being free; else the next loop-back channel. -/
def State.patinaChoice (s : State) (clk : Nat) : Nat × Nat :=
  let z := s.pat.sweep.1
  let held := (List.range 26).filter fun c => decide (z + c / 4 < clk)
  match (if clk % 4 ≠ 0 ∧ clk ≤ z + 6 then freePick held s.free else none) with
  | some c => (c, s.pat.sweep.2)
  | none => (54 + s.pat.nextLb, 0)

/-- Plan one conversion of Patina on a lane (R166, R167). -/
def State.patinaPlan (s : State) (lane : Fin 5) (clk : Nat) : State :=
  let x := s.patinaChoice clk
  let k := s.newConv clk lane x.1 x.2 (4 * clk) false false false .patina
  { s with free := s.free + 1, conv := { s.conv with plan := insertConv k s.conv.plan },
           pat := { s.pat with nextLb := if x.1 < 26 then s.pat.nextLb else (s.pat.nextLb + 1) % 4 } }

/-- Background Patina runs (R169). -/
def State.patinaRuns (s : State) : Bool := s.pwr.mode == .run && s.bit 0x1300 0

/-- R166: while it replaces no lane, L4 converts Patina's channels in the clocks in which a sweep's samples are held. -/
def State.patinaSweep (s : State) : State :=
  if s.patinaRuns && s.fld 0x1100 8 3 == 7 then
    (List.range 6).foldl (fun t i => t.patinaPlan 4 (s.pat.sweep.1 + 1 + i)) s
  else s

/-- R102: the gains in force follow `sense.i.gain` at a sweep's aperture. -/
def State.takeGain (s : State) : State := { s with sense := { s.sense with gain := BitVec.ofNat 4 (s.fld 0x1001 0 4) } }

/-- Plan one pass (R146, R147): every channel it converts, with its sampling time 100 ns after the aperture's start (R99). A sweep takes the gains
of R102 and gives L4 its samples (R166). -/
def State.planPass (s0 : State) (e : Entry) (start : Nat) : State :=
  let s := if e.sweep then s0.takeGain else s0
  let pass := s.conv.passNo
  let slots := passSlots s.occupied e start (s.fld 0x1101 0 2)
  let cs := slots.map fun x =>
    let fast := decide (x.2.2 < 26)
    s.newConv x.1 (s.lane x.2.1) x.2.2 pass (if fast then start + 4 else 4 * x.1) (!fast || e.selects x.2.2) fast e.blank .table
  let done := (cs.filter (·.restart)).map (·.chan)
  let t := { s with conv := { s.conv with plan := cs.foldl (fun l c => insertConv c l) s.conv.plan, passNo := pass + 1,
                                          lastTable := lastClock s.conv.lastTable cs,
                                          refresh := s.conv.refresh.filter fun c => !(done.contains c) } }
  if e.sweep then { t with pat := { t.pat with sweep := ((start + 8) / 4 + 1, pass) } }.patinaSweep else t

/-- A change of an auxiliary channel's gain or of a filter's settings reaches the planned conversions that have not started yet (R104, R126); those of
a fast channel keep what its sweep took. -/
def State.replan (s : State) (c : Nat) : State :=
  if c < 26 then s
  else { s with conv := { s.conv with plan := s.conv.plan.map fun k =>
           if k.chan = c ∧ s.clk.ref.toNat < 4 * k.clk then
             { k with gain := s.gainOf c, window := (s.filterSet c).1, order2 := (s.filterSet c).2 }
           else k } }

/-! ## Correction -/

/-- The calibration value `id` as it stood when `pat.count` was `n` (R163). -/
def State.calAt (s : State) (n : Word) (id : Nat) : Word :=
  match s.pat.past.find? fun p => p.2.1 == id && decide (n.toNat ≤ p.1.toNat) with
  | some p => p.2.2
  | none => s.rd id

/-- A signed word. -/
def wordInt (w : Word) : Int := w.toInt

/-- Half-words of the die readings (R345). -/
def State.dieT (s : State) (n : Nat) : Int := s.sfld (0x3002 + n / 2) (16 * (n % 2)) 16

/-- The die sensors that are read and not excluded (R333, R334). -/
def State.dieUsed (s : State) : List Nat :=
  (List.range 6).filter fun n => !s.bit 0x3000 (8 + n) && decide (s.dieT n ≠ -32768)

/-- T − 25 °C for R163, with T the mean of the sensors not excluded; 0 before the first round. -/
def State.dieDelta (s : State) : Rat :=
  match s.dieUsed with
  | [] => 0
  | l => ((l.foldl (fun a n => a + s.dieT n) 0 : Int) : Rat) / (10 * (l.length : Nat) : Rat) - 25

/-- The ends of the range a channel delivers (R97). -/
def chanRange (c : Nat) : Int × Int :=
  if c < 24 then (-10000, 55000) else if c < 26 then (-32768, 32767) else if 43 ≤ c ∧ c ≤ 48 then (-8192, 32640) else (0, 65535)

/-- R98: what a channel's processing adds to a raw code: the level shift of a cell, the offset of an unsigned channel. -/
def chanShift (c : Nat) : Int := if c < 24 then 22500 else if c < 26 ∨ (43 ≤ c ∧ c ≤ 48) then 0 else 32768

/-- A gain word as a factor: 0x4000_0000 is 1. -/
def gainRat (w : Word) : Rat := (w.toNat : Rat) / (2 ^ 30 : Nat)

/-- The channel's offset and gain words, and the gain-2 ratio, for its gain code (R163, step 5). -/
def State.chanCal (s : State) (n : Word) (c gain : Nat) : Int × Rat :=
  let off (id : Nat) := wordInt (s.calAt n id)
  let g (id : Nat) := gainRat (s.calAt n id)
  if (c = 24 ∨ c = 25) ∧ gain ≠ 0 then
    let b := 0x13D5 + 4 * (c - 24) + 2 * (gain - 1)
    (off (b + 1), g b)
  else if 27 ≤ c ∧ c ≤ 42 ∧ gain = 1 then (off (0x1362 + 2 * c), g (0x1361 + 2 * c) * g (0x13DD + (c - 27)))
  else (off (0x1362 + 2 * c), g (0x1361 + 2 * c))

/-- The dither in a lane's input at a lane clock (R164), in raw LSB: 64 or −64 by a sequence of 32,767 lane clocks, each lane at its own phase. -/
def dither (lane : Fin 5) (clk : Nat) : Int :=
  if Config.ditherBit ((clk + lane.val * (Config.ditherStep.val + 1)) % 32767) then 64 else -64

/-- Where a calibration bank lies (R16). -/
def calBank (b : Bool) : Nat := if b then 0x200C1000 else 0x200C0000

/-- The bank `pat.commit.info` shows in force; none while the nominal set stands (R180, R185). -/
def State.calBankOn (s : State) : Option Bool := if s.fld 0x1306 0 2 = 0 then none else some (s.bit 0x1306 3)

/-- A value of a calibration bank, or the nominal one (R179, R180). -/
def State.bankValue (s : State) (bank : Option Bool) (id : Nat) : Word :=
  match bank with | some b => s.ldWord (calBank b + 24 + 4 * (id - 0x1320)) | none => resetParam id

/-- R163: a raw code without its dither (R164) corrected in order: stage gains, a lane offset and gain, reference A, the channel's processing,
channel offset and gain; in delivered LSB, before rounding. -/
def State.correctWith (s : State) (k : Conversion) (off gain : Word) (code : Int) : Rat :=
  let stages := (List.range 11).map fun i => s.calAt k.cal (0x1320 + 11 * k.lane.val + i)
  let raw : Int := if stages.all (· == 0x40000000) then code * 256 else Config.recombine stages code
  let v1 : Rat := ((raw - wordInt off : Int) : Rat) * gainRat gain
  let dt := s.dieDelta
  let a : Rat := (wordInt (s.calAt k.cal 0x13F2) : Rat) / (10 ^ 9 : Nat)
  let b : Rat := (wordInt (s.calAt k.cal 0x13F3) : Rat) / (10 ^ 10 : Nat)
  let v2 := v1 / (1 + a * dt + b * dt * dt)
  let c := s.chanCal k.cal k.chan k.gain
  ((v2 + (chanShift k.chan * 256 : Int)) - (c.1 : Rat)) * c.2 / 256

/-- R163 with the lane values in force when the sample was taken. -/
def State.correct (s : State) (k : Conversion) (code : Int) : Rat :=
  s.correctWith k (s.calAt k.cal (0x1357 + k.lane.val)) (s.calAt k.cal (0x135C + k.lane.val)) code

/-- A rational as an integer: exact, or one of its two neighbours (R163 states no rounding). -/
def ratInt (r : Rat) : Int := quot r.num r.den

/-- A value held within the range of its channel. -/
def clampTo (r : Int × Int) (v : Int) : Int := max r.1 (min r.2 v)

/-- The value a conversion delivers for its lane's code: the lowest of its range for −32,768 (R116), else the code less its dither, corrected
(R163, R164). -/
def State.delivered (s : State) (k : Conversion) (code : BitVec 16) : Int :=
  if code = 0x8000 then (chanRange k.chan).1
  else clampTo (chanRange k.chan) (ratInt (s.correct k (code.toInt - dither k.lane k.clk)))

/-- R121: the cases of CLIPPED. -/
def clippedOf (c : Nat) (code : BitVec 16) (v : Int) : Bool :=
  let r := chanRange c
  code == 0x8000 || code == 0x7FFF
    || (if c < 24 then v == r.1 || v == r.2 else if c < 26 then false
        else if 27 ≤ c ∧ c ≤ 42 then v == 65535 else v == r.1 || v == r.2)

/-! ## Filters -/

/-- Precedence of tags (R120). -/
def Tag.rank : Tag → Nat
  | .valid => 0
  | .redone => 1
  | .settling => 2
  | .clipped => 3

/-- The tag of higher precedence (R120). -/
def Tag.worse (a b : Tag) : Tag := if a.rank < b.rank then b else a

/-- TAG of the result word (R120). -/
def Tag.code : Tag → Nat
  | .valid => 0
  | .settling => 1
  | .redone => 2
  | .clipped => 3

/-- Outputs tagged SETTLING after a gain change (R125) for a window and an order. -/
def gainOutputs (w order : Nat) : Nat := if w = 1 then 3 else if w = 2 then order + 1 else order

/-- The triangular sum of order 2 over 2W − 1 samples, newest first (R123). -/
def triangle (w : Nat) (l : List (Int × Tag)) : Int :=
  (l.zipIdx.foldl (fun a x => a + x.1.1 * ((min (x.2 + 1) (2 * w - 1 - x.2) : Nat) : Int)) 0)

/-- What a filter hands on: tag, numerator, denominator. -/
abbrev FilterOut := Option (Tag × Int × Nat)

/-- One sample into a filter whose settings are in force (R123, R124): the filter, and an output when the window is complete.
`free` draws the value of an order-2 output whose window reaches back before a restart. -/
def Filter.push (f : Filter) (free : Nat) (v : Int) (tag : Tag) : Filter × FilterOut :=
  let keep := if f.order2 then 2 * f.window - 1 else f.window
  let win := ((v, tag) :: f.win).take keep
  let left := f.gainLeft - 1
  if f.count + 1 < f.window then ({ f with win := win, count := f.count + 1, gainLeft := left }, none)
  else
    let t0 := win.foldl (fun t (x : Int × Tag) => t.worse (if x.2 == .redone && decide (2 ≤ f.window) then .valid else x.2)) Tag.valid
    let t1 := if 0 < f.settle then t0.worse .settling else t0
    let out :=
      if f.order2 then
        if win.length = keep then (t1, triangle f.window win, f.window * f.window) else (t1, Config.partialOutput free, 1)
      else (t1, win.foldl (fun a (x : Int × Tag) => a + x.1) 0, f.window)
    ({ f with win := win, count := 0, gainLeft := left, settle := f.settle - 1 }, some out)

/-- R128: the window tracking asks for, from M, P and Tc = ticks / passes; halves round towards +∞. A channel the running table never delivers has
no Tc: the model asks for window 1 (DESIGN CHOICE, log 112). -/
def State.trackedWindow (s : State) (c : Nat) : Nat :=
  let m := s.fld 0x1106 0 8
  let p := (s.rd 0x1107).toNat
  let tc := nth s.conv.tc c (0, 0)
  if tc.1 = 0 ∨ tc.2 = 0 then 1
  else max 1 (min 65536 ((2 * m * p * tc.2 + tc.1) / (2 * tc.1)))

/-- The window a sample asks its filter to have, and whether a change to it may pass without a restart (R126, R128, R129). While tracking is lost a
filter keeps its window, and one without a window takes that of WINM1. -/
def State.windowAsked (s : State) (f : Filter) (k : Conversion) : Nat × Bool :=
  if k.window ≠ 0 then (k.window, false)
  else if s.rd 0x1107 = 0 ∨ (s.conv.lost ∧ f.window = 0) then (s.fld (0x1150 + k.chan) 0 16 + 1, false)
  else if s.conv.lost ∨ (f.window ≠ 0 ∧ f.count ≠ 0) then (f.window, true)
  else (s.trackedWindow k.chan, true)

/-- R125, R126: bring a filter to the settings of a sample; the cause of the restart, if it restarts. At window 1 the three samples after a gain
change carry their tags through. -/
def State.filterAdapt (s : State) (f : Filter) (k : Conversion) : Filter × Option Nat :=
  let ask := s.windowAsked f k
  let ord := if k.order2 then 2 else 1
  if f.window = 0 then ({ f with window := ask.1, order2 := k.order2, gain := k.gain }, none)
  else
    let gainNew := k.gain != f.gain
    let small := ask.2 && decide (50 * (if ask.1 < f.window then f.window - ask.1 else ask.1 - f.window) ≤ f.window)
    let wideNew := ask.1 != f.window && !small
    let setNew := wideNew || k.order2 != f.order2 || k.restart
    let f1 := { f with window := ask.1, order2 := k.order2, gain := k.gain }
    if gainNew || setNew then
      let outs := max (if gainNew && ask.1 != 1 then gainOutputs ask.1 ord else 0) (if setNew then ord else 0)
      let cause := if gainNew && setNew then 3 else if gainNew then 0
        else if ask.2 && wideNew && k.order2 == f.order2 && !k.restart then 2 else 1
      ({ f1 with win := [], count := 0, settle := outs, gainLeft := if gainNew then 3 else f.gainLeft }, some cause)
    else (f1, none)

/-! ## Streams -/

/-- First parameter of a stream (R144). -/
def streamId (n : Nat) : Nat := 0x1110 + 8 * n

/-- HEAD − TAIL of a stream. -/
def State.fill (s : State) (n : Nat) : Nat := (s.rd (streamId n + 3) - s.rd (streamId n + 4)).toNat

/-- Change what a stream holds. -/
def State.setStream (s : State) (n : Nat) (f : Stream → Stream) : State :=
  { s with conv := { s.conv with streams := alter s.conv.streams n f } }

/-- Stage a word for every enabled stream; the stream's mask selects when its burst starts (R137, R141). A stream that takes fabric sweep
records takes no filter outputs (R296). -/
def State.stageAll (s : State) (w : StageWord) : State :=
  (List.range 8).foldl (fun s n => if s.bit (streamId n) 0 && !(s.bit 0x2033 3 && s.fld 0x2033 0 3 == n) then s.setStream n fun t => { t with stage := t.stage ++ [w] } else s) s

/-- The watermark in force of a stream (R141). -/
def State.wmOf (s : State) (n : Nat) : Nat := ((s.conv.streams[n]?).map (·.wm)).getD 0

/-- TAIL has moved: the watermark re-arms when HEAD − TAIL falls below it (R138). -/
def State.tailMoved (s : State) (n : Nat) : State :=
  if s.fill n < s.wmOf n then s.setStream n fun t => { t with armed := true } else s

/-- R138: the watermark is raised once and re-arms below it. -/
def State.watermark (s : State) (n : Nat) : State :=
  let f := s.fill n
  let wm := s.wmOf n
  let armed := ((s.conv.streams[n]?).map (·.armed)).getD false
  if wm ≤ f then
    if armed then
      let t := s.setStream n fun t => { t with armed := false }
      (State.notifyFrom t { t with host := { t.host with intStream := true } }).raise 20 (pack [(0, 3, n), (8, 19, f)])
    else s
  else s.setStream n fun t => { t with armed := true }

/-- Insert a staged word by its channel. -/
def insertWord (w : StageWord) : List StageWord → List StageWord
  | [] => [w]
  | x :: t => if w.chan < x.chan then w :: x :: t else x :: insertWord w t

/-- Value width W (R122). -/
def valueWidth (c : Nat) : Nat := if c < 24 then 17 else 16

/-- The channel's natural format is signed (R122). -/
def chanSigned (c : Nat) : Bool := decide (c < 26) || (decide (43 ≤ c) && decide (c ≤ 48))

/-- DATA of a result word (R122): right aligned, rounded to nearest with halves towards +∞; left aligned with the fraction truncated. -/
def placeData (align signed : Bool) (c : Nat) (num : Int) (den : Nat) : BitVec 24 :=
  let n := if signed && !chanSigned c then num - 32768 * (den : Int) else num
  if align then BitVec.ofInt 24 ((n * 2 ^ (24 - valueWidth c)) / (den : Int)) else BitVec.ofInt 24 (nearest n den)

/-- A result word (R120). -/
def resultWord (tag : Tag) (c : Nat) (data : BitVec 24) : Word := pack [(30, 2, tag.code), (24, 6, c), (0, 24, data.toNat)]

/-- The two markers of a burst (R137): time[23:0] on channel 61 and time[47:24] on channel 62, SETTLING without fabric time. -/
def markers (time : DWord) (isLocal : Bool) : List Word :=
  let tag : Tag := if isLocal then .settling else .valid
  [resultWord tag 61 (BitVec.ofNat 24 time.toNat), resultWord tag 62 (BitVec.ofNat 24 (time.toNat / 2 ^ 24))]

/-- Write words at a stream's HEAD into its circular buffer and advance HEAD (R136, R137). -/
def State.streamPut (s : State) (n : Nat) (ws : List Word) : State :=
  let base := (s.rd (streamId n + 1)).toNat
  let len := (s.rd (streamId n + 2)).toNat
  let head := (s.rd (streamId n + 3)).toNat
  let t := ws.zipIdx.foldl (fun s x => s.stWord (base + 4 * ((head + x.2) % len)) x.1) s
  t.wr (streamId n + 3) (s.rd (streamId n + 3) + BitVec.ofNat 32 ws.length)

/-- Words lost are counted in LOST and for the next CONVOVF (R139, R143). -/
def State.streamLose (s : State) (n k : Nat) : State :=
  (s.addSat (streamId n) 16 16 k).setStream n fun t => { t with lost := t.lost + k }

/-- CONVOVF with the words lost since the last one (R143). -/
def State.convOvf (s : State) (n : Nat) : State :=
  let lost := ((s.conv.streams[n]?).map (·.lost)).getD 0
  (s.setStream n fun t => { t with lost := 0 }).raise 7 (pack [(0, 3, n), (16, 16, min 0xFFFF lost)])

/-- CONVOVF at most once per second and stream (R139, OVERWRITE). -/
def State.convOvfSlow (s : State) (n : Nat) : State :=
  if s.ev.lastRaise.any (fun (r : Nat × Nat × DWord) => r.1 == 7 && r.2.1 == n && s.recent r.2.2) then s
  else
    let keep := s.ev.lastRaise.filter fun (r : Nat × Nat × DWord) => !(r.1 == 7 && r.2.1 == n)
    { s with ev := { s.ev with lastRaise := keep ++ [(7, n, s.clk.ref)] } }.convOvf n

/-- Remove the staged words of a pass. -/
def Stream.drop (t : Stream) (pass : Nat) : Stream :=
  { t with stage := t.stage.filter fun w => !(w.pass == pass), burst := none }

/-- R137, R139: write the next piece of a burst whose words and settings are known; with the last piece the pass's other words go, which the burst's
mask did not select. -/
def State.pieceWrite (s : State) (n pass : Nat) (t : Stream) (words : List StageWord) : State :=
  let piece := words.take 30
  let rest := words.drop 30
  let last := words.getLast?
  let marks (w : Option StageWord) : List Word :=
    match t.mark, w with
    | true, some w => markers w.time w.isLocal
    | _, _ => []
  let ws := piece.map (fun w => resultWord w.tag w.chan (placeData t.align t.signed w.chan w.num w.den))
    ++ (if rest.isEmpty then marks last else [])
  let total := words.length + (marks last).length
  let len := (s.rd (streamId n + 2)).toNat
  let room := len - s.fill n
  let keep := if rest.isEmpty then t.drop pass else { t with stage := t.stage.filter fun w => !(piece.contains w), burst := some pass }
  if ws.length ≤ room then ((s.setStream n fun _ => keep).streamPut n ws).watermark n
  else if t.policy then
    let s1 := ((s.setStream n fun _ => keep).wr (streamId n + 4) (s.rd (streamId n + 4) + BitVec.ofNat 32 (ws.length - room))).tailMoved n
    (((s1.streamLose n (ws.length - room)).convOvfSlow n).streamPut n ws).watermark n
  else
    let s1 := ((s.setStream n fun _ => t.drop pass).streamLose n ws.length).setBit (streamId n) 4 true
    ((s1.convOvf n).raise 21 (pack [(0, 3, n)])).streamLose n (total - ws.length)

/-- STREAM_BURST_WRITE (R137, R139, R141): the DMA engine writes one piece of the oldest burst of a stream, once every conversion of that pass has
delivered. -/
def streamBurstWrite (st : Fin 8) (s : State) : State :=
  let n := st.val
  match s.conv.streams[n]? with
  | none => s
  | some t0 =>
    match t0.stage with
    | [] => s
    | w0 :: _ =>
      let pass := w0.pass
      let ctrl := s.rd (streamId n)
      let fresh := t0.burst != some pass
      let t := if fresh then
          { t0 with mask := s.rd (streamId n + 7) ++ s.rd (streamId n + 6), align := s.bit 0x1104 n, signed := s.bit 0x1105 n,
                    mark := ctrl.getLsbD 3, policy := ctrl.getLsbD 2, burst := some pass, wm := s.fld (streamId n + 5) 0 19 }
        else t0
      let words := (t.stage.filter fun w => w.pass == pass && (w.direct || t.mask.getLsbD w.chan)).foldl (fun l w => insertWord w l) []
      let waits := s.conv.plan.any fun c => c.pass == pass && c.deliver && c.dest == .table
      if !ctrl.getLsbD 0 || waits then s
      else if words.isEmpty then s.setStream n fun _ => t.drop pass
      else
        let total := words.length + (if t.mark then 2 else 0)
        let room := (s.rd (streamId n + 2)).toNat - s.fill n
        if fresh && ctrl.getLsbD 4 then
          if t.policy || decide (total ≤ room) then (s.setBit (streamId n) 4 false).pieceWrite n pass t words
          else (s.setStream n fun _ => t.drop pass).streamLose n total
        else s.pieceWrite n pass t words

/-! ## Results -/

/-- R105: the temperature in 0.1 °C by the beta equation: the input as code × `span` / 65,535 mV against V5 in 100 µV gives the resistance behind the
pull-up, and 1 / T = 1 / 298.15 K + ln (R / R25) / B. -/
def ntcTenths (v span v5 r25 beta rpull : Nat) : Option Int :=
  let num := rpull * (v * span * 10)
  let den := (v5 * 65535 - v * span * 10) * r25
  let x := fxQuot 100 29815 + fxLn num den / (beta : Int)
  if num = 0 ∨ den = 0 ∨ x ≤ 0 then none else some (quot (20 * fxOne - 5463 * x) (2 * x).toNat)

/-- The temperature of an NTC input in 0.1 °C (R105): none for a short, an open sensor, or no V5 yet; free where the equation has no result. -/
def State.ntc (s : State) (v : Int) (gain : Nat) (clipped : Bool) : Option Int :=
  let short := decide (v * (if gain = 1 then 1500 else 3000) < 20 * 65535)
  match s.sense.v5 with
  | none => none
  | some v5 =>
    if short || clipped then none
    else
      let r25 := (s.rd 0x1007).toNat
      let beta := s.fld 0x1008 0 16
      let rpull := (s.rd 0x1009).toNat
      some ((ntcTenths v.toNat (if gain = 1 then 1500 else 3000) v5 r25 beta rpull).getD (Config.ntcTemp v.toNat (gain == 1) v5 r25 beta rpull))

/-- R105: one sample of one of AUXRANGE's two conditions on input `n`; run `i` counts it, `cause` names it. -/
def State.auxRun (s : State) (n i cause : Nat) (bad : Bool) (v : Int) : State :=
  let r := (nth s.sense.auxRange i ⟨0, 0, false⟩).count bad 3
  let t := { s with sense := { s.sense with auxRange := s.sense.auxRange.set i r.1 } }
  match r.2 with
  | none => t
  | some set => t.raiseC 18 (pack [(0, 4, n), (4, 2, cause), (16, 16, v.toNat)]) (!set)

/-- R105: a conversion of an AUX input updates its temperature and judges AUXRANGE: CLIPPED, and a short on an NTC input. -/
def State.auxSample (s : State) (n : Nat) (v : Int) (gain : Nat) (clipped : Bool) : State :=
  let isNtc := s.fld (0x1010 + n) 0 2 == 1
  let short := isNtc && decide (v * (if gain = 1 then 1500 else 3000) < 20 * 65535)
  let s1 := if isNtc then
      s.setFld (0x1020 + n / 2) (16 * (n % 2)) 16 (match s.ntc v gain clipped with | some t => satField 16 t | none => 0x8000)
    else s
  (s1.auxRun n n (if isNtc then 2 else 0) clipped v).auxRun n (16 + n) 1 short v

/-- What the safety monitor takes of a sample: the temperature of an AUX input (R105, R350), else the compensated value; and whether it is
CLIPPED or cannot be evaluated (R351). -/
def State.safeInput (s : State) (c : Nat) (v comp : Int) (gain : Nat) (clipped : Bool) : Int × Bool :=
  if 27 ≤ c ∧ c ≤ 42 then
    match s.ntc v gain clipped with
    | some t => (t, false)
    | none => (0, true)
  else (comp, clipped)

/-- R109: a sweep's sample of a cell judges CELLRANGE; a SETTLING sample counts neither way. The value judged is the one without the compensation of
R224, which names the filters, the streams and the safety monitor alone; a cell above N is not judged, and a condition active on it when
`sense.cells` falls stays as it stands (DESIGN CHOICE, log 113). -/
def State.cellSample (s : State) (c : Nat) (v : Int) (settling : Bool) : State :=
  if settling || decide (s.cells ≤ c) then s
  else
    let hi : Int := s.fld 0x1003 16 16
    let lo : Int := s.fld 0x1003 0 16
    let r := (nth s.sense.cellRange c ⟨0, 0, false⟩).count (decide (v < 10 * lo) || decide (10 * hi < v)) 3
    let s1 := { s with sense := { s.sense with cellRange := s.sense.cellRange.set c r.1 } }
    match r.2 with
    | none => s1
    | some set => s1.raiseC 17 (pack [(0, 5, c + 1), (16, 16, satField 16 (quot v 10))]) (!set)

/-- R142: three CLIPPED samples in a row set a channel's bit, three others clear it. -/
def State.clipSample (s : State) (c : Nat) (clipped : Bool) : State :=
  let r := (nth s.conv.clip c ⟨0, 0, false⟩).count clipped 3
  let s1 := { s with conv := { s.conv with clip := s.conv.clip.set c r.1 } }
  match r.2 with
  | none => s1
  | some set =>
    (if c < 32 then s1.setBit 0x1102 c set else s1.setBit 0x1103 (c - 32) set).raiseC 22 (pack [(0, 6, c)]) (!set)

/-- A sample the safety monitor takes in the present tick (R351): channel, value, CLIPPED or not valid. -/
def State.safeSample (s : State) (c : Nat) (v : Int) (bad : Bool) : State :=
  { s with safe := { s.safe with now := s.safe.now ++ [(c, v, bad)] } }

/-- R223: the compensated value of cell `k` in the sweep before `pass`. -/
def State.compBefore (s : State) (pass k : Nat) : Int :=
  let c := nth s.sense.comp k ⟨0, 0, 0⟩
  if c.pass < pass then c.now else c.before

/-- Remember a compensated value. -/
def State.compPut (s : State) (k pass : Nat) (v : Int) : State :=
  { s with sense := { s.sense with comp := alter s.sense.comp k fun c => if c.pass = pass then { c with now := v } else ⟨pass, v, c.now⟩ } }

/-- A filter output goes to every stream (R137), and a cell's to the plan report (R215). -/
def State.emit (s : State) (k : Conversion) (out : Tag × Int × Nat) : State :=
  let w : StageWord := ⟨k.pass, k.chan, out.1, out.2.1, out.2.2, k.time, k.isLocal, false⟩
  let t := s.stageAll w
  if k.chan < 24 ∧ k.sweep then
    let v := nearest out.2.1 out.2.2
    if k.blank then { t with sense := { t.sense with blankOut := t.sense.blankOut.set k.chan (some (v, s.clk.ref)) } }
    else { t with sense := { t.sense with sweepOut := t.sense.sweepOut.set k.chan (some v) } }
  else t

/-- The filter of a channel. -/
def State.filterOf (s : State) (c : Nat) : Filter := nth s.conv.filters c ⟨[], 0, 0, 0, 0, 0, false⟩

/-- The tag of a sample that enters its filter: SETTLING where the filter restarts at it, and for 3 samples after a gain change (R121,
R125, R126). -/
def State.sampleTag (s : State) (k : Conversion) (tag : Tag) : Tag :=
  let a := s.filterAdapt (s.filterOf k.chan) k
  if a.2.isSome || decide (0 < a.1.gainLeft) then tag.worse .settling else tag

/-- A table sample enters its filter (R123 to R128), or only brings it to its settings where the mask discards the result (R146); FILTERRST where the
filter restarts. -/
def State.filterSample (s : State) (k : Conversion) (v : Int) (tag : Tag) : State :=
  let a := s.filterAdapt (s.filterOf k.chan) k
  let p := if k.deliver then a.1.push s.free v (s.sampleTag k tag) else ({ a.1 with gainLeft := a.1.gainLeft - 1 }, none)
  let s1 := { s with free := s.free + 1, conv := { s.conv with filters := s.conv.filters.set k.chan p.1 } }
  let s2 := match a.2 with
    | some cause => s1.raise 25 (pack [(0, 6, k.chan), (8, 2, cause)])
    | none => s1
  match p.2 with
  | some out => s2.emit k out
  | none => s2

/-- The calibration history no planned conversion needs any more is dropped. -/
def State.prunePast (s : State) : State :=
  { s with pat := { s.pat with past := s.pat.past.filter fun p => s.conv.plan.any fun c => decide (c.cal.toNat ≤ p.1.toNat) } }

/-- What one step of a current channel is in steps of the finest gain (R97, R102): gain codes 0, 1 and 2 are 1, 8 and 32. -/
def finestStep (gain : Nat) : Int := if gain = 0 then 32 else if gain = 1 then 4 else 1

/-- Base of a capture slot (R304). -/
def slotBase (n : Nat) : Nat := 0x10100000 + 0x20000 * n

/-- The slot that records or fills now (R304): the one that fills, else the lower free one. -/
def State.recSlot (s : State) : Option Nat :=
  let filling := [0, 1].find? fun n => match nth s.snap.slots n .full with | .filling _ _ => true | _ => false
  match filling with
  | some n => some n
  | none => if s.bit 0x2040 0 then [0, 1].find? fun n => nth s.snap.slots n .full == .free else none

/-- R304: a new sweep: every DIV-th takes the next place of the recording slot; a filling slot counts it. -/
def State.snapSweep (s : State) (pass : Nat) (time : DWord) : State :=
  match s.recSlot with
  | none => { s with snap := { s.snap with pass := pass, put := none } }
  | some n =>
    let full := match nth s.snap.slots n .full with | .filling 0 _ => true | _ => false
    if full then { s with snap := { s.snap with pass := pass, put := none } }
    else if s.snap.skip = 0 then
      let slots := match nth s.snap.slots n .full with
        | .filling k p => s.snap.slots.set n (.filling (k - 1) p)
        | _ => s.snap.slots
      { s with snap := { s.snap with pass := pass, put := some s.snap.pos, pos := (s.snap.pos + 1) % 1024, skip := s.fld 0x2042 0 16,
                                     times := (time :: s.snap.times).take 1024, slots := slots } }
    else { s with snap := { s.snap with pass := pass, put := none, skip := s.snap.skip - 1 } }

/-- R292: the sweep a snapshot samples is the first whose aperture opens at Ts or later, within one period. -/
def SweepShot.takes (x : SweepShot) (k : Conversion) : Bool :=
  let d := (k.time - 4 - x.ts).toInt
  x.status == 0 && (x.pass == some k.pass || (x.pass.isNone && decide (0 ≤ d) && decide (d ≤ x.period)))

/-- What a sweep's sample leaves for fabric sweeps and captures (R292, R293, R304): its tag and value in the snapshot under way, and its word in the
recording slot. -/
def State.snapSample (s : State) (k : Conversion) (v : Int) (tag : Tag) : State :=
  let s1 := if s.snap.pass = k.pass then s else s.snapSweep k.pass k.time
  let shot := s1.sweep.shot.map fun x =>
    if x.takes k then { x with pass := some k.pass, at_ := k.time, tags := x.tags.set k.chan tag, values := x.values.set k.chan v, got := x.got + 1 } else x
  let s2 := { s1 with sweep := { s1.sweep with shot := shot } }
  match s2.recSlot, s2.snap.put with
  | some n, some p => s2.stWord (slotBase n + 32 + 104 * p + 4 * k.chan) (resultWord tag k.chan (placeData false false k.chan v 1))
  | _, _ => s2

/-! ### What Patina and PATINA_SET take of a result -/

/-- Add to a sum and its count. -/
def bump (l : List (Int × Nat)) (i : Nat) (v : Int) : List (Int × Nat) := alter l i fun x => (x.1 + v, x.2 + 1)

/-- R165, R166: what a sweep's result leaves for Patina: its code, less its dither, and the value of a cell by the lane that converted it. -/
def State.patinaTake (s : State) (k : Conversion) (code : Int) (v : Int) (tag : Tag) : State :=
  let l := s.laneNo k.lane
  let p := { s.pat with codes := s.pat.codes.set k.chan (k.pass, l, code) }
  { s with pat := if s.patinaRuns && decide (k.chan < s.cells) && (tag == .valid || tag == .redone) then
      { p with cells := bump p.cells (4 * k.chan + l) v } else p }

/-- R166, R167: the result of one of Patina's own conversions: a loop-back channel against its true value, or the second conversion of a sample
against the lane that converted it first. -/
def State.patinaSample (s : State) (k : Conversion) (code : Int) : State :=
  if k.chan < 26 then
    let x := nth s.pat.codes k.chan (0, 0, 0)
    if x.1 = k.pass then { s with pat := { s.pat with pairs := alter s.pat.pairs x.2.1 fun p => (p.1 + x.2.2, p.2.1 + code, p.2.2 + 1) } } else s
  else { s with pat := { s.pat with loops := bump s.pat.loops (4 * k.lane.val + (k.chan - 54)) code } }

/-- R174, step 3: a sample of a shorted channel whose aperture lies from 50 µs to 450 µs after its group's switches closed. -/
def State.setSample (s : State) (k : Conversion) (v : Int) (clipped : Bool) : State :=
  match s.pat.set with
  | some p =>
    let g := p.start + 20000 * p.group
    if p.started && p.closed && decide (k.chan / 8 = p.group) && decide (g + 2000 ≤ k.at_ - 4) && decide (k.at_ - 4 < g + 18000) then
      { s with pat := { s.pat with set := some { p with sums := alter p.sums k.chan fun x => (x.1 + v, x.2.1 + 1, x.2.2 || clipped) } } }
    else s
  | none => s

/-- R188: a usable sample of channel `c`, `d` steps of 5 ns after t0, goes into the sums of its segment. -/
def ImpEntry.take (e : ImpEntry) (c : Nat) (x : Int) (d : Nat) : ImpEntry :=
  let seg := d * e.num / (e.cyc * e.den)
  if seg < e.first + e.done ∨ e.first + e.nseg ≤ seg then e
  else
    let w := fxTurn (d * e.num : Nat) e.den
    let old := (e.sums.find? fun y => y.at_ == seg && y.chan == c).getD ⟨seg, c, 0, 0, 0, 0⟩
    { e with sums := (e.sums.filter fun y => !(y.at_ == seg && y.chan == c))
               ++ [⟨seg, c, old.n + 1, old.sum + x, old.re + x * w.1, old.im - x * w.2⟩] }

/-- R187: what an impedance measurement takes of a fast channel's sample, after R163 and ahead of the filters: VALID and REDONE ones, of the cells and
of the shunt node's current channel (R190), whose time is put back by 20 ns. -/
def State.impTake (s : State) (k : Conversion) (v : Int) (tag : Tag) : State :=
  let cur := decide (24 ≤ k.chan)
  let isel := bitsOf (s.impRd 0x1400) 2 1
  let d : Int := 5 * ((k.time.toNat : Int) - s.imp.t0.toNat) - (if cur then 4 else 0)
  if s.imp.part && !s.imp.between && !k.isLocal && (tag == .valid || tag == .redone) && decide (0 ≤ d)
      && (!cur || (decide (k.chan = 24 + isel) && s.rd 0x1002 != 0)) then
    let x := if cur then v * finestStep k.gain else v
    { s with imp := { s.imp with run := s.imp.run.map fun e => e.take k.chan x d.toNat } }
  else s

/-- A probe without coefficients holds a cell for the safety monitor (R229): those its switch's current moves, while it is on. -/
def State.probeHolds (s : State) (c : Nat) : Bool :=
  match s.bal.probe with
  | some p => p.on && !s.bit 0x151B p.cell.val && decide (c < 24) && (c == p.cell.val || c + 1 == p.cell.val || c == p.cell.val + 1)
  | none => false

/-- A delivered result of the sequencer's tables (R120 to R128, R142, R165, R174, R187, R223, R351): `v` without and `comp` with the compensation of R224. -/
def State.tableResult (s : State) (k : Conversion) (code : BitVec 16) (v comp : Int) (clipped : Bool) (safe : Int × Bool) : State :=
  let c := k.chan
  let tag : Tag := if clipped then .clipped else if k.settle then .settling else if k.redone then .redone else .valid
  let s2 := s.clipSample c clipped
  let tag2 := s2.sampleTag k tag
  let settling := tag2 == .settling
  let s3 := if c < 26 ∧ k.sweep then
      ((((s2.cellSample c v settling).compPut c k.pass comp).patinaTake k (code.toInt - dither k.lane k.clk) v tag2).setSample k v clipped).impTake k v tag2
    else s2
  let s4 := if s3.pwr.mode == .run && !settling && !k.settle && !s3.probeHolds c && (k.sweep || decide (27 ≤ c ∧ c ≤ 42)) then
      s3.safeSample c safe.1 safe.2
    else s3
  let s5 := if k.sweep then s4.snapSample k comp tag2 else s4
  s5.filterSample k comp tag

/-- A result goes to its destination (R116, R120 to R135, R163, R223, R351). A safety result goes to the safety monitor only; a timer's and a
host's are VALID or CLIPPED (R135). -/
def State.handOn (s0 : State) (k : Conversion) (code : BitVec 16) : State :=
  let c := k.chan
  let v := s0.delivered k code
  let clipped := clippedOf c code v
  let comp := if c < 24 then ratInt ((v : Rat) - s0.dropOf k.sw (s0.compBefore k.pass) c) else v
  let safe := s0.safeInput c v (if c = 24 ∨ c = 25 then comp * finestStep k.gain else comp) k.gain clipped
  let own : Tag := if clipped then .clipped else .valid
  let u := { s0 with sense := { s0.sense with last := s0.sense.last.set c v } }
  let s1 := if 27 ≤ c ∧ c ≤ 42 then u.auxSample (c - 27) v k.gain clipped else u
  match k.dest with
  | .patina => s0.patinaSample k (code.toInt - dither k.lane k.clk)
  | .safety => if k.settle || s0.probeHolds c then s0 else s0.safeSample c safe.1 safe.2
  | .timer st =>
    if s1.bit (streamId st.val) 0 then
      s1.setStream st.val fun t => { t with stage := t.stage ++ [⟨k.pass, c, own, v, 1, k.time, k.isLocal, true⟩] }
    else s1
  | .host by_ =>
    let s2 := s1.wr 0x110A (resultWord own c (placeData false false c v 1))
    match by_ with
    | some src => s2.complete src stOk [0]
    | none => s2
  | .table => s1.tableResult k code v comp clipped safe

/-- A conversion leaves the plan; its lane clock still counts in R119. -/
def State.unplan (s : State) (k : Conversion) : State :=
  { s with conv := { s.conv with plan := s.conv.plan.erase k,
                                 busy := (s.conv.busy.filter fun x => decide (k.clk < x.1 + 10)) ++ [(k.clk, s.laneNo k.lane)] } }

/-- CONVERSION_RESULT (R116): a lane hands on the code of its oldest conversion. L4 has no idle clock while it serves Patina: beyond what stands in
the plan it hands on the loop-back channels in turn (R166). -/
def conversionResult (lane : Fin 5) (code : BitVec 16) (s : State) : State :=
  match s.conv.plan.find? fun k => k.lane == lane with
  | some k => ((s.unplan k).handOn k code).prunePast
  | none =>
    if lane.val = 4 ∧ s.patinaRuns ∧ s.fld 0x1100 8 3 = 7 then
      let k := s.newConv (s.clk.ref.toNat / 4 - 7) 4 (54 + s.pat.nextLb) 0 s.clk.ref.toNat false false false .patina
      { s with pat := { s.pat with nextLb := (s.pat.nextLb + 1) % 4 } }.handOn k code
    else s

/-! ## Injected conversions -/

/-- Queue a timer or host injection (R130): timer before host, 8 entries; a refused one raises INJQUEUE. -/
def State.inject (s : State) (i : Injection) (isHost : Bool) : State × Bool :=
  if s.conv.inject.length < 8 then
    let isT (x : Injection) : Bool := match x.dest with | .timer _ => true | _ => false
    let q := if isHost then s.conv.inject ++ [i] else s.conv.inject.filter isT ++ [i] ++ s.conv.inject.filter fun x => !isT x
    ({ s with conv := { s.conv with inject := q } }, true)
  else ((s.addSat 0x110C 0 16 1).raise 24 (pack [(0, 2, if isHost then 2 else 1), (8, 6, i.chan)]), false)

/-- The injection served next (R130): the safety monitor's, else the head of the queue; and whether it is the safety monitor's. -/
def State.nextInjection (s : State) : Option (Injection × Bool) :=
  match s.conv.safetyInj, s.conv.inject with
  | c :: _, _ => some (⟨c, .safety⟩, true)
  | [], i :: _ => some (i, false)
  | [], [] => none

/-- R130: the limits on injections in 10 consecutive lane clocks admit one on lane number `l` at `edge`. -/
def State.injAdmits (s : State) (edge l : Nat) (isSafety : Bool) : Bool :=
  let near := s.conv.started.filter fun (x : Nat × Fin 5 × Bool) => decide (edge < x.1 + 10)
  (isSafety || decide ((near.filter fun (x : Nat × Fin 5 × Bool) => x.2.2).length < 2)) && !(near.any fun x => x.2.1 == s.lane l)

/-- The conversion of a lane that started last before an edge (R131). -/
def State.lastStarted (s : State) (edge : Nat) (l : Fin 5) : Option Conversion :=
  (s.conv.plan.filter fun k => k.lane == l && decide (k.clk < edge)).getLast?

/-- The lane number Chisel slices 1 to 4 test now (R397). -/
def State.testedLane (s : State) : Option Nat :=
  if s.chis.busy && decide (1 ≤ s.chis.next) && decide (s.chis.next ≤ 4) then some (s.chis.next - 1) else none

/-- R131: the lane number for an injection at an edge among some: the highest free one, else the one whose conversion may be aborted. -/
def State.injLaneOf (s : State) (edge : Nat) (isSafety : Bool) (among : List Nat) : Option (Nat × Option Conversion) :=
  let ok := among.filter fun l => s.injAdmits edge l isSafety
  match ok.find? fun l => !(s.occupied.contains (edge, l)) with
  | some l => some (l, none)
  | none =>
    let cands := ok.filterMap fun l =>
      match s.lastStarted edge (s.lane l) with
      | some k =>
        if !k.sweep && !k.redone && k.dest == .table
            && !(s.conv.plan.any fun x => x.lane == k.lane && x.clk == edge && x.sweep) then some (l, k) else none
      | none => none
    match cands.foldl (fun (b : Option (Nat × Conversion)) x =>
        match b with | none => some x | some y => if y.2.clk < x.2.clk then some x else b) none with
    | some x => some (x.1, some x.2)
    | none => none

/-- R131, R397: a lane under test does not qualify, but for a safety injection when no other lane does. -/
def State.injLane (s : State) (edge : Nat) (isSafety : Bool) : Option (Nat × Option Conversion) :=
  let rest := [3, 2, 1, 0].filter fun l => !(s.testedLane == some l)
  match s.injLaneOf edge isSafety rest with
  | some x => some x
  | none =>
    match s.testedLane with
    | some l => if isSafety then s.injLaneOf edge isSafety [l] else none
    | none => none

/-- The first clock from `clk` on that is not occupied. -/
def nextFree (occ : List Nat) : Nat → Nat → Nat
  | 0, clk => clk
  | n + 1, clk => if occ.contains clk then nextFree occ n (clk + 1) else clk

/-- A conversion moves to a later clock: one that has not been sampled yet takes its sample there, and a REDONE one keeps its time (R133, R135). -/
def Conversion.moveTo (k : Conversion) (clk : Nat) : Conversion :=
  let d := if k.redone then 0 else 4 * (clk - k.clk)
  { k with clk := clk, at_ := k.at_ + d, time := k.time + BitVec.ofNat 64 d }

/-- R134: conversions in order move to free clocks, none before its own clock; sweep slots are in `occ` and never move. -/
def shiftAll (occ : List Nat) (from_ : Nat) : List Conversion → List Conversion
  | [] => []
  | k :: t =>
    let c := nextFree occ (occ.length + 1) (max k.clk from_)
    k.moveTo c :: shiftAll (c :: occ) (c + 1) t

/-- INJECTION_START (R130 to R135): the next request starts at a lane-clock edge, aborting a conversion where no lane is free. Patina leaves the
channel alone while the injection samples it, and after an aperture of its own (R166). -/
def injectionStart (edge : Nat) (s : State) : State :=
  match s.nextInjection with
  | none => s
  | some (i, isSafety) =>
    match s.injLane edge isSafety with
    | none => s
    | some (l, abort) =>
      let ln := s.lane l
      let held := s.conv.plan.find? fun k => k.sweep && k.chan == i.chan && decide (edge ≤ k.clk)
      let base := s.newConv edge ln i.chan s.conv.passNo (4 * edge + if i.chan < 26 then 4 else 0) true false false i.dest
      let inj : Conversion := match held with
        | some h => { base with time := h.time, isLocal := h.isLocal, at_ := h.at_, cal := h.cal, gain := h.gain, sw := h.sw, settle := h.settle }
        | none => base
      let plan0 := s.conv.plan.filter fun k => !(k.dest == .patina && k.chan == i.chan && (k.clk == edge || (held.isNone && decide (edge ≤ k.clk))))
      let plan1 := match abort with
        | none => plan0
        | some a =>
          let move := plan0.filter fun k => k.lane == ln && decide (edge ≤ k.clk) && !k.sweep
          let stay := plan0.filter fun k => !(k == a) && !(k.lane == ln && decide (edge ≤ k.clk) && !k.sweep)
          let occ := edge :: (stay.filter fun k => k.lane == ln && k.sweep).map (·.clk)
          (shiftAll occ (edge + 1) ({ a with redone := true } :: move)).foldl (fun p k => insertConv k p) stay
      let s0 := if s.testedLane == some l then { s with chis := { s.chis with aborted := true } } else s
      let s1 := if abort.isSome then s0.addSat 0x110B 0 32 1 else s0
      { s1 with conv := { s1.conv with
          plan := insertConv inj plan1, passNo := s1.conv.passNo + 1,
          lastTable := lastClock s1.conv.lastTable (plan1.filter fun k => k.dest == .table),
          started := (s1.conv.started.filter fun (x : Nat × Fin 5 × Bool) => decide (edge < x.1 + 10)) ++ [(edge, ln, !isSafety)],
          safetyInj := if isSafety then s1.conv.safetyInj.drop 1 else s1.conv.safetyInj,
          inject := if isSafety then s1.conv.inject else s1.conv.inject.drop 1 } }

/-! ## Window tracking -/

/-- DATA of WINTRACK (R143). -/
def State.trackData (s : State) : Word := pack [(0, 3, s.fld 0x1106 8 3), (3, 2, s.fld 0x1106 11 2)]

/-- R129: tracking is lost. -/
def State.trackLost (s : State) : State :=
  if !s.conv.lost then { s with conv := { s.conv with lost := true, captures := 0 } }.raise 23 s.trackData
  else { s with conv := { s.conv with captures := 0 } }

/-- R128, R129: an INVSYNC capture gives a period; 4 valid ones in a row resume tracking. -/
def State.trackCapture (s : State) (p : Nat) : State :=
  if 500 ≤ p ∧ p ≤ 40000000 then
    let n := s.conv.captures + 1
    let s1 := { s with conv := { s.conv with captures := n } }.wr 0x1107 (BitVec.ofNat 32 p)
    if s1.conv.lost && decide (4 ≤ n) then { s1 with conv := { s1.conv with lost := false } }.raiseC 23 s1.trackData true else s1
  else s.trackLost

/-- WINTRACK_TIMEOUT (R129): no valid capture within 4 × P. -/
def wintrackTimeout (s : State) : State := if s.rd 0x1107 = 0 then s else s.trackLost

end Sys2Proof.Machine
end

