-- ==== Sys2Proof/Machine/Modes.lean ====
section
/-! DEFINITION. Changes of state and what they do to the sequencer: starting, stopping and swapping tables (R153 to R159), STATECHG
(R46), the end of PATINA_SET (R174), the outputs on a change of state (R47), and entry to Guard (R52). -/
namespace Sys2Proof.Machine

/-! ## The sequencer's table -/

/-- The lead-in of a BLANK entry in reference ticks (R149, R219). -/
def State.lead (s : State) : Nat := 40 * s.fld 0x1509 0 16

/-- The enabled entries, with their numbers, ascending (R145). -/
def enabled (es : List Entry) : List (Entry × Nat) := es.zipIdx.filter fun x => x.1.en

/-- The loop time of a table in reference ticks, triggers arriving at once (R147, R153). -/
def loopTicks (es : List Entry) (lead : Nat) : Nat :=
  (enabled es).foldl (fun a x => a + (if x.1.blank then lead else 0) + x.1.count * x.1.interval) 0

/-- An entry delivers channel `c` to its filter (R146, R153). -/
def Entry.delivers (e : Entry) (c : Nat) : Bool := if c < 26 then e.sweep && e.selects c else e.selects c

/-- R149: the blanked span of an entry, as the checks of R154 and R220 take it: without SWEEP it ends at the start of the last conversion. -/
def spanOf (lead : Nat) (e : Entry) : Nat :=
  lead + (e.count - 1) * e.interval + if e.sweep then 8 else 4 * ((e.slow.length + 3) / 4 - 1) + 3

/-- Tc of a channel as loop ticks and delivering passes (R153); (0, 0) when no pass delivers it. -/
def tcOf (es : List Entry) (lead c : Nat) : Nat × Nat :=
  let n := (enabled es).foldl (fun a x => if x.1.delivers c then a + x.1.count else a) 0
  if n = 0 then (0, 0) else (loopTicks es lead, n)

/-- Take a table's Tc into force; channels whose Tc changed restart their filter when next converted (R156). -/
def State.takeTc (s : State) (es : List Entry) : State :=
  let new := (List.range 58).map fun c => tcOf es s.lead c
  let changed := (List.range 58).filter fun c =>
    let a := nth s.conv.tc c (0, 0)
    let b := nth new c (0, 0)
    (a.2 == 0) != (b.2 == 0) || a.1 * b.2 != b.1 * a.2
  { s with conv := { s.conv with tc := new, refresh := distinct (s.conv.refresh ++ changed) } }

/-- STATE of `seq.status` (R161). -/
def SeqPhase.code : SeqPhase → Nat
  | .stopped => 0
  | .waiting => 2
  | .watch => 3
  | .running | .leadIn | .calibration => 1

/-- Show the sequencer in `seq.status` (R161). -/
def State.seqShow (s : State) (entry pass : Nat) : State :=
  s.wr 0x1201 (pack [(16, 12, pass), (12, 2, s.seq.phase.code), (11, 1, b2n s.seq.checked.isSome), (0, 6, entry)])

/-- Set the sequencer's phase. -/
def State.seqPhase (s : State) (p : SeqPhase) : State :=
  let t := { s with seq := { s.seq with phase := p } }
  t.seqShow (t.fld 0x1201 0 6) (if p == .stopped then 0 else t.fld 0x1201 16 12)

/-- The end of a blanked span: switches and shuttles return to their assignment (R219). -/
def State.unblank (s : State) : State :=
  let t := { s with seq := { s.seq with spanEnd := none } }
  if t.blanked then (t.setBit 0x1501 1 false).balRefresh else t

/-- The start of a blanked span (R219); the chop or shuttle segment it falls in is discarded (R195), and a
probe cycle it falls in starts again (R228). -/
def State.blankSpan (s : State) : State :=
  let hit := s.bal.chopSet != 0 || s.bal.impDrv != 0
  let probe := s.bal.probe.map fun p => { p with on := false, off := [] }
  (({ s with imp := { s.imp with spoiled := if hit then List.range 16 else s.imp.spoiled }, bal := { s.bal with probe := probe } }).setBit 0x1501 1 true).balRefresh

/-- The sequencer stops (R157); an interrupted blanked span ends. -/
def State.seqStop (s : State) : State := (s.seqPhase .stopped).unblank

/-- The reference tick now, or the tick 10 lane clocks after the last conversion a table has planned, if later (R156). -/
def State.gapTick (s : State) : DWord :=
  BitVec.ofNat 64 (max s.clk.ref.toNat (match s.conv.lastTable with | some c => 4 * (c + 10) | none => 0))

/-- A table starts from its lowest-numbered enabled entry, with the gap of R156 where it follows another one. -/
def State.tableStart (s : State) (p : SeqPhase) (gap : Bool) : State :=
  let first := match enabled s.seq.active with | x :: _ => x.2 | [] => 0
  let at_ := if gap then s.gapTick else s.clk.ref
  let t := { s with seq := { s.seq with phase := p, entry := first, pass := 0, due := at_, wrap := false, fired := none } }.unblank
  t.seqShow first 0

/-- The calibration table: one SWEEP entry, I = 40 ticks (R174). -/
def calTable : List Entry := [⟨0x03FFFFFF, 0, 0xC0000001, 0⟩]

/-- The auxiliary pass of the Watch table (R158) over the inputs taken at the 10 ms start. -/
def State.watchAux (s : State) : Entry :=
  let m := s.seq.wAux.toNat * 2 ^ 27
  ⟨BitVec.ofNat 32 m, BitVec.ofNat 32 (m / 2 ^ 32), 0x80000001, 0⟩

/-- The sweep of the Watch table (R158). -/
def State.watchSweep (s : State) : Entry := ⟨0x03FFFFFF, 0, 0xC0000001, BitVec.ofNat 32 (s.seq.wInt - 40)⟩

/-- The table that runs (R157, R158, R174). -/
def State.runningTable (s : State) : List Entry :=
  match s.seq.phase with
  | .stopped => []
  | .calibration => calTable
  | .watch => [s.watchSweep, s.watchAux]
  | .running | .waiting | .leadIn => s.seq.active

/-- The fast and the auxiliary channels' filters take the next sample as a window change (R159). -/
def State.refreshAll (s : State) : State :=
  { s with conv := { s.conv with refresh := (List.range 58).filter fun c => c < 26 ∨ (27 ≤ c ∧ c ≤ 42) ∨ c ∈ s.conv.refresh } }

/-- The active table starts, if RUN is 1 (R157): its Tc takes force (R153, R156). -/
def State.activeStart (s : State) (gap : Bool) : State :=
  if s.bit 0x1200 0 && !(enabled s.seq.active).isEmpty then (s.takeTc s.seq.active).tableStart .running gap else s.seqStop

/-- SEQLOAD (R160). -/
def State.seqLoadEvent (s : State) (when_ watch : Bool) : State :=
  s.raise 26 (pack [(0, 7, if watch then 0 else (enabled s.seq.active).length), (8, 1, b2n when_), (9, 1, b2n watch)])

/-- The active table restarts (R157, R174): SEQLOAD names it (R160). -/
def State.activeAgain (s : State) : State :=
  let t := s.activeStart true
  if t.seq.phase = .running then t.seqLoadEvent false false else t

/-- R290: the step by which a table stays ON GRID for a period: its pass interval, or its loop time. -/
def gridStep (es : List Entry) (lead period : Nat) : Option Nat :=
  match enabled es with
  | [] => none
  | x :: t =>
    let i := x.1.interval
    let l := loopTicks es lead
    if (x :: t).all (fun y => y.1.sweep && !y.1.wait && !y.1.blank && y.1.interval == i) && period % i == 0 then some i
    else if (x :: t).all (fun y => !y.1.wait) && x.1.sweep && l != 0 && period % l == 0 then some l
    else none

/-- R290: a node that takes part in a sweep checks its active table; an ON GRID table restarts at the next sequencer boundary. -/
def State.gridCheck (s : State) : State :=
  match s.sweep.plan with
  | some p =>
    let g := gridStep s.seq.active s.lead p.period.toNat
    { s with sweep := { s.sweep with grid := g, align := g.isSome } }.setBit 0x2030 3 g.isSome
  | none => s

/-- R156: the banks swap; LOAD clears and SEQLOAD is raised. The new table starts only where `start` says so; otherwise the filters compare its Tc when
it starts. Impedance segments under way are discarded (R194). -/
def State.swapBanks (s : State) (when_ start : Bool) : State :=
  let t := { s with imp := { s.imp with spoiled := List.range 16 }
                    seq := { s.seq with active := s.seq.pending, pending := s.seq.active, checked := none } }.setBit 0x1200 1 false
  let u := t.setBit 0x1201 11 false
  ((if start then (u.takeTc u.seq.active).tableStart .running true else u).gridCheck).seqLoadEvent when_ false

/-! ## Triggers (R148) -/

/-- The source that an entry's TSEL names is enabled and is this event: a unit's channel, a match or a capture. -/
def State.trigNames (s : State) (tsel u ch : Nat) (capture : Bool) : Bool :=
  let w := s.rd (0x1204 + tsel)
  w.getLsbD 0 && w.getLsbD 6 == capture && bitsOf w 4 2 == ch && bitsOf w 1 3 == u

/-- The TSEL of the entry the sequencer stands at. -/
def State.tselNow (s : State) : Nat := (nth s.seq.active s.seq.entry noEntry).tsel

/-- A compare match or a capture of a timer channel: it releases an entry that waits for it, and is remembered for its reference tick. -/
def State.seqEvent (s : State) (u ch : Nat) (capture : Bool) : State :=
  let now := (s.seq.trigNow.filter fun x => x.1 == s.clk.ref) ++ [(s.clk.ref, u, ch, capture)]
  let hit := s.seq.phase == .waiting && s.seq.fired.isNone && s.trigNames s.tselNow u ch capture
  { s with seq := { s.seq with trigNow := now, fired := if hit then some s.clk.ref else s.seq.fired } }

/-- A trigger wait begins: an event of this very reference tick already counts. -/
def State.trigWait (s : State) : State :=
  let hit := s.seq.trigNow.any fun x => x.1 == s.clk.ref && s.trigNames s.tselNow x.2.1 x.2.2.1 x.2.2.2
  { s with seq := { s.seq with phase := .waiting, fired := if hit then some s.clk.ref else none } }

/-! ## Calibration under way -/

/-- The shorting switches open. -/
def State.shortNone (s : State) : State := s.setFld 0x1006 0 24 0

/-- PATINA_SET ends at once without effect (R174): switches open, the active table restarts, and its command completes. -/
def State.patinaAbort (s : State) (status : Byte) : State :=
  match s.pat.set with
  | none => s
  | some p =>
    let t := (({ s with pat := { s.pat with set := none } }.shortNone).setBit 0x1301 2 false)
    let u := if p.started then t.activeAgain else t
    (u.raise 30 (pack [(24, 8, status.toNat)])).complete p.src status []

/-- Convergence is re-armed (R169): no updates counted, CONV cleared. -/
def State.rearm (s : State) : State :=
  { (s.setFld 0x1301 8 8 0).setBit 0x1301 0 false with pat := { s.pat with quiet := 0 } }

/-- Background Patina stops as the node leaves Run: an update that waits is dropped, so that the working set stays as it stands (R167, R169). -/
def State.patinaStop (s : State) : State := { s with pat := { s.pat with update := [] } }

/-! ## Impedance and thermal counts -/

/-- This node takes no further part in an impedance measurement: chop and shuttle drive stop, claimed timers stop and are released (R186, R201). Its
cells carry NOTMEAS for the whole of it. -/
def State.impStop (s : State) : State :=
  let claims := (List.range 8).filter fun u => s.bit 0x1606 u
  let stopped := claims.foldl (fun (t : State) u =>
    { t with tmr := alter t.tmr u fun x => { x with running := false, armed := false } }.setFld (0x1610 + 16 * u) 0 2 0) s
  let shown := claims.foldl (fun (t : State) u => (t.setBit (0x1616 + 16 * u) 8 false).setBit (0x1616 + 16 * u) 9 false) stopped
  (({ shown with imp := { shown.imp with part := false }
                 bal := { shown.bal with chopSet := 0, chop := 0, impDrv := 0, impSht := copies 23 0 } }).wr 0x1606 0).balRefresh

/-- A measurement ends or is forgotten here: the plan and the blocking plan are released (R201). -/
def State.impDrop (s : State) : State :=
  let t := s.impStop
  { t with imp := { t.imp with fit := none, entry := 0, pass := 0, between := false, idle := false, run := [], held := [], own := [], notMeas := [],
                               spoiled := [], opened := 0 } }.setFld 0x1401 0 8 0

/-- R337: the counts of the thermal thresholds restart; the conditions in force stay. -/
def State.thermRestart (s : State) : State :=
  let z (r : Run) : Run := ⟨0, 0, r.active⟩
  { s with therm := { s.therm with warn := z s.therm.warn, rate := z s.therm.rate, stop := z s.therm.stop } }

/-! ## States -/

/-- STATECHG (R46): new state, old state, cause of a Guard entry. -/
def State.stateChg (s : State) (old new : Mode) (gc : BitVec 4) : State :=
  s.raise 10 (pack [(0, 4, new.code), (4, 4, old.code), (8, 4, gc.toNat)])

/-- `sys.state.req` follows a change not made by request (R62). -/
def State.reqRun (s : State) : State := s.setFld 0x0101 0 2 0

/-- Show the output stage in `sf.out.state` (R388). -/
def State.outShow (s : State) : State :=
  s.wr 0x3121 (pack [(8, 1, b2n s.safe.testL.busy), (7, 1, b2n s.safe.testH.busy), (6, 1, b2n s.pins.fbL), (5, 1, b2n s.pins.fbH),
    (4, 1, b2n s.pins.safeL), (3, 1, b2n s.pins.safeH), (0, 3, s.safe.phase.toNat)])

/-- Both leads low: no sequence, test, ramp or repeat goes on (R47, R365). -/
def State.leadsOff (s : State) : State :=
  { s with pins := { s.pins with safeH := false, safeL := false },
           safe := { s.safe with phase := 0, retryDue := false, testH := ⟨false, false⟩, testL := ⟨false, false⟩, testDue := 0, testWait := 0 } }.outShow

/-- R48: what happens in Watch asks for Run at the next boundary; an accepted entry to Hatbox goes on (R49). -/
def State.askRun (s : State) : State :=
  if s.pwr.mode = .watch ∧ s.pwr.hatbox = .none then { s with pwr := { s.pwr with request := some .run } } else s

/-- The change back to Run from Watch or Guard, or to Run at Ready: requests are settled, convergence re-arms (R62, R169). -/
def State.toRun (s : State) (old : Mode) : State :=
  ({ s with pwr := { s.pwr with mode := .run, gcause := 0, request := none } }.reqRun.rearm).stateChg old .run 0

/-- Entry to Guard (R46, R47, R52, R62, R174, R206): outputs off, sequencer stopped, switches and shuttles off, STATECHG with the
cause. In Guard for the thermal stop a second cause takes its place (R340). Before Ready the entry waits for Ready (R58). -/
def State.enterGuard (s : State) (cause : BitVec 4) : State :=
  match s.pwr.mode with
  | .run | .watch =>
    let u := (s.leadsOff.patinaAbort stRefused).patinaStop
    let t := { u with pwr := { u.pwr with mode := .guard, gcause := cause, request := none, hatbox := .none, stopping := false }
                      nv := { u.nv with hold := false } }
    (t.reqRun.seqStop.impStop.thermRestart).stateChg s.pwr.mode .guard cause
  | .guard => if s.pwr.gcause == 1 then { s with pwr := { s.pwr with gcause := cause } } else s
  | .start => { s with pwr := { s.pwr with guardDue := match s.pwr.guardDue with | some c => some c | none => some cause } }
  | .off | .hatbox => s

end Sys2Proof.Machine
end

