-- ==== Sys2Proof/Machine/SafetyMonitor.lean ====
section
/-! DEFINITION. The safety monitor (R346 to R364), the output pair, the dual-channel inputs and the twin frames (R365 to R388).
Currents are held in steps of the finest gain (gain 32), voltages in 100 µV, temperatures in 0.1 °C. -/
namespace Sys2Proof.Machine

/-! ## The seal (R38, R350) -/

/-- SF-OV and SF-UV limits in mV of a chemistry class (R38); 0 for unset. -/
def classOv (c : Nat) : Nat := nth [0, 3750, 3650, 4250, 4200, 2850, 4050, 4250] c 0
def classUv (c : Nat) : Nat := nth [0, 2300, 2500, 2800, 3000, 1500, 1500, 2600] c 0
/-- The SF-OT class limit in 0.1 °C (R350); 0 for unset. -/
def classOt (c : Nat) : Int := nth [0, 600, 550, 550, 500, 650, 600, 550] c 0
/-- The discrepancy time in ms (R38); 0 for unset. -/
def discTime (c : Nat) : Nat := nth [0, 10, 50, 100, 200, 500, 1000, 2000] c 0
/-- The ramp time in ms (R38); 0 for unset. -/
def rampTime (c : Nat) : Nat := nth [0, 50, 500, 2000] c 0
/-- The three fields of a seal value (R38). -/
def sealClass (s : Byte) : Nat := s.toNat % 8
def sealDisc (s : Byte) : Nat := s.toNat / 8 % 8
def sealRamp (s : Byte) : Nat := s.toNat / 64
/-- Every field of the seal is set (R39). -/
def sealSet (s : Byte) : Bool := sealClass s != 0 && sealDisc s != 0 && sealRamp s != 0
/-- The seal read at the last start-up (R364). -/
def State.seal (s : State) : Byte := BitVec.ofNat 8 (s.fld 0x3101 0 8)

/-! ## Outputs, latch and demands -/

/-- FITTED: this node is a contactor node (R346, R366). -/
def State.fitted (s : State) : Bool := s.bit 0x3120 0
/-- LATCH, PERMIT and RAMP of `sf.status` (R364). -/
def State.latch (s : State) (b : Bool) : State := s.setBit 0x3100 5 b
def State.permit (s : State) (b : Bool) : State := s.setBit 0x3100 4 b
def State.ramping (s : State) : Bool := s.bit 0x3100 6

/-- Steps of the finest gain as amperes: v × 78125 / (256 × shunt in nΩ) (R97, R115). -/
def State.amps (s : State) (v : Rat) : Rat := v * 78125 / ((256 * (s.rd 0x1002).toNat : Nat) : Rat)

/-- The channel SF-OC and the ramp watch (R350). -/
def State.ocChan (s : State) : Nat := 24 + s.fld 0x3106 0 1

/-- The samples of a channel in the last `sf.avg` ticks. -/
def State.samplesOf (s : State) (c : Nat) : List (Int × Bool) :=
  ((s.safe.window.take (s.fld 0x3103 0 5)).flatten.filter fun x => x.1 == c).map fun x => (x.2.1, x.2.2)

/-- The mean of a channel over the last `sf.avg` ticks (R351). -/
def State.meanOf (s : State) (c : Nat) : Option Rat :=
  match s.samplesOf c with
  | [] => none
  | l => some (((l.foldl (fun a x => a + x.1) 0 : Int) : Rat) / (l.length : Nat))

/-- The averaged current in A; 0 without a shunt value or samples. -/
def State.current (s : State) : Rat :=
  if s.rd 0x1002 = 0 then 0 else match s.meanOf s.ocChan with | some m => s.amps m | none => 0

/-- A value held in an unsigned field, saturating. -/
def satNat (w : Nat) (v : Int) : Nat := min (2 ^ w - 1) v.toNat

/-- A Doff (R353, R354, R355, R363): both leads low, LATCH set, PERMIT and RAMP cleared, CAUSE, DOFF and the count. -/
def State.doff (s : State) (cause : BitVec 4) (immediate envelope reached : Bool) : State :=
  let amps := satNat 16 (ratInt (ratAbs s.current))
  let t := (((s.leadsOff.latch true).permit false).setBit 0x3100 6 false).setFld 0x3100 8 4 cause.toNat
  ({ t with safe := { t.safe with ramp := none } }.addSat 0x310D 0 16 1).raise 76
    (pack [(0, 4, cause.toNat), (4, 1, b2n immediate), (5, 1, b2n envelope), (6, 1, b2n reached), (16, 16, amps)])

/-- Lay the bytes of a twin frame (R380): both CRCs after bytes 0 to 25. -/
def crc16 (bs : List Byte) : Half :=
  BitVec.ofNat 16 (bs.foldl (fun c b =>
    rounds (fun c => if c < 0x8000 then 2 * c else (2 * c - 0x10000) ^^^ 0x1021) 8 (c ^^^ (b.toNat * 256))) 0xFFFF)

/-- STATE bits of conditions active now (R380). -/
def State.activeBits (s : State) : Half :=
  BitVec.ofNat 16 (b2n (s.safe.ov != 0) + 2 * b2n (s.safe.uv != 0) + 4 * b2n (s.safe.ot != 0) + 8 * b2n (s.safe.oc != 0)
    + 16 * b2n (s.bit 0x3126 2) + 32 * b2n (s.bit 0x3126 3 || s.bit 0x3126 4 || s.bit 0x3126 5 || s.bit 0x3126 6)
    + 64 * b2n s.safe.sealChg + 128 * b2n s.therm.stop.active + 256 * b2n (s.pwr.gcause == 2 || s.pwr.gcause == 4)
    + 512 * b2n (s.pwr.mode == .guard))

/-- STATE as twin frames carry it (R386): on a contactor node its own demands stay set until its SAFE_ACK. -/
def State.stateBits (s : State) : Half := if s.fitted then s.activeBits ||| s.safe.latched else s.activeBits

/-- Payload bytes 0 to 25 of a twin frame (R380). -/
def twinHead (kind : Byte) (down single isLocal : Bool) (src dst : FAddr) (seq : Word) (time : DWord) (st : Half) (cause : BitVec 4) : List Byte :=
  [kind, BitVec.ofNat 8 (b2n down + 2 * b2n single + 4 * b2n isLocal)] ++ bytesBE 2 src.toNat ++ bytesBE 2 dst.toNat
    ++ bytesBE 4 seq.toNat ++ bytesBE 8 time.toNat ++ bytesBE 2 st.toNat ++ [BitVec.ofNat 8 cause.toNat, 0, 0, 0, 0, 0]

/-- A whole twin frame payload: CRC-32C over the head, CRC-16 over its inverse (R380, R381). -/
def twinBytes (head : List Byte) : List Byte :=
  head ++ bytesBE 4 (crc32c head).toNat ++ bytesBE 2 (crc16 (head.map fun b => ~~~ b)).toNat

/-- R379: put one copy on its port: up on PORT B, down on PORT A. -/
def State.sendTwinCopy (s : State) (dst : FAddr) (head : List Byte) (down : Bool) : State :=
  let f := s.newFrame tySafe false dst (twinBytes head)
  let t := { s with fab := { s.fab with fid := s.fab.fid + 1 } }
  let p : Fin 4 := if down then 0 else 1
  match t.port p with
  | some q => if q.usable then t.enqueue p f else t
  | none => t

/-- Walk the ring by one port until a node is met (R385). -/
def ringReaches (ns : List Node) (p : Nat) (goal : DWord) : Nat → Node → Bool
  | 0, _ => false
  | n + 1, a =>
    match a.peer ns p with
    | some b => if b.topo.serial == goal then true else if b.present then ringReaches ns p goal n b else false
    | none => false

/-- A ring direction from one node to another is usable in the Armature (R385). -/
def ringUsable (ns : List Node) (from_ goal : Node) (down : Bool) : Bool :=
  ringReaches ns (if down then 0 else 1) goal.topo.serial (ns.length + 1) from_

/-- One pair from this node to a node of its string; with SINGLEOK only the usable copy, marked SINGLE (R379, R380, R385). -/
def State.sendTwin (s : State) (dst : FAddr) (kind : Byte) (cause : BitVec 4) : State :=
  let seq := s.rd 0x312B + 1
  let t := s.wr 0x312B seq
  let dirs := match s.me, nodeAt s.fab.nodes dst with
    | some a, some b => (ringUsable s.fab.nodes a b false, ringUsable s.fab.nodes a b true)
    | _, _ => (true, true)
  let single := s.bit 0x3128 16 && dirs.1 != dirs.2
  let head (down : Bool) := twinHead kind down single s.stamp.1 s.fab.addr dst seq s.stamp.2 s.stateBits cause
  let up (x : State) := if single && !dirs.1 then x else x.sendTwinCopy dst (head false) false
  let dn (x : State) := if single && !dirs.2 then x else x.sendTwinCopy dst (head true) true
  dn (up t)

/-- RAMPREQ (R353, R380): to a converter of another string both copies follow the route of R276. -/
def State.sendRampReq (s : State) (dst : FAddr) (cause : BitVec 4) : State :=
  if dst.toNat / 64 == s.fab.addr.toNat / 64 then s.sendTwin dst 0x04 cause
  else
    let seq := s.rd 0x312B + 1
    let head (down : Bool) := twinHead 0x04 down false s.stamp.1 s.fab.addr dst seq s.stamp.2 s.stateBits cause
    ((s.wr 0x312B seq).sendTo tySafe dst (twinBytes (head false))).sendTo tySafe dst (twinBytes (head true))

/-- Start Ramp and Doff (R353): I0, RAMP, RAMPSTART and the request to the converter node. In Watch SF-RD leaves its normal state, which asks for
Run (R48, R350). -/
def State.rampStart (s : State) (cause : BitVec 4) : State :=
  let i := ratAbs s.current
  let t := (s.setBit 0x3100 6 true).wr 0x310C (pack [(16, 16, satNat 16 (ratInt i))])
  let u := { t with safe := { t.safe with ramp := some (0, i.num, i.den, cause) } }.raise 75
    (pack [(0, 4, cause.toNat), (16, 12, s.fab.addr.toNat)])
  (if s.bit 0x310B 12 then u.sendRampReq (BitVec.ofNat 12 (s.fld 0x310B 0 12)) cause else u).askRun

/-- Chisel slice 19 or 20 holds the monitor's path to an output (R398). -/
def State.pathHeld (s : State) : Bool := s.chis.busy && (s.chis.next == 19 || s.chis.next == 20)

/-- R354, R355, R357: a demand on this node's outputs. It aborts a slice that holds the output path (R398). -/
def State.demand (s0 : State) (cause : BitVec 4) (immediate : Bool) : State :=
  let s := if s0.pathHeld then { s0 with chis := { s0.chis with aborted := true } } else s0
  if s.outputsOn then
    if immediate || s.rd 0x1002 == 0 then s.doff cause true false false
    else if s.ramping then s else s.rampStart cause
  else
    let t := (s.latch true).permit false
    { t with safe := { t.safe with phase := 0, retryDue := false } }.outShow

/-- A demand of this node itself: it acts here, latches its STATE bits, and is told to the string as a twin frame (R346, R379, R386). -/
def State.ownDemand (s : State) (cause : BitVec 4) (immediate : Bool) (bits : Half) : State :=
  let due : Byte × BitVec 4 := if immediate then (0x02, cause) else (0x03, cause)
  let keep := match s.safe.twinDue with
    | some d => if d.1 == 0x02 then d else due
    | none => due
  ({ s with safe := { s.safe with latched := s.safe.latched ||| bits, twinDue := some keep } }).demand cause immediate

/-- R348: a channel fault: outputs off, SAFECHAN with row and detail, Guard with GCAUSE 4. -/
def State.channelFault (s : State) (row detail : Nat) : State :=
  ((s.raise 77 (pack [(0, 5, row), (8, 8, detail)])).ownDemand 9 true 0x100).enterGuard 4

/-! ## The safety tick -/

/-- Watched channels (R350): cells 1 to N, the AUX inputs of `sf.ot.mask`, and the current on a contactor node. -/
def State.watched (s : State) : List Nat :=
  List.range s.cells ++ ((List.range 16).filter fun n => s.bit 0x3108 n).map (27 + ·) ++ (if s.fitted then [s.ocChan] else [])

/-- A cell whose sample is held now: its switch shorted (R113), or a probe without coefficients has it (R229). -/
def State.cellHeld (s : State) (c : Nat) : Bool := decide (c < 24) && (s.bit 0x1006 c || s.probeHolds c)

/-- Close the samples of a tick (R351): a held cell that has given none in it takes its last value; the window keeps 16 ticks. -/
def State.takeTick (s : State) : State :=
  let seen (c : Nat) : Bool := s.safe.now.any fun (x : Nat × Int × Bool) => x.1 == c
  let stand := (List.range 24).filterMap fun c =>
    if s.cellHeld c && !seen c then (s.safe.held.find? fun (x : Nat × Int) => x.1 == c).map fun x => (c, x.2, false) else none
  let mine := s.safe.now ++ stand
  let held := mine.foldl (fun (h : List (Nat × Int)) x => (h.filter fun y => !(y.1 == x.1)) ++ [(x.1, x.2.1)]) s.safe.held
  { s with safe := { s.safe with now := [], window := (mine :: s.safe.window).take 16, held := held } }

/-- DATA of SFOV and SFUV (R363). -/
def cellTripData (c : Nat) (lost : Bool) (mv : Int) : Word := pack [(0, 5, c + 1), (5, 1, b2n lost), (16, 16, satField 16 mv)]

/-- Judge one element of a function: whether it trips now, clears now, or stays. `none` mean: no sample to judge by. -/
def judge (active : Bool) (trip clear : Bool) : Option Bool := if !active && trip then some true else if active && clear then some false else none

/-- SF-OV and SF-UV of one cell (R350, R351). -/
def State.judgeCell (s : State) (c : Nat) : State :=
  let xs := s.samplesOf c
  let lost := s.lineOpen c || s.lineOpen (c + 1)
  let watched := decide (c < s.cells)
  let n : Int := xs.length
  let sum := xs.foldl (fun a (x : Int × Bool) => a + x.1) (0 : Int)
  let ov : Int := 10 * s.fld 0x3102 16 16
  let uv : Int := 10 * s.fld 0x3102 0 16
  let isSet := s.fld 0x3102 16 16 != 0
  let hiClip := xs.any fun x => x.2 && decide (22500 < x.1)
  let loClip := xs.any fun x => x.2 && decide (x.1 ≤ 22500)
  let mv : Int := if n = 0 then 0 else quot sum (10 * xs.length)
  let has := decide (0 < n) && isSet
  let o := judge (s.safe.ov.getLsbD c) (watched && (lost || has && (hiClip || decide (ov * n < sum))))
    (!watched || (!lost && has && !hiClip && decide (sum ≤ (ov - 500) * n)))
  let s1 := match o with
    | some b => ({ s with safe := { s.safe with ov := setBitV s.safe.ov c b } }).raiseC 71 (cellTripData c lost mv) (!b)
    | none => s
  let u := judge (s1.safe.uv.getLsbD c) (watched && (lost || has && (loClip || decide (sum < uv * n))))
    (!watched || (!lost && has && !loClip && decide ((uv + 500) * n ≤ sum)))
  match u with
  | some b => ({ s1 with safe := { s1.safe with uv := setBitV s1.safe.uv c b } }).raiseC 72 (cellTripData c lost mv) (!b)
  | none => s1

/-- SF-OT of one AUX input (R350, R351); a watched NTC at 0x8000 for `sf.avg` + 1 ticks in a row is an input lost. -/
def State.judgeAux (s : State) (n : Nat) : State :=
  let watched := s.bit 0x3108 n
  let xs := s.samplesOf (27 + n)
  let good := xs.filter fun x => !x.2
  let newest := (s.safe.window.head?.getD []).filter fun x => x.1 == 27 + n
  let badNow := watched && !newest.isEmpty && newest.all fun x => x.2.2
  let run := if badNow then nth s.safe.ntcBad n 0 + 1 else if newest.isEmpty then nth s.safe.ntcBad n 0 else 0
  let s0 := { s with safe := { s.safe with ntcBad := s.safe.ntcBad.set n run } }
  let lost := watched && decide (s.fld 0x3103 0 5 + 1 ≤ run)
  let k : Int := good.length
  let sum := good.foldl (fun a (x : Int × Bool) => a + x.1) (0 : Int)
  let lim := s.sfld 0x3107 0 16
  let t := judge (s.safe.ot.getLsbD n) (watched && (lost || decide (0 < k) && decide (lim * k ≤ sum)))
    (!watched || (!lost && decide (0 < k) && decide (sum ≤ (lim - 20) * k)))
  let val : Int := if k = 0 then -32768 else quot sum good.length
  match t with
  | some b => ({ s0 with safe := { s0.safe with ot := setBitV s0.safe.ot n b } }).raiseC 73
      (pack [(0, 4, n), (4, 1, b2n lost), (16, 16, satField 16 val)]) (!b)
  | none => s0

/-- SF-OC in one direction (R350, R351): bit 0 charging, bit 1 discharging. -/
def State.judgeCurrent (s : State) (dir : Nat) : State :=
  let xs := s.samplesOf s.ocChan
  let lost := s.rd 0x1002 == 0
  let lim : Rat := (s.fld (if dir = 0 then 0x3104 else 0x3105) 0 16 : Nat)
  let i := if dir = 0 then s.current else -s.current
  let clip := xs.any fun x => x.2 && (if dir = 0 then decide (0 < x.1) else decide (x.1 < 0))
  let watched := s.fitted && (lost && dir == 0 || lim != 0)
  let t := judge (s.safe.oc.getLsbD dir) (watched && (lost || !xs.isEmpty && (clip || decide (lim < i))))
    (!watched || (!lost && !xs.isEmpty && !clip && decide (i ≤ lim * 95 / 100)))
  match t with
  | some b => ({ s with safe := { s.safe with oc := setBitV s.safe.oc dir b } }).raiseC 74
      (pack [(0, 1, dir), (1, 1, b2n lost), (16, 16, satField 16 (ratInt s.current))]) (!b)
  | none => s

/-- A channel counts as CLOSED (R372, R373). -/
def Channel.on (c : Channel) : Bool := c.closed && !c.short

/-- R374 to R376: the inputs at a tick: the count D, DISCREP and its cycle, DEMAND, and the demands they make. -/
def State.inputTick (s : State) : State × List (BitVec 4 × Bool) :=
  let a := s.safe.inA.on
  let b := s.safe.inB.on
  let n := s.fld 0x3127 0 12
  let d0 := s.fld 0x3126 16 16
  let d := if a != b then min 0xFFFF (d0 + 1) else 0
  let firstB := if a != b ∧ d0 = 0 then a else s.safe.firstB
  let cycle0 := s.bit 0x3126 6
  let trip := decide (0 < n) && d == n && !s.bit 0x3126 3
  let data := pack [(0, 1, b2n firstB), (16, 16, n)]
  let openNow := cycle0 && (s.safe.cycleOpen || (!a && !b))
  let ends := cycle0 && s.safe.cycleOpen && a && b
  let cycle := (cycle0 || trip) && !ends
  let dem0 := s.bit 0x3126 2
  let dem := if !a || !b then true else if cycle then dem0 else false
  let w := pack [(16, 16, d), (6, 1, b2n cycle), (5, 1, b2n s.safe.inB.short), (4, 1, b2n s.safe.inA.short), (3, 1, b2n cycle),
    (2, 1, b2n dem), (1, 1, b2n b), (0, 1, b2n a)]
  let s1 := { s with safe := { s.safe with firstB := firstB, cycleOpen := if ends then false else openNow } }.wr 0x3126 w
  let s2 := if trip then s1.raise 80 data else if ends then s1.raiseC 80 data true else s1
  (s2, (if dem && !dem0 then [(6, false)] else []) ++ (if trip then [(7, false)] else []))

/-- R354: of the demands of one tick the immediate one wins, and within a kind the lowest cause code. -/
def chooseDemand (l : List (BitVec 4 × Bool)) : Option (BitVec 4 × Bool) :=
  least (l.map fun d => ((if d.2 then 0 else 16) + d.1.toNat, d))

/-- R353: the ramp at a tick: Doff at low current, outside the envelope, or at Tr. -/
def State.rampTick (s : State) : State :=
  match s.safe.ramp with
  | none => s
  | some (t, i0n, i0d, cause) =>
    let tr := rampTime (sealRamp s.seal)
    let mag := ratAbs s.current
    let margin : Rat := (s.fld 0x310A 0 16 : Rat) / 10
    let rel : Rat := (s.fld 0x3109 0 16 : Rat) / 10
    let i0 : Rat := (i0n : Rat) / (i0d : Nat)
    let lim : Rat := if t ≤ tr ∧ 0 < tr then i0 * (1 - (t : Rat) / (tr : Nat)) + margin else margin
    let s1 := s.setFld 0x310C 0 16 (min 0xFFFF t)
    let out := decide (lim < mag)
    let reached := decide (tr ≤ t)
    if decide (mag < rel) || out || reached then s1.doff cause false out reached
    else { s1 with safe := { s1.safe with ramp := some (t + 1, i0n, i0d, cause) } }

/-- R369: at a tick whose count is a multiple of 1,000 SAFEH, and 500 later SAFEL, is pulsed low while both switches are on. -/
def State.offTestTick (s : State) : State :=
  let quiet := s.safe.phase == 3 && !s.ramping && !s.safe.testH.busy && !s.safe.testL.busy
  if quiet && s.pathHeld && s.safe.ticks % 500 == 0 then
    { s with safe := { s.safe with testWait := setBitV s.safe.testWait (if s.safe.ticks % 1000 == 0 then 0 else 1) true } }
  else if quiet && s.safe.ticks % 1000 == 0 then
    { s with pins := { s.pins with safeH := false }, safe := { s.safe with testH := ⟨true, false⟩ } }.outShow
  else if quiet && s.safe.ticks % 1000 == 500 then
    { s with pins := { s.pins with safeL := false }, safe := { s.safe with testL := ⟨true, false⟩ } }.outShow
  else s

/-- The channels that get a safety injection after a tick (R351). -/
def State.injectAfter (s : State) (seen : List Nat) : State :=
  let need := match s.pwr.mode with
    | .run => s.watched.filter fun c => !(seen.contains c)
    | _ => s.watched
  { s with conv := { s.conv with safetyInj := need } }

/-- R216: since when this shunt node's averaged current has lain within `bal.rest.i`; a tick without a sample changes nothing. The channel is that
of SF-OC (DESIGN CHOICE, log 116). -/
def State.restTick (s : State) : State :=
  if s.rd 0x1002 = 0 then { s with bal := { s.bal with quiet := none } }
  else match s.meanOf s.ocChan with
    | none => s
    | some m =>
      let still := decide (ratAbs (s.amps m) * 10 ≤ (s.fld 0x1511 0 16 : Nat))
      { s with bal := { s.bal with quiet := if still then some (s.bal.quiet.getD s.clk.ref) else none } }

/-- SAFETY_TICK (R351 to R354, R369, R374 to R376, R48): the monitor averages the samples, judges every function, the inputs and the
ramp, and acts on the demands of the tick. -/
def safetyTick (s : State) : State :=
  if !s.up then s
  else
    let seen := s.safe.now.map (·.1)
    let s0 := s.takeTick.restTick
    let s1 := { s0 with safe := { s0.safe with ticks := s.safe.ticks + 1 } }
    let s2 := (List.range 24).foldl State.judgeCell s1
    let s3 := (List.range 16).foldl State.judgeAux s2
    let s4 := [0, 1].foldl State.judgeCurrent s3
    let i := s4.inputTick
    let new (cause : BitVec 4) (b : Bool) : List (BitVec 4 × Bool) := if b then [(cause, true)] else []
    let fresh {w : Nat} (now old : BitVec w) : Bool := (now &&& ~~~ old) != 0
    let trips := new 1 (fresh s4.safe.ov s1.safe.ov) ++ new 2 (fresh s4.safe.uv s1.safe.uv) ++ new 3 (fresh s4.safe.ot s1.safe.ot)
      ++ new 4 (fresh s4.safe.oc s1.safe.oc) ++ i.2
    let s5 := ((((i.1.setBit 0x3100 0 (i.1.safe.ov != 0)).setBit 0x3100 1 (i.1.safe.uv != 0)).setBit 0x3100 2 (i.1.safe.ot != 0)).setBit
      0x3100 3 (i.1.safe.oc != 0))
    let s6 := match chooseDemand trips with
      | some d => s5.ownDemand d.1 d.2 s5.activeBits
      | none => s5
    let s7 := (s6.rampTick.offTestTick).injectAfter seen
    if trips.isEmpty then s7 else s7.askRun

/-! ## The output pair -/

/-- Every expected sender is fresh in the directions watched (R384, R385). -/
def Peer.fresh (p : Peer) : Bool :=
  (p.upOk || (!p.watchUp && p.watchDown)) && (p.downOk || (!p.watchDown && p.watchUp))

/-- Some sender shows a demand (R386). -/
def State.remote (s : State) : Bool := s.safe.peers.any fun p => (p.state &&& 0x1FF) != 0

/-- `sf.status` REMOTE and `sf.tf.status` follow the peers (R364, R388). -/
def State.peersShow (s : State) : State :=
  let stale := (s.safe.peers.filter fun p => !p.fresh).length
  let single := s.safe.peers.any fun p => p.watchUp != p.watchDown
  (s.setBit 0x3100 7 s.remote).wr 0x3129 (pack [(16, 16, s.safe.peers.length), (15, 1, b2n single), (0, 7, min 127 stale)])

/-- The conditions of R367 under which the switches may close; outputs only in Run and Watch (R47), and after the round of R51 or
R340. -/
def State.mayClose (s : State) : Bool :=
  (s.pwr.mode == .run || s.pwr.mode == .watch) && s.fitted && s.bit 0x3100 4 && !s.bit 0x3100 5 && !s.bit 0x3100 7 && !s.ramping
    && (s.activeBits &&& 0x1FF) == 0 && (s.safe.peers.all Peer.fresh) && !s.pwr.roundDue && !s.pwr.stuck && !s.safe.sealChg
    && !s.safe.sealBad && s.pwr.hatbox == .none

/-- FBMISMATCH (R387) and its demand with cause 13. -/
def State.fbMismatch (s : State) (low commanded level inSeq : Bool) : State :=
  (s.raise 78 (pack [(0, 1, b2n low), (1, 1, b2n commanded), (2, 1, b2n level), (3, 1, b2n inSeq)])).ownDemand 13 true 0

/-- A step of the closing sequence fails (R367): both leads low; the sequence runs again 100 ms later, and a second failure is
FBMISMATCH. -/
def State.closeFails (s : State) (low commanded level : Bool) : State :=
  let n := s.safe.failures + 1
  let t := s.leadsOff
  if n < 2 then { t with safe := { t.safe with failures := n, phase := 4, retryDue := true } }.outShow
  else { t with safe := { t.safe with failures := 0 } }.fbMismatch low commanded level true

/-- Steps 1 and 2 of R367. -/
def State.closeBegin (s : State) : State :=
  if s.pins.fbH then s.closeFails false false true
  else if s.pins.fbL then s.closeFails true false true
  else { s with pins := { s.pins with safeL := true }, safe := { s.safe with phase := 1, retryDue := false, feedFail := 0 } }.outShow

/-- CLOSE_SEQUENCE (R367): with every condition met the sequence starts. -/
def closeSequence (s : State) : State := if s.mayClose && s.safe.phase == 0 && !s.pathHeld then s.closeBegin else s

/-- CLOSE_SEQUENCE_RETRY (R367): 100 ms after a first failure the sequence runs again. -/
def closeSequenceRetry (s : State) : State :=
  if s.safe.retryDue then
    if s.pathHeld then s
    else if s.mayClose then { s with safe := { s.safe with phase := 0, retryDue := false } }.closeBegin
    else { s with safe := { s.safe with phase := 0, retryDue := false } }.outShow
  else s

/-- A first feedback failure that its repeat does not show is a transient (R19, R368). -/
def State.feedGood (s : State) (low : Bool) : State :=
  let i := if low then 1 else 0
  if s.safe.feedFail.getLsbD i then { s with safe := { s.safe with feedFail := setBitV s.safe.feedFail i false } }.transient 5 1 else s

/-- FEEDBACK_CHANGE (R365, R367, R368): a new feedback level is accepted and the closing sequence proceeds. In Hatbox, in Off and while reset is held
the node samples no feedback (R18). -/
def feedbackChange (low level : Bool) (s : State) : State :=
  if !s.awake then s
  else
    let t := { s with pins := if low then { s.pins with fbL := level } else { s.pins with fbH := level } }.outShow
    if !t.fitted then t
    else if t.safe.phase == 1 && low && level then
      { t with pins := { t.pins with safeH := true }, safe := { t.safe with phase := 2 } }.outShow
    else if t.safe.phase == 2 && !low && level then
      let u := { t with safe := { t.safe with phase := 3, failures := 0 } }.outShow
      if t.safe.failures = 0 then u else u.transient 5 1
    else
      let lead := if low then t.pins.safeL else t.pins.safeH
      if lead == level then t.feedGood low else t

/-- FEEDBACK_TIMEOUT (R367, R368): a feedback has disagreed with its lead for `sf.fb.time`; in the closing sequence the step that waits for it
fails; elsewhere a first failure, then FBMISMATCH. The pulsed output of an off-test is judged by R369 alone. -/
def feedbackTimeout (low : Bool) (s : State) : State :=
  let lead := if low then s.pins.safeL else s.pins.safeH
  let fb := if low then s.pins.fbL else s.pins.fbH
  let testing := if low then s.safe.testL.busy else s.safe.testH.busy
  let i := if low then 1 else 0
  if !(s.up && s.fitted) || lead == fb || testing then s
  else if (s.safe.phase == 1 && low) || (s.safe.phase == 2 && !low) then s.closeFails low lead fb
  else if s.safe.feedFail.getLsbD i then
    { s with safe := { s.safe with feedFail := setBitV s.safe.feedFail i false } }.fbMismatch low lead fb false
  else { s with safe := { s.safe with feedFail := setBitV s.safe.feedFail i true } }

/-- OFFTEST_PULSE_END (R369): the pulse ends; the delay to open in µs, or none when the feedback never read open. -/
def offtestPulseEnd (delay : Option Nat) (s : State) : State :=
  let low := s.safe.testL.busy
  if !(s.safe.testH.busy || low) then s
  else
    let test := if low then s.safe.testL else s.safe.testH
    let d := match delay with | some n => min 0xFFFE n | none => 0xFFFF
    let t := { s with pins := if low then { s.pins with safeL := true } else { s.pins with safeH := true },
                      safe := if low then { s.safe with testL := ⟨false, false⟩ } else { s.safe with testH := ⟨false, false⟩ } }
    let u := (t.setFld 0x3124 (if low then 16 else 0) 16 d).outShow
    match delay with
    | some _ => if test.again then u.transient 5 1 else u
    | none =>
      if test.again then (u.raise 79 (pack [(0, 1, b2n low), (16, 16, 0xFFFF)])).ownDemand 13 true 0
      else { u with safe := { u.safe with testDue := setBitV u.safe.testDue (if low then 1 else 0) true } }

/-- OFFTEST_RETRY (R369): 10 ms after a failed off-test the output is tested again. -/
def offtestRetry (s : State) : State :=
  if s.safe.phase == 3 && !s.ramping && !s.safe.testH.busy && !s.safe.testL.busy && !s.pathHeld then
    if s.safe.testDue.getLsbD 0 then
      { s with pins := { s.pins with safeH := false },
               safe := { s.safe with testH := ⟨true, true⟩, testDue := setBitV s.safe.testDue 0 false } }.outShow
    else if s.safe.testDue.getLsbD 1 then
      { s with pins := { s.pins with safeL := false },
               safe := { s.safe with testL := ⟨true, true⟩, testDue := setBitV s.safe.testDue 1 false } }.outShow
    else s
  else s

/-! ## Dual-channel inputs -/

/-- Change channel A, or B. -/
def State.setChannel (s : State) (b : Bool) (f : Channel → Channel) : State :=
  if b then { s with safe := { s.safe with inB := f s.safe.inB } } else { s with safe := { s.safe with inA := f s.safe.inA } }

/-- Channel A, or B. -/
def State.channel (s : State) (b : Bool) : Channel := if b then s.safe.inB else s.safe.inA

/-- TP_PULSE (R371, R372): TPA, or TPB, pulses low and its channel is blanked. -/
def tpPulse (b : Bool) (s : State) : State :=
  if s.up then
    { s.setChannel b fun c => { c with blanked := true } with
      pins := if b then { s.pins with tpB := false } else { s.pins with tpA := false } }
  else s

/-- R373: one check of one channel; `first` selects the check of its own pulse. A second failure in a row is a short. -/
def State.shortCheck (s : State) (b first ok : Bool) : State :=
  let c := s.channel b
  let failed := if first then c.fail1 else c.fail2
  if ok then
    let p1 := if first then c.pass1 + 1 else c.pass1
    let p2 := if first then c.pass2 else c.pass2 + 1
    let clear := c.short && decide (2 ≤ p1) && decide (2 ≤ p2)
    let t := s.setChannel b fun _ => { c with fail1 := if first then false else c.fail1, fail2 := if first then c.fail2 else false,
                                              pass1 := p1, pass2 := p2, short := c.short && !clear }
    if failed && !c.short then t.transient 5 1 else t
  else
    let c1 := { c with fail1 := first || c.fail1, fail2 := !first || c.fail2, pass1 := 0, pass2 := 0 }
    if failed && !c.short then
      ((s.setChannel b fun _ => { c1 with short := true }).raise 81 (pack [(0, 1, b2n b), (1, 1, if first then 0 else 1)])).ownDemand 7 false 0x20
    else s.setChannel b fun _ => c1

/-- SHORTA and SHORTB in `sf.di.status` follow the channels (R388). -/
def State.shortShow (s : State) : State := (s.setBit 0x3126 4 s.safe.inA.short).setBit 0x3126 5 s.safe.inB.short

/-- TP_PULSE_END (R372, R373): the pulse and its blanking end; the channel takes its level, and the two checks are applied. -/
def tpPulseEnd (b ownLow otherLow otherAround : Bool) (s : State) : State :=
  if s.up && (s.channel b).blanked then
    let t := { s with pins := if b then { s.pins with tpB := true } else { s.pins with tpA := true } }
    let own := t.channel b
    let s1 := t.shortCheck b true (!own.closed || ownLow)
    let s2 := s1.shortCheck (!b) false (!otherLow || otherAround)
    (s2.setChannel b fun c => { c with blanked := false, closed := c.level }).shortShow
  else s

/-- INPUT_CHANGE (R365, R372): a new level is accepted; a blanked channel keeps its state. In Hatbox, in Off and while reset is held the inputs are
not sampled (R18). -/
def inputChange (b level : Bool) (s : State) : State :=
  if s.awake then s.setChannel b fun c => { c with level := level, closed := if c.blanked then c.closed else level } else s

/-! ## Twin frames -/

/-- The other contactor nodes of this node's string (R346, R379). -/
def State.contactors (s : State) : List FAddr :=
  match s.me with
  | none => []
  | some me => s.fab.nodes.filterMap fun n =>
      if n.fitted && n.str == me.str && !(n.topo.serial == s.serial) && n.present && !n.quar then n.addr else none

/-- TWIN_FRAME_SEND (R379, R380, R385): a pair to every contactor node of the string: a trip or ramp that is due, else STATUS. -/
def twinFrameSend (s : State) : State :=
  if s.up && s.fab.valid then
    let k := s.safe.twinDue.getD (0x01, 0)
    let t := { s with safe := { s.safe with twinDue := none } }
    t.contactors.foldl (fun x a => x.sendTwin a k.1 k.2) t
  else s

/-- The record of the sender a copy names; a node without an address sends none (R379). -/
def State.peerAt (s : State) (a : FAddr) : Option Peer := if a = noAddr then none else s.safe.peers.find? fun p => p.addr == a

/-- Change the record of a sender. -/
def State.setPeer (s : State) (a : FAddr) (f : Peer → Peer) : State :=
  { s with safe := { s.safe with peers := s.safe.peers.map fun p => if p.addr == a then f p else p } }

/-- SAFEFRAME (R387) and its immediate demand with cause 8. -/
def State.safeFrame (s : State) (a : FAddr) (reason : Nat) (seq : Word) : State :=
  (s.raise 83 (pack [(0, 12, a.toNat), (12, 2, reason), (16, 16, seq.toNat % 65536)])).ownDemand 8 true 0

/-- R382: a copy that fails a check is counted in BAD; the next failure in the same direction is lasting. So it is where no sender is expected at the
address, for which R387 has no reason of its own: the model gives reason 2 (DESIGN CHOICE, log 115). -/
def State.twinBad (s : State) (a : FAddr) (down : Bool) (reason : Nat) (seq : Word) : State :=
  let t := s.addSat 0x312A 16 16 1
  match t.peerAt a with
  | none =>
    let rest := t.safe.strangers.filter fun x => !(x == (a, down))
    if t.safe.strangers.contains (a, down) then { t with safe := { t.safe with strangers := rest } }.safeFrame a reason seq
    else { t with safe := { t.safe with strangers := rest ++ [(a, down)] } }
  | some p =>
    if (if down then p.downBad else p.upBad) then
      (t.setPeer a fun p => if down then { p with downBad := false } else { p with upBad := false }).safeFrame a reason seq
    else t.setPeer a fun p => if down then { p with downBad := true } else { p with upBad := true }

/-- Ramp and Doff demands a STATE carries, as cause codes (R386). -/
def rampCause (bits : Half) : Option (BitVec 4) :=
  if bits.getLsbD 4 then some 6 else if bits.getLsbD 5 then some 7 else if bits.getLsbD 6 then some 10
  else if bits.getLsbD 7 then some 11 else none

/-- R386: act on an accepted copy: TRIP, RAMP, or a STATUS whose STATE shows a demand not yet acted on. -/
def State.twinAct (s : State) (kind : Byte) (cause : BitVec 4) (st acted : Half) : State :=
  let new := st &&& ~~~ acted &&& 0x1FF
  if kind == 0x02 then s.demand 12 true
  else if kind == 0x03 then s.demand cause false
  else if (new &&& 0x10F) != 0 then s.demand 12 true
  else match rampCause new with
    | some c => s.demand c false
    | none => s

/-- R383: the second copy of a pair is compared with the first in bytes 0 to 25 other than WAY. -/
def sameCopy (a b : List Byte) : Bool :=
  let strip (l : List Byte) : List Byte := (l.take 26).set 1 ((nth l 1 0) &&& 0xFE)
  strip a == strip b

/-- Accept a copy that passed R382, at a contactor node: freshness, the pair comparison of R383, and the demand of R386. -/
def State.twinAccept (s : State) (p : Peer) (down : Bool) (bs : List Byte) (seq : Word) : State :=
  let st : Half := BitVec.ofNat 16 (numBE [nth bs 18 0, nth bs 19 0])
  let cause : BitVec 4 := BitVec.ofNat 4 (nth bs 20 0).toNat
  let both := p.watchUp && p.watchDown
  let q0 := { p with upOk := p.upOk || !down, downOk := p.downOk || down, upAt := if down then p.upAt else s.safe.ticks,
                     downAt := if down then s.safe.ticks else p.downAt, upSaid := p.upSaid && down, downSaid := p.downSaid && !down,
                     upBad := p.upBad && down, downBad := p.downBad && !down, seq := seq, anySeq := false,
                     upSeq := if down then p.upSeq else some seq, downSeq := if down then some seq else p.downSeq,
                     state := st, cause := cause, acted := st }
  let second := match p.first with
    | some (d, f) => d != down && BitVec.ofNat 32 (numBE ((f.drop 6).take 4)) == seq
    | none => false
  let put (x : State) (q : Peer) : State := (x.setPeer p.addr fun _ => q).peersShow
  if second then
    match p.first with
    | some (_, f) =>
      if sameCopy f bs then put s { q0 with first := none, differ := false }
      else if p.differ then (put s { q0 with first := none, differ := false }).safeFrame p.addr 0 seq
      else put s { q0 with first := none, differ := true }
    | none => s
  else
    (put s { q0 with first := if both then some (down, bs) else none }).twinAct (nth bs 0 0) cause st p.acted

/-- TWIN_FRAME_RECEIVE (R380 to R386): check a copy in the order of R382 and act on it. A RAMPREQ makes the converter node raise
RAMPSTART on the first copy that passes (R380). -/
def twinFrameReceive (_port : Fin 4) (bs : List Byte) (s : State) : State :=
  let down := (nth bs 1 0).getLsbD 0
  let isLocal := (nth bs 1 0).getLsbD 2
  let src : FAddr := BitVec.ofNat 12 (numBE [nth bs 2 0, nth bs 3 0])
  let dst : FAddr := BitVec.ofNat 12 (numBE [nth bs 4 0, nth bs 5 0])
  let seq : Word := BitVec.ofNat 32 (numBE ((bs.drop 6).take 4))
  let time := numBE ((bs.drop 10).take 8)
  let head := bs.take 26
  let crc1 := decide ((bs.drop 26).take 4 = bytesBE 4 (crc32c head).toNat)
  let crc2 := decide ((bs.drop 30) = bytesBE 2 (crc16 (head.map fun b => ~~~ b)).toNat)
  let now := s.clk.fabric.toNat
  let timeOk := isLocal || !s.fab.hasTime || (decide (now ≤ time + s.fld 0x3128 8 8 * 40000) && decide (time ≤ now + 2000))
  if !s.up then s
  else if nth bs 0 0 == 0x04 && crc1 && crc2 && dst == s.fab.addr then
    let old := s.safe.rampSeq.find? fun (x : FAddr × Word) => x.1 == src
    let taken := match old with | some x => !decide ((seq - x.2).toNat < 2 ^ 31) || x.2 == seq | none => false
    if taken || !timeOk then s
    else { s with safe := { s.safe with rampSeq := (s.safe.rampSeq.filter fun (x : FAddr × Word) => !(x.1 == src)) ++ [(src, seq)] } }.raise 75
        (pack [(0, 4, (nth bs 20 0).toNat), (16, 12, src.toNat)])
  else if !s.fitted then s
  else if !crc1 || !crc2 then s.twinBad src down 1 seq
  else
    match s.peerAt src with
    | none => s.twinBad src down 2 seq
    | some p =>
      let lastSame := if down then p.downSeq else p.upSeq
      if lastSame == some seq && !p.anySeq then s
      else if p.missed == some (down, seq) then s.setPeer src fun p => { p with missed := none }
      else if !(dst == s.fab.addr) || !(p.anySeq || decide ((seq - p.seq).toNat < 2 ^ 31)) || !timeOk then s.twinBad src down 2 seq
      else s.twinAccept p down bs seq

/-- TWIN_COPY_TIMEOUT (R383): the second copy of a pair is missing after 2 ms: counted in MISS, discarded when it comes. -/
def twinCopyTimeout (sender : FAddr) (s : State) : State :=
  match s.peerAt sender with
  | some p =>
    match p.first with
    | some (d, f) =>
      (s.addSat 0x312A 0 16 1).setPeer sender fun p => { p with first := none, missed := some (!d, BitVec.ofNat 32 (numBE ((f.drop 6).take 4))) }
    | none => s
  | none => s

/-- The silence of a direction of this sender has not been reported. -/
def Peer.unsaid (p : Peer) (down : Bool) : Bool := !(if down then p.downSaid else p.upSaid)

/-- SAFEWDOG (R384): a watched direction of an expected sender is silent for WDOG: an immediate demand with cause 8. Senders without an address are
told by 0xFFE, one after the other. -/
def safewdog (sender : FAddr) (down : Bool) (s : State) : State :=
  match s.safe.peers.find? fun p => p.addr == sender && p.unsaid down with
  | none => s
  | some p =>
    let watched := if down then p.watchDown || !p.watchUp else p.watchUp || !p.watchDown
    if !(s.up && s.fitted) || !watched then s
    else
      let gone := match nodeOf s.fab.nodes p.serial with
        | some n => n.lost || n.quar || !n.topo.fw
        | none => true
      let since := s.safe.ticks - (if down then p.downAt else p.upAt)
      let silent (q : Peer) : Peer := if down then { q with downOk := false, downSaid := true } else { q with upOk := false, upSaid := true }
      let t := { s with safe := { s.safe with peers := s.safe.peers.map fun (q : Peer) => if q.serial == p.serial then silent q else q } }.peersShow
      (t.raise 84 (pack [(0, 12, sender.toNat), (12, 1, b2n !down), (13, 1, b2n down), (14, 1, b2n gone), (16, 16, min 0xFFFF since)])).ownDemand
        8 true 0

/-- R384, R385: recompute the expected senders and the directions watched, at DISCDONE and TOPOCHG: every node of the string but those asleep, lost,
quarantined and unprogrammed ones among them, which have no address. -/
def State.peersRefresh (s : State) : State :=
  match s.me with
  | none => { s with safe := { s.safe with peers := [] } }.peersShow
  | some me =>
    let exp := s.fab.nodes.filter fun n => n.str == me.str && !(n.topo.serial == s.serial) && !n.sleep
    let ok := s.bit 0x3128 16
    let ps := exp.map fun n =>
      let a := n.addr.getD noAddr
      let up := ringUsable s.fab.nodes n me false
      let dn := ringUsable s.fab.nodes n me true
      let wu := !(ok && !up && dn)
      let wd := !(ok && !dn && up)
      match s.safe.peers.find? fun p => p.serial == n.topo.serial with
      | some p =>
        { p with addr := a, watchUp := wu, watchDown := wd, upAt := if wu && !p.watchUp then s.safe.ticks else p.upAt,
                 downAt := if wd && !p.watchDown then s.safe.ticks else p.downAt }
      | none =>
        ({ addr := a, serial := n.topo.serial, upOk := false, downOk := false, upAt := s.safe.ticks, downAt := s.safe.ticks, upSaid := false, downSaid := false,
           watchUp := wu, watchDown := wd, seq := 0, anySeq := true, upSeq := none, downSeq := none, state := 0, cause := 0, acted := 0,
           upBad := false, downBad := false, differ := false, first := none, missed := none } : Peer)
    { s with safe := { s.safe with peers := if s.fitted then ps else [] } }.peersShow

/-- R382: after a TOPOCHG that concerns a sender, step 4 accepts any SEQ from it once; `old` is the Armature before the change. -/
def State.freshSeq (old : List Node) (s : State) : State :=
  let fresh (p : Peer) : Peer := { p with anySeq := p.anySeq || !(nodeAt old p.addr == nodeAt s.fab.nodes p.addr) }
  { s with safe := { s.safe with peers := s.safe.peers.map fresh } }

/-! ## Commands -/

/-- SAFE_ACK (R355, R386): sets PERMIT and clears LATCH unless a refusing condition holds. -/
def State.safeAck (s : State) (r : Req) : State × Reply :=
  if r.a0 != 0x0000A5C3 || r.a1 != 0 || r.a2 != 0 || r.a3 != 0 then s.fail stBadValue
  else if (s.activeBits &&& 0x0F) != 0 || s.bit 0x3126 2 || s.bit 0x3100 7 || s.ramping
      || !(s.pwr.mode == .run || s.pwr.mode == .watch) || s.pwr.roundDue || !sealSet s.seal
      || (s.fitted && (s.fld 0x3104 0 16 == 0 || s.fld 0x3105 0 16 == 0)) then s.fail stRefused
  else
    let t := (s.latch false).permit true
    ({ t with safe := { t.safe with latched := 0, failures := 0 } }, .done stOk [])

/-- SAFE_STOP (R356): on a contactor node starts Ramp and Doff, or makes an immediate Doff. -/
def State.safeStop (s : State) (r : Req) : State × Reply :=
  if (r.a0 &&& 0xFFFFFFFE) != 0 || r.a1 != 0 || r.a2 != 0 || r.a3 != 0 then s.fail stBadValue
  else if !s.fitted then s.fail stRefused
  else
    let was := s.outputsOn
    let t := s.ownDemand 5 (r.a0 == 1) 0
    (t, .done stOk [if !was then 0 else if t.outputsOn then 1 else 2])

end Sys2Proof.Machine
end

