-- ==== Sys2Proof/Machine/Armature.lean ====
section
/-! DEFINITION. The Armature: strings and their numbers (R270), addresses and quarantine (R271), records and their cache (R274),
pending changes of owner (R430), the time-keeper (R278) and the time tree (R279). Every node computes it from the same TOPO frames. -/
namespace Sys2Proof.Machine

/-! ## Strings -/

/-- Insert by rising key. -/
def insertKey {α : Type} (key : α → Nat) (x : α) : List α → List α
  | [] => [x]
  | y :: t => if key x < key y then x :: y :: t else y :: insertKey key x t

/-- Sort by rising key; equal keys keep their order. -/
def sortKey {α : Type} (key : α → Nat) (l : List α) : List α := l.foldl (fun acc x => insertKey key x acc) []

/-- The ring neighbours of a node (R268): over PORT A and PORT B. -/
def adjRing (ns : List Node) (x : DWord) : List DWord :=
  match nodeOf ns x with
  | some n => ([0, 1].filterMap fun p => n.peer ns p).map (·.topo.serial)
  | none => []

/-- The nodes of a node's string (R269, step 2): joined to it by A–B links. -/
def compOf (ns : List Node) (x : DWord) : List DWord := (spread (adjRing ns) ns.length [x] 0 [(x, 0)]).map (·.1)

/-- The lowest serial number of a set of nodes. -/
def lowSerial (c : List DWord) : Nat := c.foldl (fun m x => min m x.toNat) (2 ^ 64)

/-- The strings of a fabric by ascending lowest serial number, each as its serial numbers. -/
def stringsOf (ns : List Node) : List (List DWord) :=
  sortKey lowSerial ((ns.filter fun n => lowSerial (compOf ns n.topo.serial) == n.topo.serial.toNat).map fun n => compOf ns n.topo.serial)

/-- The host number of a string (R270, rule 1): what most of its HOSTSET nodes hold, the lower on a tie. -/
def hostNumber (ns : List Node) (c : List DWord) : Option Nat :=
  let held := c.filterMap fun x => match nodeOf ns x with
    | some n => if n.topo.hostset then some n.topo.string.toNat else none
    | none => none
  least ((distinct held).map fun k => ((64 - (held.filter (· == k)).length) * 64 + k, k))

/-- The lowest numbers from 0 on that are not taken. -/
def freeNumbers (taken : List Nat) : List Nat := (List.range 64).filter fun k => !(taken.contains k)

/-- Rules 1 and 2 of R270: each string with the host number it keeps, and whether it lost one in a conflict. -/
def hostNumbers (ns : List Node) : List (List DWord × Option Nat × Bool) :=
  (stringsOf ns).foldl (fun acc c =>
    match hostNumber ns c with
    | some k => acc ++ [if acc.any fun (x : List DWord × Option Nat × Bool) => x.2.1 == some k then (c, none, true) else (c, some k, false)]
    | none => acc ++ [(c, none, false)]) []

/-- The node discovery order starts from (R270, rule 3). -/
def searchStart (ns : List Node) : DWord :=
  let hosts := ns.filter fun n => n.topo.host
  BitVec.ofNat 64 (lowSerial ((if hosts.isEmpty then ns else hosts).map (·.topo.serial)))

/-- The nodes with each string told from the others, before any has its number: a rung inside one string joins nothing (R260). -/
def strung (ns : List Node) : List Node :=
  let cs := stringsOf ns
  ns.map fun n => { n with str := 65 + (cs.findIdx fun c => c.contains n.topo.serial) }

/-- R270: the number of every string; a string after the 64th has none. The second flag marks a number conflict. -/
def numbering (ns : List Node) : List (List DWord × Option Nat × Bool) :=
  let hn := hostNumbers ns
  let dist := hopsFrom (strung ns) (searchStart ns)
  let hop (c : List DWord) : Nat := c.foldl (fun m x => min m ((lookupD dist x).getD 4096)) 4096
  let rest := sortKey (fun (x : List DWord × Option Nat × Bool) => hop x.1 * 2 ^ 64 + lowSerial x.1) (hn.filter fun x => x.2.1.isNone)
  let nums := freeNumbers (hn.filterMap fun x => x.2.1)
  (hn.filter fun x => x.2.1.isSome) ++ rest.zipIdx.map fun x => (x.1.1, nums[x.2]?, x.1.2.2)

/-- R271: a node of a string shares its strap with another node of that string. -/
def sharesStrap (ns : List Node) (c : List DWord) (n : Node) : Bool :=
  n.topo.strapOk && c.any fun x => !(x == n.topo.serial) &&
    match nodeOf ns x with
    | some m => m.topo.strapOk && m.topo.strap == n.topo.strap
    | none => false

/-- The address of a string number and a strap (R2). -/
def addrOf (k : Nat) (strap : BitVec 6) : FAddr := BitVec.ofNat 12 (k * 64 + strap.toNat)

/-- Number, address and quarantine of one node in a numbering (R270 to R272). -/
def placeNode (ns : List Node) (nums : List (List DWord × Option Nat × Bool)) (n : Node) : Node :=
  match nums.find? fun x => x.1.contains n.topo.serial with
  | some (c, some k, _) =>
    let bad := !n.topo.strapOk || sharesStrap ns c n
    { n with str := k, quar := bad && n.topo.fw, addr := if bad || !n.topo.fw then none else some (addrOf k n.topo.strap) }
  | _ => { n with str := 65 + (nums.findIdx fun x => x.1.contains n.topo.serial), quar := n.topo.fw, addr := none }

/-- The offer of a node that has flooded none. -/
def noOffer : Offer :=
  { units := 0, rebal := 0, shunt := false, fitted := false, cells := 0, state := 1, copies := 2, demod := 0, runs := 0, others := false }

/-- A node without firmware, as the ports that face it show it (R61, R269, R272): it floods nothing itself. -/
def unseen (ns : List Node) (x : DWord) : Node :=
  let port (p : Nat) : TopoPort :=
    match ns.findSome? fun n => (n.topo.ports.zipIdx.find? fun t => t.1.up && t.1.nbr == x && t.1.nport.val == p).map fun t => (n.topo.serial, t.2) with
    | some (y, q) => ⟨true, false, false, y, Fin.ofNat 4 q⟩
    | none => ⟨false, false, false, 0, 0⟩
  { topo := { serial := x, strapOk := true, strap := 0, fw := false, hostset := false, string := 0, xtal := false, host := false,
              ports := (List.range 4).map port },
    addr := none, str := 64, quar := false, sleep := false, lost := false, pending := false, toOffer := noOffer }

/-- The nodes that reported, less the LOST ones, and those without firmware that their ports show. -/
def liveNodes (ns : List Node) : List Node :=
  let live := ns.filter fun n => !n.lost && n.topo.fw
  let boot := (distinct (live.flatMap fun n => (n.topo.ports.filter fun t => t.up && t.nofw).map (·.nbr))).filter fun x =>
    !(live.any fun n => n.topo.serial == x)
  let own := ns.filter fun n => !n.topo.fw && !n.lost && !(boot.contains n.topo.serial)
  live ++ own ++ boot.map (unseen (live ++ own))

/-- Discovery's Armature (R269 to R272): LOST records go, strings are numbered, addresses and quarantine assigned; a string that lost
a number loses HOSTSET. -/
def discovered (ns : List Node) : List Node :=
  let live := liveNodes ns
  let nums := numbering live
  (live.map (placeNode live nums)).map fun n =>
    if nums.any fun x => x.2.2 && x.1.contains n.topo.serial then { n with topo := { n.topo with hostset := false } } else n

/-- The strings that lost a number at a discovery (R270, rule 2). -/
def conflicts (ns : List Node) (x : DWord) : Bool :=
  (numbering (liveNodes ns)).any fun y => y.2.2 && y.1.contains x

/-- R273: a newcomer joins under AUTOJOIN: its string's number, or the lowest free one. At an address held by a present node, or with the strap of
another present node of its string (R271), it is quarantined alone; a string that finds no number is quarantined (R270). -/
def joined (ns : List Node) (auto : Bool) (n : Node) : Node :=
  let mates := (compOf ns n.topo.serial).filterMap fun x => if x == n.topo.serial then none else nodeOf ns x
  let k := match mates.find? fun m => decide (m.str < 64) with
    | some m => m.str
    | none =>
      match (if n.topo.hostset && !(ns.any fun m => m.str == n.topo.string.toNat) then [n.topo.string.toNat] else []) ++ freeNumbers (ns.map (·.str)) with
      | k :: _ => k
      | [] => 65 + ns.length
  let a := addrOf k n.topo.strap
  let taken := (ns.any fun m => m.addr == some a && !m.lost && !(m.topo.serial == n.topo.serial))
    || sharesStrap (ns.filter fun m => !m.lost) (compOf ns n.topo.serial) n
  if !n.topo.fw then { n with str := k, quar := false, addr := none }
  else if !auto || decide (64 ≤ k) || !n.topo.strapOk || taken then { n with str := k, quar := true, addr := none }
  else { n with str := k, quar := false, addr := some a }

/-! ## This node -/

/-- The serial number of a port's neighbour, and the neighbour's port (R259). -/
def Port.nbr (q : Port) : DWord := match q.block with | some b => BitVec.ofNat 64 (numBE (b.take 8)) | none => 0
def Port.nbrPort (q : Port) : Fin 4 := match q.block with | some b => Fin.ofNat 4 (nth b 9 0).toNat | none => 0
/-- The neighbour's FW bit (R259). -/
def Port.nbrFw (q : Port) : Bool := match q.block with | some b => (nth b 10 0).getLsbD 7 | none => false

/-- What this node floods about itself (R269). -/
def State.myTopo (s : State) : TopoNode :=
  { serial := s.serial, strapOk := s.pwr.strapOk, strap := s.pwr.strap, fw := s.pwr.phase != .bootOnly, hostset := s.bit 0x200E 6,
    string := BitVec.ofNat 6 (s.fld 0x200E 0 6), xtal := s.fld 0x0110 0 2 == 0, host := s.rd 0x0205 != 0,
    ports := s.ports.map fun q => ⟨q.up, q.slept && !q.up, q.block.isSome && !q.nbrFw, q.nbr, q.nbrPort⟩ }

/-- This node's training block on a port (R259). -/
def State.trainBlock (s : State) (p : Fin 4) (heard : Bool) : List Byte :=
  let t := s.myTopo
  bytesBE 8 t.serial.toNat ++ [BitVec.ofNat 8 (b2n t.strapOk * 128 + t.strap.toNat), BitVec.ofNat 8 p.val,
    BitVec.ofNat 8 (b2n t.fw * 128 + b2n t.hostset * 64 + t.string.toNat),
    BitVec.ofNat 8 (b2n heard * 128 + b2n t.xtal * 64 + b2n t.host * 32)]

/-- A node as it is first heard of. -/
def freshNode (t : TopoNode) : Node :=
  { topo := t, addr := none, str := 64, quar := false, sleep := false, lost := false, pending := false, toOffer := noOffer }

/-- The nodes without firmware follow what the ports around them show (R272, R273): their ports, and those that have newly come. -/
def bootFollow (ns : List Node) : List Node :=
  let known := ns.map fun n => if n.topo.fw then n else { n with topo := { n.topo with ports := (unseen ns n.topo.serial).topo.ports } }
  let new := (distinct ((known.filter (·.present)).flatMap fun n => (n.topo.ports.filter fun t => t.up && t.nofw).map (·.nbr))).filter fun x =>
    (nodeOf known x).isNone
  new.foldl (fun acc x => let n := unseen acc x; acc ++ [joined (acc ++ [n]) true n]) known

/-- Put a node's own report into the Armature; a node that reports is neither asleep nor lost. -/
def putTopo (ns : List Node) (t : TopoNode) : List Node :=
  if (nodeOf ns t.serial).isSome then
    ns.map fun n => if n.topo.serial == t.serial then { n with topo := t, sleep := false, lost := false } else n
  else ns ++ [freshNode t]

/-- Bring this node's own record up to date. -/
def State.putMe (s : State) : State := { s with fab := { s.fab with nodes := putTopo s.fab.nodes s.myTopo } }

/-- Change the Armature record with a serial number. -/
def State.setNode (s : State) (x : DWord) (f : Node → Node) : State :=
  { s with fab := { s.fab with nodes := s.fab.nodes.map fun n => if n.topo.serial == x then f n else n } }

/-- The bytes of a TOPO frame; kinds 1 to 5 for the contents of TopoMsg. The layout is the model's (log 23). -/
def topoBytes : TopoMsg → List Byte
  | .node t d =>
    [1, BitVec.ofNat 8 (b2n d)] ++ bytesBE 8 t.serial.toNat ++ [BitVec.ofNat 8 (b2n t.strapOk * 128 + t.strap.toNat), 0,
      BitVec.ofNat 8 (b2n t.fw * 128 + b2n t.hostset * 64 + t.string.toNat), BitVec.ofNat 8 (b2n t.xtal * 64 + b2n t.host * 32)]
      ++ t.ports.flatMap fun p => [BitVec.ofNat 8 (b2n p.up * 128 + b2n p.slept * 64 + b2n p.nofw * 32 + p.nport.val)] ++ bytesBE 8 p.nbr.toNat
  | .armCrc x c => [2] ++ bytesBE 8 x.toNat ++ bytesBE 4 c.toNat
  | .number x k clear => [3] ++ bytesBE 8 x.toNat ++ [BitVec.ofNat 8 (b2n clear * 128 + k.toNat)]
  | .accept a x => [4] ++ bytesBE 2 a.toNat ++ bytesBE 8 x.toNat
  | .offer a o => [5] ++ bytesBE 2 a.toNat ++ [BitVec.ofNat 8 o.units, BitVec.ofNat 8 o.rebal, BitVec.ofNat 8 (b2n o.shunt * 128 + b2n o.fitted * 64 + o.cells),
      BitVec.ofNat 8 (o.state.toNat + 16 * o.copies), BitVec.ofNat 8 (b2n o.others * 128 + o.runs * 16 + o.demod)]

/-- Flood a TOPO frame. -/
def State.floodTopo (s : State) (m : TopoMsg) : State := s.sendAll tyTopo (topoBytes m)

/-! ## Records (R274) -/

/-- What a record says of the neighbour on a port. -/
def nbrField (ns : List Node) (n : Node) (p : Nat) : Nat :=
  match n.topo.ports[p]? with
  | some t => if t.up then (match nodeOf ns t.nbr with | some m => (m.addr.getD noAddr).toNat | none => noAddr.toNat) else 0xFFF
  | none => 0xFFF

/-- The four words of an Armature record. -/
def recordWords (ns : List Node) (n : Node) : List Word :=
  [BitVec.ofNat 32 n.topo.serial.toNat, BitVec.ofNat 32 (n.topo.serial.toNat / 2 ^ 32),
   pack [(31, 1, b2n n.addr.isSome), (30, 1, b2n n.quar), (29, 1, b2n n.sleep), (28, 1, b2n !n.topo.fw), (27, 1, b2n n.lost),
     (26, 1, b2n n.topo.host), (25, 1, b2n n.topo.xtal), (12, 12, nbrField ns n 0), (0, 12, nbrField ns n 1)],
   pack [(31, 1, b2n !n.topo.strapOk), (24, 6, n.topo.strap.toNat), (12, 12, nbrField ns n 2), (0, 12, nbrField ns n 3)]]

/-- The addressed nodes by ascending address. -/
def addressed (ns : List Node) : List Node := sortKey (fun n => (n.addr.getD noAddr).toNat) (ns.filter fun n => n.addr.isSome)

/-- The quarantined nodes by ascending serial number. -/
def quarantined (ns : List Node) : List Node := sortKey (fun n => n.topo.serial.toNat) (ns.filter fun n => n.quar)

/-- The CRC-32C of an Armature: over its records by ascending address, then those of the quarantined nodes (order: log 24). -/
def armatureCrc (ns : List Node) : Word :=
  crc32c (wordsBE ((addressed ns ++ quarantined ns).flatMap (recordWords ns)))

/-- The words `fab.arm.w0` to `fab.arm.w3` show for `fab.arm.sel` (R286). -/
def State.armWords (s : State) : List Word :=
  let i := s.fld 0x2020 0 12
  let n := if s.bit 0x2020 15 then (quarantined s.fab.nodes)[i]? else nodeAt s.fab.nodes (BitVec.ofNat 12 i)
  match n with
  | some n => recordWords s.fab.nodes n
  | none => [0, 0, 0, 0]

/-- Where the Armature cache keeps the record of an address (R16, R274). -/
def cacheAddr (a : FAddr) : Nat := 0x200D3000 + 16 * a.toNat

/-- The serial number in the cached record of an address; none where nothing is cached. -/
def State.cachedSerial (s : State) (a : FAddr) : Option DWord :=
  let bs := s.ldBytes (cacheAddr a) 16
  if bs.all (· == 0) then none else some (BitVec.ofNat 64 (numBE (bs.take 4) + 2 ^ 32 * numBE ((bs.drop 4).take 4)))

/-- R274: write the records that have changed into the cache; one whose change of owner is pending stays (R430). -/
def State.cacheSync (s : State) : State :=
  (addressed s.fab.nodes).foldl (fun t n =>
    let a := n.addr.getD noAddr
    let bs := wordsBE (recordWords s.fab.nodes n)
    let same := t.ldBytes (cacheAddr a) 16 == bs && !(t.nv.queue.any fun w => w.addr == cacheAddr a)
    let queued := (t.nv.queue.filter fun w => w.addr == cacheAddr a).getLast?.map (·.data) == some bs
    if n.pending || same || queued then t else t.nvPut .armature (cacheAddr a) bs) s

/-- The positions with a pending change of owner, by ascending address (R434). -/
def State.pendings (s : State) : List Node := (addressed s.fab.nodes).filter (·.pending)

/-- The lowest-addressed valid node of a string other than one node. -/
def lowestMate (ns : List Node) (str : Nat) (x : DWord) : Option Node :=
  (addressed ns).find? fun n => n.str == str && !(n.topo.serial == x) && n.present

/-- R430: a node at an address whose cached record names another serial number is a pending change of owner; OWNERCHANGE once, by the
lowest-addressed valid node of the string other than the newcomer. -/
def State.ownerCheck (s : State) (atDisc : Bool) : State :=
  let t := (addressed s.fab.nodes).foldl (fun t n =>
    let a := n.addr.getD noAddr
    let change := match s.cachedSerial a with | some x => !(x == n.topo.serial) | none => false
    let u := t.setNode n.topo.serial fun m => { m with pending := change }
    let mine := match lowestMate s.fab.nodes n.str n.topo.serial with | some m => m.topo.serial == s.serial | none => false
    if change && !n.pending && mine then
      u.raise 90 (pack [(0, 12, a.toNat), (12, 1, b2n atDisc), (16, 16, n.topo.serial.toNat % 65536)])
    else u) s
  t.setFld 0x4018 0 8 (min 255 t.pendings.length)

/-! ## The time-keeper and the time tree -/

/-- The next node of a route (R276) from a node towards another, with the port it leaves by. -/
def nextOf (ns : List Node) (x : Node) (dst : DWord) : Option (Nat × Node) :=
  let dist := hopsFrom ns dst
  least ((List.range 4).filterMap fun p =>
    match x.peer ns p with
    | some n => if n.present then
        (lookupD dist n.topo.serial).map fun h => (h * 16384 + p / 2 * 8192 + (n.addr.getD noAddr).toNat, (p, n))
      else none
    | none => none)

/-- The nodes of the segment of a node (R278). -/
def segmentOf (ns : List Node) (x : DWord) : List Node := (hopsFrom ns x).filterMap fun y => nodeOf ns y.1

/-- Rank of a node as a time-keeper (R278): host-attached with a crystal, then with a crystal, then the lowest address. -/
def keeperRank (n : Node) : Nat :=
  (if n.topo.host && n.topo.xtal then 0 else if n.topo.xtal then 1 else 2) * 4096 + (n.addr.getD noAddr).toNat

/-- R278: the time-keeper of a segment. -/
def keeperOf (seg : List Node) : Option Node :=
  least ((seg.filter fun n => n.addr.isSome && n.present).map fun n => (keeperRank n, n))

/-- The present ring neighbours of a node. -/
def adjPart (ns : List Node) (x : DWord) : List DWord :=
  (adjRing ns x).filter fun y => match nodeOf ns y with | some n => n.present | none => false

/-- The part of a node's string joined to it along the ring (R279). -/
def partOf (ns : List Node) (x : DWord) : List (DWord × Nat) := spread (adjPart ns) ns.length [x] 0 [(x, 0)]

/-- R279: the entry node of a node's part: the time-keeper itself, or the node with the fewest hops to it, the lower address on a tie. -/
def entryOf (ns : List Node) (keeper x : DWord) : Option Node :=
  let dist := hopsFrom ns keeper
  least ((partOf ns x).filterMap fun y =>
    match nodeOf ns y.1, lookupD dist y.1 with
    | some n, some h => some (h * 4096 + (n.addr.getD noAddr).toNat, n)
    | _, _ => none)

/-- R279: a node's parent and the port towards it. -/
def parentOf (ns : List Node) (keeper : DWord) (x : Node) : Option (Nat × Node) :=
  if x.topo.serial == keeper then none
  else match entryOf ns keeper x.topo.serial with
    | none => none
    | some e =>
      if e.topo.serial == x.topo.serial then nextOf ns x keeper
      else
        let dist := partOf ns e.topo.serial
        least ([0, 1].filterMap fun p =>
          match x.peer ns p with
          | some n => (lookupD dist n.topo.serial).map fun h => (2 * h + p, (p, n))
          | none => none)

/-- The depth of a node in the time tree, up to a number of steps. -/
def depthOf (ns : List Node) (keeper : DWord) : Nat → Node → Nat
  | 0, _ => 0
  | k + 1, x => match parentOf ns keeper x with
    | some (_, n) => 1 + depthOf ns keeper k n
    | none => 0

/-- Condition TIMEALIGN (R282): raise it where it begins. -/
def State.alignAlarm (s : State) (off : Int) : State :=
  if s.fab.timeAlarm then s
  else { s with fab := { s.fab with timeAlarm := true } }.raise 52
    (pack [(0, 16, satField 16 off), (17, 1, b2n (decide (64 < s.fld 0x200A 0 8)))])

/-- The last offset to the parent in 0.1 ns (R285). -/
def State.lastOff (s : State) : Int := quot (s.rd 0x2009).toInt 100

/-- R279: this node's parent and depth; TIMEALIGN when the depth exceeds 64 (R282). -/
def State.treeShow (s : State) : State :=
  let k := match s.fab.keeper with | some a => nodeAt s.fab.nodes a | none => none
  match k, s.me with
  | some k, some me =>
    let par := if s.fab.valid || me.quar then parentOf s.fab.nodes k.topo.serial me else none
    let d := depthOf s.fab.nodes k.topo.serial (s.fab.nodes.length + 1) me
    let root := k.topo.serial == s.serial
    let t := { s with fab := { s.fab with parent := par.map fun x => Fin.ofNat 4 (x : Nat × Node).1 } }.wr 0x200A
      (pack [(10, 1, b2n root), (8, 2, match par with | some x => x.1 | none => 0), (0, 8, min 255 d)])
    if 64 < d then t.alignAlarm t.lastOff else t
  | _, _ => { s with fab := { s.fab with parent := none } }.wr 0x200A 0

/-- Take a time-keeper into force: TIMEKEEP by the new one, which starts fabric time at its reference ticks where it holds none. -/
def State.takeKeeper (s : State) (k : Node) (cut : Bool) : State :=
  let a := k.addr.getD noAddr
  let changed := s.fab.keeper != some a
  let t := { s with fab := { s.fab with keeper := some a, rejoin := s.fab.rejoin || changed } }
  if k.topo.serial == s.serial then
    let u := if t.fab.hasTime then t else
      ({ t with clk := { t.clk with fabric := t.clk.ref }, fab := { t.fab with hasTime := true } }.setBit 0x2001 4 true)
    if changed then u.raise 51 (pack [(0, 12, a.toNat), (12, 1, b2n k.topo.xtal), (13, 1, b2n cut)]) else u
  else t

/-- The nodes of this node's segment. -/
def State.segment (s : State) : List Node := segmentOf s.fab.nodes s.serial

/-- R278 at DISCDONE and at the completion of STRING_ASSIGN: choose the time-keeper. -/
def State.chooseKeeper (s : State) (atDisc : Bool) : State :=
  match keeperOf s.segment with
  | some k =>
    let t := s.takeKeeper k false
    if atDisc then { t with fab := { t.fab with discKeeper := k.addr } } else t
  | none => s

/-- R278, R283 at a change of topology: a new time-keeper where the present one is asleep, lost or out of reach; at a join the one
that ranks higher of the present one and that of the last DISCDONE. -/
def State.keepKeeper (s : State) : State :=
  let seg := s.segment
  let inSeg (a : FAddr) : Option Node := seg.find? fun n => n.addr == some a && n.present
  let cur := match s.fab.keeper with | some a => inSeg a | none => none
  let disc := match s.fab.discKeeper with | some a => inSeg a | none => none
  match cur, disc with
  | none, _ =>
    match keeperOf seg with
    | some k =>
      let cut := match s.fab.keeper.bind (nodeAt s.fab.nodes) with | some n => n.present | none => false
      s.takeKeeper k cut
    | none => { s with fab := { s.fab with keeper := none } }
  | some k, some d => if keeperRank d < keeperRank k then s.takeKeeper d false else s
  | some _, none => s

/-- R260: which ports are MISWIRE, as the Armature now tells which nodes share a string. -/
def State.wireCheck (s : State) : State :=
  let wrong (p : Nat) (q : Port) : Bool := q.up && (!pairOk p q.nbrPort.val || (decide (2 ≤ p) &&
    match nodeOf s.fab.nodes q.nbr, s.me with
    | some n, some me => n.str == me.str && me.str != 64
    | _, _ => false))
  { s with ports := s.ports.zipIdx.map fun x => { x.1 with miswire := wrong x.2 x.1 } }

/-- The fabric block follows the Armature (R260, R286). -/
def State.fabShow (s0 : State) : State :=
  let s := s0.wireCheck
  let ns := s.fab.nodes
  let seg := s.segment
  let isol := match s.fab.discKeeper with
    | some a => !(seg.any fun n => n.addr == some a)
    | none => false
  let tk := match s.fab.keeper with | some a => s.fab.valid && a == s.fab.addr | none => false
  let quar := match s.me with | some n => n.quar | none => false
  let strs := (distinct (ns.map (·.str))).filter (· < 64)
  let portByte (p : Fin 4) : Nat := match s.port p with
    | some q => b2n q.up * 128 + b2n q.slept * 64 + b2n (q.block.isSome && !q.nbrFw) * 32 + b2n q.miswire * 16
        + b2n (q.usable && s.fab.valid) * 8 + b2n (!q.up && s.bit 0x2003 p.val && !q.stopped) * 4 + q.nbrPort.val
    | none => 0
  let s1 := (((s.setBit 0x2001 5 tk).setBit 0x2001 2 quar).setBit 0x2001 1 isol).setBit 0x2001 0 s.fab.disc.isSome
  let s2 := s1.wr 0x2002 (pack [(0, 8, portByte 0), (8, 8, portByte 1), (16, 8, portByte 2), (24, 8, portByte 3)])
  let s3 := (s2.wr 0x2004 (pack [(16, 13, (addressed ns).length), (0, 7, min 64 strs.length)])).wr 0x2005
    (BitVec.ofNat 32 (quarantined ns).length)
  let s4 := s3.wr 0x2006 (match s.fab.keeper with | some a => pack [(12, 1, 1), (0, 12, a.toNat)] | none => 0)
  match s.me with
  | some n => s4.setFld 0x200E 0 6 (if s.bit 0x200E 6 then s.fld 0x200E 0 6 else n.str % 64)
  | none => s4

/-- This node's own address follows its record (R271): a quarantined node has none. -/
def State.takeAddress (s : State) : State :=
  match s.me with
  | some n => { s with fab := { s.fab with valid := n.addr.isSome, addr := n.addr.getD 0 } }
  | none => { s with fab := { s.fab with valid := false, addr := 0 } }

/-- TOPOCHG (R285) for one address. -/
def State.topoChg (s : State) (code : Nat) (a : FAddr) : State := s.raise 50 (pack [(0, 4, code), (16, 12, a.toNat)])

/-- R273: a node to which no present node has an up port is LOST, or asleep where a notice came before; its lowest-addressed neighbour
raises TOPOCHG for a lost one. -/
def State.lossCheck (s : State) : State :=
  let ns := s.fab.nodes
  let links (x : DWord) (p : TopoPort → Bool) : List Node :=
    ns.filter fun n => !(n.topo.serial == x) && n.present && n.topo.ports.any fun t => t.nbr == x && p t
  ns.foldl (fun t n =>
    let x := n.topo.serial
    if x == s.serial || !n.present || !(links x (·.up)).isEmpty then t
    else if !(links x (·.slept)).isEmpty then t.setNode x fun m => { m with sleep := true }
    else if (links x fun _ => true).isEmpty then t
    else
      let u := t.setNode x fun m => { m with lost := true }
      match (addressed (links x fun _ => true)).head? with
      | some m => if m.topo.serial == s.serial then u.topoChg 1 (n.addr.getD noAddr) else u
      | none => u) s

/-- R83: a set staged by a fabric requester goes when that requester is LOST or SLEEP; an apply of it that waits for a boundary ends refused
(DESIGN CHOICE, log 130). -/
def State.stageDrop (s : State) : State :=
  match s.host.stageOwner with
  | some (.node a) =>
    match nodeAt s.fab.nodes a with
    | some n =>
      if n.present then s
      else
        let t := { s with host := { s.host with staged := [], stageOwner := none, applyWait := none } }
        if s.host.applyWait = some .fabric then t.complete .fabric stRefused [] else t
    | none => s
  | _ => s

/-- The addresses a sweep expects records from (R287): those of its scope that are present. -/
def inScope (scope : DWord) (n : Node) : Bool := n.addr.isSome && n.present && decide (n.str < 64) && scope.getLsbD n.str

/-- The way of a node's records to another node (R276): the port they arrive on and the hops. -/
def arrival (ns : List Node) (dst : DWord) : Nat → Nat → Node → Option (Nat × Nat)
  | 0, _, _ => none
  | k + 1, h, x =>
    match nextOf ns x dst with
    | none => none
    | some (p, y) =>
      if y.topo.serial == dst then (x.topo.ports[p]?).map fun t => (t.nport.val, h + 1)
      else arrival ns dst k (h + 1) y

/-- R295: the nodes of a scope that a collector expects now, with port and hops; itself without. -/
def State.expectedSet (s : State) (coll : FAddr) (scope : DWord) : List (Node × Option (Nat × Nat)) :=
  match nodeAt s.fab.nodes coll with
  | none => []
  | some c =>
    (addressed s.fab.nodes).filterMap fun n =>
      if !(inScope scope n) || n.quar then none
      else if n.topo.serial == c.topo.serial then some (n, none)
      else (arrival s.fab.nodes c.topo.serial s.fab.nodes.length 0 n).map fun a => (n, some a)

/-- The expected nodes that arrive on a port, by hops and then address (R297). -/
def portOrder (es : List (Node × Option (Nat × Nat))) (p : Nat) : List (Node × Option (Nat × Nat)) :=
  sortKey (fun x => (match x.2 with | some a => a.2 | none => 0) * 4096 + (x.1.addr.getD noAddr).toNat)
    (es.filter fun x => match x.2 with | some a => a.1 == p | none => false)

/-- This node's slot in the sweep it takes part in (R297), shown in `fab.sweep.slot`. -/
def State.slotShow (s : State) : State :=
  match s.sweep.plan with
  | none => s.wr 0x2034 0
  | some p =>
    let es := s.expectedSet p.coll p.scope
    let at_ := [0, 1, 2, 3].findSome? fun q =>
      ((portOrder es q).findIdx? fun x => x.1.topo.serial == s.serial).map fun i => (q, i)
    s.wr 0x2034 (match at_ with | some (q, i) => pack [(11, 1, 1), (9, 2, q), (0, 9, i)] | none => 0)

/-- R288: the collector of a running sweep announces it again after each change of its segment, three times. -/
def State.sayAgain (s : State) : State :=
  if s.sweep.collect.isSome && !s.sweep.stop && !s.sweep.said.isEmpty then
    { s with sweep := { s.sweep with announce := 2 } }.sendAll tyRecord s.sweep.said
  else s

end Sys2Proof.Machine
end

