-- ==== Sys2Proof/Machine/Maquette.lean ====
section
/-! DEFINITION. The Maquette (R308 to R323): offers, costs, placement of jobs, the record store and the checkpoint slots, and what a
change of the Armature brings with it (R273, R278, R314, R321). -/
namespace Sys2Proof.Machine

/-! ## Offers and eligibility -/

/-- The anchor (R308): the lowest-addressed node still reachable. -/
def State.anchor (s : State) : Option FAddr := ((addressed s.segment).find? (·.present)).bind (·.addr)

/-- This node is the anchor. -/
def State.isAnchor (s : State) : Bool := s.fab.valid && s.anchor == some s.fab.addr

/-- The work units this node offers (R312, R338, R431; none while it hands its jobs over before Hatbox, R49). -/
def State.offer (s : State) : Nat :=
  let pend := match s.me with | some n => n.pending | none => false
  if pend || s.pwr.stopping || s.therm.stop.active || s.pwr.hatbox != .none then 0
  else match s.pwr.mode with
    | .run => s.fld 0x2102 0 8
    | .watch => s.fld 0x2102 8 8
    | .off | .start | .hatbox | .guard => 0

/-- R312: a node may host a job, or hold a record or a checkpoint. -/
def Node.eligible (n : Node) : Bool :=
  n.addr.isSome && (n.state == 2 || n.state == 3) && !n.quar && n.topo.fw && n.present && !n.pending

/-- The addressed nodes of a string. -/
def stringNodes (ns : List Node) (k : Nat) : List Node := (addressed ns).filter fun n => n.str == k

/-- ⌈a / b⌉. -/
def ceilDiv (a b : Nat) : Nat := (a + b - 1) / b

/-! ## Costs (R313) -/

/-- A goal's floating job kind (R309, R313): PLAN, STATE, IMPF, DIGEST, or none. -/
def jobKind (g : Goal) : Option (BitVec 4) :=
  if g.kind == 1 || g.kind == 2 then some 1 else if g.kind == 4 then some 2 else if g.kind == 3 then some 3
  else if g.kind == 7 then some 6 else none

/-- The cost of a floating job for a string of `n` nodes (R313, R200, R215). -/
def jobCost (kind : BitVec 4) (n : Nat) : Nat :=
  if kind == 1 then ceilDiv n 16 else if kind == 2 then ceilDiv n 4 else if kind == 3 then 2 * ceilDiv n 8 else 1

/-- An impedance entry is enabled, and its source (R203). -/
def State.impOn (s : State) (i : Nat) : Bool := s.bit (0x1410 + 2 * i) 31
def State.impSrc (s : State) (i : Nat) : Nat := s.fld (0x1410 + 2 * i) 29 2

/-- The enabled entries in ascending order (R194). -/
def State.impEntries (s : State) : List Nat := (List.range 16).filter s.impOn

/-- R194: up to 4 consecutive SRC 0 entries run together; every other entry runs alone. -/
def groupRuns (src : Nat → Nat) : List Nat → List (List Nat)
  | [] => []
  | i :: t =>
    match groupRuns src t with
    | (j :: r) :: rest => if src i = 0 ∧ src j = 0 ∧ r.length < 3 then (i :: j :: r) :: rest else [i] :: (j :: r) :: rest
    | rest => [i] :: rest

/-- The runs of this node's plan. A run is filled from the front, so runs are grouped from the end of the reversed list. -/
def State.impRuns (s : State) : List (List Nat) :=
  ((groupRuns s.impSrc s.impEntries.reverse).map List.reverse).reverse

/-- ⌈fs / 250,000⌉ of the running table (R194, R200). -/
def State.demodUnit (s : State) : Nat :=
  let es := s.seq.active
  let n := (enabled es).foldl (fun a x => if x.1.sweep then a + x.1.count else a) 0
  let t := loopTicks es s.lead
  if t = 0 then 0 else ceilDiv (160 * n) t

/-- What this node floods of its offer. -/
def State.myOffer (s : State) : TopoMsg :=
  let zero (r : List Nat) : Bool := r.all fun i => s.impSrc i == 0
  .offer s.fab.addr
    { units := s.offer, rebal := s.fld 0x2102 16 8, shunt := s.rd 0x1002 != 0, fitted := s.fitted, cells := s.cells,
      state := BitVec.ofNat 4 s.pwr.mode.code, copies := s.fld 0x2100 0 2, demod := s.demodUnit,
      runs := (s.impRuns.filter zero).foldl (fun m r => max m r.length) 0, others := s.impRuns.any fun r => !zero r }

/-- Put an offer into the Armature. -/
def takeOffer (ns : List Node) : TopoMsg → List Node
  | .offer a o => ns.map fun n => if n.addr == some a then { n with toOffer := o } else n
  | _ => ns

/-- The node whose impedance plan and current a string's measurements take: its lowest-addressed shunt node (R190, R203). -/
def shuntOf (ns : List Node) (k : Nat) : Option Node := (stringNodes ns k).find? (·.shunt)

/-- The work units demodulation needs on a node of a string (R200, R313): over the plan of the string's shunt node, the most that its runs take. -/
def demodCost (ns : List Node) (n : Node) : Nat :=
  match shuntOf ns n.str with
  | none => 0
  | some m =>
    let first := m.topo.serial == n.topo.serial
    max (m.runs * n.demod + (if first then m.runs else 0)) (if m.others then n.demod else 0)

/-- The work units one goal pins on a node in Run (R313). -/
def State.pinned (s : State) (g : Goal) (n : Node) : Nat :=
  if n.state != 2 then 0
  else if g.kind == 3 && n.str == g.string.toNat then demodCost s.fab.nodes n
  else if g.kind == 6 && n.str == g.string.toNat then 2
  else if g.kind == 5 && n.addr == some g.node then
    match s.sweep.plan with
    | some p => ceilDiv (s.fab.nodes.filter (inScope p.scope)).length 32 * ceilDiv 400000 (max 1 p.period.toNat)
    | none => 0
  else 0

/-- The goals in the table with their slots, in slot order. -/
def State.goalList (s : State) : List (Fin 32 × Goal) :=
  s.plc.goals.zipIdx.filterMap fun x => x.1.map fun g => (Fin.ofNat 32 x.2, g)

/-- R314, step 1: what is pinned on a node, and the goals whose part does not fit there. -/
def State.pinsOn (s : State) (n : Node) : Nat × List (Fin 32) :=
  s.goalList.foldl (fun acc x =>
    let c := s.pinned x.2 n
    if acc.1 + c ≤ n.units then (acc.1 + c, acc.2) else (acc.1, acc.2 ++ [x.1])) (0, [])

/-! ## Placement (R314 to R316) -/

/-- A floating job to be placed: its key, its string (none for a site job) and its cost. -/
abbrev JobNeed := JobKey × Option Nat × Nat

/-- R314, step 2: the floating jobs in the order PLAN, STATE, IMPF, DIGEST, within one kind by string number. -/
def State.jobNeeds (s : State) : List JobNeed :=
  let all := s.goalList.filterMap fun x => (jobKind x.2).map fun k =>
    let str : Option Nat := if k == 6 then none else some x.2.string.toNat
    let n := match str with | some m => (stringNodes s.fab.nodes m).length | none => 0
    ((⟨k, x.1⟩, str, jobCost k n) : JobNeed)
  sortKey (fun (j : JobNeed) => j.1.kind.toNat * 64 + j.2.1.getD 0) all

/-- The free work units of a node after its pins and the jobs placed so far. -/
def freeUnits (pin : Node → Nat) (acc : List Placed) (n : Node) : Nat :=
  n.units - pin n - acc.foldl (fun a p => if p.host == n.addr then a + p.cost else a) 0

/-- R314, steps 4 and 5: where a job goes, of the eligible nodes with a free checkpoint slot. `skip` leaves its present host out. -/
def newHost (ns : List Node) (free : Node → Nat) (slot : Node → Bool) (j : JobNeed) (skip : Option FAddr) : Option Node :=
  let can := ns.filter fun n => n.eligible && slot n && decide (j.2.2 ≤ free n) && !(skip.isSome && n.addr == skip)
  let a (n : Node) := (n.addr.getD noAddr).toNat
  match j.2.1 with
  | none => least (can.map fun n => ((4095 - free n) * 4096 + a n, n))
  | some k =>
    match least ((can.filter fun n => n.str == k).map fun n => ((4095 - free n) * 4096 + a n, n)) with
    | some n => some n
    | none =>
      match (stringNodes ns k).find? (·.present) with
      | none => none
      | some low =>
        let dist := hopsFrom ns low.topo.serial
        least (can.map fun n => (((lookupD dist n.topo.serial).getD 4095 * 4096 + (4095 - free n)) * 4096 + a n, n))

/-- R316: a job of a string, or of the site, may run in this node's segment. -/
def State.mayRun (s : State) (str : Option Nat) : Bool :=
  let set := s.fab.voters.filter fun a => match str with | some k => a.toNat / 64 == k | none => true
  let seg := s.segment
  let here := set.filter fun a => seg.any fun n => n.addr == some a && n.present
  let lowest := least (set.map fun a => (a.toNat, a))
  set.isEmpty || decide (set.length < 2 * here.length)
    || (2 * here.length == set.length && match lowest with | some a => here.contains a | none => true)

/-- Walk up a ring by PORT B, whether its links are up or not, until it closes or ends (R317). -/
def walkRing (ns : List Node) (port : Nat) (stop : DWord) : Nat → Node → List Node
  | 0, _ => []
  | k + 1, x =>
    match x.topo.ports[port]? with
    | none => []
    | some t => match nodeOf ns t.nbr with
      | some n => if n.topo.serial == stop then [] else n :: walkRing ns port stop k n
      | none => []

/-- R317, R319: the first `copies` eligible nodes of a ring from a node up, the node itself first, wrapping at the top. -/
def holdersOf (ns : List Node) (owner : FAddr) (copies : Nat) : List FAddr :=
  match nodeAt ns owner with
  | none => []
  | some x =>
    let up := walkRing ns 1 x.topo.serial ns.length x
    let down := walkRing ns 0 x.topo.serial ns.length x
    let rest := down.reverse.filter fun n => !(up.any fun m => m.topo.serial == n.topo.serial)
    (((x :: up ++ rest).filter Node.eligible).filterMap (·.addr)).take copies

/-- `plc.copies` of the anchor, which the Maquette uses (R331). -/
def State.nCopies (s : State) : Nat :=
  match s.anchor.bind (nodeAt s.fab.nodes) with
  | some n => if n.topo.serial == s.serial then s.fld 0x2100 0 2 else n.copies
  | none => s.fld 0x2100 0 2

/-- The holders of an owner's records now. -/
def State.holders (s : State) (owner : FAddr) : List FAddr := holdersOf s.fab.nodes owner s.nCopies

/-- The nodes up the ring of a lost host that hold its last checkpoint (R319, R321): the host itself counted among the copies. -/
def State.ckptHolders (s : State) (host : FAddr) : List FAddr := holdersOf s.fab.nodes host (s.nCopies - 1)

/-- A node has a checkpoint slot free of the 16 (R312, R319), with the jobs placed so far and those still to place where they stand. -/
def State.slotFreeOn (s : State) (acc : List Placed) (n : Node) : Bool :=
  let rest := s.plc.placed.filter fun p => !(acc.any fun q => q.key == p.key)
  decide (((acc ++ rest).filter fun p => match p.host with
    | some h => match n.addr with | some a => (s.holders h).contains a | none => false
    | none => false).length < 16)

/-- R314, R315, R321: place one job, after the jobs before it. The jobs still to be placed count on their present host for R315. -/
def State.placeOne (s : State) (pin : Node → Nat) (acc : List Placed) (j : JobNeed) : Placed :=
  let ns := s.fab.nodes
  let free := freeUnits pin acc
  let old := s.plc.placed.find? fun p => p.key == j.1
  let at_ := old.bind (·.movedAt)
  let slot := s.slotFreeOn acc
  let was := old.bind fun p => match p.host with | some h => some h | none => p.prev
  let fresh (n : Option Node) (moved : Option DWord) : Placed :=
    let a := n.bind (·.addr)
    ⟨j.1, a, if a == was then old.bind (·.prev) else was, j.2.2, moved⟩
  let host := (old.bind (·.host)).bind fun a => nodeAt ns a
  match host with
  | none => fresh (newHost ns free slot j none) at_
  | some h =>
    if h.lost then
      let hold := (s.ckptHolders (h.addr.getD noAddr)).filterMap fun a => nodeAt ns a
      match hold.find? fun n => decide (j.2.2 ≤ free n) with
      | some n => fresh (some n) at_
      | none => fresh (newHost ns free slot j none) at_
    else if h.eligible && decide (j.2.2 ≤ free h) then
      let later := (s.plc.placed.filter fun p => p.host == h.addr && !(p.key == j.1) && !(acc.any fun q => q.key == p.key)).foldl
        (fun a p => a + p.cost) 0
      let quiet := match at_ with | some t => decide (s.clk.ref.toNat < t.toNat + 10 * oneSecond) | none => false
      if !quiet && decide (free h - j.2.2 - later < h.rebal) then
        match newHost ns free slot j h.addr with
        | some n => if 2 * j.2.2 + h.rebal ≤ free n then fresh (some n) (some s.clk.ref) else fresh (some h) at_
        | none => fresh (some h) at_
      else fresh (some h) at_
    else match newHost ns free slot j h.addr with
      | some n => fresh (some n) (some s.clk.ref)
      | none => fresh none at_

/-- R314, R316: the placement now. A job this segment may not run stays where it is. -/
def State.placement (s : State) : List Placed :=
  s.jobNeeds.foldl (fun acc j =>
    let old := s.plc.placed.find? fun p => p.key == j.1
    acc ++ [match old with
      | some p => if s.mayRun j.2.1 then s.placeOne (fun n => (s.pinsOn n).1) acc j else p
      | none => if s.mayRun j.2.1 then s.placeOne (fun n => (s.pinsOn n).1) acc j else ⟨j.1, none, none, j.2.2, none⟩]) []

/-! ## Jobs on this node -/

/-- This node's own work: `plc.load`, `plc.goal.count`, `plc.wait`, `plc.anchor` (R331). -/
def State.plcShow (s : State) : State :=
  let own := match s.me with | some n => (s.pinsOn n).1 | none => 0
  let resv := own + s.plc.jobs.foldl (fun a j => a + j.cost) 0
  let s1 := s.wr 0x2103 (pack [(24, 5, min 16 s.plc.ckpts.length), (16, 8, min 255 s.plc.jobs.length), (8, 8, s.offer), (0, 8, min 255 resv)])
  let wait := (s.plc.placed.filter fun p => p.host.isNone).foldl (fun n p => n ||| 2 ^ p.key.slot.val) 0
  let s2 := (s1.wr 0x2105 (BitVec.ofNat 32 s.goalList.length)).wr 0x2106 (BitVec.ofNat 32 wait)
  s2.wr 0x2107 (match s.anchor with | some a => pack [(12, 1, 1), (0, 12, a.toNat)] | none => 0)

/-- The slot of a complete checkpoint held here (R319). -/
def Checkpoint.body (c : Checkpoint) : Option JobBody := if c.inHalf1 then c.half1 else c.half0

/-- Start a job on this node. -/
def State.startJob (s : State) (k : JobKey) (str : BitVec 6) (cost : Nat) (seq : Word) (rerun : Bool) : State :=
  { s with plc := { s.plc with jobs := s.plc.jobs ++ [⟨k, str, cost, seq, rerun, none, false⟩] } }

/-- The key of a job in a JOB frame. -/
def keyBytes (k : JobKey) : List Byte := [BitVec.ofNat 8 k.kind.toNat, BitVec.ofNat 8 k.slot.val]

/-- JOB frame payloads (R264). The layout is the model's (log 22): kind, key, and a piece of the bytes. -/
def jobPieces (kind : Byte) (head bytes : List Byte) : Nat → Nat → List (List Byte)
  | 0, _ => []
  | k + 1, off =>
    if bytes.length ≤ off && decide (0 < off) then []
    else (kind :: head ++ bytesBE 2 off ++ bytesBE 2 bytes.length ++ (bytes.drop off).take 480) :: jobPieces kind head bytes k (off + 480)

/-- Send bytes to a node as JOB frames. -/
def State.sendJob (s : State) (a : FAddr) (kind : Byte) (head bytes : List Byte) : State :=
  (jobPieces kind head bytes (bytes.length / 480 + 1) 0).foldl (fun t p => t.sendTo tyJob a p) s

/-- Keep a node's frame in a fit, once, unless the segment already counts as missing (R201). -/
def fitAdd (f : FitJob) (p : SegIn) : FitJob :=
  if (f.frames.any fun q => q.node == p.node && q.entry == p.entry && q.segment == p.segment) || f.missing.contains (p.node, p.entry.val, p.segment) then f
  else { f with frames := f.frames ++ [p] }

/-- R201: a fit that moved or restarted here goes on from its checkpoint: its records carry RERUN, and it asks every node of the string for its phasors
again. -/
def State.takeFit (s : State) (f : FitJob) : State :=
  let mine := s.imp.fit.isSome && s.imp.t0 == f.t0
  let g := { (if mine then s.imp.own.foldl fitAdd f else f) with rerun := f.live }
  let t := { s with plc := { s.plc with fits := (s.plc.fits.filter fun x => !(x.slot == f.slot)) ++ [g] },
                    imp := { s.imp with fit := if mine && f.live then some s.fab.addr else s.imp.fit } }
  if f.live then
    (stringNodes s.fab.nodes f.string).foldl (fun u n =>
      if n.topo.serial == s.serial then u else u.sendJob (n.addr.getD noAddr) 9 (bytesBE 8 f.t0.toNat) []) t
  else t

/-- A job takes up what its checkpoint holds (R320, R321): of a STATE job the charge it has counted (R327), of an IMPF job its measurement. -/
def State.takeBody (s : State) (k : JobKey) (b : Option JobBody) : State :=
  let keep := s.plc.soc.filter fun x => !(x.slot == k.slot)
  if k.kind == 2 then
    { s with plc := { s.plc with soc := keep ++ match b with | some b => [⟨k.slot, b.charge, b.soc⟩] | none => [] } }
  else if k.kind == 3 then
    match b.bind (·.fit) with
    | some f => s.takeFit { f with slot := k.slot }
    | none => { s with plc := { s.plc with fits := s.plc.fits.filter fun x => !(x.slot == k.slot) } }
  else s

/-- JOBRERUN (R321, R330): a lost host's job restarts here from its last checkpoint, or afresh. -/
def State.restartJob (s : State) (k : JobKey) (str : BitVec 6) (cost : Nat) (host : FAddr) : State :=
  let c := s.plc.ckpts.find? fun c => c.key == k && c.body.isSome
  let t := (s.startJob k str cost (match c with | some c => c.seq | none => 1) true).takeBody k (c.bind (·.body))
  (t.addSat 0x210A 16 16 1).raise 62
    (pack [(0, 4, k.kind.toNat), (4, 5, k.slot.val), (9, 1, b2n c.isNone), (16, 12, host.toNat)])

/-- R321: no holder of a lost host's checkpoint has room: the first holder sends what it holds to the new host, which restarts the job. -/
def State.handOver (s : State) (k : JobKey) (lost new : FAddr) : State :=
  let t := match s.plc.ckpts.find? fun c => c.key == k with
    | some c => (match c.body with
      | some b => s.sendJob new 1 (keyBytes k ++ bytesBE 2 lost.toNat ++ bytesBE 4 c.seq.toNat ++ [0]) b.bytes
      | none => s)
    | none => s
  t.sendJob new 6 (keyBytes k ++ bytesBE 2 lost.toNat) []

/-- The jobs this node hosts follow a new placement: cleared ones stop, new ones start, lost hosts' restart, and those placed elsewhere
wait for the next checkpoint to move (R311, R314, R316, R320, R321). -/
def State.jobsFollow (s : State) (old : List Placed) : State :=
  let new := s.plc.placed
  let strOf (k : JobKey) : Option Nat := match s.jobNeeds.find? fun j => j.1 == k with | some j => j.2.1 | none => none
  let kept := (s.plc.jobs.filter fun j => new.any fun p => p.key == j.key).map fun j =>
    match new.find? fun p => p.key == j.key with
    | some p =>
      { j with cost := p.cost, paused := p.host.isNone || !s.mayRun (strOf j.key) || (j.paused && j.moving.isSome),
               moving := if p.host == some s.fab.addr || p.host.isNone then none else p.host }
    | none => j
  let t := { s with plc := { s.plc with
    jobs := kept, ckpts := s.plc.ckpts.filter (fun c => new.any fun p => p.key == c.key),
    sred := s.plc.sred.filter (fun x => (nth s.plc.goals x.slot.val none).any fun g => g.kind == 5),
    soc := s.plc.soc.filter (fun x => kept.any fun j => j.key == ⟨2, x.slot⟩),
    fits := s.plc.fits.filter fun x => kept.any fun j => j.key == ⟨3, x.slot⟩ } }
  let gone (h : FAddr) : Bool := match nodeAt s.fab.nodes h with | some n => n.lost | none => true
  let hold (h : FAddr) : List FAddr := s.ckptHolders h
  new.foldl (fun t p =>
    let here := p.host == some s.fab.addr
    let moved := !((old.find? fun q => q.key == p.key).bind (·.host) == p.host)
    if !s.fab.valid || !(t.mayRun (strOf p.key)) then t
    else match here, p.prev with
    | true, none => if t.plc.jobs.any fun j => j.key == p.key then t
        else (t.startJob p.key (BitVec.ofNat 6 ((strOf p.key).getD 0)) p.cost 1 false).takeBody p.key none
    | true, some h =>
      if (t.plc.jobs.any fun j => j.key == p.key) || !gone h || (!(hold h).contains s.fab.addr && !(hold h).isEmpty) then t
      else t.restartJob p.key (BitVec.ofNat 6 ((strOf p.key).getD 0)) p.cost h
    | false, some h =>
      match p.host with
      | some a =>
        if moved && gone h && (hold h).head? == some s.fab.addr && !(hold h).contains a then t.handOver p.key h a else t
      | none => t
    | false, none => t) t

/-- CAPACITY (R314, R330) by the anchor: a job, or a pinned part, finds no room; cleared at the first placement where nothing waits. -/
def State.capacityCheck (s : State) : State :=
  let waits := s.plc.placed.filter fun p => p.host.isNone
  let pinsOut := distinct ((addressed s.fab.nodes).flatMap fun n => (s.pinsOn n).2)
  let slots := sortKey (fun (x : Fin 32) => x.val) (distinct (waits.map (·.key.slot) ++ pinsOut))
  let short := waits.foldl (fun a p => a + p.cost) 0
  let data := pack [(0, 5, match slots with | x :: _ => x.val | [] => 0), (8, 8, slots.length), (16, 16, min 0xFFFF short)]
  let t := { s with plc := { s.plc with capacity := !slots.isEmpty } }
  if !s.isAnchor then t
  else if !slots.isEmpty && !s.plc.capacity then t.raise 63 data
  else if slots.isEmpty && s.plc.capacity then t.raiseC 63 data true
  else t

/-- The fits here note the nodes of their strings that are not in Run or are lost (R186, R201). -/
def State.fitsWatch (s : State) : State :=
  { s with plc := { s.plc with fits := s.plc.fits.map fun f =>
    let out := ((stringNodes s.fab.nodes f.string).filter fun n => n.state != 2 || !n.present).filterMap (·.addr)
    if f.live then { f with left := f.left ++ out.filter fun a => !(f.left.contains a) } else f } }

/-- R311: the jobs of a cleared IMPEDANCE goal stop at once, so this node's part in a measurement ends where no such goal stands for its string. -/
def State.impFollow (s : State) : State :=
  let on := match s.me with | some n => s.goalList.any fun g => g.2.kind == 3 && g.2.string.toNat == n.str | none => false
  if s.imp.fit.isSome && !on then s.impDrop else s

/-- MAQUETTE_RECOMPUTE (R314). -/
def State.maquette (s : State) : State :=
  let old := s.plc.placed
  let t := { s with plc := { s.plc with placed := s.placement } }
  ((t.jobsFollow old).capacityCheck.fitsWatch).impFollow.plcShow

/-- A change of this node's offer (R312, R314) is flooded, and the Maquette recomputed. -/
def State.settle (s : State) : State :=
  if s.fab.valid && !(takeOffer s.fab.nodes s.myOffer == s.fab.nodes) then
    ({ s with fab := { s.fab with nodes := takeOffer s.fab.nodes s.myOffer } }.floodTopo s.myOffer).maquette
  else s

/-! ## Records (R317, R318) -/

/-- Bytes a record takes in the store. -/
def recSize (r : Rec) : Nat := 8 + 8 * ceilDiv r.bytes.length 8

/-- The bytes of a store. -/
def recsSize (l : List Rec) : Nat := l.foldl (fun a r => a + recSize r) 0

/-- R317: a record discarded only after every other: the latest of its TYPE and owner, and the 7 latest DIGEST records. -/
def keepLast (l : List Rec) (r : Rec) : Bool :=
  let later := (l.filter fun x => x.kind == r.kind && x.owner == r.owner && decide (r.seq.toNat < x.seq.toNat)).length
  later == 0 || (r.kind == 0x34 && decide (later < 7))

/-- R317: make room for a store of 256 KB, oldest first; the records left and how many were discarded. -/
def evict : Nat → List Rec → List Rec × Nat
  | 0, l => (l, 0)
  | k + 1, l =>
    if recsSize l ≤ 262144 then (l, 0)
    else
      let out := match l.find? fun r => !keepLast l r with | some r => some r | none => l.head?
      match out with
      | some r => let x := evict k (l.erase r); (x.1, x.2 + 1)
      | none => (l, 0)

/-- `plc.rec.used` (R331). -/
def State.recShow (s : State) : State :=
  s.wr 0x2108 (pack [(16, 16, recsSize s.plc.recs / 1024), (0, 16, min 0xFFFF s.plc.recs.length)])

/-- Store a record (R317, R321): one of the same key is replaced. -/
def State.recStore (s : State) (r : Rec) : State :=
  let l := (s.plc.recs.filter fun x => !(x.kind == r.kind && x.owner == r.owner && x.seq == r.seq)) ++ [r]
  let e := evict l.length l
  let hold := if s.plc.hold.any fun h => h.1 == r.owner then s.plc.hold else s.plc.hold ++ [(r.owner, s.holders r.owner)]
  ({ s with plc := { s.plc with recs := e.1, hold := hold } }.addSat 0x2109 0 16 e.2).recShow

/-- Send a copy of a record. -/
def State.sendRec (s : State) (a : FAddr) (r : Rec) : State :=
  s.sendJob a 3 ([r.kind] ++ bytesBE 2 r.owner.toNat ++ bytesBE 4 r.seq.toNat ++ [BitVec.ofNat 8 (b2n r.rerun)]) r.bytes

/-- Keep a new record at every holder of its owner (R317). -/
def State.recSpread (s : State) (r : Rec) : State :=
  (s.holders r.owner).foldl (fun t a => if a == s.fab.addr then t.recStore r else t.sendRec a r) s

/-- The SEQ of the next record of a TYPE and owner (R317). -/
def State.nextSeq (s : State) (kind : Byte) (owner : FAddr) : Word :=
  (s.plc.recs.foldl (fun m r => if r.kind == kind && r.owner == owner && m.toNat < r.seq.toNat then r.seq else m) (0 : Word)) + 1

/-- The SEQ a job's next record of a TYPE and owner takes (R317, R321): the store's next number, or after a restart the one of its
checkpoint. -/
def State.jobSeq (s : State) (j : Job) (kind : Byte) (owner : FAddr) : Word :=
  let n := s.nextSeq kind owner
  if j.rerun || n.toNat ≤ j.seq.toNat then j.seq else n

/-- The job has written its records of an interval (R319, R321). -/
def State.jobWrote (s : State) (key : JobKey) (seq : Word) : State :=
  { s with plc := { s.plc with jobs := s.plc.jobs.map fun j => if j.key == key then { j with seq := seq + 1, rerun := false } else j } }

/-- The nodes of an owner's holder list that hold its records already (R318): those that held them before the list changed. -/
def State.remaining (s : State) (owner : FAddr) : List FAddr :=
  let hs := s.holders owner
  match s.plc.hold.find? fun h => h.1 == owner with
  | some h => h.2.filter fun a => hs.contains a
  | none => hs

/-- The DATA of REPLICALOW (R330). -/
def State.lowData (s : State) (owner : FAddr) (present : Nat) : Word :=
  pack [(0, 12, owner.toNat), (12, 2, present), (14, 2, s.nCopies),
    (16, 16, min 0xFFFF (s.plc.recs.filter fun r => r.owner == owner).length)]

/-- REPLICALOW (R318, R330): for each owner with fewer holders than `plc.copies`, by its lowest-addressed remaining holder. -/
def State.replicaCheck (s : State) : State :=
  (distinct (s.plc.recs.map (·.owner))).foldl (fun t o =>
    let hs := s.remaining o
    let data := s.lowData o hs.length
    let mine := least (hs.map fun a => (a.toNat, a)) == some s.fab.addr
    let isLow := t.plc.low.contains o
    if decide (hs.length < s.nCopies) && !isLow then
      let u := { t with plc := { t.plc with low := t.plc.low ++ [o] } }
      if mine then u.raise 65 data else u
    else t) s

/-! ## Changes of the Armature -/

/-- What every change of the Armature brings (R273, R274, R276 to R279, R314, R318, R384): losses, cache, time-keeper, tree, placement,
twin-frame senders. Routes need no step of their own: they are computed from the Armature. -/
def State.armatureChanged (s0 : State) : State :=
  let s := { s0 with fab := { s0.fab with nodes := bootFollow s0.fab.nodes } }
  let t := (((s.lossCheck.freshSeq s.fab.nodes).stageDrop.ownerCheck false).cacheSync).keepKeeper
  ((((t.treeShow).fabShow).slotShow.peersRefresh).maquette).replicaCheck.sayAgain

/-- This node's ports changed: its record follows, it floods a TOPO frame, and the Armature has changed (R273, R277). Without firmware it takes no
part in discovery and floods nothing (R61). -/
def State.portsChanged (s : State) : State :=
  if s.pwr.phase == .bootOnly then s.putMe.fabShow else ((s.putMe).floodTopo (.node s.myTopo false)).armatureChanged

end Sys2Proof.Machine
end

