-- ==== Sys2Proof/Machine/Goals.lean ====
section
/-! DEFINITION. The goal table (R308 to R311) and the records of R452 that are kept in pairs across the two configuration banks. -/
namespace Sys2Proof.Machine

/-! ## Records kept in pairs (R452) -/

/-- Start of a configuration bank (R84). -/
def cfgBank (b : Bool) : Nat := if b then 0x200EF000 else 0x200E3000

/-- The bytes of a stored record as they will stand once the page writes that wait are done. -/
def State.ldSoon (s : State) (a n : Nat) : List Byte :=
  (s.nv.queue.foldl (fun (t : State) w => t.stBytes w.addr w.data) s).ldBytes a n

/-- The sequence number of a stored record, where its MAGIC and CRC-32C match (R452). -/
def State.recordSeq (s : State) (magic a n : Nat) : Option Nat :=
  let bs := s.ldSoon a n
  if numBE (bs.take 4) = magic ∧ sealedOk bs then some (numBE ((bs.drop 4).take 4)) else none

/-- The copy a pair's next record is written to: the one not valid, or else the lower sequence number; bank 0 with neither valid. -/
def nextCopy (c0 c1 : Option Nat) : Bool :=
  match c0, c1 with
  | none, _ => false
  | some _, none => true
  | some a, some b => decide (b < a)

/-- The copy in force: the valid one with the higher sequence number. -/
def liveCopy (c0 c1 : Option Nat) : Option Bool :=
  match c0, c1 with
  | none, none => none
  | some _, none => some false
  | none, some _ => some true
  | some a, some b => some (decide (a < b))

/-- A record padded to whole pages, its CRC-32C in the last 4 bytes. -/
def pageRecord (pages : Nat) (bs : List Byte) : List Byte := sealed (padTo (128 * pages - 4) bs)

/-- Where the string record and the goal table record lie in a bank. -/
def stringAddr (b : Bool) : Nat := cfgBank b + 368 * 128
def goalAddr (b : Bool) : Nat := cfgBank b + 369 * 128

/-- Write the string record with this node's HOSTSET and number (R275, R452). -/
def State.stringSave (s : State) : State :=
  let c0 := s.recordSeq 0x53545231 (stringAddr false) 128
  let c1 := s.recordSeq 0x53545231 (stringAddr true) 128
  let seq := max (c0.getD 0) (c1.getD 0) + 1
  s.nvPut (.string none) (stringAddr (nextCopy c0 c1))
    (pageRecord 1 (bytesBE 4 0x53545231 ++ bytesBE 4 seq ++ [BitVec.ofNat 8 (s.fld 0x200E 0 7)]))

/-! ## The table (R308, R331) -/

/-- Work units reserved for a goal across the fabric (R309). -/
def State.goalUnits (s : State) (i : Fin 32) : Nat :=
  match nth s.plc.goals i.val none with
  | none => 0
  | some g => (addressed s.fab.nodes).foldl (fun a n => a + s.pinned g n) 0
      + (s.plc.placed.filter fun p => p.key.slot == i).foldl (fun a p => a + p.cost) 0

/-- The host of a goal's first floating job; for REDUCE the node its job is pinned to (log 25). -/
def State.goalHost (s : State) (i : Fin 32) (g : Goal) : Option FAddr :=
  if g.kind == 5 then some g.node else (s.plc.placed.find? fun p => p.key.slot == i).bind (·.host)

/-- A job of a goal waits (R314). -/
def State.goalWaits (s : State) (i : Fin 32) : Bool := s.plc.placed.any fun p => p.key.slot == i && p.host.isNone

/-- `plc.goal.w0` to `plc.goal.w3` of a slot (R331). -/
def State.goalWords (s : State) (i : Fin 32) : List Word :=
  match nth s.plc.goals i.val none with
  | none => [0, 0, 0, 0]
  | some g => [pack [(31, 1, 1), (8, 6, g.string.toNat), (0, 4, g.kind.toNat)], g.arg1, g.arg2,
      pack [(16, 13, s.goalUnits i), (12, 1, b2n (s.goalWaits i)), (0, 12, ((s.goalHost i g).getD 0).toNat)]]

/-- The 32 slots as the goal table record holds them (R452). -/
def State.goalBytes (s : State) : List Byte := (List.range 32).flatMap fun i => wordsBE (s.goalWords (Fin.ofNat 32 i))

/-- The goal of 16 stored bytes (R452). -/
def goalOf (bs : List Byte) : Option Goal :=
  let w (i : Nat) : Word := BitVec.ofNat 32 (numBE ((bs.drop (4 * i)).take 4))
  if (w 0).getLsbD 31 then
    some { kind := BitVec.ofNat 4 (bitsOf (w 0) 0 4), string := BitVec.ofNat 6 (bitsOf (w 0) 8 6), arg1 := w 1, arg2 := w 2,
           node := BitVec.ofNat 12 (bitsOf (w 3) 0 12) }
  else none

/-- Write the goal table record (R308, R452). -/
def State.goalSave (s : State) : State :=
  let c0 := s.recordSeq 0x474F4C31 (goalAddr false) 640
  let c1 := s.recordSeq 0x474F4C31 (goalAddr true) 640
  s.nvPut .goals (goalAddr (nextCopy c0 c1)) (pageRecord 5 (bytesBE 4 0x474F4C31 ++ bytesBE 4 (s.rd 0x2104).toNat ++ s.goalBytes))

/-- The goal table in a JOB frame (R308): its sequence number and the used slots. The layout is the model's (log 22). -/
def State.goalFrame (s : State) : List Byte :=
  [5] ++ bytesBE 4 (s.rd 0x2104).toNat
    ++ s.goalList.flatMap fun x => BitVec.ofNat 8 x.1.val :: (wordsBE ((s.goalWords x.1).take 3) ++ bytesBE 2 x.2.node.toNat)

/-- Flood the goal table (R308). -/
def State.goalFlood (s : State) : State := s.sendAll tyJob s.goalFrame

/-- R308, after a discovery: the anchor floods its table; any other node that holds one sends it to the anchor, which adopts the one with the highest
sequence number. -/
def State.goalOffer (s : State) : State :=
  let t := { s with plc := { s.plc with goalFrom := s.fab.addr } }
  if !t.fab.valid then t
  else if t.isAnchor then t.goalFlood
  else match t.anchor with
    | some a => if t.rd 0x2104 == 0 then t else t.sendTo tyJob a t.goalFrame
    | none => t

/-- R311: a PLAN job that stops on this node sends its string empty assignments. -/
def State.planStop (s : State) (i : Fin 32) (g : Goal) : State :=
  if s.plc.jobs.any fun j => j.key == ⟨1, i⟩ then
    (stringNodes s.fab.nodes g.string.toNat).foldl (fun t n => t.sendItems (n.addr.getD noAddr) []) s
  else s

/-- Put a goal table into force (R308, R311): jobs whose goal has gone stop, and the Maquette is recomputed. -/
def State.goalsTake (s : State) (goals : List (Option Goal)) (seq : Word) : State :=
  let t := s.goalList.foldl (fun t x =>
    match nth goals x.1.val none with
    | some g => if jobKind g == jobKind x.2 && g.string == x.2.string then t else t.planStop x.1 x.2
    | none => t.planStop x.1 x.2) s
  let gone := (List.range 32).filter fun i => (nth goals i none).isNone
  let u := { t with plc := { t.plc with goals := goals, placed := t.plc.placed.filter fun p => !(gone.contains p.key.slot.val) },
                    bal := { t.bal with goals := t.bal.goals.filter fun i => !(gone.contains i.val) } }
  (u.wr 0x2104 seq).maquette

/-- A change of the table by the anchor (R308): the sequence number rises, the table is saved and flooded. -/
def State.goalsChange (s : State) (goals : List (Option Goal)) : State :=
  ((s.goalsTake goals (s.rd 0x2104 + 1)).goalSave).goalFlood

/-- GOALREJ (R310, R330). -/
def State.goalRej (s : State) (slot : Nat) (g : Goal) (reason : Nat) : State :=
  s.raise 60 (pack [(0, 5, slot), (8, 4, g.kind.toNat), (12, 6, g.string.toNat), (20, 4, reason)])

/-- R310, later drops: after a discovery the anchor drops goals whose string is absent (6) or quarantined (7). -/
def State.goalsDrop (s : State) : State :=
  let known (k : Nat) : Bool := s.fab.nodes.any fun n => n.str == k
  let open_ (k : Nat) : Bool := !(stringNodes s.fab.nodes k).isEmpty
  let bad := s.goalList.filter fun x => x.2.kind != 5 && x.2.kind != 7 && !(open_ x.2.string.toNat)
  if bad.isEmpty || !s.isAnchor then s
  else
    let t := bad.foldl (fun t x => t.goalRej x.1.val x.2 (if known x.2.string.toNat then 7 else 6)) s
    t.goalsChange (s.plc.goals.zipIdx.map fun x => if bad.any fun b => b.1.val == x.2 then none else x.1)

/-- R310: renumbered strings keep their goals; the anchor rewrites STRING in one change. A string left without a number loses them as one that is
quarantined (reason 7). REDUCE goals name their node's new address. -/
def State.goalsRenumber (s : State) (num : Nat → Nat) (addr : FAddr → FAddr) : State :=
  let str (g : Goal) : Bool := g.kind != 5 && g.kind != 7
  let lost := s.goalList.filter fun x => str x.2 && decide (64 ≤ num x.2.string.toNat)
  let new := s.plc.goals.map fun o => o.bind fun g =>
    if str g then (if 64 ≤ num g.string.toNat then none else some { g with string := BitVec.ofNat 6 (num g.string.toNat) })
    else some { g with node := addr g.node }
  if s.isAnchor && !(new == s.plc.goals) then (lost.foldl (fun t x => t.goalRej x.1.val x.2 7) s).goalsChange new else s

/-! ## GOAL_SET and GOAL_CLEAR -/

/-- R309: the arguments of a goal are in range. -/
def goalOk (r : Req) : Bool :=
  let kind := bitsOf r.a0 0 4
  let str := bitsOf r.a0 8 6
  let a1 := r.a1.toNat
  let a2 := r.a2.toNat
  let within (v lo hi : Nat) : Bool := decide (lo ≤ v) && decide (v ≤ hi)
  (r.a0 &&& 0xFFFFC0F0) == 0 && r.a3 == 0 &&
    (match kind with
     | 1 => within a1 10 1000 && a2 == 0
     | 2 => within a1 5 500 && a2 == 0
     | 3 => within a1 60 86400 && a2 == 0
     | 4 => within a1 1 1000000 && within a2 1 3600
     | 5 => within a1 1 3600 && a2 == 0
     | 6 => a1 == 0 && a2 == 0
     | 7 => str == 0 && within a1 60 10080 && decide (a2 < a1)
     | _ => false)

/-- SPREAD and SOC count as one kind (R310). -/
def scopeKind (k : BitVec 4) : BitVec 4 := if k == 2 then 1 else k

/-- Two goals of one kind and scope (R310). -/
def sameScope (a b : Goal) : Bool :=
  scopeKind a.kind == scopeKind b.kind && (a.kind == 7 || (a.kind == 5 && a.node == b.node) || (a.kind != 5 && a.string == b.string))

/-- The reason of R310 to refuse a goal, if any. -/
def State.goalRefuse (s : State) (g : Goal) (slot : Option Nat) : Option Nat :=
  let str := g.kind != 5 && g.kind != 7
  let ns := stringNodes s.fab.nodes g.string.toNat
  if slot.isNone then some 1
  else if str && ns.isEmpty then some 2
  else if (g.kind == 1 || g.kind == 2 || g.kind == 3 || g.kind == 4) && !(ns.any (·.shunt)) then some 3
  else if g.kind == 2 && !(s.goalList.any fun x => x.2.kind == 4 && x.2.string == g.string) then some 4
  else if g.kind == 5 && (g.node == noAddr || (g.node == s.fab.addr && s.sweep.collect.isNone)) then some 5
  else none

/-- GOAL_SET at the anchor (R309, R310): `exec_` is the node that executes the command. -/
def State.goalSetAt (s : State) (exec_ : FAddr) (r : Req) : State × Reply :=
  if !goalOk r then s.fail stBadValue
  else
    let g : Goal := { kind := BitVec.ofNat 4 (bitsOf r.a0 0 4), string := BitVec.ofNat 6 (bitsOf r.a0 8 6), arg1 := r.a1, arg2 := r.a2,
                      node := exec_ }
    let same := s.goalList.find? fun x => sameScope x.2 g
    let slot : Option Nat := match same with
      | some x => some x.1.val
      | none => (List.range 32).find? fun i => (nth s.plc.goals i none).isNone
    match s.goalRefuse g slot, slot with
    | none, some i =>
      let t := s.goalsChange (s.plc.goals.set i (some g))
      let k : Fin 32 := Fin.ofNat 32 i
      let host := (t.plc.placed.find? fun p => p.key.slot == k).bind (·.host)
      (t, .done stOk [BitVec.ofNat 32 i, BitVec.ofNat 32 (t.goalUnits k), pack [(12, 1, b2n (t.goalWaits k)), (0, 12, (host.getD 0).toNat)]])
    | some reason, _ => ((s.goalRej (slot.getD 31) g reason), .done stRefused [])
    | none, none => s.fail stRefused

/-- GOAL_CLEAR at the anchor (R311). -/
def State.goalClearAt (s : State) (r : Req) : State × Reply :=
  let all := r.a0.getLsbD 8
  let i := bitsOf r.a0 0 5
  if (r.a0 &&& 0xFFFFFEE0) != 0 || (all && i != 0) || r.a1 != 0 || r.a2 != 0 || r.a3 != 0 then s.fail stBadValue
  else if all then
    if s.goalList.isEmpty then (s, .done stOk []) else (s.goalsChange (copies 32 none), .done stOk [])
  else if (nth s.plc.goals i none).isNone then (s, .done stOk [])
  else (s.goalsChange (s.plc.goals.set i none), .done stOk [])

/-- A command is forwarded to another node as a REQUEST frame with a word in its TARGET field, and completes with its answer. -/
def State.relayTo (s : State) (src : Src) (r : Req) (a target : FAddr) : State × Reply :=
  let fid := s.fab.fid
  let t := s.sendTo tyRequest a (requestBytes r target)
  match src with
  | .mbx => ({ t with host := { t.host with remote := some (fid, a) } }, .later)
  | .fabric => ({ t with host := { t.host with relay := some (fid, a) } }, .later)

/-- R308: a command that runs on any other node is forwarded to the anchor, and completes with its answer. TARGET tells which node executes it: this
node where it collects a sweep, else no address, so that the anchor can judge a REDUCE goal (log 25). -/
def State.toAnchor (s : State) (src : Src) (r : Req) (at_ : State → State × Reply) : State × Reply :=
  if s.isAnchor then at_ s
  else match s.anchor with
    | none => s.fail stRefused
    | some a => s.relayTo src r a (if s.sweep.collect.isSome then s.fab.addr else noAddr)

/-- The node that executes a GOAL_SET served here: this node, or the one that a forwarded command names (log 25). -/
def State.goalExec (s : State) (src : Src) : FAddr :=
  match src, s.host.queue.head? with
  | .fabric, some q => q.target
  | _, _ => s.fab.addr

/-- GOAL_SET (R308, R309). -/
def goalSet (src : Src) (s : State) : State :=
  s.serveCode src 0x40 fun s r => s.toAnchor src r fun s => s.goalSetAt (s.goalExec src) r

/-- GOAL_CLEAR (R311). -/
def goalClear (src : Src) (s : State) : State := s.serveCode src 0x41 fun s r => s.toAnchor src r fun s => s.goalClearAt r

/-- GOAL_TABLE_FRAME (R308): a table with a higher sequence number is taken and saved, and the anchor floods it. Of two tables with one number the
anchor takes that of the lower-addressed node, and every other node takes the anchor's. -/
def goalTableFrame (sender : FAddr) (seq : Word) (slots : List (Option Goal)) (s : State) : State :=
  let g := slots.take 32 ++ copies (32 - slots.length) none
  let own := (s.rd 0x2104).toNat
  let better := decide (own < seq.toNat) || (own == seq.toNat && (!s.isAnchor || decide (sender.toNat < s.plc.goalFrom.toNat)))
  if s.up && better && !(g == s.plc.goals && seq == s.rd 0x2104) then
    let t0 := s.goalsTake g seq
    let t := { t0 with plc := { t0.plc with goalFrom := sender } }.goalSave
    if t.isAnchor then t.goalFlood else t
  else s

end Sys2Proof.Machine
end

