-- ==== Sys2Proof/Machine/Fabric.lean ====
section
/-! DEFINITION. Links, discovery and fabric time (R257 to R286): link control, training, retries, forwarding, TOPO frames, DISCDONE,
STRING_ASSIGN, wake requests and the exchanges of TIME frames. -/
namespace Sys2Proof.Machine

/-! ## Ports -/

/-- A port is enabled (R258) and has not been stopped by a failed loop-back (R404). -/
def State.portOn (s : State) (p : Fin 4) : Bool :=
  s.awake && s.bit 0x2003 p.val && match s.port p with | some q => !q.stopped | none => false

/-- An up port. -/
def State.portUp (s : State) (p : Fin 4) : Bool :=
  s.awake && match s.port p with | some q => q.up && !q.stopped | none => false

/-- LINKERR at most once per second and port, with the frames lost since the last one (R266, R285). -/
def State.linkErr (s : State) (p : Fin 4) (ty : Byte) : State :=
  let n := match s.port p with | some q => q.lostNow | none => 0
  if s.ev.lastRaise.any (fun (r : Nat × Nat × DWord) => r.1 == 47 && r.2.1 == p.val && s.recent r.2.2) then s
  else (s.raiseSlow 47 p.val (pack [(0, 2, p.val), (8, 8, ty.toNat), (16, 16, min 0xFFFF n)])).setPort p fun q => { q with lostNow := 0 }

/-- R266: a frame is dropped and counted in LOST. -/
def State.linkDrop (s : State) (p : Fin 4) (u : Unacked) : State :=
  let t := s.setPort p fun q => Port.pump 5 { q with unacked := q.unacked.erase u, lostAt := q.lostAt ++ [s.clk.ref], lostNow := q.lostNow + 1 }
  (t.addSat (0x2018 + p.val) 16 16 1).linkErr p u.frame.type

/-- R266, R412: a frame that ended in ABORT is counted lost; the next frame takes its LSEQ where no later one is out. -/
def State.linkLost (s : State) (p : Fin 4) (lseq : Byte) : State :=
  match s.port p with
  | none => s
  | some q =>
    match q.unacked.find? fun u => u.lseq == lseq with
    | none => s
    | some u => (s.setPort p fun q => if q.lseq == lseq + 1 then { q with lseq := lseq } else q).linkDrop p u

/-- R266: a NACK or a timeout. The first failure repeats the frame with RETX and the same LSEQ at its place; the second drops it. -/
def State.linkFail (s : State) (p : Fin 4) (lseq : Byte) : State :=
  match s.port p with
  | none => s
  | some q =>
    match q.unacked.find? fun u => u.lseq == lseq with
    | none => s
    | some u =>
      if u.retry then s.linkDrop p u
      else
        let f := { u.frame with retx := true }
        (s.setPort p fun q => { q with
          unacked := q.unacked.map (fun (x : Unacked) => if x == u then { x with retry := true, due := true, frame := f } else x) }).setPort p (Port.pump 5)

/-- R266: an ACK frees its frame; one that was repeated is a transient. ARG2 is the neighbour's free buffers (R258). -/
def State.linkAck (s : State) (p : Fin 4) (lseq free : Byte) : State :=
  match s.port p with
  | none => s
  | some q =>
    match q.unacked.find? fun u => u.lseq == lseq with
    | none => s.setPort p fun q => Port.pump 5 { q with credit := min 8 free.toNat }
    | some u =>
      let t := s.setPort p fun q => Port.pump 5 { q with unacked := q.unacked.erase u, credit := min 8 free.toNat }
      if u.retry then (t.addSat (0x2018 + p.val) 0 16 1).transient 4 1 else t

/-- LINK_CONTROL_RECEIVED (R258, R266): a link control set is removed from the stream and acted on. TRAIN sets are acted on as whole
blocks (R260). -/
def linkControlReceived (p : Fin 4) (code a1 a2 : Byte) (s : State) : State :=
  if s.portUp p then
    match code.toNat with
    | 1 => s.linkAck p a1 a2
    | 2 => s.linkFail p a1
    | 3 => s.setPort p fun q => Port.pump 5 { q with credit := min 8 a2.toNat }
    | 4 => if a1 == 0x5A then s.setPort p fun q => { q with slept := true } else s
    | _ => s
  else s

/-- KEEPALIVE_SEND (R258). -/
def keepaliveSend (p : Fin 4) (s : State) : State :=
  if s.portUp p then s.control p 0x03 (BitVec.ofNat 8 s.pwr.mode.code) 8 else s

/-- LINKUP (R260, R272, R285): the port is up; MISWIRE pairings carry only link control and TOPO. -/
def State.linkUp (s : State) (p : Fin 4) : State :=
  let t := (s.setPort p fun q => { q with up := true, slept := false, stamps := none }).wireCheck
  match t.port p with
  | none => s
  | some q =>
    let ser := q.nbr.toNat % 65536
    let t1 := t.raise 45 (pack [(0, 2, p.val), (2, 2, q.nbrPort.val), (4, 1, b2n q.miswire), (5, 1, b2n !q.nbrFw), (16, 16, ser)])
    let t2 := if q.nbrFw then t1 else t1.raise 53 (pack [(0, 2, p.val), (16, 16, ser)])
    let t3 := t2.control p 0x03 (BitVec.ofNat 8 t2.pwr.mode.code) 8
    let t4 := if t3.up && t3.fab.valid then t3.topoChg (if t3.fab.woke then 3 else 5) t3.fab.addr else t3
    { t4 with fab := { t4.fab with woke := false } }.portsChanged

/-- LINK_TRAIN_BLOCK (R259, R260): a whole block; twice in a row the same sets HEARD, and with HEARD at both ends the port is up. -/
def linkTrainBlock (p : Fin 4) (block : List Byte) (s : State) : State :=
  match s.port p with
  | none => s
  | some q =>
    if s.portOn p && !q.up && !q.delayed && block.length == 12 then
      let again := q.same != 0 && q.block == some block
      let heard := q.heard || again
      let nbr := (nth block 11 0).getLsbD 7
      let t := s.setPort p fun q => { q with block := some block, same := 1, heard := heard, nbrHeard := nbr }
      if heard && nbr then t.linkUp p else t
    else s

/-- A SAFE frame keeps to the way round its ring that it was sent on (R379): its WAY bit names the port, PORT A down and PORT B up. A RAMPREQ to a
converter of another string takes the route of R276 (R380). -/
def Frame.ringWay (f : Frame) : Option (Fin 4) :=
  if f.type == tySafe && !(nth f.payload 0 0 == 0x04 && f.src.toNat / 64 != f.dst.toNat / 64) then
    some (if (nth f.payload 1 0).getLsbD 0 then 0 else 1)
  else none

/-- R276: a frame without a route is discarded and counted; a REQUEST is answered with NOROUTE, to its source, or to the requester here where this
node sent it (R75, R308). -/
def State.unrouted (s : State) (f : Frame) : State :=
  let t := s.noRoute
  if f.type != tyRequest || f.src == noAddr then t
  else if f.src == t.srcAddr then
    if t.host.remote = some (f.fid, f.dst) then t.complete .mbx stNoRoute []
    else if t.host.relay = some (f.fid, f.dst) then { t with host := { t.host with relay := none } }.complete .fabric stNoRoute []
    else t
  else t.sendTo tyResponse f.src (responseBytes stNoRoute (nth f.payload 1 0) f.fid [])

/-- R277: the frames of a downed port go out again on their next-best route, with REROUTED set; a copy bound to its way round the ring has none
(R379). -/
def State.reroute (s : State) (fs : List Frame) : State :=
  fs.foldl (fun t f =>
    if f.bcast || f.ringWay.isSome then t
    else match t.route f.dst with
      | some (p, _) => t.enqueue p { f with retx := false, rerouted := true }
      | none => t.unrouted f) s

/-- A port goes down (R261, R277): LINKDOWN, its frames rerouted, TOPOCHG, and the Armature changed. -/
def State.portDown (s : State) (p : Fin 4) (cause : Nat) : State :=
  match s.port p with
  | none => s
  | some q =>
    if q.up then
      let t := s.setPort p fun q => { q with up := false, delayed := decide (cause = 3), heard := false, nbrHeard := false, same := 0,
                                              credit := 0, queue := [], unacked := [], stamps := none, lostAt := [] }
      let t1 := (t.addSat (0x201C + p.val) 0 16 1).raise 46 (pack [(0, 2, p.val), (2, 2, cause), (4, 1, b2n q.slept)])
      let t2 := t1.putMe.reroute (q.queue ++ q.unacked.map (·.frame))
      let t3 := if t2.up && t2.fab.valid && !q.slept then t2.topoChg 4 t2.fab.addr else t2
      t3.portsChanged
    else s

/-- LINK_DOWN (R261): causes 0 to 3; the last asks for ERRDOWN and 3 frames lost within 100 ms. -/
def linkDown (p : Fin 4) (cause : Fin 4) (s : State) : State :=
  let lost := match s.port p with
    | some q => (q.lostAt.filter fun t => decide (s.clk.ref.toNat < t.toNat + 4000000)).length
    | none => 0
  if s.portUp p && (cause.val != 3 || (s.bit 0x2000 0 && decide (3 ≤ lost))) then s.portDown p cause.val else s

/-- LINK_RETRAIN_DELAY (R261): 1 s after an ERRDOWN loss the port trains again. -/
def linkRetrainDelay (p : Fin 4) (s : State) : State := s.setPort p fun q => { q with delayed := false }

/-! ## Frames -/

/-- The frames remembered for 10 ms (R267). -/
def State.seenNow (s : State) : List (FAddr × Half × DWord) :=
  s.fab.seen.filter fun x => decide (s.clk.ref.toNat < x.2.2.toNat + 400000)

/-- Remember a frame. -/
def State.remember (s : State) (f : Frame) : State :=
  { s with fab := { s.fab with seen := s.seenNow ++ [(f.src, f.fid, s.clk.ref)] } }

/-- A frame with this SRC and FID was accepted or forwarded lately (R267). -/
def State.known (s : State) (f : Frame) : Bool := s.seenNow.any fun x => x.1 == f.src && x.2.1 == f.fid

/-- Where a frame in transit goes on: by its way round the ring (R379), or by its route (R276). -/
def State.onward (s : State) (f : Frame) : Option (Fin 4) :=
  match f.ringWay with
  | some p => match s.port p with | some q => if q.usable then some p else none | none => none
  | none => (s.route f.dst).map (·.1)

/-- R265, R276, R379: a good frame in transit: one hop more, within `fab.maxhops`; a REQUEST without a route is answered with NOROUTE. -/
def State.transit (s : State) (f : Frame) : State :=
  let g := { f with hops := f.hops + 1 }
  if s.fld 0x200D 0 8 < f.hops.toNat + 1 then s.noRoute
  else match s.onward g with
    | some p => s.enqueue p g
    | none => s.unrouted g

/-- FRAME_RECEIVE (R262, R263, R265 to R267, R276): a frame is checked, acknowledged, and forwarded or accepted. What an accepted frame
does is the row of its kind (log 26); a forwarded copy of a bad frame ends in ABORT, so no node takes it. -/
def frameReceive (p : Fin 4) (bytes : List Byte) (aborted : Bool) (s : State) : State :=
  let lseq := nth bytes 6 0
  if !s.portUp p || aborted then s
  else if !wireLengthOk bytes then s.control p 0x02 lseq 2
  else if !wireCrcOk bytes then s.control p 0x02 lseq 1
  else
    let f := parseFrame bytes
    let t := s.control p 0x01 lseq 8
    let wrong := match s.port p with | some q => q.miswire | none => true
    if wrong && f.type != tyTopo then t
    else if f.bcast then
      if s.known f then t
      else
        let g := { f with hops := f.hops + 1 }
        if s.fld 0x200D 0 8 < f.hops.toNat + 1 then (t.remember f).noRoute else (t.remember f).flood g (some p)
    else if s.fab.valid && f.dst == s.fab.addr then
      if (f.retx || f.rerouted) && s.known f then t else t.remember f
    else t.transit f

/-! ## Discovery -/

/-- Flood this node's Armature CRC (R269, step 4). -/
def State.floodCrc (s : State) : State := s.floodTopo (.armCrc s.serial (armatureCrc (discovered s.fab.nodes)))

/-- Discovery begins (R269, step 1). -/
def State.discoverStart (s : State) (by_ : Option Src) (flag : Bool) : State :=
  let t := { s.putMe with fab := { s.putMe.fab with disc := some by_, crcs := [] } }.setBit 0x2001 0 true
  (t.floodTopo (.node t.myTopo flag)).floodCrc

/-- DISCOVER (R275). -/
def discover (src : Src) (s : State) : State :=
  s.serveCode src 0x30 fun s r =>
    if r.a0 != 0 || r.a1 != 0 || r.a2 != 0 || r.a3 != 0 then s.fail stBadValue
    else if s.fab.disc.isSome then s.fail stRefused
    else (s.discoverStart (some src) true, .later)

/-- DUPSTRAP (R271, R285) for one strap of a string, by the string's lowest-addressed valid node; for a quarantined string, by the
time-keeper. -/
def State.dupStrap (s : State) (str : Nat) (ok : Bool) (strap : BitVec 6) : State :=
  let ns := s.fab.nodes
  let same := ns.filter fun n => n.str == str && n.topo.strapOk == ok && (if ok then n.topo.strap == strap else n.quar)
  let mine := if str < 64 then
      (match (stringNodes ns str).find? (·.present) with | some m => m.topo.serial == s.serial | none => false)
    else s.fab.keeper == some s.fab.addr
  if mine && s.fab.valid then
    s.raise 49 (pack [(0, 6, strap.toNat), (6, 6, str % 64), (12, 4, min 15 same.length), (16, 1, b2n !ok), (17, 1, b2n (decide (64 ≤ str)))])
  else s

/-- DUPSTRAP for every quarantined strap (R271). -/
def State.dupStraps (s : State) : State :=
  (distinct ((quarantined s.fab.nodes).map fun n => (n.str, n.topo.strapOk, n.topo.strap))).foldl (fun t g => t.dupStrap g.1 g.2.1 g.2.2) s

/-- R269, step 4: every CRC received agrees, one from each other node that runs firmware. -/
def State.discAgreed (s : State) (ns : List Node) : Bool :=
  let own := armatureCrc ns
  (s.fab.disc.isSome || !s.fab.crcs.isEmpty) && ns.all fun n =>
    n.topo.serial == s.serial || !n.topo.fw || n.sleep || s.fab.crcs.any fun c => c.1 == n.topo.serial && c.2 == own

/-- DISCDONE (R269 to R275, R278, R308, R310, R314, R384, R430): addresses and routes take force, and all that follows from them. -/
def discdone (s : State) : State :=
  let s0 := s.putMe
  let ns := discovered s0.fab.nodes
  if !s.evrus || !s0.discAgreed ns then s
  else
    let was := s.fab.valid
    let lostNum := conflicts s0.fab.nodes s.serial
    let t0 := { s0 with fab := { s0.fab with nodes := ns, disc := none, crcs := [],
                                             voters := (addressed ns).filterMap Node.addr } }
    let t1 := (if lostNum then (t0.setBit 0x200E 6 false).stringSave else t0).takeAddress
    let t2 := { t1 with fab := { t1.fab with nodes := takeOffer t1.fab.nodes t1.myOffer } }.chooseKeeper true
    let t3 := (t2.treeShow).fabShow
    let data := pack [(0, 13, t3.fld 0x2004 16 13), (16, 7, t3.fld 0x2004 0 7), (24, 8, min 255 (t3.fld 0x2005 0 16))]
    let t4 := t3.raise 48 data
    let t5 := if lostNum then t4.topoChg 7 t4.fab.addr else t4
    let t6 := if s.pwr.phase == .ready && t5.fab.valid && (!was || t5.fab.addr != s.fab.addr) then
      t5.topoChg (if was then 6 else 0) t5.fab.addr else t5
    let t7 := (((t6.dupStraps).ownerCheck true).cacheSync).peersRefresh
    let t8 := ((t7.goalsDrop).maquette).replicaCheck.slotShow.sayAgain
    let t9 := t8.goalOffer
    let t10 := if t9.fab.valid then t9.floodTopo t9.myOffer else t9
    match s.fab.disc with
    | some (some src) => t10.complete src stOk [BitVec.ofNat 32 (t3.fld 0x2004 16 13), t3.rd 0x2005, BitVec.ofNat 32 (t3.fld 0x2004 0 7)]
    | _ => t10

/-- The string number of a node changes (R275): its address follows. A string that finds no number is quarantined (R270, R271), and one that was is
placed anew. -/
def renumberNode (ns : List Node) (k : Nat) (n : Node) : Node :=
  if 64 ≤ k then { n with str := k, quar := n.topo.fw, addr := none }
  else if 64 ≤ n.str then
    let mates := ns.filter fun m => m.str == n.str && !m.lost
    let bad := !n.topo.strapOk || sharesStrap mates (mates.map (·.topo.serial)) n
    { n with str := k, quar := bad && n.topo.fw, addr := if bad || !n.topo.fw then none else some (addrOf k n.topo.strap) }
  else { n with str := k, addr := n.addr.map fun _ => addrOf k n.topo.strap }

/-- STRING_ASSIGN's effect on the Armature (R270, R275): the string of a node takes a number, or returns to discovery order; a string that
held the number by discovery order takes the lowest free one. -/
def assignString (ns : List Node) (serial : DWord) (num : Nat) (clear : Bool) : List Node :=
  match nodeOf ns serial with
  | none => ns
  | some x =>
    let old := x.str
    let others := (ns.filter fun n => n.str != old).map (·.str)
    let none_ := (ns.map (·.str)).foldl max 64 + 1
    let k := if clear then (match freeNumbers others with | i :: _ => i | [] => none_) else num
    let moved := match freeNumbers (k :: others) with | i :: _ => i | [] => none_
    ns.map fun n =>
      if n.str == old then
        { renumberNode ns k n with topo := { n.topo with hostset := !clear, string := if clear then n.topo.string else BitVec.ofNat 6 num } }
      else if !clear && n.str == num then renumberNode ns moved n
      else n

/-- The addresses of a measurement's fit follow a number (R275): its string, and every node it names. -/
def renumberFit (strNow : Nat → Nat) (new : FAddr → FAddr) (f : FitJob) : FitJob :=
  { f with string := strNow f.string, shunt := f.shunt.map new, frames := f.frames.map fun (x : SegIn) => { x with node := new x.node },
           missing := f.missing.map fun (x : FAddr × Nat × Nat) => (new x.1, x.2), left := f.left.map new,
           temps := f.temps.map fun (x : TempRun) => { x with node := new x.node } }

/-- What the collectors and the sweeps, the measurement and the blocking plan hold by address follows a number (R275). -/
def State.renumberHeld (s : State) (new : FAddr → FAddr) : State :=
  { s with sweep := { s.sweep with plan := s.sweep.plan.map fun (p : SweepPlan) => { p with coll := new p.coll },
                                   collect := s.sweep.collect.map fun (p : SweepPlan) => { p with coll := new p.coll },
                                   shot := s.sweep.shot.map fun (x : SweepShot) => { x with coll := new x.coll }, heldTo := new s.sweep.heldTo },
           imp := { s.imp with fit := s.imp.fit.map new, own := s.imp.own.map fun (x : SegIn) => { x with node := new x.node } },
           bal := { s.bal with planned := s.bal.planned.map fun (x : Fin 32 × FAddr × List BalItem) => (x.1, new x.2.1, x.2.2) } }

/-- The number reaches this node (R275): the Armature, the string record, TOPOCHG, the goals, the records' owners and the time-keeper. -/
def State.takeNumber (s : State) (serial : DWord) (num : BitVec 6) (clear : Bool) : State :=
  let ns := assignString s.fab.nodes serial num.toNat clear
  let mine := match nodeOf s.fab.nodes serial, s.me with | some x, some me => x.str == me.str | _, _ => false
  let new (a : FAddr) : FAddr := match nodeAt s.fab.nodes a with
    | some n => match nodeOf ns n.topo.serial with | some m => m.addr.getD a | none => a
    | none => a
  let neu := match nodeOf ns serial with | some x => x.str | none => 64
  let strNow (k : Nat) : Nat := match s.fab.nodes.find? fun n => n.str == k with
    | some n => match nodeOf ns n.topo.serial with | some m => m.str | none => k
    | none => k
  let t0 := { s with fab := { s.fab with nodes := ns, voters := s.fab.voters.map new, keeper := s.fab.keeper.map new,
                                         discKeeper := s.fab.discKeeper.map new },
                     plc := { s.plc with recs := s.plc.recs.map (fun (r : Rec) => { r with owner := new r.owner }),
                                         placed := s.plc.placed.map (fun (p : Placed) => { p with host := p.host.map new, prev := p.prev.map new }),
                                         ckpts := s.plc.ckpts.map (fun (c : Checkpoint) => { c with host := new c.host }),
                                         low := s.plc.low.map new, hold := s.plc.hold.map (fun (h : FAddr × List FAddr) => (new h.1, h.2.map new)),
                                         soc := s.plc.soc.map fun (x : SocJob) =>
                                           { x with rows := x.rows.map fun (r : SocRow) => { r with node := new r.node } },
                                         fits := s.plc.fits.map (renumberFit strNow new) } }.renumberHeld new
  let t1 := if mine then (t0.wr 0x200E (pack [(6, 1, b2n !clear), (0, 6, if clear then neu % 64 else num.toNat)])).stringSave else t0
  let t2 := (t1.freshSeq s.fab.nodes).takeAddress
  let t3 := if t2.fab.addr == s.fab.addr then t2 else t2.topoChg 6 t2.fab.addr
  let t4 := (((t3.cacheSync).chooseKeeper false).treeShow).fabShow
  let out := (distinct ((quarantined ns).map fun n => (n.str, n.topo.strapOk, n.topo.strap))).filter fun g =>
    decide (64 ≤ g.1) && !(s.fab.nodes.any fun n => n.str == g.1)
  let t5 := out.foldl (fun t g => t.dupStrap g.1 g.2.1 g.2.2) t4
  (((t5.peersRefresh).goalsRenumber strNow new).maquette).replicaCheck

/-- STRING_ASSIGN (R275). `outputOn`: some node of the string has SAFEH or SAFEL on. -/
def stringAssign (src : Src) (outputOn : Bool) (s : State) : State :=
  s.serveCode src 0x31 fun s r =>
    let serial : DWord := r.a1 ++ r.a0
    let num := bitsOf r.a2 0 6
    let clear := r.a2.getLsbD 8
    if (r.a2 &&& 0xFFFFFEC0) != 0 || r.a3 != 0 then s.fail stBadValue
    else match nodeOf s.fab.nodes serial with
      | none => s.fail stNoRoute
      | some x =>
        let held := !clear && s.fab.nodes.any fun n => n.str != x.str && n.topo.hostset && n.topo.string.toNat == num
        if held || outputOn || s.fab.disc.isSome then s.fail stRefused
        else
          let after := assignString s.fab.nodes serial num clear
          let n := (after.filter fun m => match nodeOf s.fab.nodes m.topo.serial with | some o => o.addr != m.addr | none => false).length
          ((s.floodTopo (.number serial (BitVec.ofNat 6 num) clear)).takeNumber serial (BitVec.ofNat 6 num) clear,
            .done stOk [BitVec.ofNat 32 n])

/-! ## TOPO frames -/

/-- A node's own report (R269, R273): before this node's first DISCDONE, and while discovery runs, it is kept for DISCDONE; afterwards a
known node's record follows, and a newcomer joins. -/
def State.takeTopo (s : State) (n : TopoNode) (disc : Bool) : State :=
  if n.serial == s.serial then s
  else if disc && s.fab.disc.isNone then
    { s with fab := { s.fab with nodes := putTopo s.fab.nodes n } }.discoverStart none false
  else if s.fab.disc.isSome then
    { s with fab := { s.fab with nodes := putTopo s.fab.nodes n } }.floodCrc
  else if s.fab.nodes.any fun m => m.topo.serial == n.serial && (m.topo.fw || !n.fw) then
    (State.freshSeq s.fab.nodes { s with fab := { s.fab with nodes := putTopo s.fab.nodes n } }).armatureChanged
  else
    let ns := putTopo s.fab.nodes n
    let j := joined ns (s.bit 0x2000 1) (freshNode n)
    let ns1 := (ns.filter fun m => !(m.lost && j.addr.isSome && m.addr == j.addr)).map fun m => if m.topo.serial == n.serial then j else m
    let t0 := (State.freshSeq s.fab.nodes { s with fab := { s.fab with nodes := ns1 } }).armatureChanged
    let t := if j.quar && (s.bit 0x2000 1 || !n.strapOk) then t0.dupStrap j.str n.strapOk n.strap else t0
    ((t.floodTopo (.node t.myTopo false)).floodTopo (.armCrc t.serial (armatureCrc t.fab.nodes))).floodTopo t.myOffer

/-- R61: a node without firmware takes no part in discovery, and forwards: it keeps the Armature that the TOPO frames passing it make, for its routes
alone (DESIGN CHOICE, log 117). -/
def State.bootTopo (s : State) (m : TopoMsg) : State :=
  match m with
  | .node n _ =>
    if n.serial == s.serial then s
    else
      let t := ({ s with fab := { s.fab with nodes := putTopo s.fab.nodes n } }.putMe).lossCheck
      { t with fab := { t.fab with nodes := discovered t.fab.nodes } }
  | .number x k clear => { s with fab := { s.fab with nodes := assignString s.fab.nodes x k.toNat clear } }
  | .armCrc _ _ => s
  | .accept _ _ => s
  | .offer _ _ => s

/-- Acceptance of a newcomer reaches this node (R432): its record enters the cache and the change is no longer pending. -/
def State.takeAccept (s : State) (a : FAddr) (serial : DWord) : State :=
  match nodeAt s.fab.nodes a with
  | some n =>
    if n.topo.serial == serial && n.pending then
      let t := (s.setNode serial fun m => { m with pending := false }).cacheSync
      ((t.setFld 0x4018 0 8 (min 255 t.pendings.length)).maquette).settle
    else s
  | none => s

/-- TOPO_FRAME (R269, R273, R275, R312, R432): what the frame says is taken into the Armature. -/
def topoFrame (_p : Fin 4) (m : TopoMsg) (s : State) : State :=
  if s.pwr.phase == .bootOnly && s.awake then s.bootTopo m
  else if !s.evrus then s
  else match m with
    | .node n d => s.takeTopo n d
    | .armCrc x c => { s with fab := { s.fab with crcs := (s.fab.crcs.filter fun (y : DWord × Word) => !(y.1 == x)) ++ [(x, c)] } }
    | .number x k clear => s.takeNumber x k clear
    | .accept a x => s.takeAccept a x
    | .offer a o =>
      let t := { s with fab := { s.fab with nodes := takeOffer s.fab.nodes (.offer a o) } }
      if t.fab.nodes == s.fab.nodes then s else (t.peersRefresh).maquette

/-! ## Waking a sleeping node (R276) -/

/-- The port of this node that faces a node, if any. -/
def State.facing (s : State) (x : DWord) : Option (Fin 4) :=
  allPorts.find? fun p => match s.port p with | some q => q.nbr == x | none => false

/-- The neighbour of a node nearest to this one: present, with a port that faces it. -/
def State.nearest (s : State) (x : DWord) : Option Node :=
  let dist := hopsFrom s.fab.nodes s.serial
  least ((s.fab.nodes.filter fun n => n.present && n.topo.ports.any fun t => t.nbr == x).filterMap fun n =>
    (lookupD dist n.topo.serial).map fun h => (h * 4096 + (n.addr.getD noAddr).toNat, n))

/-- WAKE_FRAME (R276): Idle for 20 µs on the port that faces the sleeping node. -/
def wakeFrame (target : FAddr) (s : State) : State :=
  match nodeAt s.fab.nodes target with
  | some n =>
    match s.facing n.topo.serial with
    | some p => if s.up then { s with pins := { s.pins with idleOut := s.pins.idleOut ++ [p] } } else s
    | none => s
  | none => s

/-- A write of `fab.wake` (R276): refused for a node not marked SLEEP; else the neighbour nearest to this node is asked, or acts itself. -/
def State.wakeWrite (s : State) (a : FAddr) : Option State :=
  match nodeAt s.fab.nodes a with
  | some n =>
    if n.sleep then
      match s.nearest n.topo.serial with
      | some m =>
        if m.topo.serial == s.serial then some (wakeFrame a s)
        else some (match m.addr with | some b => s.sendTo tyWake b (bytesBE 2 a.toNat) | none => s.noRoute)
      | none => some s.noRoute
    else none
  | none => none

/-! ## Fabric time -/

/-- A signed number of 1/256 ticks as ps (25 ns a tick). -/
def ticks256 (v : Int) : Int := quot (v * 25000) 256

/-- The ports whose neighbour has this node as its parent (R279, R280). -/
def State.childPorts (s : State) : List (Fin 4) :=
  match s.me, s.fab.keeper.bind (nodeAt s.fab.nodes) with
  | some me, some k => allPorts.filter fun p =>
      match s.port p, me.peer s.fab.nodes p.val with
      | some q, some n => q.usable &&
          (match parentOf s.fab.nodes k.topo.serial n with | some (_, m) => m.topo.serial == s.serial | none => false)
      | _, _ => false
  | _, _ => []

/-- Send a TIME frame on a port. The layout is the model's (log 23): kind, then a stamp. -/
def State.sendTime (s : State) (p : Fin 4) (kind : Byte) (stamp : Int) : State :=
  let dst := match s.port p with
    | some q => ((nodeOf s.fab.nodes q.nbr).bind (·.addr)).getD noAddr
    | none => noAddr
  let f := s.newFrame tyTime false dst ([kind] ++ bytesBE 9 (BitVec.ofInt 72 stamp).toNat)
  { s with fab := { s.fab with fid := s.fab.fid + 1 } }.enqueue p f

/-- TIME_SYNC_SEND (R280): SYNC with t1, this node's fabric time at the SOF, to each child. -/
def timeSyncSend (s : State) : State :=
  if s.awake && s.fab.hasTime then
    s.childPorts.foldl (fun t p => t.sendTime p 1 (256 * (s.clk.fabric.toNat : Int))) s
  else s

/-- R10: a free-running node that receives fabric time goes over to the fabric-locked oscillator. -/
def State.followFabric (s : State) : State := if s.fld 0x0110 0 2 = 2 then s.setFld 0x0110 0 2 1 else s

/-- A node first holds fabric time (R280). -/
def State.gainTime (s : State) (fabric : DWord) : State :=
  { s with clk := { s.clk with fabric := fabric },
           fab := { s.fab with hasTime := true, aligned := 0, misaligned := 0, rejoin := false } }.setBit 0x2001 4 true

/-- Count an offset (R280, R282): within `fab.align.lim` or not; ALIGNED after 8, TIMEALIGN after 3 misses, cleared after 8. -/
def State.judgeOffset (s : State) (off : Int) : State :=
  let lim : Int := 1000 * s.fld 0x200C 0 16
  let good := decide ((if off < 0 then -off else off) ≤ lim)
  let a := if good then s.fab.aligned + 1 else 0
  let m := if good then 0 else s.fab.misaligned + 1
  let t := { s with fab := { s.fab with aligned := a, misaligned := m } }
  let isAl := t.bit 0x2001 3
  let u := if decide (8 ≤ a) then t.setBit 0x2001 3 true else t
  let tenth := quot off 100
  if isAl && decide (3 ≤ m) then u.alignAlarm tenth
  else if u.fab.timeAlarm && decide (8 ≤ a) && decide (u.fld 0x200A 0 8 ≤ 64) then
    { u with fab := { u.fab with timeAlarm := false } }.raiseC 52 (pack [(0, 16, satField 16 tenth)]) true
  else u

/-- The end of an exchange at a child (R10, R280, R282, R283): delay, offset, and what the offset asks for. Offsets are steered out through the rate;
one above 1 µs at the first exchange with another time-keeper is a step, after which a table ON GRID restarts on the grid of the new time (R290; DESIGN
CHOICE, log 125). `sys.ref.offset` is measured, and free. -/
def State.exchange (s : State) (p : Fin 4) (t1 t2 t3 t4 : Int) : State :=
  let d := quot (((t2 - t1) + (t4 - t3)) * 25000) 512
  let asym := (s.rd (0x2014 + p.val)).toInt
  let off := quot (((t2 - t1) - (t4 - t3)) * 25000 - 256 * asym) 512
  let step := quot off 25000
  let fabric := s.clk.fabric - BitVec.ofInt 64 step
  let s1 := ((s.followFabric).wr (0x2010 + p.val) (BitVec.ofInt 32 d)).wr 0x2009 (BitVec.ofInt 32 off)
  if !s1.fab.hasTime then s1.gainTime fabric
  else
    let dr := { s1 with fab := { s1.fab with rejoin := false } }.draw
    let s2 := dr.2.wr 0x0111 (Config.freeWord dr.1)
    if s.fab.rejoin ∧ (1000000 < off ∨ off < -1000000) then
      let sat : Int := max (-(2 ^ 31)) (min (2 ^ 31 - 1) (-step))
      let s3 := ({ s2 with clk := { s2.clk with fabric := fabric }, fab := { s2.fab with timeAlarm := true, aligned := 0, misaligned := 0 },
                           sweep := { s2.sweep with align := s2.sweep.grid.isSome } }).wr
        0x200B (BitVec.ofInt 32 sat)
      s3.raise 52 (pack [(0, 16, satField 16 (quot off 100)), (16, 1, 1), (17, 1, b2n (decide (64 < s3.fld 0x200A 0 8)))])
    else s2.judgeOffset off

/-- TIME_FRAME (R280): SYNC and its arrival t2 (the child answers with DREQ); DREQ and its arrival, which the parent returns; the parent's
reply with t4, where `stamp` is t3, the stamp of the DREQ it answers. -/
def timeFrame (p : Fin 4) (m : TimeMsg) (stamp : Int) (s : State) : State :=
  let usable := match s.port p with | some q => q.usable | none => false
  if !s.awake || !usable then s
  else match m with
    | .dreq => if s.childPorts.contains p then s.sendTime p 3 stamp else s
    | .sync t1 =>
      if s.fab.parent == some p then (s.setPort p fun q => { q with stamps := some (t1, stamp, 0) }).sendTime p 2 0 else s
    | .reply t4 =>
      match s.port p with
      | some q =>
        match q.stamps with
        | some (t1, t2, _) =>
          if s.fab.parent == some p then (s.setPort p fun q => { q with stamps := none }).exchange p t1 t2 stamp t4 else s
        | none => s
      | none => s

/-! ## The reference (R10, R11) -/

/-- REFFAIL (R11): the crystal has stopped; the fabric-locked oscillator takes over where its lock is available, else the node free-runs. -/
def reffail (s : State) : State :=
  if s.awake && s.fld 0x0110 0 2 == 0 then
    let src := if s.bit 0x0110 2 then 1 else 2
    ((s.setFld 0x0110 0 2 src).raise 2 (pack [(0, 2, src)])).putMe
  else s

/-- REFLOCK (R10, R11, R22, R449): the fabric-locked oscillator gains or loses lock. LOCKED shows it on every node, so that a node on its crystal has
the lock available when the crystal stops (DESIGN CHOICE, log 118); the event is raised by a node that runs on that oscillator. -/
def reflock (gained : Bool) (s : State) : State :=
  if s.awake && (!gained || s.fab.hasTime) && s.bit 0x0110 2 != gained then
    if s.fld 0x0110 0 2 == 0 then s.setBit 0x0110 2 gained
    else
      let t := if gained then (s.setBit 0x0110 2 true).setFld 0x0110 0 2 1 else s.setBit 0x0110 2 false
      t.raise 3 (pack [(0, 1, b2n gained), (16, 16, satField 16 (t.rd 0x0111).toInt)])
  else s

end Sys2Proof.Machine
end

