-- ==== Sys2Proof/Machine/Timers.lean ====
section
/-! DEFINITION. The timer units (R235 to R256): counting, wraps, matches, captures, the trigger matrix, chained pairs and the catch-up
after Hatbox; and what their events drive elsewhere: injections (R130), window tracking (R246), the impedance excitations (R191, R192).
An event acts through the matrix at the next reference tick (R248): each unit keeps the events it has raised until then. -/
namespace Sys2Proof.Machine

/-! ## Parameters and fields -/

/-- `tmr.uN.ctrl` of a unit, and `tmr.uN.cC.cfg` of a channel (R256). -/
def tid (u : Nat) : Nat := 0x1610 + 16 * u
def chId (u c : Nat) : Nat := tid u + 8 + 2 * c

/-- A timer unit, and one of its channels. -/
def State.unit (s : State) (u : Nat) : Timer := nth s.tmr u ⟨0, 0, false, false, true, none, [], []⟩
def State.chan (s : State) (u c : Nat) : TimerChan := nth (s.unit u).chans c ⟨false, 0, none, 0, false, 0⟩
def State.setUnit (s : State) (u : Nat) (f : Timer → Timer) : State := { s with tmr := alter s.tmr u f }
def State.setChan (s : State) (u c : Nat) (f : TimerChan → TimerChan) : State :=
  s.setUnit u fun t => { t with chans := alter t.chans c f }

/-- The count, and TOP in force. -/
def State.count (s : State) (u : Nat) : Word := s.rd (tid u + 3)
def State.topAct (s : State) (u : Nat) : Word := s.rd (tid u + 7)
/-- MODE of a channel (R256): 1 compare, 2 capture. -/
def State.chMode (s : State) (u c : Nat) : Nat := s.fld (chId u c) 0 2

/-- The units of a pair are chained (R249): `u` is the lower one. -/
def State.chainedLow (s : State) (u : Nat) : Bool := u % 2 == 0 && s.bit (tid (u + 1)) 7
/-- The upper unit of a chained pair. -/
def State.chainedHigh (s : State) (u : Nat) : Bool := u % 2 == 1 && s.bit (tid u) 7

/-- RUNNING and ARMED of `tmr.uN.status` follow the unit; an upper half shows its pair's. -/
def State.tmrShow (s : State) (u : Nat) : State :=
  let t := s.unit u
  let t1 := ((s.setBit (tid u + 6) 8 t.running).setBit (tid u + 6) 9 (t.armed || s.bit 0x1601 u)).setBit (tid u + 6) 7 t.gate
  if s.chainedLow u then t1.setBit (tid (u + 1) + 6) 8 t.running else t1

/-! ## Output levels and gates -/

/-- The pins that follow a channel (R242). -/
def State.pinsOf (s : State) (u c : Nat) : List Nat :=
  (List.range 8).filter fun n => s.fld (0x1690 + n) 0 2 == 1 && s.fld (0x1690 + n) 4 3 == u && s.fld (0x1690 + n) 2 2 == c

/-- CLEAR (R241): IDLE of the pin the channel drives, or 0. -/
def State.clearLevel (s : State) (u c : Nat) : Bool :=
  match s.pinsOf u c with
  | n :: _ => s.bit (0x1690 + n) 7
  | [] => false

/-- The level a pin with FUNC 1 drives (R242); an input drives nothing. -/
def State.pinDriven (s : State) (n : Nat) : Bool :=
  s.fld (0x1690 + n) 0 2 == 1 && (s.chan (s.fld (0x1690 + n) 4 3) (s.fld (0x1690 + n) 2 2)).level

/-- Output pins follow their channels in Run, Watch and Guard (R242). They hold in Hatbox; in Off and Start every pin is an input. -/
def State.pinsFollow (s : State) : State :=
  if s.up then
    { s with pins := { s.pins with tmpOut := BitVec.ofNat 8 ((List.range 8).foldl (fun a n => a + b2n (s.pinDriven n) * 2 ^ n) 0) } }
  else if s.pwr.mode == .hatbox then s
  else { s with pins := { s.pins with tmpOut := 0 } }

/-- The synchronisers of pins that this node drives (R243): two ticks behind the level on the pin. An input's synchronised level is what
TIMER_GATE_PIN_CHANGE gives. -/
def State.pinSync (s : State) : State :=
  let out : BitVec 8 := BitVec.ofNat 8 ((List.range 8).foldl (fun a n => a + (if s.fld (0x1690 + n) 0 2 == 1 then 2 ^ n else 0)) 0)
  let pick (a b : BitVec 8) : BitVec 8 := (a &&& out) ||| (b &&& ~~~ out)
  { s with pins := { s.pins with tmpIn := pick s.pins.tmpSync2 s.pins.tmpIn, tmpSync2 := pick s.pins.tmpSync1 s.pins.tmpIn,
                                 tmpSync1 := pick s.pins.tmpOut s.pins.tmpIn } }

/-- The gate level a source code gives (R247). -/
def State.gateLevel (s : State) (u : Nat) : Bool :=
  let g := s.fld (tid u + 5) 0 7
  if g < 0x40 then (s.chan (g / 8) (g % 8)).level
  else if g < 0x48 then s.pins.tmpIn.getLsbD (g - 0x40)
  else true

/-- Every gate follows its source as it stands: what a change of level does one tick later (R247, R248). -/
def State.gatesFollow (s : State) : State :=
  (List.range 8).foldl (fun t u =>
    let g := t.gateLevel u
    if (t.unit u).gate == g then t else (t.setUnit u fun x => { x with gate := g }).tmrShow u) s

/-- Give a channel's output a level. -/
def State.setLevel (s : State) (u c : Nat) (b : Bool) : State :=
  (s.setChan u c fun x => { x with level := b }).pinsFollow

/-- MATCHACT or WRAPACT (R241). -/
def State.act (s : State) (u c code : Nat) : State :=
  match code with
  | 1 => s.setLevel u c true
  | 2 => s.setLevel u c false
  | 3 => s.setLevel u c (!(s.chan u c).level)
  | 4 => s.setLevel u c (s.clearLevel u c)
  | _ => s

/-! ## What events drive elsewhere -/

/-- R191: at each wrap of TUSHT the command of every driven shuttle steps to the next of 64 values. -/
def State.impWrap (s : State) (u : Nat) : State :=
  if s.bal.impDrv != 0 && s.bit 0x1606 u && bitsOf (s.impRd 0x1402) 3 3 == u then
    let n := (s.imp.sine + 1) % 64
    let v := fxInt (fxTurn n 64).2 (bitsOf (s.impRd 0x1404) 0 16) 1
    { s with imp := { s.imp with sine := n },
             bal := { s.bal with impSht := (List.range 23).map fun j => if s.bal.impDrv.getLsbD j then v else 0 } }.balRefresh
  else s

/-- R192: channel 0 of TUCHOP toggles the balance switches of the chopped cells. -/
def State.impMatch (s : State) (u c : Nat) : State :=
  if s.bal.chopSet != 0 && c == 0 && s.bit 0x1606 u && bitsOf (s.impRd 0x1402) 0 3 == u then
    { s with bal := { s.bal with chop := if s.bal.chop == 0 then s.bal.chopSet else 0 } }.balRefresh
  else s

/-- R130: an event of the channel named by `conv.inj.timer` requests an injection. -/
def State.injEvent (s : State) (u c : Nat) : State :=
  if s.bit 0x1108 15 && s.fld 0x1108 7 3 == u && s.fld 0x1108 10 2 == c then
    (s.inject ⟨s.fld 0x1108 0 6, .timer (Fin.ofNat 8 (s.fld 0x1108 12 3))⟩ false).1
  else s

/-- TMRMATCH (R254, R255), at most once for each channel in any 1 ms. -/
def State.ringEvent (s : State) (u c : Nat) (capture : Bool) (v : Word) : State :=
  if s.bit (chId u c) 31
      && !(s.ev.lastRaise.any fun (r : Nat × Nat × DWord) => r.1 == 41 && r.2.1 == 4 * u + c && decide (s.clk.ref.toNat < r.2.2.toNat + 40000)) then
    let keep := s.ev.lastRaise.filter fun (r : Nat × Nat × DWord) => !(r.1 == 41 && r.2.1 == 4 * u + c)
    { s with ev := { s.ev with lastRaise := keep ++ [(41, 4 * u + c, s.clk.ref)] } }.raise 41
      (pack [(0, 3, u), (4, 2, c), (8, 1, b2n capture), (16, 16, v.toNat % 65536)])
  else s

/-! ## Counting -/

/-- An event of a unit: code 0 its wrap, 1 to 4 the event of channel 0 to 3 (R247). -/
abbrev TimerEvent := Nat × Nat

/-- What a counter tick or a reset leaves: the state, and the events that act through the matrix. -/
abbrev Ticked := State × List TimerEvent

/-- Copy waiting TOP, compare values and PSC into force (R238, R239). -/
def State.preload (s : State) (u : Nat) : State :=
  let t := s.wr (tid u + 7) (s.rd (tid u + 2))
  t.setUnit u fun x => { x with
    psc := s.fld (tid u + 1) 0 16
    chans := x.chans.zipIdx.map (fun (y : TimerChan × Nat) => if s.chMode u y.2 == 1 then { y.1 with active := s.rd (chId u y.2 + 1) } else y.1) }

/-- R239, PRELOAD 0: TOP and compare values take effect at a counter tick. -/
def State.loadNow (s : State) (u : Nat) : State :=
  let t := s.wr (tid u + 7) (s.rd (tid u + 2))
  t.setUnit u fun x => { x with
    chans := x.chans.zipIdx.map (fun (y : TimerChan × Nat) => if s.chMode u y.2 == 1 then { y.1 with active := s.rd (chId u y.2 + 1) } else y.1) }

/-- R240, R241: the matches of the count as it stands; a compare value above TOP in force never matches. -/
def State.matches_ (s : State) (u : Nat) : Ticked :=
  [0, 1, 2, 3].foldl (fun (acc : Ticked) c =>
    let t := acc.1
    if t.chMode u c == 1 && (t.chan u c).active == t.count u && (t.chainedLow u || t.chainedHigh u || decide ((t.count u).toNat ≤ (t.topAct u).toNat)) then
      (((((t.act u c (t.fld (chId u c) 6 3)).ringEvent u c false (t.count u)).injEvent u c).seqEvent u c false).impMatch u c, acc.2 ++ [(u, c + 1)])
    else acc) (s, [])

/-- WRAPACT of every compare channel (R241). -/
def State.wrapActs (s : State) (u : Nat) : State :=
  [0, 1, 2, 3].foldl (fun t c => if t.chMode u c == 1 then t.act u c (t.fld (chId u c) 9 3) else t) s

/-- A wrap (R235, R238, R239, R241): the count becomes 0, waiting values take force, WRAPACT, then the matches at 0. `early`: the count
stood above TOP, a shortened period. -/
def State.wrap (s : State) (u : Nat) (early : Bool) : Ticked :=
  let t := ((s.wr (tid u + 3) 0).preload u).wrapActs u
  let t1 := if early then (t.setBit (tid u + 6) 10 true).raise 42 (BitVec.ofNat 32 u) else t
  let m := (t1.impWrap u).matches_ u
  (m.1, (u, 0) :: m.2)

/-- A counter tick of an unchained unit (R235, R237, R239, R240). -/
def State.tickOne (s : State) (u : Nat) : Ticked :=
  let t := if s.bit (tid u) 6 then s else s.loadNow u
  match (t.unit u).loaded with
  | some v => ((t.setUnit u fun x => { x with loaded := none }).wr (tid u + 3) v).matches_ u
  | none =>
    if (t.topAct u).toNat ≤ (t.count u).toNat then t.wrap u (decide ((t.topAct u).toNat < (t.count u).toNat))
    else (t.wr (tid u + 3) (t.count u + 1)).matches_ u

/-- A change of PSC takes force (R238). -/
def State.loadPsc (s : State) (u : Nat) : State := s.setUnit u fun x => { x with psc := s.fld (tid u + 1) 0 16 }

/-- One half of a chained pair advances (R238, R249): the full range counts, and there is no TOP. -/
def State.tickHalf (s : State) (u : Nat) : Ticked :=
  let t := s.loadNow u
  if t.count u == 0xFFFFFFFF then
    let m := ((((t.wr (tid u + 3) 0).loadPsc u).wrapActs u).impWrap u).matches_ u
    (m.1, (u, 0) :: m.2)
  else (t.wr (tid u + 3) (t.count u + 1)).matches_ u

/-- A counter tick of a unit, or of the pair below which it counts (R249). -/
def State.counterTick (s : State) (u : Nat) : Ticked :=
  if s.chainedHigh u then (s, [])
  else if s.chainedLow u then
    let carry := s.count u == 0xFFFFFFFF
    let a := s.tickHalf u
    if carry then let b := a.1.tickHalf (u + 1); (b.1, a.2 ++ b.2) else a
  else s.tickOne u

/-- A unit counts now (R235, R236): a chained upper half with its pair. -/
def State.counting (s : State) (u : Nat) : Bool :=
  let v := if s.chainedHigh u then u - 1 else u
  (s.unit v).running && (s.unit v).gate && s.up

/-- One event, or one reference tick, at the prescaler of a unit (R235). -/
def State.prescale (s : State) (u : Nat) : Ticked :=
  let x := s.unit u
  if x.psc ≤ x.residue then (s.setUnit u fun x => { x with residue := 0 }).counterTick u
  else (s.setUnit u fun x => { x with residue := x.residue + 1 }, [])

/-- The wrap events of a tick that a reset replaces (R248): of a unit, or of the halves of a pair, that would have wrapped anyway. -/
def State.wouldWrap (s : State) (u : Nat) (ticks : Bool) : List TimerEvent :=
  if !(s.counting u && ticks && (s.unit u).loaded.isNone && decide ((s.unit u).psc ≤ (s.unit u).residue)) then []
  else if s.chainedLow u then
    if s.count u == 0xFFFFFFFF then (if s.count (u + 1) == 0xFFFFFFFF then [(u, 0), (u + 1, 0)] else [(u, 0)]) else []
  else if s.count u == s.topAct u then [(u, 0)] else []

/-- A reset of one unit (R248): count and residue 0, a new period, and the matches at 0. -/
def State.resetOne (s : State) (u : Nat) : Ticked :=
  (((s.wr (tid u + 3) 0).preload u).setUnit u fun x => { x with residue := 0, loaded := none }).matches_ u

/-- A reset event at a unit, or at a chained pair by its lower unit (R236, MODE 2; R248; R249). A unit that waited for it runs from now on. -/
def State.resetUnit (s : State) (u : Nat) : Ticked :=
  let t := if (s.unit u).armed && s.fld (tid u) 0 2 == 2 then
      ((s.setUnit u fun x => { x with armed := false, running := true }).setFld (tid u) 0 2 1).tmrShow u
    else s
  let a := t.resetOne u
  if s.chainedLow u then let b := a.1.resetOne (u + 1); (b.1, a.2 ++ b.2) else a

/-- A reference tick at one unit, with the events that act at it (R235, R248). A reset and a clock event in one tick leave the reset alone. `free`: the
reference clock counts too. -/
def State.unitTick (s : State) (evs : List TimerEvent) (free : Bool) (u : Nat) : Ticked :=
  let hits (v lo : Nat) : Bool := evs.any fun e => s.fld (tid v + 5) lo 7 == 8 * e.1 + e.2
  let ticks := if s.fld (tid u) 4 2 == 1 then hits u 16 else free
  if s.chainedHigh u then (s, [])
  else if hits u 8 || (s.chainedLow u && hits (u + 1) 8) then
    let r := s.resetUnit u
    (r.1, s.wouldWrap u ticks ++ r.2)
  else if ticks && s.counting u then s.prescale u
  else (s, [])

/-- The events that act at the next tick. -/
def State.tmrEvents (s : State) : List TimerEvent :=
  s.tmr.zipIdx.flatMap fun (x : Timer × Nat) => x.1.out.map fun k => (x.2, k)

/-- Keep the events of a tick for the next one. -/
def keepEvents (x : Ticked) : State := x.2.foldl (fun t e => t.setUnit e.1 fun y => { y with out := y.out ++ [e.2] }) x.1

/-- The units at one tick: gates as their sources stood before it, then each unit with the events of the tick before (R248). -/
def State.unitsAct (s : State) (free : Bool) : Ticked :=
  let evs := s.tmrEvents
  let s0 := (evs.foldl (fun (t : State) e => t.setUnit e.1 fun y => { y with out := [] }) s).gatesFollow
  (List.range 8).foldl (fun (acc : Ticked) u => let r := acc.1.unitTick evs free u; (r.1, acc.2 ++ r.2)) (s0, [])

/-- What has happened by now acts, before a row that comes later: the matrix, without a reference tick of its own. -/
def State.settleEvents (s : State) : State := keepEvents (s.unitsAct false)

/-! ## Captures -/

/-- R128, R246: a capture of the channel that `conv.track` names, from the INVSYNC pin with DIFF, gives a period; any other counts as missing. -/
def State.trackEvent (s : State) (u c : Nat) (v : Word) : State :=
  let cfg := chId u c
  if s.fld 0x1106 8 3 == u && s.fld 0x1106 11 2 == c && s.fld (0x1690 + s.fld cfg 12 3) 0 2 == 2 && s.bit cfg 16 then
    s.trackCapture (quot (v.toNat * ((s.unit u).psc + 1) : Nat) (s.fld cfg 23 8 + 1)).toNat
  else s

/-- EDGE selects an accepted edge to a level (R243). -/
def State.edgeCounts (s : State) (u c : Nat) (level : Bool) : Bool :=
  let e := s.fld (chId u c) 17 2
  e == 2 || (e == 0 && level) || (e == 1 && !level)

/-- A capture (R243 to R246, R254): the count, or with DIFF its distance from the one before; none to compare with stores 0 and stays unmarked. -/
def State.capture (s : State) (u c : Nat) : Ticked :=
  let cfg := chId u c
  let now := s.count u
  let diff := s.bit cfg 16
  let prev := (s.chan u c).prev
  let first := diff && prev.isNone
  let len := if s.chainedLow u || s.chainedHigh u then 2 ^ 32 else (s.topAct u).toNat + 1
  let v : Word := if !diff then now else if first then 0 else BitVec.ofNat 32 ((now.toNat + len - (prev.getD 0).toNat % len) % len)
  let t := (s.setChan u c fun x => { x with edges := 0, prev := some now }).wr (cfg + 1) v
  let t1 := if t.bit (tid u + 6) (20 + c) then (t.setBit (tid u + 6) (16 + c) true).raise 44 (pack [(0, 3, u), (4, 2, c)]) else t
  let t2 := if first then t1 else (t1.setBit (tid u + 6) (20 + c) true).trackEvent u c v
  (((t2.ringEvent u c true v).injEvent u c).seqEvent u c true, [(u, c + 1)])

/-- The filter accepts a level (R243): every EDIV-th edge that EDGE selects is a capture. -/
def State.acceptEdge (s : State) (u c : Nat) (level : Bool) : Ticked :=
  let t := s.setChan u c fun x => { x with accepted := level, agree := 0 }
  if t.edgeCounts u c level then
    let n := (t.chan u c).edges + 1
    if n < t.fld (chId u c) 23 8 + 1 then (t.setChan u c fun x => { x with edges := n }, []) else t.capture u c
  else (t, [])

/-- A channel in capture mode samples its pin at a reference tick (R243): a new level is accepted once FILT samples in a row agree. -/
def State.samplePin (s : State) (u c : Nat) : Ticked :=
  if s.chMode u c != 2 then (s, [])
  else
    let pin := s.pins.tmpIn.getLsbD (s.fld (chId u c) 12 3)
    let x := s.chan u c
    if pin == x.accepted then (if x.agree == 0 then s else s.setChan u c fun x => { x with agree := 0 }, [])
    else if x.agree + 1 < s.fld (chId u c) 19 4 then (s.setChan u c fun x => { x with agree := x.agree + 1 }, [])
    else s.acceptEdge u c pin

/-- One reference tick of the timer units (R235, R243, R248): synchronisers, gates and events of the tick before, counting, then the samples of the
capture channels. -/
def State.tmrTick (s : State) : State :=
  if !s.up then s
  else
    let a := s.pinSync.unitsAct true
    keepEvents ((List.range 32).foldl (fun (acc : Ticked) i => let r := acc.1.samplePin (i / 4) (i % 4); (r.1, acc.2 ++ r.2)) a)

/-! ## The rows -/

/-- Values written that the next counter tick takes up (R237, R239). -/
def State.waitsLoad (s : State) (u : Nat) : Bool :=
  (s.unit u).loaded.isSome || ((!s.bit (tid u) 6 || s.chainedLow u) &&
    (s.topAct u != s.rd (tid u + 2) || [0, 1, 2, 3].any fun c => s.chMode u c == 1 && (s.chan u c).active != s.rd (chId u c + 1)))

/-- The counter ticks of a unit pass up to the one before its next load, match or wrap (log 28). -/
def State.runUp (s : State) (u : Nat) : State :=
  let t := s.setUnit u fun x => { x with residue := 0 }
  if s.waitsLoad u then t
  else
    let top := if s.chainedLow u then 2 ^ 32 - 1 else (s.topAct u).toNat
    let now := (s.count u).toNat
    let ahead := [0, 1, 2, 3].filterMap fun c =>
      let v := (s.chan u c).active.toNat
      if s.chMode u c == 1 && decide (now < v) && decide (v ≤ top) then some (v, v) else none
    match least (ahead ++ if now < top then [(top + 1, top + 1)] else []) with
    | some v => t.wr (tid u + 3) (BitVec.ofNat 32 (v - 1))
    | none => t

/-- Run a unit through its loads, matches and wraps until an event comes. -/
def State.runTo (goal : TimerEvent) (u : Nat) : Nat → Ticked → Option Ticked
  | 0, _ => none
  | k + 1, x =>
    let r := (x.1.runUp u).counterTick u
    let y : Ticked := (r.1, x.2 ++ r.2)
    if r.2.contains goal then some y else State.runTo goal u k y

/-- The tick at which an event of a unit comes: the ticks before it have passed at that unit, with every event of its own on the way (log 28). The upper
half of a pair stands just before its event, and the carry brings it. -/
def State.runToEvent (s : State) (goal : TimerEvent) (high : Word) : State :=
  let u := goal.1
  let t := s.settleEvents
  if !t.counting u then s
  else if t.chainedHigh u then
    let r := ((((t.loadNow u).wr (tid u + 3) (high - 1)).wr (tid (u - 1) + 3) 0xFFFFFFFF).setUnit (u - 1) fun x => { x with residue := 0 }).counterTick (u - 1)
    keepEvents r
  else match State.runTo goal u 16 (t, []) with
    | some r => keepEvents r
    | none => s

/-- TIMER_WRAP (R235, R237 to R239, R241): the count of a unit that counts passes TOP and wraps to 0. -/
def timerWrap (u : Fin 8) (s : State) : State := s.runToEvent (u.val, 0) 0

/-- TIMER_MATCH (R240, R241, R254): the count of a unit that counts takes a channel's compare value. -/
def timerMatch (u : Fin 8) (c : Fin 4) (s : State) : State :=
  if s.chMode u.val c.val == 1 then s.runToEvent (u.val, c.val + 1) (s.rd (chId u.val c.val + 1)) else s

/-- TIMER_CAPTURE (R243 to R246, R254): the filter of a capture channel accepts an edge that EDGE selects; the pin has held the new level for FILT
samples. -/
def timerCapture (u : Fin 8) (c : Fin 4) (s : State) : State :=
  let t := s.settleEvents
  if !(s.up && s.chMode u.val c.val == 2) then s
  else
    let e := s.fld (chId u.val c.val) 17 2
    let level := if e == 0 then true else if e == 1 then false else !(s.chan u.val c.val).accepted
    let pin := s.fld (chId u.val c.val) 12 3
    let t1 := if s.fld (0x1690 + pin) 0 2 == 1 then t else { t with pins := { t.pins with tmpIn := setBitV t.pins.tmpIn pin level } }
    keepEvents (t1.acceptEdge u.val c.val level)

/-- TIMER_GATE_PIN_CHANGE (R243, R248): the synchronised level of an input pin changes; one tick later the gates that name it follow. In Hatbox and Off
the timer pins are not sensed (R18). -/
def timerGatePinChange (pin : Fin 8) (level : Bool) (s : State) : State :=
  if s.awake && s.fld (0x1690 + pin.val) 0 2 != 1 then
    let t := s.settleEvents
    { t with pins := { t.pins with tmpIn := setBitV t.pins.tmpIn pin.val level } }
  else s

/-- Start a unit (R236). -/
def State.tmrStart (s : State) (u : Nat) : State :=
  ((s.setUnit u fun x => { x with running := true, armed := false }).setFld (tid u) 0 2 1).tmrShow u
/-- Stop a unit (R236): count and residue stay. -/
def State.tmrStop (s : State) (u : Nat) : State :=
  ((s.setUnit u fun x => { x with running := false, armed := false }).setFld (tid u) 0 2 0).tmrShow u

/-- The time of `tmr.at` (R236). -/
def State.atTime (s : State) : DWord := s.rd 0x1603 ++ s.rd 0x1602

/-- R236: the units named in `tmr.at.mask` start, and their bits clear. -/
def State.atStart (s : State) : State := (ones 8 (s.fld 0x1601 0 8)).foldl (fun t u => t.tmrStart u) (s.wr 0x1601 0)

/-- A start time is set and has not passed. -/
def State.atAhead (s : State) : Bool :=
  s.up && s.fab.hasTime && s.fld 0x1601 0 8 != 0 && decide (s.clk.fabric.toNat ≤ s.atTime.toNat)

/-- TIMER_AT_START (R236): fabric time reaches `tmr.at` (the ticks up to it have passed), and the named units start at that tick. -/
def timerAtStart (s : State) : State :=
  if s.atAhead then (s.advanceTo (s.clk.ref + (s.atTime - s.clk.fabric))).atStart else s

/-- R236 at a reference tick: fabric time equals `tmr.at`. -/
def State.atTick (s : State) : State := if s.atAhead && s.clk.fabric == s.atTime then s.atStart else s

/-! ## Writes (R236 to R242, R249) -/

/-- A source code of R247: `level` for a gate, else for an event; `u` names the unit itself, which may not be its own clock source. -/
def sourceOk (level : Bool) (code : Nat) (own : Option Nat) : Bool :=
  code == 0x7F || (level && decide (0x40 ≤ code) && decide (code ≤ 0x47))
    || (decide (code < 0x40) && decide (code % 8 ≤ (if level then 3 else 4)) && !(own == some (code / 8)))

/-- MODE takes effect (R236, R251): 0 stops, 1 runs, 2 arms. -/
def State.modeFollow (s : State) (u : Nat) : State :=
  let m := s.fld (tid u) 0 2
  (s.setUnit u fun x => { x with running := m == 1, armed := m == 2 }).tmrShow u

/-- Entering compare mode: the CLEAR level and the written value in force; entering capture mode: no capture yet (R241, R244). -/
def State.chanMode (s : State) (u c old : Nat) : State :=
  let m := s.chMode u c
  if m == old then s
  else if m == 1 then (s.setChan u c fun x => { x with active := s.rd (chId u c + 1) }).setLevel u c (s.clearLevel u c)
  else if m == 2 then
    s.setChan u c fun x => { x with prev := none, edges := 0, accepted := s.pins.tmpIn.getLsbD (s.fld (chId u c) 12 3), agree := 0 }
  else s

/-! ## Hatbox (R251 to R253) -/

/-- How often a value is passed by an advance of `n` from `from_` in a period of `len`. -/
def passes (from_ n len v : Nat) : Bool := decide (v < len) && decide (1 ≤ n) && decide ((v + len - (from_ + 1) % len) % len < n)

/-- A unit, or a pair by its lower unit, advances over Hatbox (R252): it ran with CLK 0 and an open gate at entry. -/
def State.catches (s : State) (u : Nat) : Bool :=
  (s.unit u).running && (s.unit u).gate && s.fld (tid u) 4 2 == 0 && !s.chainedHigh u

/-- R252, R253 for one unit or pair: the advance of E reference ticks, one wrap and one match each at most, and CAUGHTUP. -/
def State.catchUp (s : State) (e u : Nat) : State :=
  let x := s.unit u
  let p := x.psc + 1
  let n := (x.residue + e) / p
  let s0 := s.setUnit u fun x => { x with residue := (x.residue + e) % p }
  let pair := s.chainedLow u
  let lenL := if pair then 2 ^ 32 else (s.topAct u).toNat + 1
  let c0 := (s.count u).toNat
  let one (t : State) (v from_ adv len : Nat) : State :=
    let wraps := decide (len ≤ from_ + adv)
    let hit := [0, 1, 2, 3].filter fun c => t.chMode v c == 1 && passes from_ adv len (t.chan v c).active.toNat
    let t1 := t.wr (tid v + 3) (BitVec.ofNat 32 ((from_ + adv) % len))
    let t2 := if wraps then ((if pair then (t1.loadNow v).loadPsc v else t1.preload v).wrapActs v).setBit (tid v + 6) 11 true else t1
    let t3 := hit.foldl (fun t c => ((t.act v c (t.fld (chId v c) 6 3)).setBit (tid v + 6) (12 + c) true).ringEvent v c false (t.count v)) t2
    if wraps || !hit.isEmpty then
      t3.raise 43 (pack [(0, 3, v), (4, 4, hit.foldl (fun a c => a + 2 ^ c) 0), (8, 1, b2n wraps)])
    else t3
  let s1 := one s0 u c0 n lenL
  if pair then one s1 (u + 1) (s.count (u + 1)).toNat ((c0 + n) / 2 ^ 32) (2 ^ 32) else s1

/-- TIMER_CATCH_UP (R251 to R253): `n` whole slow ticks asleep; a start time that passed meanwhile is cancelled. -/
def State.timerCatchUp (s : State) (n : Nat) : State :=
  let e := n * (s.rd 0x1604).toNat / 65536
  let t := s.wr 0x1605 (BitVec.ofNat 32 n)
  let t1 := if s.atTime.toNat ≤ s.clk.fabric.toNat + e then t.wr 0x1601 0 else t
  ((List.range 8).filter s.catches).foldl (fun (t : State) u => t.catchUp e u) t1

end Sys2Proof.Machine
end

