-- ==== Sys2Proof/Machine/Impedance.lean ====
section
/-! DEFINITION. Impedance measurements (R186 to R203): the announcement, the passes and segments of a node's own part with the phasors it forms of its
samples, and the fit with its records and temperatures. -/
namespace Sys2Proof.Machine

/-! ## The plan of a measurement -/

/-- A field of a copy of the impedance block 0x1400 to 0x143F. -/
def planFld (p : List Word) (id lo width : Nat) : Nat := bitsOf (nth p (id - 0x1400) 0) lo width
/-- The fields of entry `i` (R203). -/
def planOn (p : List Word) (i : Nat) : Bool := planFld p (0x1410 + 2 * i) 31 1 == 1
def planSrc (p : List Word) (i : Nat) : Nat := planFld p (0x1410 + 2 * i) 29 2
def planFreq (p : List Word) (i : Nat) : Nat := planFld p (0x1410 + 2 * i) 0 21
def planSeg (p : List Word) (i : Nat) : Nat := planFld p (0x1411 + 2 * i) 16 8
def planCyc (p : List Word) (i : Nat) : Nat := planFld p (0x1411 + 2 * i) 0 16

/-- The enabled entries of a plan in ascending order (R194). -/
def planList (p : List Word) : List Nat := (List.range 16).filter (planOn p)

/-- This node's own copy of the block. -/
def State.ownPlan (s : State) : List Word := (List.range 64).map fun i => s.rd (0x1400 + i)

/-- Fields of an impedance parameter and of an entry as the measurement uses them. -/
def State.impF (s : State) (id lo width : Nat) : Nat := bitsOf (s.impRd id) lo width
def State.entSrc (s : State) (i : Nat) : Nat := s.impF (0x1410 + 2 * i) 29 2
def State.entFreq (s : State) (i : Nat) : Nat := s.impF (0x1410 + 2 * i) 0 21
def State.entSeg (s : State) (i : Nat) : Nat := s.impF (0x1411 + 2 * i) 16 8
def State.entCyc (s : State) (i : Nat) : Nat := s.impF (0x1411 + 2 * i) 0 16

/-- The runs the enabled entries are measured in (R194). -/
def State.planRuns (s : State) : List (List Nat) :=
  ((groupRuns s.entSrc ((List.range 16).filter fun i => s.impF (0x1410 + 2 * i) 31 1 == 1).reverse).map List.reverse).reverse

/-- P and H: the timer values of shuttle and chop entries, from a frequency in 0.01 Hz (R191, R192). -/
def shuttleTicks (f : Nat) : Nat := (roundNear 4000000000 (64 * f)).toNat
def chopTicks (f : Nat) : Nat := (roundNear 2000000000 f).toNat

/-- The part of a turn that an entry's actual frequency makes in 5 ns, as numerator and denominator (R188, R191, R192). -/
def turnOf (src f : Nat) : Nat × Nat :=
  if src = 1 then (1, 320 * shuttleTicks f) else if src = 2 then (1, 10 * chopTicks f) else (f, 20000000000)

/-- The passes of a run (R194): a shuttle entry has a second one where some node of the string has an odd number of cells. -/
def passesOf (src : Nat) (odd : Bool) : Nat := if src = 2 then 3 else if src = 1 ∧ odd = true then 2 else 1

/-- The run under way. -/
def State.runNow (s : State) : List Nat := nth s.planRuns s.imp.entry []

/-- SRC of the run under way. -/
def State.runSrc (s : State) : Nat := match s.runNow with | i :: _ => s.entSrc i | [] => 0

/-- A measurement is announced or runs here. -/
def State.impLive (s : State) : Bool := s.imp.fit.isSome

/-- The SWEEP passes of one loop of the running table (R194). -/
def State.loopSweeps (s : State) : Nat := (enabled s.seq.active).foldl (fun a x => if x.1.sweep then a + x.1.count else a) 0

/-- R194: f at most fs / 5, with fs the SWEEP passes of a loop over the loop time. -/
def State.fsOk (s : State) (f : Nat) : Bool := decide (5 * f * loopTicks s.seq.active s.lead ≤ 100 * 40000000 * s.loopSweeps)

/-- The node measures an entry in the present pass (R199, NOTMEAS): it takes part, is fast enough, and for a chop has a balance resistor and a pass
not abandoned. A node whose change of owner is pending carries NOTMEAS (R431). -/
def State.takesPart (s : State) (i : Nat) : Bool :=
  s.imp.part && s.pwr.mode == .run && s.fsOk (s.entFreq i)
    && !(s.entSrc i == 2 && (s.impRd 0x1407 == 0 || s.imp.notMeas.contains (s.imp.entry, s.imp.pass)))
    && !(match s.me with | some n => n.pending | none => false)

/-- Show STATE and ENTRY in `imp.status`. -/
def State.impShow (s : State) (st : Nat) : State :=
  (s.setFld 0x1401 0 2 st).setFld 0x1401 4 4 (match s.runNow with | i :: _ => i | [] => 0)

/-- Lines declared open, as a bit vector. -/
def State.openLines (s : State) : BitVec 25 := BitVec.ofNat 25 (s.fld 0x1004 0 25)

/-! ## Announcement -/

/-- This node is the shunt node of its string (R190). -/
def State.isShuntNode (s : State) : Bool :=
  match s.me with
  | some n => ((shuntOf s.fab.nodes n.str).map (·.topo.serial)) == some s.serial
  | none => false

/-- The plan a node measures by (R203): the shunt node's copy, with its own EN and `imp.tmr`. -/
def State.heldPlan (s : State) (plan : List Word) : List Word :=
  (List.range 64).map fun i =>
    if i = 2 ∨ s.isShuntNode = true then s.rd (0x1400 + i)
    else if i = 0 then (nth plan 0 0 &&& 0xFFFFFFFE) ||| BitVec.ofNat 32 (s.fld 0x1400 0 1)
    else nth plan i 0

/-- R201, step 2: a node takes t0 and the plan, holds its blocking plan, and claims its timers where it takes part. -/
def State.impAnnounced (s : State) (t0 : DWord) (fit : FAddr) (plan : List Word) : State :=
  let t := s.impDrop
  let on := t.bit 0x1400 0 && t.pwr.mode == .run
  let odd := match t.me with
    | some n => (stringNodes t.fab.nodes n.str).any fun m => m.cells % 2 == 1
    | none => t.cells % 2 == 1
  let u := { t with imp := { t.imp with fit := some fit, t0 := t0, part := on, odd := odd, entry := 0, pass := 0, between := true,
                                        opened := t.openLines, held := t.heldPlan plan } }
  let claim (w : State) (n : Nat) : State := (w.tmrStop n).setBit 0x1606 n true
  (if on then claim (claim u (u.impF 0x1402 0 3)) (u.impF 0x1402 3 3) else u).impShow 1

/-- IMP_ANNOUNCE_RECEIVED (R195, R201). -/
def impAnnounceReceived (t0 : DWord) (fit : FAddr) (plan : List Word) (s : State) : State := if s.up then s.impAnnounced t0 fit plan else s

/-- R197: CELLTEMP ends for every cell of a fit whose TEMPEN falls. -/
def State.fitTempsOff (s : State) (f : FitJob) : State :=
  (f.temps.filter (·.active)).foldl (fun (t : State) x => t.raiseC 35 (pack [(0, 5, x.cell + 1), (16, 12, x.node.toNat)]) true)
    { s with plc := { s.plc with fits := s.plc.fits.map fun g => if g.slot == f.slot then { g with temps := [] } else g } }

/-- R197, R203: TEMPEN has been written from 1 to 0 on this node: the strings whose shunt node it is. -/
def State.tempsOff (s : State) : State := (s.plc.fits.filter fun f => f.shunt == some s.fab.addr).foldl State.fitTempsOff s

/-- The bytes of an announcement (log 22). -/
def impAnnounceBytes (t0 : DWord) (plan : List Word) : List Byte := bytesBE 8 t0.toNat ++ wordsBE plan

/-- IMP_MEASUREMENT_START (R186, R201, R203): the fitting node announces t0, at least 20 ms ahead, to every node of the string, with the plan that the
string's shunt node holds. How far ahead beyond that is free. One measurement runs on a string at a time. -/
def impMeasurementStart (slot : Fin 32) (plan : List Word) (s : State) : State :=
  match nth s.plc.goals slot.val none with
  | none => s
  | some g =>
    let str := g.string.toNat
    let member := match s.me with | some n => n.str == str | none => false
    let busy := (s.plc.fits.any fun f => f.string == str && f.live) || (member && s.impLive)
    if s.up && s.fab.valid && s.fab.hasTime && g.kind == 3 && s.runs ⟨3, slot⟩ && !busy then
      let t0 := s.clk.fabric + 800000 + BitVec.ofNat 64 (Config.freeNat s.free)
      let shunt := shuntOf s.fab.nodes str
      let p := if (shunt.map (·.topo.serial)) == some s.serial then s.ownPlan else (List.range 64).map fun i => nth plan i 0
      let old := s.plc.fits.find? fun f => f.slot == slot
      let s1 := match old with
        | some f => if planFld p 0x1400 1 1 = 0 then s.fitTempsOff f else s
        | none => s
      let temps := match s1.plc.fits.find? fun f => f.slot == slot with | some f => f.temps | none => []
      let rerun := match s.plc.jobs.find? fun j => j.key == ⟨3, slot⟩ with | some j => j.rerun | none => false
      let fit : FitJob := { slot := slot, string := str, live := true, t0 := t0, shunt := shunt.bind (·.addr), plan := p, frames := [], missing := [],
                            left := [], rerun := rerun, temps := temps }
      let s2 := { s1 with free := s1.free + 1, plc := { s1.plc with fits := (s1.plc.fits.filter fun x : FitJob => !(x.slot == slot)) ++ [fit] } }.fitsWatch
      let s3 := (stringNodes s2.fab.nodes str).foldl (fun t n =>
        if n.topo.serial == s.serial then t else t.sendJob (n.addr.getD noAddr) 6 (impAnnounceBytes t0 p) []) s2
      if member then s3.impAnnounced t0 s.fab.addr p else s3
    else s

/-! ## Passes and segments -/

/-- Set a claimed unit to wrap every `n` reference ticks from now, with channel 0 comparing at 0, and start it (R191, R192). -/
def State.impTimer (s : State) (u n : Nat) : State :=
  let a := ((s.wr (tid u + 1) 0).wr (tid u + 2) (BitVec.ofNat 32 (n - 1))).wr (tid u + 3) 0
  let b := (a.wr (chId u 0) 1).wr (chId u 0 + 1) 0
  let c := (b.setFld (tid u) 4 2 0).preload u
  (c.setUnit u fun x => { x with residue := 0, loaded := none }).tmrStart u

/-- Cells chopped in a pass (R192), from 0, among `n`. -/
def chopCells (n pass : Nat) : BitVec 24 := BitVec.ofNat 24 (maskN 24 fun k => decide (k < n) && k % 3 == pass)

/-- Shuttles driven in a pass (R191), from 0: the odd-numbered ones below N, then, where N is odd, shuttle N − 1. -/
def shuttleSet (n pass : Nat) : BitVec 23 :=
  BitVec.ofNat 23 (maskN 23 fun j => if pass = 0 then j % 2 == 0 && decide (j + 1 < n) else n % 2 == 1 && decide (j + 2 = n))

/-- Drive stops at the end of a pass. -/
def State.driveOff (s : State) : State :=
  { s with bal := { s.bal with chopSet := 0, chop := 0, impDrv := 0, impSht := copies 23 0 } }.balRefresh

/-- The segment boundary of an entry, counted from t0, at which the pass that starts now begins (R188, R194): the first that is not a whole tick
past. -/
def State.boundaryNow (s : State) (num den cyc : Nat) : Nat :=
  let n := s.clk.fabric.toNat - s.imp.t0.toNat
  if n = 0 then 0 else 5 * (n - 1) * num / (cyc * den) + 1

/-- The entries of the run for the pass that starts now; a chop or shuttle pass leaves a segment idle first (R194). -/
def State.passEntries (s : State) : List ImpEntry :=
  s.runNow.map fun i =>
    let t := turnOf (s.entSrc i) (s.entFreq i)
    { entry := i, num := t.1, den := t.2, cyc := s.entCyc i, nseg := s.entSeg i,
      first := s.boundaryNow t.1 t.2 (s.entCyc i) + (if s.entSrc i = 0 then 0 else 1), done := 0, sums := [] }

/-- IMP_PASS_START (R194, R191, R192): the next pass starts, the first at t0; a chop pass waits while the budget cannot take it. In a chop or shuttle
pass a blanked span that runs spoils the segment (R195). -/
def impPassStart (s : State) : State :=
  match s.runNow with
  | [] => s
  | i :: _ =>
    if !(s.up && s.impLive && s.imp.between && decide (s.imp.t0.toNat ≤ s.clk.fabric.toNat)) then s
    else
      let src := s.entSrc i
      let s1 := { s with imp := { s.imp with between := false, idle := src != 0, sine := 0, run := s.passEntries,
                                             spoiled := if s.blanked && src != 0 then s.runNow else [] } }
      if src = 2 && s.takesPart i then
        let s2 := { s1 with bal := { s1.bal with chopSet := chopCells s.cells s.imp.pass, chop := 0 } }
        if s2.fits s2.bal.applied then
          ((s2.impTimer (s.impF 0x1402 0 3) (chopTicks (s.entFreq i))).impShow 2).balRefresh
        else s
      else if src = 1 && s.takesPart i then
        let s2 := { s1 with bal := { s1.bal with impDrv := shuttleSet s.cells s.imp.pass, impSht := copies 23 0 } }
        ((s2.impTimer (s.impF 0x1402 3 3) (shuttleTicks (s.entFreq i))).impShow 2).balRefresh
      else s1.impShow 2

/-- The pass has ended: the next pass of the run, the next run, or the fit (R194, R201). -/
def State.passEnd (s : State) : State :=
  let t := s.driveOff
  let more := decide (t.imp.pass + 1 < passesOf t.runSrc t.imp.odd)
  let u := { t with imp := { t.imp with between := true, idle := false, spoiled := [], run := [],
                                        pass := if more then t.imp.pass + 1 else 0,
                                        entry := if more then t.imp.entry else t.imp.entry + 1 } }
  if u.runNow.isEmpty then u.impShow 3 else u.impShow (u.fld 0x1401 0 2)

/-- The bytes of a node's frame for one segment (the layout is the model's, log 22). -/
def segBytes (p : SegIn) : List Byte :=
  let ph (z : Phasor) : List Byte := bytesBE 6 (BitVec.ofInt 48 z.re).toNat ++ bytesBE 6 (BitVec.ofInt 48 z.im).toNat
  let none_ (n : Nat) : List Byte := copies n 0
  [BitVec.ofNat 8 p.entry.val, BitVec.ofNat 8 (b2n p.out + 2 * b2n p.left + 4 * b2n p.current.isSome)] ++ bytesBE 2 p.segment ++ bytesBE 4 p.at_
    ++ bytesBE 4 p.opened.toNat ++ bytesBE 3 (maskN 24 fun k => (nth p.cells k none).isSome)
    ++ p.cells.flatMap (fun c => match c with | some x => ph x.1 ++ bytesBE 4 (BitVec.ofInt 32 x.2).toNat | none => none_ 16)
    ++ (match p.current with | some z => ph z | none => none_ 12)

/-- A node's frame goes to the fitting node (R201, step 4), which may be this one. -/
def State.frameOut (s : State) (p : SegIn) : State :=
  match s.imp.fit with
  | none => s
  | some a =>
    if a == s.fab.addr then
      { s with plc := { s.plc with fits := s.plc.fits.map fun f => if f.live && f.t0 == s.imp.t0 then fitAdd f p else f } }
    else s.sendJob a 7 [] (segBytes p)

/-- A frame of this node is kept and sent (R201). -/
def State.frameKeep (s : State) (p : SegIn) : State := { s with imp := { s.imp with own := s.imp.own ++ [p] } }.frameOut p

/-- A frame of this node that carries no phasor. -/
def State.emptyFrame (s : State) (i : Fin 16) (segment at_ : Nat) : SegIn :=
  { node := s.fab.addr, entry := i, segment := segment, at_ := at_, out := !s.takesPart i.val, left := !s.imp.part, cells := copies 24 none,
    current := none, opened := s.imp.opened ||| s.openLines }

/-- CHOP_PASS_BUDGET_TIMEOUT (R192): a chop pass that could not start is abandoned, and the fitting node hears of it. -/
def chopPassBudgetTimeout (s : State) : State :=
  if s.impLive && s.imp.between && s.runSrc == 2 then
    let t := { s with imp := { s.imp with notMeas := s.imp.notMeas ++ [(s.imp.entry, s.imp.pass)] } }
    (match t.runNow with
      | i :: _ => t.frameKeep (t.emptyFrame (Fin.ofNat 16 i) (t.imp.pass * t.entSeg i) 0)
      | [] => t).passEnd
  else s

/-- R195: what may change between segments: an assignment that waits is applied. -/
def State.betweenSegments (s : State) : State :=
  let b := s.imp.between
  let t := balAssignmentApply { s with imp := { s.imp with between := true } }
  { t with imp := { t.imp with between := b } }

/-- R188: at least 99 % of the samples a channel should have delivered in a segment are usable. -/
def State.enough (s : State) (e : ImpEntry) (x : ImpSum) : Bool :=
  decide (0 < x.n) && decide (99 * s.loopSweeps * e.cyc * e.den ≤ 500 * x.n * loopTicks s.seq.active s.lead * e.num)

/-- The phasor X = (2 / n) × Σ x e^(−j2πf(t − t0)) of a channel's sums (R188), a unit of its samples being `num / den` of the phasor's. -/
def ImpSum.phasor (x : ImpSum) (num den : Nat) : Phasor :=
  ⟨quot (2 * x.re * num) (x.n * fxOne.toNat * den), quot (2 * x.im * num) (x.n * fxOne.toNat * den)⟩

/-- The sums of a channel in a segment, where enough of its samples are usable. -/
def State.usable (s : State) (e : ImpEntry) (at_ c : Nat) : Option ImpSum :=
  (e.sums.find? fun x => x.at_ == at_ && x.chan == c).bind fun x => if s.enough e x then some x else none

/-- This node's frame for the segment of an entry that ends (R188, R190, R194, R195): cells read in 100 µV, the current in steps of the finest gain,
each 78,125 / (256 × shunt in nΩ) A. A segment that a span or a swap spoiled carries nothing, and a cell beside an open line no value. -/
def State.segFrame (s : State) (e : ImpEntry) (i : Fin 16) : SegIn :=
  let at_ := e.first + e.done
  let p := s.emptyFrame i (s.imp.pass * e.nseg + e.done) at_
  if p.out || s.imp.spoiled.contains i.val then p
  else
    let cell (k : Nat) : Option (Phasor × Int) :=
      if decide (s.cells ≤ k) || p.opened.getLsbD k || p.opened.getLsbD (k + 1) then none
      else (s.usable e at_ k).map fun x => (x.phasor 1000000 1, quot (100 * x.sum) x.n)
    let cur := if s.entSrc i.val = 0 ∧ s.rd 0x1002 ≠ 0 then
        (s.usable e at_ (24 + s.impF 0x1400 2 1)).map fun x => x.phasor (78125 * 1000000000) (256 * (s.rd 0x1002).toNat)
      else none
    { p with cells := (List.range 24).map cell, current := cur }

/-- The segment of an entry has ended: its sums go. -/
def ImpEntry.next (e : ImpEntry) : ImpEntry :=
  { e with done := e.done + 1, sums := e.sums.filter fun x => decide (e.first + e.done < x.at_) }

/-- IMP_SEGMENT_END (R188, R194, R195, R201): a segment of an entry ends; the node forms its phasors and sends them to the fitting node. -/
def impSegmentEnd (entry : Fin 16) (s : State) : State :=
  let i := entry.val
  match s.imp.run.find? fun e => e.entry == i with
  | none => s
  | some e =>
    if !(s.up && s.impLive && !s.imp.between) then s
    else
      let stays := s.blanked && s.entSrc i != 0
      let unspoil (t : State) : State := { t with imp := { t.imp with spoiled := if stays then t.imp.spoiled else t.imp.spoiled.filter fun e => !(e == i) } }
      if s.imp.idle then (unspoil { s with imp := { s.imp with idle := false } }).betweenSegments
      else if e.nseg ≤ e.done then s
      else
        let p := s.segFrame e entry
        let s1 := (unspoil { s with imp := { s.imp with opened := p.opened,
                                                        run := s.imp.run.map fun x => if x.entry == i then x.next else x } }).frameKeep p
        if s1.imp.run.all fun x => decide (x.nseg ≤ x.done) then s1.passEnd.betweenSegments else s1.betweenSegments

/-- The live fit here of the string of a node. -/
def State.fitFor (s : State) (a : FAddr) : Option FitJob := s.plc.fits.find? fun f => f.live && f.string == a.toNat / 64

/-- Change a fit here. -/
def State.fitSet (s : State) (slot : Fin 32) (g : FitJob → FitJob) : State :=
  { s with plc := { s.plc with fits := s.plc.fits.map fun f => if f.slot == slot then g f else f } }

/-- IMP_PHASOR_RECEIVED (R201). -/
def impPhasorReceived (p : SegIn) (s : State) : State :=
  match s.fitFor p.node with
  | some f => if s.up && !(p.node == s.fab.addr) then s.fitSet f.slot fun x => fitAdd x p else s
  | none => s

/-- The segments that have ended, as some node's frame shows, and of which a node's has not come: they are missing (R201). -/
def fitLapse (f : FitJob) (node : FAddr) : FitJob :=
  let gone := f.frames.filter fun o => !(f.frames.any fun q => q.node == node && q.entry == o.entry && q.segment == o.segment)
  let new := (distinct (gone.map fun o => (node, o.entry.val, o.segment))).filter fun x => !(f.missing.contains x)
  { f with missing := f.missing ++ new }

/-- IMP_PHASOR_TIMEOUT (R201): 100 ms after they ended, segments without a node's phasors are missing, and stay so. -/
def impPhasorTimeout (node : FAddr) (s : State) : State :=
  match s.fitFor node with
  | some f => if s.up then s.fitSet f.slot fun x => fitLapse x node else s
  | none => s

/-- R201: a moved or restarted fit asks for the phasors of its measurement again. -/
def State.impResend (s : State) (t0 : DWord) (host : FAddr) : State :=
  if s.impLive && s.imp.t0 == t0 then
    let t := { s with imp := { s.imp with fit := some host } }
    t.imp.own.foldl State.frameOut t
  else s

/-! ## The fit -/

/-- What the fit finds of one cell at one entry: flags of R199, Z in nΩ, U, and its temperature. -/
structure CellFit where
  flags : Nat
  z     : Option Phasor
  u     : Half
  deriving DecidableEq, Repr

/-- A product with the conjugate. -/
def timesConj (a b : Phasor) : Int × Int := (a.re * b.re + a.im * b.im, a.im * b.re - a.re * b.im)

/-- A sum of phasors. -/
def phPlus (a b : Phasor) : Phasor := ⟨a.re + b.re, a.im + b.im⟩

/-- Z = Σ V I* / Σ |I|² over the kept segments (R188) as numerators and denominator; 10⁻¹⁰ V / 10⁻⁹ A is 10⁸ nΩ. -/
def ratioSums (kept : List (Phasor × Phasor)) : Int × Int × Int :=
  kept.foldl (fun a x => (a.1 + (timesConj x.1 x.2).1, a.2.1 + (timesConj x.1 x.2).2, a.2.2 + (timesConj x.2 x.2).1)) (0, 0, 0)

/-- Z in nΩ (R188): none without any current. -/
def ratioZ (kept : List (Phasor × Phasor)) : Option Phasor :=
  let r := ratioSums kept
  if r.2.2 ≤ 0 then none else some ⟨quot (r.1 * 100000000) r.2.2.toNat, quot (r.2.1 * 100000000) r.2.2.toNat⟩

/-- U in 0.01 % (R196): the standard deviation of Re and Im of the estimates V_s / I_s over √n and |Z|, with the phase term 2π f × 55 ns, which is 11
steps of 5 ns, in quadrature. None where an estimate or the ratio has no value. -/
def uncertainty (kept : List (Phasor × Phasor)) (turn : Nat × Nat) : Option Half :=
  let est := kept.map fun x =>
    let d := (timesConj x.2 x.2).1
    ((timesConj x.1 x.2).1 * 100000000000000 / d, (timesConj x.1 x.2).2 * 100000000000000 / d)
  let n : Int := kept.length
  let m := est.foldl (fun a x => (a.1 + x.1, a.2 + x.2)) ((0, 0) : Int × Int)
  let ss := est.foldl (fun a x => a + (n * x.1 - m.1) * (n * x.1 - m.1) + (n * x.2 - m.2) * (n * x.2 - m.2)) (0 : Int)
  let r := ratioSums kept
  let z := (r.1 * 100000000000000 / r.2.2, r.2.1 * 100000000000000 / r.2.2)
  let z2 := z.1 * z.1 + z.2 * z.2
  let d := if Config.sampleStd then n - 1 else n
  let w := 22 * fxPi * (turn.1 : Int) / (turn.2 : Int)
  if (kept.any fun x => (timesConj x.2 x.2).1 == 0) || z2 == 0 then none
  else some (satField 16 (min 65534 (fxInt (fxSqrt (fxQuot ss (n * n * n * 2 * d * z2) + fxMul w w)) 10000 1)))

/-- The phase of Z in 0.01° (R197). -/
def phaseOf (z : Phasor) : Int :=
  if z.re = 0 ∧ z.im ≠ 0 then (if 0 < z.im then 9000 else -9000) else quot (fxAtan2 z.im z.re * 18000) fxPi.toNat

/-- SRC 1 (R191): the module current taken as the commanded sinusoid: amplitude × 0.99960, late by half a step and `imp.sht.delay`; sin is −j. -/
def shuttleCurrent (amp p delay : Nat) (neg : Bool) : Phasor :=
  let w := fxTurn (-(825 * (p : Int) + 2 * delay)) (3200 * p)
  let a : Int := if neg then -(999600 * (amp : Int)) else 999600 * (amp : Int)
  ⟨fxInt (a * w.1) 1 1, fxInt (a * w.2) 1 1⟩

/-- SRC 2 (R192): the fundamental of the chop current. The switches are on in the second half of each period, so its phase is +j; with the mean
voltage V, the two lines' in-phase drop S and R0 = `imp.chop.rbal` + 1.0 Ω its amplitude (2 / π) V / (R0 + R_L), R_L being S over it, is
((2 / π) V − S) / R0. V is in µV, S in 10⁻¹⁰ V, R0 in mΩ. -/
def chopCurrent (v s : Int) (r0 : Nat) : Phasor := ⟨0, quot (100 * (20000 * v * fxOne - s * fxPi)) (r0 * fxPi.toNat)⟩

/-- The frames of a node for an entry. -/
def fitSegs (f : FitJob) (a : FAddr) (i : Nat) : List SegIn := f.frames.filter fun p => p.node == a && p.entry.val == i

/-- The phasor of a cell in a frame. -/
def phAt (p : SegIn) (k : Nat) : Option Phasor := (nth p.cells k none).map (·.1)

/-- The pass of a shuttle entry in which cell `k` of `n` is measured: the last cell of an odd number has the second (R191). -/
def shuttlePass (n k : Nat) : Nat := if n % 2 = 1 ∧ k + 1 = n then 1 else 0

/-- Cell `k` (from 0) of `n` carries −i: it is cell j + 1 of its shuttle j (R191). -/
def shuttleMinus (n k : Nat) : Bool := k % 2 == 1 || (n % 2 == 1 && k + 1 == n)

/-- A chopped cell's frame, with the sum of its phasor and its neighbours', the sum of the neighbours' imaginary parts, and its mean (R192). -/
def chopSum (n k : Nat) (p : SegIn) : Option (Phasor × Int × Int) :=
  let beside (b : Bool) (j : Nat) : Option Phasor := if b then phAt p j else some ⟨0, 0⟩
  match nth p.cells k none, beside (decide (0 < k)) (k - 1), beside (decide (k + 1 < n)) (k + 1) with
  | some v, some x, some y => some (phPlus (phPlus v.1 x) y, x.im + y.im, v.2)
  | _, _, _ => none

/-- The kept segments of cell `k` of a node at an entry: voltage phasor and current phasor (R188 to R192). -/
def fitKept (f : FitJob) (a : FAddr) (n i k : Nat) : List (Phasor × Phasor) :=
  let src := planSrc f.plan i
  let pass := if src = 2 then k % 3 else if src = 1 then shuttlePass n k else 0
  let segs := (fitSegs f a i).filter fun p => p.segment / planSeg f.plan i == pass
  if src = 0 then
    segs.filterMap fun p =>
      let c := f.shunt.bind fun h => ((fitSegs f h i).find? fun q => q.at_ == p.at_).bind (·.current)
      match phAt p k, c with | some v, some c => some (v, c) | _, _ => none
  else if src = 1 then
    let c := shuttleCurrent (planFld f.plan 0x1404 0 16) (shuttleTicks (planFreq f.plan i)) (planFld f.plan 0x1406 0 16) (shuttleMinus n k)
    segs.filterMap fun p => (phAt p k).map fun v => (v, c)
  else
    let l := segs.filterMap (chopSum n k)
    let mean (g : Phasor × Int × Int → Int) : Int := quot (l.foldl (fun a x => a + g x) 0) l.length
    let c := chopCurrent (mean fun x => x.2.2) (mean fun x => x.2.1) (planFld f.plan 0x1407 0 32 + 1000)
    l.map fun x => (⟨-x.1.re, -x.1.im⟩, c)

/-- A cell is not measured at an entry (R186, R190, R199, R201). -/
def fitLeavesOut (f : FitJob) (node : Node) (i k : Nat) : Bool :=
  let a := node.addr.getD noAddr
  let src := planSrc f.plan i
  let pass := if src = 2 then k % 3 else if src = 1 then shuttlePass node.cells k else 0
  decide (node.cells ≤ k) || f.left.contains a || !node.present || (src == 0 && f.shunt.isNone)
    || (src == 2 && planFld f.plan 0x1407 0 32 == 0) || (src == 1 && node.cells == 1)
    || (f.frames.any fun p => p.node == a && p.left)
    || (fitSegs f a i).any fun p => p.out && p.segment / planSeg f.plan i == pass

/-- The fit of cell `k` (from 0) of a node at an entry (R188 to R192, R196, R199). -/
def fitCell (f : FitJob) (node : Node) (i k : Nat) : CellFit :=
  let a := node.addr.getD noAddr
  let src := planSrc f.plan i
  let edge := if src = 2 ∧ (k = 0 ∨ k + 1 = node.cells) then 16 else 0
  let opened := f.frames.any fun p => p.node == a && (p.opened.getLsbD k || p.opened.getLsbD (k + 1))
  let kept := fitKept f a node.cells i k
  if fitLeavesOut f node i k then ⟨2, none, 0xFFFF⟩
  else if opened then ⟨4 + edge, none, 0xFFFF⟩
  else if kept.length < 2 then ⟨8 + edge, none, 0xFFFF⟩
  else
    let open_ := Config.noExcitation f.t0.toNat (((a.toNat * 16) + i) * 24 + k)
    let u := (uncertainty kept (turnOf src (planFreq f.plan i))).getD open_.2
    ⟨(if planFld f.plan 0x1403 0 16 < u.toNat then 1 else 0) + edge, some ((ratioZ kept).getD ⟨open_.1.1, open_.1.2⟩), u⟩

/-- The temperature table (R197): phases with their temperatures, where it may be used. -/
def tempTable (f : FitJob) : Option (List (Int × Int)) :=
  let n := planFld f.plan 0x140B 0 5
  let pt (i : Nat) : Int × Int :=
    ((BitVec.ofNat 16 (planFld f.plan (0x1430 + i) 16 16)).toInt, (BitVec.ofNat 16 (planFld f.plan (0x1430 + i) 0 16)).toInt)
  let l := (List.range n).map pt
  let rising := (List.range (n - 1)).all fun i => decide ((pt i).1 < (pt (i + 1)).1)
  if planFld f.plan 0x1400 1 1 == 1 && decide (2 ≤ n) && decide (n ≤ 16) && rising then some l else none

/-- Interpolate a phase (R197): the temperature, and whether it was clamped. -/
def interpolate (φ : Int) : List (Int × Int) → Int × Bool
  | [] => (0, true)
  | [p] => (p.2, decide (φ ≠ p.1))
  | p :: q :: t =>
    if φ < p.1 then (p.2, true)
    else if φ ≤ q.1 then (p.2 + quot ((φ - p.1) * (q.2 - p.2)) (q.1 - p.1).toNat, false)
    else interpolate φ (q :: t)

/-- The temperature of a cell with Z (R197): none without a value or a table. -/
def cellTemp (f : FitJob) (z : Option Phasor) : Option (Int × Bool) :=
  match tempTable f, z with
  | some l, some w => some (interpolate (phaseOf w) l)
  | _, _ => none

/-- Actual frequency of an entry in mHz (R188, R191, R192). -/
def entMilli (f : FitJob) (i : Nat) : Nat :=
  let q := planFreq f.plan i
  if planSrc f.plan i = 1 then (quot 625000000 (shuttleTicks q)).toNat
  else if planSrc f.plan i = 2 then (quot 20000000000 (chopTicks q)).toNat
  else 10 * q

/-- One entry's 296 bytes of a record (R199). -/
def entBytes (f : FitJob) (i : Nat) (fits : List CellFit) : List Byte :=
  bytesBE 4 (entMilli f i) ++ [BitVec.ofNat 8 (planSrc f.plan i + 4 * i), BitVec.ofNat 8 (planSeg f.plan i), 0, 0]
    ++ fits.flatMap fun c =>
      (match c.z with
       | some z => bytesBE 4 (BitVec.ofInt 32 z.re).toNat ++ bytesBE 4 (BitVec.ofInt 32 z.im).toNat
       | none => bytesBE 4 0x80000000 ++ bytesBE 4 0x80000000) ++ bytesBE 2 c.u.toNat ++ bytesBE 2 c.flags

/-- The fits of a node: per enabled entry, its 24 cells, CLAMPT set at the temperature entry. -/
def fitNode (f : FitJob) (n : Node) : List (Nat × List CellFit) :=
  (planList f.plan).map fun i => (i, (List.range 24).map fun k =>
    let c := fitCell f n i k
    if i = planFld f.plan 0x1409 0 4 then
      match cellTemp f c.z with
      | some (_, true) => { c with flags := c.flags + 32 }
      | _ => c
    else c)

/-- The temperatures of a node's cells (R197). -/
def nodeTemps (f : FitJob) (fits : List (Nat × List CellFit)) : List (Option Int) :=
  match fits.find? fun x => x.1 == planFld f.plan 0x1409 0 4 with
  | some x => x.2.map fun c => (cellTemp f c.z).map (·.1)
  | none => copies 24 none

/-- An entry is not measured on any of some cells. -/
def unmeasured (l : List CellFit) : Bool := l.all fun c => c.flags.testBit 1

/-- The record of a node (R199). -/
def impRecord (f : FitJob) (n : Node) (fits : List (Nat × List CellFit)) : List Byte :=
  [0x14, BitVec.ofNat 8 fits.length] ++ bytesBE 2 (n.addr.getD noAddr).toNat ++ bytesBE 8 f.t0.toNat
    ++ [BitVec.ofNat 8 (b2n f.rerun + 2 * b2n f.shunt.isNone + 4 * b2n (fits.any fun x => unmeasured x.2)), BitVec.ofNat 8 n.cells, 0, 0]
    ++ ((nodeTemps f fits).flatMap fun t => match t with | some v => bytesBE 2 (satField 16 v) | none => [0x80, 0x00])
    ++ fits.flatMap fun x => entBytes f x.1 x.2

/-- CELLTEMP of one cell after a measurement (R197): counts of measurements in a row; one without a temperature ends both rows. -/
def tempAfter (r : TempRun) (lim : Int) (t : Option Int) : TempRun :=
  let h := match t with | some v => if lim ≤ v then r.hits + 1 else 0 | none => 0
  let m := match t with | some v => if v < lim - 50 then r.misses + 1 else 0 | none => 0
  { r with hits := h, misses := m, active := if 2 ≤ h then true else if 2 ≤ m then false else r.active }

/-- CELLTEMP of one cell (R197, R202). -/
def State.tempJudge (s : State) (slot : Fin 32) (a : FAddr) (k : Nat) (lim : Int) (t : Option Int) : State :=
  let temps := match s.plc.fits.find? fun f => f.slot == slot with | some f => f.temps | none => []
  let old := (temps.find? fun x => x.node == a && x.cell == k).getD ⟨a, k, 0, 0, false⟩
  let r := tempAfter old lim t
  let u := s.fitSet slot fun f => { f with temps := (f.temps.filter fun x => !(x.node == a && x.cell == k)) ++ [r] }
  if r.active != old.active then u.raiseC 35 (pack [(0, 5, k + 1), (16, 12, a.toNat)]) (!r.active) else u

/-- The end of the measurement on a node of the string (R201, R203): timers and plan are released, and `imp.last` and the count follow. -/
def State.impEnd (s : State) : State :=
  let t0 := s.imp.t0
  let t := s.impDrop
  ((t.addSat 0x1401 16 16 1).wr 0x1440 (BitVec.ofNat 32 t0.toNat)).wr 0x1441 (BitVec.ofNat 32 (t0.toNat / 2 ^ 32))

/-- The release of a measurement reaches a node (R201, step 6). -/
def State.impRelease (s : State) (t0 : DWord) : State := if s.impLive && s.imp.t0 == t0 then s.impEnd else s

/-- The fit whose measurement has ended: where this node is of the string, after its own last segment. -/
def State.fitReady (s : State) : Option FitJob :=
  s.plc.fits.find? fun f => f.live && s.runs ⟨3, f.slot⟩ && !(s.impLive && s.imp.t0 == f.t0 && s.fld 0x1401 0 2 != 3)

/-- IMP_FIT_DONE (R188 to R202): the fit of every node of the string, its records, temperatures and events; the nodes are released. -/
def impFitDone (s : State) : State :=
  match s.fitReady with
  | none => s
  | some f =>
    if !(s.up && s.fab.valid) then s
    else
      let nodes := stringNodes s.fab.nodes f.string
      let fits := nodes.map fun n => (n, fitNode f n)
      let entries := planList f.plan
      let key : JobKey := ⟨3, f.slot⟩
      let seqOf (t : State) (a : FAddr) : Word := match s.plc.jobs.find? fun j => j.key == key with
        | some j => t.jobSeq j 0x14 a
        | none => t.nextSeq 0x14 a
      let s1 := fits.foldl (fun t x =>
        let a := x.1.addr.getD noAddr
        t.recSpread { kind := 0x14, owner := a, seq := seqOf s a, rerun := f.rerun, bytes := impRecord f x.1 x.2 }) s
      let at_ (i : Nat) : List CellFit := fits.flatMap fun x => (x.2.filter fun y => y.1 == i).flatMap (·.2)
      let low (i : Nat) : Nat := ((at_ i).filter fun z => z.flags.testBit 0).length
      let s2 := entries.foldl (fun t i =>
        if low i = 0 then t else t.raise 34 (pack [(0, 4, i), (4, 2, planSrc f.plan i), (16, 16, low i)])) s1
      let lim := (BitVec.ofNat 16 (planFld f.plan 0x140A 0 16)).toInt
      let s3 := if (tempTable f).isNone then s2 else fits.foldl (fun t x =>
        ((nodeTemps f x.2).zipIdx).foldl (fun t y => t.tempJudge f.slot (x.1.addr.getD noAddr) y.2 lim y.1) t) s2
      let flagged := fits.foldl (fun c x => c + ((List.range 24).filter fun k =>
        x.2.any fun y => (nth y.2 k ⟨0, none, 0⟩).flags != 0).length) 0
      let s4 := s3.raise 33 (pack [(0, 6, f.string), (8, 5, (entries.filter fun i => !unmeasured (at_ i)).length), (16, 16, flagged)])
      let s5 := nodes.foldl (fun t n =>
        if n.topo.serial == s.serial then t else t.sendJob (n.addr.getD noAddr) 8 (bytesBE 8 f.t0.toNat) []) s4
      ((s5.fitSet f.slot fun x => { x with live := false, frames := [], missing := [], left := [], rerun := false }).jobWrote key
        (fits.foldl (fun m x => let n := seqOf s (x.1.addr.getD noAddr); if m.toNat < n.toNat then n else m) 0)).impRelease f.t0

end Sys2Proof.Machine
end

