-- ==== Sys2Proof/Machine/Thermal.lean ====
section
/-! DEFINITION. The housekeeping round (R151) and its monitors: the pace (R9), the rails and REFCHK (R347), STACK (R45, R106), the die
sensors and thermal thresholds (R332 to R340), the refresh interval (R414), the hardware cut (R341), and the reference source (R10, R11
stand in Fabric). -/
namespace Sys2Proof.Machine

/-! ## Counting rounds -/

/-- R336: count one round of a condition that sets after 3 rounds at its set level and clears after 3 at its clear level. -/
def Run.judge (r : Run) (hit clear : Bool) : Run × Option Bool :=
  let h := if hit then r.hits + 1 else 0
  let m := if clear then r.misses + 1 else 0
  if !r.active && decide (3 ≤ h) then (⟨h, m, true⟩, some true)
  else if r.active && decide (3 ≤ m) then (⟨h, m, false⟩, some false)
  else (⟨h, m, r.active⟩, none)

/-- R19 for a check made at every round: 0 good, 1 failed once, 2 lasting; a single failure counts as a transient. -/
def checkStep (old : Nat) (bad : Bool) : Nat × Bool × Bool :=
  if bad then (if old = 0 then (1, false, false) else if old = 1 then (2, true, false) else (2, false, false))
  else (0, false, old == 1)

/-! ## The monitors -/

/-- The pace monitor (R9, R449). -/
def State.paceCheck (s : State) (mhz : Nat) : State :=
  let s0 := s.wr 0x0112 (BitVec.ofNat 32 (min 0xFFFF mhz))
  let c := checkStep s.therm.paceBad (decide (mhz < 160))
  let s1 := { s0 with therm := { s0.therm with paceBad := c.1, paceLow := if c.1 = 1 then mhz else s0.therm.paceLow } }
  if c.2.1 then ((s1.raise 5 (pack [(0, 16, mhz), (16, 16, s1.therm.paceLow)])).ownDemand 9 true 0x100).enterGuard 2
  else if c.2.2 then s1.transient 5 1 else s1

/-- The levels of the rails V5, VCORE, VIO and VLINK in 100 µV (R18): all are powered in Run, Watch and Guard. -/
def railLevel (i : Nat) : Nat := nth [50000, 9000, 33000, 18000] i 0

/-- One rail outside ±10 % in two rounds in a row is a channel fault, row 5 (R347, R363). -/
def State.railCheck (s : State) (i v : Nat) : State :=
  let l := railLevel i
  let c := checkStep (nth s.therm.railBad i 0) (decide (10 * v < 9 * l) || decide (11 * l < 10 * v))
  let s1 := { s with therm := { s.therm with railBad := s.therm.railBad.set i c.1 } }
  if c.2.1 then s1.channelFault 5 (50 + i) else if c.2.2 then s1.transient 5 1 else s1

/-- REFCHK outside ±0.5 % of `pat.refratio` in two rounds in a row is a channel fault, row 4 (R347, R363). REFCHK counts 2⁻¹⁵. -/
def State.refCheck (s : State) (v : Nat) : State :=
  let want := (s.rd 0x13F1).toNat
  let got := v * 2 ^ 15
  let c := checkStep s.therm.refBad (decide (want < 200 * (want - got)) || decide (want < 200 * (got - want)))
  let s1 := { s with therm := { s.therm with refBad := c.1 } }
  if c.2.1 then s1.channelFault 4 0 else if c.2.2 then s1.transient 5 1 else s1

/-- STACK (R45, R106, R450). -/
def State.stackCheck (s : State) (code : Nat) : State :=
  let v := (quot code 4).toNat
  let s0 := s.wr 0x0107 (BitVec.ofNat 32 (min 0xFFFF v))
  let r := s0.bal.stackHigh.judge (decide (13500 < v)) (decide (v < 13000))
  let s1 := { s0 with bal := { s0.bal with stackHigh := r.1 } }
  match r.2 with
  | some b => (s1.raiseC 6 (pack [(0, 16, v)]) (!b)).balRefresh
  | none => s1

/-- Cells below `bal.vmin` at this round (R206); a cell without a sample yet is not judged. -/
def State.vminCheck (s : State) : State :=
  let m := maskN 24 fun k => decide ((nth s.sense.comp k ⟨0, 0, 0⟩).pass ≠ 0) && decide (s.cellV k < 10 * (s.fld 0x1505 0 16 : Nat))
  { s with bal := { s.bal with lowCell := BitVec.ofNat 24 m } }.balRefresh

/-! ## Die sensors -/

/-- Tn is excluded (R334). -/
def State.excluded (s : State) (n : Nat) : Bool := s.bit 0x3000 (8 + n)

/-- The sensors not excluded. -/
def State.dieIn (s : State) : List Nat := (List.range 6).filter fun n => !s.excluded n

/-- The next sensor not excluded after `n` in the ring, upward or downward. -/
def ringNext (used : List Nat) (n : Nat) (up : Bool) : Option Nat :=
  ([1, 2, 3, 4, 5].map fun d => if up then (n + d) % 6 else (n + 6 - d) % 6).find? fun m => used.contains m

/-- A reading is CLIPPED or outside −50 °C to +200 °C (R334): in 1/128 °C. -/
def dieOut (v : Int) : Bool := decide (v ≤ -8192) || decide (32640 ≤ v) || decide (v < -50 * 128) || decide (200 * 128 < v)

/-- R334: a sensor differs from both neighbours by more than 12.0 °C while they agree to within 4.0 °C; temperatures in 0.1 °C. -/
def crossSuspect (used : List Nat) (t : Nat → Int) (n : Nat) : Bool :=
  match ringNext used n true, ringNext used n false with
  | some a, some b =>
    let far (x y : Int) (d : Int) : Bool := decide (d < x - y) || decide (d < y - x)
    a != b && far (t n) (t a) 120 && far (t n) (t b) 120 && !far (t a) (t b) 40
  | _, _ => false

/-- TSENSBAD (R334, R344), and a channel fault when the third sensor is excluded (R335, R363). The rate check starts anew (R336). -/
def State.exclude (s : State) (n : Nat) (out : Bool) : State :=
  let t := s.setBit 0x3000 (8 + n) true
  let count := 6 - t.dieIn.length
  let u := { t with therm := { t.therm with history := [], rate := ⟨0, 0, t.therm.rate.active⟩ } }.raise 69
    (pack [(0, 3, n), (3, 1, b2n out), (4, 3, count), (16, 16, (BitVec.ofInt 16 (t.dieT n)).toNat)])
  if count = 3 then u.channelFault 7 (u.fld 0x3000 8 6) else u

/-- R334 at a round: suspects are judged by the sensors in use at its start. -/
def State.dieJudge (s : State) (die : List Int) : State :=
  let used := s.dieIn
  used.foldl (fun t n =>
    let out := dieOut (nth die n 0)
    let sus := out || crossSuspect used (fun m => s.dieT m) n
    let was := s.therm.suspect.getLsbD n
    let mark (b : Bool) : State := { t with therm := { t.therm with suspect := setBitV t.therm.suspect n b } }
    if sus && was then (mark false).exclude n out
    else if sus then mark true
    else if was then (mark false).transient 5 1
    else t) s

/-- The reported maximum (R333) in 0.1 °C and its sensor, the lowest-numbered of equals. -/
def State.dieMax (s : State) : Option (Int × Nat) :=
  match s.dieIn with
  | [] => none
  | n :: t => some (t.foldl (fun (m : Int × Nat) k => if m.1 < s.dieT k then (s.dieT k, k) else m) (s.dieT n, n))

/-- Show WARN, RATE and STOP. -/
def State.thermShow (s : State) : State :=
  ((s.setBit 0x3000 1 s.therm.warn.active).setBit 0x3000 2 s.therm.rate.active).setBit 0x3000 3 s.therm.stop.active

/-- TWARN (R336, R344, R48). -/
def State.warnCheck (s : State) (max : Int) (hot : Nat) : State :=
  let r := s.therm.warn.judge (decide (1050 ≤ max)) (decide (max < 1000))
  let s1 := { s with therm := { s.therm with warn := r.1 } }
  match r.2 with
  | none => s1
  | some b =>
    let s2 := s1.raiseC 66 (pack [(0, 16, satField 16 max), (16, 3, hot)]) (!b)
    if b then s2.askRun else s2

/-- TRATE (R336, R344): ΔT over 10 rounds, against L × 0.2 s. -/
def State.rateCheck (s : State) (max : Int) : State :=
  let h := s.therm.history
  let keep (t : State) : State := { t with therm := { t.therm with history := (max :: h).take 10 } }
  if h.length < 10 then (keep { s with therm := { s.therm with rate := ⟨0, 0, s.therm.rate.active⟩ } }).setFld 0x3006 0 16 0
  else
    let dt := max - nth h 9 0
    let l : Int := s.fld 0x3005 0 8
    let r := s.therm.rate.judge (decide (2 * l ≤ dt)) (decide (dt < 2 * (l - 1)))
    let s1 := (keep { s with therm := { s.therm with rate := r.1 } }).setFld 0x3006 0 16 (satField 16 dt)
    match r.2 with
    | some b => s1.raiseC 67 (pack [(0, 16, satField 16 dt), (16, 8, l.toNat)]) (!b)
    | none => s1

/-- The orderly stop sets (R338, R339, R344): TSTOP; balancing and the impedance drive stop, the offer falls to 0, no new page write
starts, and the outputs are demanded off by Ramp and Doff. Where Hatbox entry has been accepted the entry goes on. -/
def State.stopSet (s : State) (max : Int) (hot : Nat) : State :=
  let t := s.raise 68 (pack [(0, 16, satField 16 max), (16, 3, hot), (19, 1, b2n s.outputsOn), (20, 4, min 15 s.plc.jobs.length)])
  if !(s.pwr.mode == .run || s.pwr.mode == .watch) then t.balRefresh
  else if s.pwr.hatbox != .none then t.balRefresh
  else
    let u := { t with pwr := { t.pwr with stopping := true }, nv := { t.nv with hold := true, drained := t.nv.queue.isEmpty } }
    (u.impStop.ownDemand 11 false 0x80).settle

/-- The orderly stop clears (R336, R344). -/
def State.stopClear (s : State) (max : Int) (hot : Nat) : State :=
  (s.raiseC 68 (pack [(0, 16, satField 16 max), (16, 3, hot)]) true).balRefresh

/-- R340: from Guard for the thermal stop back to Run once the stop is clear: STATECHG, the active table restarts, and outputs wait for a
full Chisel round. -/
def State.stopReturn (s : State) : State :=
  if s.pwr.mode == .guard && s.pwr.gcause == 1 && !s.therm.stop.active then
    let t := (s.toRun .guard).activeStart true
    ({ t with pwr := { t.pwr with roundDue := true, roundOn := false }
              chis := { t.chis with fullDue := t.bit 0x3200 0 } }.balRefresh).settle
  else s

/-- The orderly stop at a round (R336). -/
def State.stopCheck (s : State) (max : Int) (hot : Nat) : State :=
  let r := s.therm.stop.judge (decide (1400 ≤ max)) (decide (max < 1300))
  let s1 := { s with therm := { s.therm with stop := r.1 } }
  (match r.2 with
   | some true => s1.stopSet max hot
   | some false => s1.stopClear max hot
   | none => s1).stopReturn

/-- DATA of EDRAMREF (R433). -/
def edramData (fast hatbox : Bool) (max : Int) : Word := pack [(0, 1, b2n fast), (1, 1, b2n hatbox), (16, 16, satField 16 max)]

/-- The refresh interval in force (R414, R434). -/
def State.setFast (s : State) (fast : Bool) : State := (s.setBit 0x4000 1 fast).wr 0x4001 (if fast then 4000 else 16000)

/-- R414: the interval follows the maximum. -/
def State.refreshCheck (s : State) (max : Int) : State :=
  let fast := s.bit 0x4000 1
  if !fast then if 650 ≤ max then ((({ s with therm := { s.therm with refslow := 0 } }).setFast true).raise 91 (edramData true false max)) else s
  else if max < 600 then
    let n := s.therm.refslow + 1
    let t := { s with therm := { s.therm with refslow := if 3 ≤ n then 0 else n } }
    if 3 ≤ n then (t.setFast false).raise 91 (edramData false false max) else t
  else { s with therm := { s.therm with refslow := 0 } }

/-- The thermal part of a round (R333 to R338, R345). -/
def State.thermRound (s : State) (die : List Int) : State :=
  let tenth (n : Nat) : Nat := satField 16 (roundNear (10 * nth die n 0) 128)
  let s1 := ((s.wr 0x3002 (pack [(16, 16, tenth 1), (0, 16, tenth 0)])).wr 0x3003 (pack [(16, 16, tenth 3), (0, 16, tenth 2)])).wr 0x3004
    (pack [(16, 16, tenth 5), (0, 16, tenth 4)])
  let s2 := (s1.dieJudge die).setBit 0x3000 0 true
  match s2.dieMax with
  | none => s2
  | some (max, hot) =>
    let s3 := s2.wr 0x3001 (pack [(16, 3, hot), (0, 16, satField 16 max)])
    let s4 := if s3.sfld 0x3007 0 16 < max then s3.setFld 0x3007 0 16 (satField 16 max) else s3
    ((((s4.warnCheck max hot).rateCheck max).stopCheck max hot).refreshCheck max).thermShow

/-! ## Delivery (R151) -/

/-- The running table converts a channel. -/
def State.tableHas (s : State) (c : Nat) : Bool :=
  (enabled s.runningTable).any fun x => x.1.selects c || (x.1.sweep && decide (c < 26))

/-- The channels of the round, ascending (R151): STACK, T0 to T5, REFCHK, V5, VCORE, VIO, VLINK. -/
def roundChans : List Nat := 26 :: (List.range 11).map (43 + ·)

/-- R151: `n` conversions take their clocks and lane numbers from clock `c` on, one after the other. The 50 µs of the table's check hold them all. -/
def roundPlaces (c : Nat) : Nat → List (Nat × Nat) → List (Nat × Nat)
  | 0, _ => []
  | n + 1, slots =>
    let p := (placeRound slots c 500).getD (c + 500, 0)
    p :: roundPlaces c n (p :: slots)

/-- The conversions of a round (R151): on L0 to L3 from the first lane-clock edge on, none moving a planned one. -/
def State.roundConvs (s : State) : List Conversion :=
  let places := roundPlaces ((s.clk.ref.toNat + 3) / 4) 12 s.occupied
  (roundChans.zip places).map fun x => s.newConv x.2.1 (s.lane x.2.2) x.1 s.conv.passNo (4 * x.2.1) true false false .table

/-- One result of the round: CLIPPED counts for every channel (R121); filters and streams take it where the table does not convert the channel. -/
def State.roundResult (s : State) (k : Conversion) (code : BitVec 16) (v : Int) : State :=
  let clipped := clippedOf k.chan code v
  let s1 := { s with sense := { s.sense with last := s.sense.last.set k.chan v } }.clipSample k.chan clipped
  if s1.tableHas k.chan then s1
  else
    let s2 := { s1 with conv := { s1.conv with refresh := s1.conv.refresh.filter fun x => x != k.chan } }
    s2.filterSample k v (if clipped then .clipped else .valid)

/-- The monitors of a round over its delivered values: pace, STACK, six die sensors, REFCHK and the rails (R9, R45, R106, R206, R211, R229, R333 to R340,
R347, R414). -/
def State.monitors (s : State) (pace stack : Nat) (die : List Int) (refchk : Nat) (rails : List Nat) : State :=
  let s1 := [0, 1, 2, 3].foldl (fun t i => t.railCheck i (nth rails i 0)) (s.paceCheck pace)
  let s2 := (s1.refCheck refchk).stackCheck stack
  ((((s2.thermRound die).vminCheck).budgetRound).probeRound).settle

/-- HOUSEKEEPING_ROUND (R9, R45, R105, R106, R151, R163): the 12 conversions are placed, their codes corrected and delivered, and the monitors judge
their values. -/
def housekeepingRound (r : RoundIn) (s : State) : State :=
  if !s.up then s
  else
    let rs := s.roundConvs.zip r.codes
    let vs := rs.map fun x => s.delivered x.1 x.2
    let v (i : Nat) : Nat := (nth vs i 0).toNat
    let s0 := { s with conv := { s.conv with passNo := s.conv.passNo + 1, busy := s.conv.busy ++ rs.map fun (x : Conversion × BitVec 16) => (x.1.clk, s.laneNo x.1.lane) }
                       sense := { s.sense with v5 := some (v 8) } }
    let s1 := (rs.zip vs).foldl (fun t x => t.roundResult x.1.1 x.1.2 x.2) s0
    s1.monitors r.pace (v 0) ((vs.drop 1).take 6) (v 7) [v 8, v 9, v 10, v 11]

/-- GUARD_ENTRY_AFTER_STOP (R338): job moves have ended, 60 ms have passed, or the Doff has come; the node enters Guard with GCAUSE 1.
While Ramp and Doff runs it waits. Jobs still here restart elsewhere as from a lost host. -/
def guardEntryAfterStop (s : State) : State :=
  if s.pwr.stopping && (s.pwr.mode == .run || s.pwr.mode == .watch) && !s.ramping then
    ({ s.enterGuard 1 with plc := { (s.enterGuard 1).plc with jobs := [] } }).settle
  else s

end Sys2Proof.Machine
end

