-- ==== Sys2Proof/Machine/Chisel.lean ====
section
/-! DEFINITION. Chisel (R389 to R410): slice attempts, their signatures and results, the open-wire, shorting-switch, seal and balance
checks they carry (R110 to R114, R231, R378), and the repairs of lanes and memories (R401, R402). -/
namespace Sys2Proof.Machine

/-! ## Slices -/

/-- The lines a slice pulses (R392), among lines 0 to N. -/
def State.pulseLines (s : State) (i : Nat) : List Nat :=
  if 13 ≤ i ∧ i ≤ 15 then (List.range (s.cells + 1)).filter fun k => k % 3 == i - 13 else []

/-- The cells (from 0) that a pulse on line `k` moves, among `n` (R110). -/
def movedBy (n k : Nat) : List Nat :=
  if k = 0 then (if n = 1 then [0] else [0, 1]) else if k = n then (if n = 1 then [0] else [n - 1, n - 2]) else [k - 1, k]

/-- The cells whose switches slices 10 to 12, 16 and 17 test (R392), from 0. -/
def State.groupCells (s : State) (i : Nat) : List Nat :=
  let g := if 10 ≤ i ∧ i ≤ 12 then (List.range 8).map (· + 8 * (i - 10)) else if i = 16 ∨ i = 17 then (List.range 12).map (· + 12 * (i - 16)) else []
  g.filter fun c => decide (c < s.cells)

/-- The expected count of a slice (R392). -/
def State.sliceSteps (s : State) (i : Nat) : Nat :=
  if i = 0 then 17 else if i ≤ 5 then 16 else if i = 6 then 65 else if i = 7 then 32 else if i = 8 then 30 else if i = 9 then 12
  else if i ≤ 12 then 2 * (s.groupCells i).length
  else if i ≤ 15 then 2 * (distinct ((s.pulseLines i).flatMap (movedBy s.cells))).length
  else if i ≤ 17 then (s.groupCells i).length
  else if i = 18 then 23 else if i ≤ 20 then 4 else if i = 21 then 6 else if i ≤ 25 then 64 else if i ≤ 27 then 2
  else if i ≤ 31 then 16 else if i ≤ 43 then 256 else if i = 44 then 8 else if i = 45 then 16 else if i = 46 then 6 else 2 * s.cells

/-- The signature of an attempt (R394): the CRC-16 of R381 over step number and outcome word of each completed step. -/
def sliceSig (outcomes : List Word) : Half :=
  crc16 ((outcomes.zipIdx).flatMap fun x => bytesBE 2 x.2 ++ bytesBE 4 x.1.toNat)

/-- The record of a slice. -/
def State.slice (s : State) (i : Nat) : Slice := nth s.chis.slices i ⟨0, 0, 0, 0, 0, false, false, false⟩
def State.setSlice (s : State) (i : Nat) (f : Slice → Slice) : State := { s with chis := { s.chis with slices := alter s.chis.slices i f } }

/-- One bit of the pass, fail or not-run maps (R410). -/
def State.sliceBit (s : State) (id i : Nat) (b : Bool) : State := s.setBit (id + i / 32) (i % 32) b

/-- `chisel.status` (R410). -/
def State.chisShow (s : State) (last : Nat) : State :=
  s.wr 0x3202 (pack [(10, 6, s.chis.next), (9, 1, b2n s.chis.full), (8, 1, b2n s.chis.busy), (0, 6, last)])

/-- What an attempt holds while it runs: pulses, shorting switches. -/
def State.sliceHold (s : State) (i : Nat) : State :=
  let shorts := if 10 ≤ i ∧ i ≤ 12 then (s.groupCells i).foldl (fun m c => m + 2 ^ c) 0 else 0
  ({ s with sense := { s.sense with pulsed := s.pulseLines i } }.setFld 0x1006 0 24 (s.fld 0x1006 0 24 ||| shorts)).balRefresh

/-- What an attempt held is given back. -/
def State.sliceFree (s : State) (i : Nat) : State :=
  let t := { s with sense := { s.sense with pulsed := [] } }
  (if 10 ≤ i ∧ i ≤ 12 then t.setFld 0x1006 0 24 0 else t).balRefresh

/-- The place in the round moves on; after slice 47 the round is complete (R389, R391, R51, R340). -/
def State.sliceNext (s : State) (i : Nat) : State :=
  if i + 1 < 48 then { s with chis := { s.chis with next := i + 1 } }.chisShow i
  else
    let t := { s with chis := { s.chis with next := 0, full := false,
                                            roundAt := if s.chis.full then s.clk.ref.toNat else s.chis.roundAt + s.chis.period }
                      pwr := if s.pwr.roundOn then { s.pwr with roundDue := false, roundOn := false } else s.pwr }
    (t.addWord 0x3203 1).chisShow i

/-- The tick from which slice `i` may start (R389 to R391): ⌊i × P / 48⌋ into the round, in a full round at once. -/
def State.sliceDue (s : State) (i : Nat) : Nat := if s.chis.full then 0 else s.chis.roundAt + i * s.chis.period / 48

/-- A round starts with slice 0 (R389, R391): P takes effect, a full round that is due runs, and a round begun in Run counts for R51. -/
def State.roundBegin (s : State) : State :=
  { s with chis := { s.chis with full := s.chis.fullDue, fullDue := false, period := 40000 * s.fld 0x3201 0 16,
                                 roundAt := if s.chis.fullDue then s.clk.ref.toNat else s.chis.roundAt }
           pwr := if s.pwr.roundDue && s.pwr.mode == .run then { s.pwr with roundOn := true } else s.pwr }

/-- PATINA_SET holds shorting switches, and a slice of 10 to 12 would hold more than 8 with them (R113): the slice waits (DESIGN CHOICE, log 122). -/
def State.shortsWait (s : State) (i : Nat) : Bool := decide (10 ≤ i ∧ i ≤ 12) && (match s.pat.set with | some p => p.started | none => false)

/-- CHISEL_SLICE_START (R389 to R393): the next slice starts once its time has come; a retired one has no attempt. -/
def chiselSliceStart (s : State) : State :=
  let i := s.chis.next
  let due := if i = 0 ∧ s.chis.fullDue = true then 0 else s.sliceDue i
  if !(s.up && !s.chis.busy) || decide (s.clk.ref.toNat < due) || s.shortsWait i then s
  else
    let s1 := if i = 0 then s.roundBegin else s
    if (s1.slice i).retired then s1.sliceNext i
    else ({ s1 with chis := { s1.chis with busy := true, repeat_ := false, aborted := false, found := [] } }.chisShow i).sliceHold i

/-! ## What the readings show -/

/-- The open pattern of R110 on line `k`; readings in 100 µV, T in mV. -/
def State.openPattern (s : State) (r : SliceIn) (k : Nat) : Bool :=
  let n := s.cells
  let t : Int := 10 * (s.fld 0x1005 0 16 : Nat)
  let d (c : Nat) : Int := nth r.during c 0 - nth r.before c 0
  let still (c : Nat) : Bool := decide (2 * d c < t) && decide (-t < 2 * d c)
  if k = 0 then decide (t ≤ d 0) && (n == 1 || still 1)
  else if k < n then decide (d (k - 1) ≤ -t) && decide (t ≤ d k)
  else decide (d (n - 1) ≤ -t) && (n == 1 || still (n - 2))

/-- R114: 0 good, 1 stuck open, 2 stuck closed. -/
def shortState (r : SliceIn) (c : Nat) : Nat :=
  let near (v lim : Int) : Bool := decide (-lim ≤ v) && decide (v ≤ lim)
  let sum := (r.before.take 24).foldl (· + ·) (0 : Int)
  let stack : Int := 25 * (r.stack : Int)
  if !near (nth r.during c 0) 100 then 1
  else if near (nth r.before c 0) 20 && decide (stack + 50000 < 100 * (sum - stack) ∨ stack + 50000 < 100 * (stack - sum)) then 2 else 0

/-- R378: the seal samples agree and match `sf.seal`. -/
def State.sealGood (s : State) (r : SliceIn) : Bool :=
  match r.seals with
  | [] => false
  | v :: t => t.all (· == v) && v == s.seal

/-- The channels a slice converts, in order (R392). -/
def sliceChans (i : Nat) : List Nat :=
  if 1 ≤ i ∧ i ≤ 5 then [54, 55, 56, 57, 54, 55, 56, 57] else if i = 6 then copies 64 49 else if i = 7 then copies 16 55
  else if i = 8 then (List.range 15).map (43 + ·) else []

/-- The lane a slice converts on (R392, R397). -/
def State.sliceLane (s : State) (i : Nat) : Fin 5 := if 1 ≤ i ∧ i ≤ 4 then s.lane (i - 1) else if i = 5 then 4 else s.lane 0

/-- The next `n` clocks of a lane that the table and the round leave free (R397); on L4, Patina's clocks. -/
def freeClocks (occ : List Nat) : Nat → Nat → List Nat
  | 0, _ => []
  | n + 1, clk => let c := nextFree occ (occ.length + 1) clk
                  c :: freeClocks occ n (c + 1)

/-- The conversions of a slice with their raw codes. -/
def State.sliceConvs (s : State) (i : Nat) (codes : List (BitVec 16)) : List (Conversion × BitVec 16) :=
  let l := s.sliceLane i
  let occ := if i = 5 then [] else (s.conv.plan.filter fun k => k.lane == l).map (·.clk)
  let cs := sliceChans i
  let ks := (cs.zip (freeClocks occ cs.length (s.clk.ref.toNat / 4 + 1))).map fun x =>
    s.newConv x.2 l x.1 s.conv.passNo (4 * x.2) false false false .table
  ks.zip codes

/-- A loop-back result in 100 µV lies within ±10 mV of the true value in µV (R392). -/
def State.lbGood (s : State) (n : Nat) (v : Rat) : Bool :=
  let d := 100 * v - ((s.rd (0x13ED + n)).toNat : Rat)
  decide (-10000 ≤ d) && decide (d ≤ 10000)

/-- REFCHK in 2⁻¹⁵ lies within one part in `n` of `pat.refratio` (R347, R392). -/
def State.refGood (s : State) (n : Nat) (v : Rat) : Bool :=
  let want : Rat := (s.rd 0x13F1).toNat
  let d := v * (32768 : Nat) - want
  decide (-want ≤ d * (n : Nat)) && decide (d * (n : Nat) ≤ want)

/-- Slices 1 to 5 (R392): the result with the lane values of the calibration bank in force. -/
def State.lbValue (s : State) (x : Conversion × BitVec 16) : Rat :=
  let k := x.1
  let off := s.bankValue s.calBankOn (0x1357 + k.lane.val)
  let gain := s.bankValue s.calBankOn (0x135C + k.lane.val)
  s.correctWith k off gain (x.2.toInt - dither k.lane k.clk)

/-- Slice 8's window of channels 43 to 57 (R392): REFCHK, the loop-back channels, the rails, the die sensors. -/
def State.muxGood (s : State) (c : Nat) (v : Int) : Bool :=
  if c = 49 then s.refGood 200 v
  else if 54 ≤ c then s.lbGood (c - 54) v
  else if 50 ≤ c then decide (9 * (railLevel (c - 50) : Int) ≤ 10 * v) && decide (10 * v ≤ 11 * (railLevel (c - 50) : Int))
  else !dieOut v

/-- The conversions of slices 1 to 8 are good (R392). -/
def State.convsGood (s : State) (i : Nat) (codes : List (BitVec 16)) : Bool :=
  let xs := s.sliceConvs i codes
  let values := xs.map fun x => s.delivered x.1 x.2
  if codes.length < (sliceChans i).length then false
  else if i ≤ 5 then xs.all fun x => s.lbGood (x.1.chan - 54) (s.lbValue x)
  else if i = 6 then s.refGood 500 (((values.foldl (· + ·) 0 : Int) : Rat) / (64 : Nat))
  else if i = 7 then values.all fun v => s.lbGood 1 v
  else (xs.zip values).all fun x => s.muxGood x.1.1.chan x.2

/-- 4,883 reference ticks within ±6 % over 4 slow ticks (R392, slice 26). -/
def ticksGood (n : Nat) : Bool := decide (94 * 4883 ≤ 100 * n) && decide (100 * n ≤ 106 * 4883)

/-- The elements at fault that an attempt finds by its slice's own rule. -/
def State.sliceFinds (s : State) (i : Nat) (r : SliceIn) : List Nat :=
  if i = 0 then (if s.sealGood r then [] else [0])
  else if i ≤ 8 then (if s.convsGood i r.codes then [] else [0])
  else if 10 ≤ i ∧ i ≤ 12 then (s.groupCells i).filter fun c => shortState r c != 0
  else if 13 ≤ i ∧ i ≤ 15 then (s.pulseLines i).filter (s.openPattern r)
  else if i = 16 ∨ i = 17 then (s.groupCells i).filter fun c => r.faulty.contains c
  else if i = 18 then r.faulty.filter fun j => decide (j < 23)
  else if i = 26 then (if ticksGood r.ticks then [] else [0])
  else r.faulty

/-! ## Reactions (R392, R400 to R405) -/

/-- CHISELFAIL (R408). -/
def State.chiselFail (s : State) (i result : Nat) (repaired : Bool) (reaction : Nat) : State :=
  s.raise 85 (pack [(0, 6, i), (6, 2, result), (8, 1, b2n repaired), (9, 2, reaction), (16, 8, min 255 (s.slice i).count),
    (24, 8, min 255 (s.sliceSteps i))])

/-- L4 is in service and replaces no lane. -/
def State.spareLane (s : State) : Bool := s.bit 0x1100 4 && s.fld 0x1100 8 3 == 7 && s.conv.repair.isNone

/-- Spares left in a bank: SRAM banks 0 to 15, then eDRAM banks 0 to 7 (R400). -/
def bankIndex (ed : Bool) (bank : Nat) : Nat := if ed then 16 + bank % 8 else bank % 16

/-- The spares of a bank that no repair under way takes. -/
def State.sparesLeft (s : State) (ed : Bool) (bank : Nat) : Nat :=
  nth s.chis.spares (bankIndex ed bank) 0 - (s.chis.repairs.filter fun r => bankIndex r.1 r.2 == bankIndex ed bank).length

/-- Reaction D (R405): outputs off, Guard with GCAUSE 3. -/
def State.guardNoSpare (s : State) : State := s.leadsOff.enterGuard 3

/-- R402, R403: a lasting fault of a row block or row group is repaired from a spare of its bank, or takes the node to Guard. -/
def State.memFault (s : State) (ed : Bool) (bank : Nat) : State :=
  if s.sparesLeft ed bank = 0 then s.guardNoSpare
  else { s with chis := { s.chis with repairs := s.chis.repairs ++ [(ed, bank)] } }

/-- The bank a memory slice marches now (R392, R411). -/
def State.marchBank (s : State) (ed : Bool) : Nat := if ed then s.fld 0x320B 16 16 / 32 else s.fld 0x320B 0 16 / 4

/-- OPENWIRE (R112): the line is declared open; its cells and shuttles are held off. -/
def State.openWire (s : State) (k : Nat) : State :=
  if s.lineOpen k then s
  else
    let t := { s.setBit 0x1004 k true with sense := { s.sense with clean := s.sense.clean.set k 0 }
                                           imp := { s.imp with opened := s.imp.opened ||| BitVec.ofNat 25 (2 ^ k) } }
    (t.raise 16 (BitVec.ofNat 32 k)).balRefresh

/-- R112: an open line without the pattern in two rounds in a row clears. -/
def State.lineClean (s : State) (k : Nat) (pattern : Bool) : State :=
  if !s.lineOpen k then s
  else if pattern then { s with sense := { s.sense with clean := s.sense.clean.set k 0 } }
  else
    let n := nth s.sense.clean k 0 + 1
    if n < 2 then { s with sense := { s.sense with clean := s.sense.clean.set k n } }
    else (({ s with sense := { s.sense with clean := s.sense.clean.set k 0 } }.setBit 0x1004 k false).raiseC 16 (BitVec.ofNat 32 k) true).balRefresh

/-- SHORTSW of the switches that failed twice (R114). -/
def State.shortEvents (s : State) (r : SliceIn) (both : List Nat) : State :=
  both.foldl (fun t c => t.raise 19 (pack [(0, 5, c + 1), (8, 1, b2n (shortState r c == 2))])) s

/-- What lasting elements of a slice's own rule bring, as each is found (R112, R231). -/
def State.ownReaction (s : State) (i : Nat) (both : List Nat) : State :=
  if 13 ≤ i ∧ i ≤ 15 then both.foldl (fun t k => t.openWire k) s
  else if i = 16 ∨ i = 17 then both.foldl (fun t c => if t.bit 0x151D c && (s.bit 0x1502 c || t.bal.stuckOn.getLsbD c) then t else t.swFault c (if s.bit 0x1502 c then 1 else 2)) s
  else if i = 18 then both.foldl (fun t j => if t.bit 0x151E j then t else t.shtFault j 2) s
  else s

/-- The reaction to a lasting failure when it first becomes lasting (R392, R395, R401 to R405). -/
def State.reaction (s : State) (i result : Nat) (r : SliceIn) (both : List Nat) : State :=
  if i = 0 then
    let v := match r.seals.getLast? with | some x => x | none => 0
    let same := match r.seals with | x :: t => t.all (· == x) | [] => false
    let t := (s.chiselFail 0 result false 3).raise 82 (pack [(0, 8, s.seal.toNat), (8, 8, v.toNat), (16, 1, b2n !same)])
    ({ t with safe := { t.safe with sealChg := true } }).ownDemand 10 false 0x40
  else if i ≤ 4 then
    if s.spareLane then { s with conv := { s.conv with repair := some (Fin.ofNat 5 (i - 1)) } }
    else (s.chiselFail i result false 1).channelFault 3 i
  else if i = 5 then
    ((({ s with conv := { s.conv with plan := s.conv.plan.filter fun (k : Conversion) => !(k.lane == 4) } }.chiselFail 5 result false 0).setBit 0x1100 4 false).setBit 0x1301 1 true).setSlice 5 fun x => { x with retired := true }
  else if 10 ≤ i ∧ i ≤ 12 then ((s.shortEvents r both).chiselFail i result false 1).channelFault 1 i
  else if i ≤ 9 ∨ (19 ≤ i ∧ i ≤ 21) ∨ i = 26 ∨ i = 27 ∨ 46 ≤ i then (s.chiselFail i result false 1).channelFault 2 i
  else if i ≤ 18 then s.chiselFail i result false 3
  else if i ≤ 25 then
    let p : Fin 4 := Fin.ofNat 4 (i - 22)
    let t := (s.chiselFail i result false 3).portDown p 0
    (t.setPort p fun q => { q with stopped := true }).setSlice i fun x => { x with retired := true }
  else if i ≤ 31 then
    let slot := 0x1000 * s.fld 0x320C 0 8 / 0x60000
    if s.up && slot == b2n (s.bit 0x0108 8) then (s.chiselFail i result false 2).guardNoSpare
    else s.chiselFail i result false 3
  else if i ≤ 43 then
    let ed := decide (38 ≤ i)
    let bank := match s.chis.full, both with | true, b :: _ => b | _, _ => s.marchBank ed
    if s.sparesLeft ed bank = 0 then (s.chiselFail i result false 2).guardNoSpare
    else (s.chiselFail i result true 0).memFault ed bank
  else (s.chiselFail i result false 2).guardNoSpare

/-- The march moves to the next piece in a normal round (R392, R410). -/
def State.marchOn (s : State) (i : Nat) : State :=
  if s.chis.full then s
  else if 32 ≤ i ∧ i ≤ 37 then s.setFld 0x320B 0 16 ((s.fld 0x320B 0 16 + 1) % 64)
  else if 38 ≤ i ∧ i ≤ 43 then s.setFld 0x320B 16 16 ((s.fld 0x320B 16 16 + 1) % 256)
  else if 28 ≤ i ∧ i ≤ 31 then s.setFld 0x320C 0 8 ((s.fld 0x320C 0 8 + 1) % 256)
  else s

/-- An off-test that waited for a slice of the output path starts (R398). -/
def State.testResume (s : State) : State :=
  let w := s.safe.testWait
  let t := { s with safe := { s.safe with testWait := 0 } }
  if t.safe.phase == 3 && !t.ramping && !t.safe.testH.busy && !t.safe.testL.busy then
    if w.getLsbD 0 then { t with pins := { t.pins with safeH := false }, safe := { t.safe with testH := ⟨true, false⟩ } }.outShow
    else if w.getLsbD 1 then { t with pins := { t.pins with safeL := false }, safe := { t.safe with testL := ⟨true, false⟩ } }.outShow
    else t
  else t

/-- A lasting failure of slice `i` (R395): its bit is set, and its report and reaction come once. -/
def State.lastingFail (s : State) (i result : Nat) (r : SliceIn) (both : List Nat) : State :=
  let t := (s.sliceBit 0x3206 i true).ownReaction i both
  if (t.slice i).lasting then t else (t.setSlice i fun x => { x with lasting := true }).reaction i result r both

/-- The end of a slice: everything held is given back and the round moves on. -/
def State.sliceDone (s : State) (i : Nat) : State :=
  let t := ((s.sliceFree i).marchOn i)
  ({ t with chis := { t.chis with busy := false, repeat_ := false, aborted := false, found := [] } }.sliceNext i).testResume

/-- The result of an attempt (R393 to R395): 0 PASS, 1 FAIL, 2 INCOMPLETE, 3 NOTRUN, by its count, its signature and what its readings show. -/
def State.sliceResult (s : State) (i : Nat) (r : SliceIn) : Nat :=
  let steps := s.sliceSteps i
  if s.chis.aborted then 3 else if r.outcomes.length < steps then 2
  else if r.outcomes.length == steps && sliceSig r.outcomes == sliceSig (copies steps 0) && (s.sliceFinds i r).isEmpty then 0 else 1

/-- R112: the first attempt of a line slice that was not cut short judges its open lines for the two rounds without the pattern: an INCOMPLETE one too
(DESIGN CHOICE, log 124). -/
def State.lineRound (s : State) (i res : Nat) (finds : List Nat) : State :=
  if 13 ≤ i ∧ i ≤ 15 ∧ res ≠ 3 ∧ s.chis.repeat_ = false then (s.pulseLines i).foldl (fun t k => t.lineClean k (finds.contains k)) s else s

/-- An attempt of the slice that runs has ended (R390 to R396): it is judged; a first failure is repeated at once. -/
def State.attemptEnd (s : State) (r : SliceIn) : State :=
  let i := s.chis.next
  let finds := s.sliceFinds i r
  let res := s.sliceResult i r
  let s1 := s.setSlice i fun x => { x with result := BitVec.ofNat 2 res, count := r.outcomes.length, sig := sliceSig r.outcomes, time := s.stamp.2,
                                           timeLocal := s.stamp.1, notruns := if res = 3 then min 4 (x.notruns + 1) else 0 }
  let s2 := (s1.lineRound i res finds).sliceBit 0x3208 i (decide (res = 3))
  if res = 3 then
    let k := (s2.slice i).notruns
    let s3 := s2.raise 87 (pack [(0, 6, i), (8, 3, k)])
    (if k = 4 then s3.lastingFail i 3 r [] else s3).sliceDone i
  else
    let s3 := s2.sliceBit 0x3204 i (decide (res = 0))
    if res = 0 then
      let s4 := s3.setSlice i fun x => { x with lasting := false }
      (if s.chis.repeat_ then s4.transient 5 1 else s4).sliceDone i
    else if s.chis.repeat_ then
      (s3.lastingFail i res r (finds.filter fun e => s.chis.found.contains e || !(decide (10 ≤ i) && decide (i ≤ 18)))).sliceDone i
    else { s3 with chis := { s3.chis with repeat_ := true, found := finds } }

/-- CHISEL_SLICE_END (R390 to R396). -/
def chiselSliceEnd (r : SliceIn) (s : State) : State := if s.up && s.chis.busy then s.attemptEnd r else s

/-- A slice whose attempt passes without more to tell (R391, step 2 of R58): its count and signature are the expected ones. -/
def State.attemptPass (s : State) (i : Nat) : State :=
  let n := s.sliceSteps i
  let t := s.setSlice i fun x => { x with result := 0, count := n, sig := sliceSig (copies n 0), time := s.stamp.2, timeLocal := s.stamp.1,
                                          notruns := 0, lasting := false }
  (if s.chis.repeat_ then (t.sliceBit 0x3204 i true).transient 5 1 else t.sliceBit 0x3204 i true).sliceDone i

/-- The full round of step 2 of start-up (R58, R59, R391): slices in order, each with the attempts `l` tells of, at most two; one it does not tell of
passes. -/
def State.fullRound (s : State) (l : List (Fin 48 × List SliceIn)) : State :=
  let one (t : State) (i : Nat) : State :=
    let rs := (match l.find? fun (x : Fin 48 × List SliceIn) => x.1.val == i with | some x => x.2 | none => []).take 2
    let u := { t with chis := { t.chis with next := i, busy := true, repeat_ := false, aborted := false, found := [] } }
    let v := rs.foldl (fun (u : State) (r : SliceIn) => if u.chis.busy then u.attemptEnd r else u) u
    if v.chis.busy then v.attemptPass i else v
  (List.range 48).foldl one { s with chis := { s.chis with full := true } }

/-! ## Repairs -/

/-- LANE_REPAIR (R118, R167, R169, R401): at the sweep boundary L4 takes a failed lane's number; Patina re-arms. -/
def laneRepair (s : State) : State :=
  match s.conv.repair with
  | none => s
  | some l =>
    let t := { s with conv := { s.conv with repair := none, plan := s.conv.plan.filter fun (k : Conversion) => !(k.lane == 4 && k.dest == Dest.patina) } }
    let u := ((((t.setFld 0x1100 8 3 l.val).setBit 0x1100 l.val false).setBit 0x1301 1 true).rearm).setSlice 5 fun x => { x with retired := true }
    (u.raise 86 (pack [(0, 2, 0), (8, 4, l.val)])).chiselFail (l.val + 1) (if (u.slice (l.val + 1)).result = 2 then 2 else if (u.slice (l.val + 1)).result = 3 then 3 else 1) true 0

/-- MEMORY_REPAIR_DONE (R402, R408): the address range of the oldest repair switches to a spare of its bank. -/
def memoryRepairDone (s : State) : State :=
  match s.chis.repairs with
  | [] => s
  | (ed, bank) :: rest =>
    let k := bankIndex ed bank
    let left := nth s.chis.spares k 0 - 1
    let t := { s with chis := { s.chis with repairs := rest, spares := s.chis.spares.set k left } }
    let sum (l : List Nat) : Nat := l.foldl (· + ·) 0
    (t.wr 0x320A (pack [(8, 8, sum (t.chis.spares.drop 16)), (0, 8, sum (t.chis.spares.take 16))])).raise 86
      (pack [(0, 2, if ed then 2 else 1), (8, 4, bank), (16, 3, left)])

/-- CHISEL_STATUS (R409). -/
def chiselStatus (src : Src) (s : State) : State :=
  s.serveCode src 0x58 fun s r =>
    if r.a0 != 0 || r.a1 != 0 || r.a2 != 0 || r.a3 != 0 then s.fail stBadValue
    else (s, .done stOk ((List.range 8).map fun i => s.rd (0x3202 + i)))

end Sys2Proof.Machine
end

