-- ==== Sys2Proof/Machine/Collector.lean ====
section
/-! DEFINITION. Fabric sweeps and the collector (R287 to R303) and event snapshots (R304, R305). -/
namespace Sys2Proof.Machine

/-! ## Taking part (R287, R288, R295, R297, R298) -/

/-- Tcoll in µs, rounded up (R298). -/
def tcoll (es : List (Node × Option (Nat × Nat))) : Nat :=
  let smax := [0, 1, 2, 3].foldl (fun m p => max m (portOrder es p).length) 0
  let hmax := es.foldl (fun m x => max m (match x.2 with | some a => a.2 | none => 0)) 0
  ceilDiv (100 * (1 + smax) + 8 * hmax + 1000) 10

/-- STATE, COLL and ONGRID of `fab.sweep.state`, and `fab.sweep.coll` (R307). -/
def State.sweepShow (s : State) (st : Nat) : State :=
  let t := s.wr 0x2030 (pack [(3, 1, b2n (s.sweep.grid.isSome && s.sweep.plan.isSome)), (2, 1, b2n s.sweep.collect.isSome), (0, 2, st)])
  t.wr 0x2032 (match s.sweep.plan with | some p => pack [(12, 1, 1), (0, 12, p.coll.toNat)] | none => 0)

/-- STATE as it is shown. -/
def State.sweepState (s : State) : Nat := s.fld 0x2030 0 2

/-- The announcement of a sweep (R288). -/
def announceBytes (p : SweepPlan) (stop : Bool) : List Byte :=
  [0x22, BitVec.ofNat 8 (b2n stop)] ++ bytesBE 2 p.coll.toNat ++ bytesBE 8 p.t0.toNat ++ bytesBE 4 p.period.toNat ++ bytesBE 4 p.count.toNat
    ++ bytesBE 8 p.scope.toNat

/-- Ts of snapshot `k` (R287). -/
def SweepPlan.ts (p : SweepPlan) (k : Nat) : DWord := p.t0 + BitVec.ofNat 64 (k * p.period.toNat)

/-- Snapshot `k` lies within COUNT. -/
def SweepPlan.has (p : SweepPlan) (k : Nat) : Bool := p.count == 0 || decide (k < p.count.toNat)

/-- The first snapshot from now on. -/
def State.firstSnap (s : State) (p : SweepPlan) : Nat :=
  if s.clk.fabric.toNat ≤ p.t0.toNat ∨ p.period = 0 then 0 else (s.clk.fabric.toNat - p.t0.toNat) / p.period.toNat + 1

/-- The sweep ends on this node (R289): the table runs on under R147. -/
def State.sweepEnd (s : State) : State :=
  (({ s with sweep := { s.sweep with plan := none, stop := false, grid := none, align := false, isolated := false, holding := false } }.sweepShow 0)).slotShow

/-- R288: an announcement reaches a node. A node of the scope with an address, in Run or Watch, takes part; a node in Watch returns to Run
(R48). -/
def State.announced (s : State) (p : SweepPlan) (stop : Bool) : State :=
  if stop then
    match s.sweep.plan with
    | some q =>
      if q.coll == p.coll && q.t0 == p.t0 then
        if s.clk.fabric.toNat < (q.ts s.sweep.next).toNat && s.sweep.shot.isNone then s.sweepEnd else { s with sweep := { s.sweep with stop := true } }
      else s
    | none => s
  else
    match s.me with
    | none => s
    | some me =>
      if s.sweep.plan == some p then s.askRun.slotShow
      else if s.fab.valid && decide (me.str < 64) && p.scope.getLsbD me.str && (s.pwr.mode == .run || s.pwr.mode == .watch) then
        let t := { s with sweep := { s.sweep with plan := some p, next := s.firstSnap p, stop := false, shot := none, isolated := false,
                                                  holding := false } }
        (((t.askRun).gridCheck).sweepShow 1).slotShow
      else s

/-- The sweep an announcement speaks of (R288). -/
def announceOf (bs : List Byte) : SweepPlan :=
  let n (a k : Nat) : Nat := numBE ((bs.drop a).take k)
  { coll := BitVec.ofNat 12 (n 2 2), t0 := BitVec.ofNat 64 (n 4 8), period := BitVec.ofNat 32 (n 12 4), count := BitVec.ofNat 32 (n 16 4),
    scope := BitVec.ofNat 64 (n 20 8) }

/-- SWEEP_ANNOUNCE (R288, R290). -/
def sweepAnnounce (bytes : List Byte) (s : State) : State :=
  if s.up && nth bytes 0 0 == 0x22 && bytes.length == 28 then s.announced (announceOf bytes) ((nth bytes 1 0).getLsbD 0) else s

/-- SWEEP_ANNOUNCE_REPEAT (R288): the second and third copies, 1 ms apart. -/
def sweepAnnounceRepeat (s : State) : State :=
  if s.up && decide (0 < s.sweep.announce) then
    { s with sweep := { s.sweep with announce := s.sweep.announce - 1 } }.sendAll tyRecord s.sweep.said
  else s

/-- Announce a sweep: the first copy now, two more to come. -/
def State.announce (s : State) (bs : List Byte) : State :=
  { s with sweep := { s.sweep with said := bs, announce := 2 } }.sendAll tyRecord bs

/-- SWEEP_START (R287, R288): this node collects a sweep. -/
def sweepStart (src : Src) (s : State) : State :=
  s.serve src (fun r => r.code == 0x38 && !r.a0.getLsbD 24) fun s r =>
    let scope : DWord := r.a3 ++ r.a2
    let n := bitsOf r.a0 0 16
    if (r.a0 &&& 0xFFFF0000) != 0 || scope == 0 || decide (n < 100) then s.fail stBadValue
    else
      let period := 400 * n
      let es := s.expectedSet s.fab.addr scope
      let tc := tcoll es
      if s.sweep.collect.isSome || !s.fab.hasTime || !s.fab.valid || decide (1024 < es.length) || decide (10 * n < tc) then s.fail stRefused
      else
        let t0 := ceilDiv (s.clk.fabric.toNat + 800000) period * period
        let p : SweepPlan := { coll := s.fab.addr, t0 := BitVec.ofNat 64 t0, period := BitVec.ofNat 32 period, count := r.a1, scope := scope }
        let s1 := { s with sweep := { s.sweep with collect := some p, cnext := 0, collDrop := 0 } }
        let s2 := ((s1.announce (announceBytes p false)).announced p false).wr 0x2035 (BitVec.ofNat 32 (min 0xFFFF tc))
        (s2.sweepShow s2.sweepState, .done stOk [BitVec.ofNat 32 es.length, BitVec.ofNat 32 t0, BitVec.ofNat 32 (t0 / 2 ^ 32), BitVec.ofNat 32 tc])

/-- SWEEP_STOP (R287, R289): SWEEP_START with STOP. -/
def sweepStop (src : Src) (s : State) : State :=
  s.serve src (fun r => r.code == 0x38 && r.a0.getLsbD 24) fun s r =>
    if (r.a0 &&& 0xFEFF0000) != 0 then s.fail stBadValue
    else match s.sweep.collect with
      | none => s.fail stRefused
      | some p =>
        let s1 := { s with sweep := { s.sweep with collect := none } }
        let s2 := ((s1.announce (announceBytes p true)).announced p true).wr 0x2035 0
        (s2.sweepShow s2.sweepState, .done stOk [])

/-! ## Records (R292, R293) -/

/-- OFFSET (R293): sampling instant minus Ts in 1/16 tick, saturating. -/
def offset16 (t ts : DWord) : Int := max (-32767) (min 32767 (16 * (t - ts).toInt))

/-- A snapshot of this node begins at Ts (R292). -/
def State.shotBegin (s : State) (p : SweepPlan) (k : Nat) : SweepShot :=
  { snap := k % 65536, ts := p.ts k, period := p.period.toNat, coll := p.coll,
    status := if s.pwr.mode == .guard then 1 else if s.seq.phase == .stopped then 2 else 0,
    offgrid := s.sweep.grid.isNone, pass := none, at_ := 0, tags := copies 26 .valid, values := copies 26 0, got := 0 }

/-- The STATUS of a record (R292): 2 where no sweep came within one period. -/
def SweepShot.st (x : SweepShot) : Nat := if x.status ≠ 0 then x.status else if x.got < 26 then 2 else 0

/-- This node's record of a snapshot (R292, R293). -/
def State.sweepRecord (s : State) (x : SweepShot) (held : Bool) : List Byte :=
  let flags := 2 * b2n held + 8 * b2n (x.st == 0 && x.offgrid) + 16 * b2n (!s.fab.hasTime)
  let tags := (List.range 26).foldl (fun n c => n + (nth x.tags c .valid).code * 4 ^ c) 0
  let head := [0x20, BitVec.ofNat 8 flags, BitVec.ofNat 8 (16 * x.st + s.fab.addr.toNat / 256), BitVec.ofNat 8 s.fab.addr.toNat]
    ++ bytesBE 2 x.snap
  if x.st ≠ 0 then head ++ copies 9 0 ++ [BitVec.ofNat 8 s.cells]
  else head ++ bytesBE 2 (BitVec.ofInt 16 (offset16 x.at_ x.ts)).toNat ++ bytesBE 7 tags ++ [BitVec.ofNat 8 s.cells]
    ++ (List.range 26).flatMap fun c => bytesBE 3 (placeData false false c (nth x.values c 0) 1).toNat

/-- SNAP and address of a record. -/
def recSnap (bs : List Byte) : Half := BitVec.ofNat 16 (numBE [nth bs 4 0, nth bs 5 0])
def recAddr (bs : List Byte) : FAddr := BitVec.ofNat 12 (numBE [nth bs 2 0, nth bs 3 0])

/-! ## The destination stream (R296) -/

/-- Bytes as whole words, byte 0 first, padded with zeros. -/
def recordWordsOf (bs : List Byte) : List Word :=
  (List.range (ceilDiv bs.length 4)).map fun i => BitVec.ofNat 32 (numBE (padTo 4 ((bs.drop (4 * i)).take 4)))

/-- Write a whole record or trailer into the stream of `fab.sweep.dest`; the POLICY of R139 acts on the whole record. -/
def State.destWrite (s : State) (bs : List Byte) : State :=
  let n := s.fld 0x2033 0 3
  let ws := recordWordsOf bs
  let room := (s.rd (streamId n + 2)).toNat - s.fill n
  if !(s.bit 0x2033 3 && s.bit (streamId n) 0) then s
  else if ws.length ≤ room then ((s.setBit (streamId n) 4 false).streamPut n ws).watermark n
  else if s.bit (streamId n) 2 then
    let s1 := ((s.setBit (streamId n) 4 false).wr (streamId n + 4) (s.rd (streamId n + 4) + BitVec.ofNat 32 (ws.length - room))).tailMoved n
    (((s1.streamLose n (ws.length - room)).convOvfSlow n).streamPut n ws).watermark n
  else if s.bit (streamId n) 4 then s.streamLose n ws.length
  else
    let s1 := (s.streamLose n ws.length).setBit (streamId n) 4 true
    (s1.convOvf n).raise 21 (pack [(0, 3, n)])

/-! ## Snapshots at the collector (R294, R299 to R301) -/

/-- The trailer of a snapshot (R294). -/
def State.trailer (s : State) (x : Snapshot) : List Byte :=
  let strings := (List.range 64).filter fun k => x.scope.getLsbD k
  let got (k : Nat) : Nat := x.records.foldl (fun n r => if r.1.toNat / 64 = k then n ||| 2 ^ (r.1.toNat % 64) else n) 0
  let part := x.expected.any fun a => !(x.records.any fun r => r.1 == a)
  [0x21, BitVec.ofNat 8 (b2n part)] ++ bytesBE 2 s.fab.addr.toNat ++ bytesBE 2 x.snap.toNat ++ bytesBE 2 x.records.length
    ++ bytesBE 8 x.ts.toNat ++ bytesBE 2 x.expected.length ++ [BitVec.ofNat 8 strings.length, 0]
    ++ strings.flatMap fun k => bytesBE 8 (got k)

/-- A cell's values in a record with STATUS 0, in 0.1 mV (R293). -/
def recordCells (bs : List Byte) : List Int :=
  (List.range 24).map fun c => (BitVec.ofNat 24 (numBE ((bs.drop (16 + 3 * c)).take 3))).toInt

/-- A snapshot of one node enters the interval of a REDUCE goal (R327). -/
def Sred.take (x : Sred) (rec_ : Option (List Byte)) : Sred :=
  match rec_ with
  | none => { x with part := true }
  | some bs =>
    if (nth bs 2 0).toNat / 16 = 0 then
      let vs := recordCells bs
      let cells := if x.count = 0 then vs.map fun v => (v, v, v)
        else (x.cells.zip vs).map fun p => (min p.1.1 p.2, max p.1.2.1 p.2, p.1.2.2 + p.2)
      { x with cells := cells, count := x.count + 1 }
    else x

/-- The SRED jobs of this collector take a closed snapshot (R309, R313, R327). -/
def State.sredTake (s : State) (x : Snapshot) : State :=
  let out := match s.me with | some n => (s.pinsOn n).2 | none => []
  let slots := s.goalList.filterMap fun g =>
    if g.2.kind == 5 && g.2.node == s.fab.addr && s.pwr.mode == .run && !(out.contains g.1) then some g.1 else none
  slots.foldl (fun t slot => x.expected.foldl (fun t a =>
    let r := (x.records.find? fun r => r.1 == a).map (·.2)
    let known := t.plc.sred.any fun y => y.slot == slot && y.node == a
    let fresh : Sred := { slot := slot, node := a, cells := [], count := 0, part := false, seq := t.nextSeq 0x30 a }
    let l := if known then t.plc.sred else t.plc.sred ++ [fresh]
    { t with plc := { t.plc with sred := l.map fun (y : Sred) => if y.slot == slot && y.node == a then y.take r else y } }) t) s

/-- A snapshot closes (R299, R301, R306). -/
def State.snapClose (s : State) (x : Snapshot) : State :=
  let miss := (x.expected.filter fun a => !(x.records.any fun r => r.1 == a)).length
  let s0 := { s with sweep := { s.sweep with open_ := s.sweep.open_.erase x } }.sredTake x
  let s1 := (sortKey (fun (r : FAddr × List Byte) => r.1.toNat) x.records).foldl (fun t r => t.destWrite r.2) s0
  let s2 := s1.destWrite (s1.trailer x)
  let s3 := if miss = 0 then s2.raise 54 (pack [(0, 16, x.snap.toNat), (16, 16, x.records.length)])
    else (s2.addSat 0x2039 0 16 1).raiseSlow 55 0 (pack [(0, 16, x.snap.toNat), (16, 16, miss)])
  if x.changed = 0 then s3 else s3.raise 56 (pack [(0, 16, x.snap.toNat), (16, 16, x.changed)])

/-- Records in the collector buffer. -/
def State.buffered (s : State) : Nat := s.sweep.open_.foldl (fun n x => n + x.records.length) 0

/-- R300: room for one more record: the 96 KB region, and the 32 KB beside it while no link frame waits there (DESIGN CHOICE, log 30). -/
def State.collRoom (s : State) : Bool :=
  let quiet := s.ports.all fun q => q.queue.isEmpty && q.unacked.isEmpty
  decide (s.buffered < 1024) || (quiet && decide (s.buffered < 1024 + 341))

/-- Place a record in its open snapshot, and close it when every expected record is in (R299). -/
def State.snapPut (s : State) (x : Snapshot) (a : FAddr) (bs : List Byte) (changed : Bool) : State :=
  if x.records.any fun r => r.1 == a then s
  else if s.collRoom then
    let y := { x with records := x.records ++ [(a, bs)], changed := x.changed + b2n changed }
    let t := { s with sweep := { s.sweep with open_ := s.sweep.open_.map fun z => if z == x then y else z } }
    if y.expected.all fun e => y.records.any fun r => r.1 == e then t.snapClose y else t
  else
    let n := s.sweep.collDrop + 1
    let t := { s.addSat 0x2038 16 16 1 with sweep := { s.sweep with collDrop := n } }
    if t.ev.lastRaise.any fun (r : Nat × Nat × DWord) => r.1 == 57 && t.recent r.2.2 then t
    else { t with sweep := { t.sweep with collDrop := 0 } }.raiseSlow 57 0 (pack [(0, 16, x.snap.toNat), (16, 16, min 0xFFFF n)])

/-- SNAPSHOT_CLOSE_TIMEOUT (R299): the oldest open snapshot reaches Ts + period. -/
def snapshotCloseTimeout (s : State) : State :=
  match s.sweep.open_ with
  | [] => s
  | x :: _ => if s.up then s.snapClose x else s

/-- Set a flag of byte 1 of a record. -/
def flagRecord (bs : List Byte) (m : Byte) : List Byte := bs.set 1 ((nth bs 1 0) ||| m)

/-- SWEEP_RECORD_RECEIVE (R293, R299 to R303, R412): the collector stores a record, writes a late one, or passes a held one on. -/
def sweepRecordReceive (bytes : List Byte) (rerouted : Bool) (_port : Fin 4) (chk : Check) (s : State) : State :=
  if !(s.up && nth bytes 0 0 == 0x20 && decide (16 ≤ bytes.length)) then s
  else
    let s0 := if chk = .transient then s.transient 0 1 else s
    if chk = .lasting then s0.memFault false (0x60000 / 0x8000)
    else
      let bs := if rerouted then flagRecord bytes 1 else bytes
      let a := recAddr bs
      if (nth bs 1 0).getLsbD 1 then
        if s0.bit 0x2033 3 then s0.destWrite bs else s0.addSat 0x2038 16 16 1
      else match s0.sweep.open_.find? fun x => x.snap == recSnap bs with
        | some x => s0.snapPut x a bs rerouted
        | none => (s0.destWrite (flagRecord bs 4)).addSat 0x2038 0 16 1

/-! ## Snapshots at a node (R292, R297, R302, R303) -/

/-- Keep a record while isolated (R302): at most 2,730, the oldest overwritten and counted. -/
def State.holdRecord (s : State) (bs : List Byte) : State :=
  let full := decide (2730 ≤ s.sweep.held.length)
  let held := (if full then s.sweep.held.drop 1 else s.sweep.held) ++ [bs]
  let t := { s with sweep := { s.sweep with held := held } }
  (if full then t.addSat 0x2037 16 16 1 else t).setFld 0x2037 0 16 held.length

/-- A node with a route again goes back to live records (R303). -/
def State.rejoin (s : State) : State :=
  match s.sweep.plan with
  | some p =>
    if s.sweep.isolated && (s.route p.coll).isSome then
      { s with sweep := { s.sweep with isolated := false, holding := false, next := max s.sweep.next (s.firstSnap p) } }.sweepShow 2
    else s
  | none => s

/-- The record of the snapshot under way goes out (R295, R297, R302): into the collector's own buffer, into the store of an isolated node, or to the
collector. After the last one the sweep has ended (R289). -/
def State.shotOut (s : State) : State :=
  match s.sweep.shot with
  | none => s
  | some x =>
    let t := { s with sweep := { s.sweep with shot := none } }
    let u := if x.coll == t.fab.addr then
        match t.sweep.open_.find? (fun (y : Snapshot) => y.snap == BitVec.ofNat 16 x.snap) with
        | some y => t.snapPut y t.fab.addr (t.sweepRecord x false) false
        | none => t
      else if t.sweep.isolated then t.holdRecord (t.sweepRecord x true)
      else t.sendTo tyRecord x.coll (t.sweepRecord x false)
    match u.sweep.plan with
    | some p => if p.has u.sweep.next && !u.sweep.stop then u else u.sweepEnd
    | none => u

/-- The collector opens the snapshot that falls now, with its expected set (R287, R295). -/
def State.snapOpen (s : State) : State :=
  match s.sweep.collect with
  | none => s
  | some p =>
    if p.has s.sweep.cnext then
      let x : Snapshot := { snap := BitVec.ofNat 16 s.sweep.cnext, ts := p.ts s.sweep.cnext, scope := p.scope, records := [], changed := 0,
                            expected := (s.expectedSet s.fab.addr p.scope).filterMap fun (e : Node × Option (Nat × Nat)) => e.1.addr }
      let k := s.sweep.cnext + 1
      let t := { s with sweep := { s.sweep with open_ := s.sweep.open_ ++ [x], cnext := k } }
      if p.has k then t else ({ t with sweep := { t.sweep with collect := none } }.wr 0x2035 0)
    else s

/-- SNAPSHOT_TIME (R287, R289, R292, R295, R302): the collector opens a snapshot; a node that takes part begins its own, after the record of the one
before, if that still waits. An isolated node whose time is up takes none. -/
def snapshotTime (s : State) : State :=
  if !s.up then s
  else
    let s1 := (s.shotOut.rejoin).snapOpen
    match s1.sweep.plan with
    | none => s1.sweepShow s1.sweepState
    | some p =>
      let k := s1.sweep.next
      if s1.sweep.stop || !p.has k then s1.sweepEnd
      else if s1.sweep.isolated && !s1.sweep.holding then s1
      else
        (({ s1 with sweep := { s1.sweep with next := k + 1, shot := some (s1.shotBegin p k) } }).wr 0x2031 (BitVec.ofNat 32 (k % 65536))).sweepShow
          (if s1.sweep.isolated then 3 else 2)

/-- SWEEP_RECORD_SEND (R295, R297): at its slot the node sends its record, and the collector places its own. A record that still waits for its sweep
stays until that has come or one period has passed (R292). -/
def sweepRecordSend (s : State) : State :=
  match s.sweep.shot with
  | some x => if s.up && (x.status != 0 || decide (26 ≤ x.got) || decide (x.ts.toNat + x.period ≤ s.clk.fabric.toNat)) then s.shotOut else s
  | none => s

/-- SWEEP_ISOLATED (R302): no route to the collector for 1 ms. -/
def sweepIsolated (s : State) : State :=
  match s.sweep.plan with
  | some p =>
    if s.up && (s.route p.coll).isNone && !(p.coll == s.fab.addr) && !s.sweep.isolated then
      { s with sweep := { s.sweep with isolated := true, holding := true, heldSent := 0, heldTo := p.coll } }.sweepShow 3
    else s
  | none => s

/-- SWEEP_HOLD_EXPIRY (R302): after `fab.sweep.hold` the isolated node stops taking snapshots and keeps its store. -/
def sweepHoldExpiry (s : State) : State :=
  if s.sweep.isolated then { s with sweep := { s.sweep with holding := false } } else s

/-- R303: held records leave in the second half of each period, one per 100 µs. -/
def State.heldTurn (s : State) : Bool :=
  let half := match s.sweep.plan with
    | some p => decide (p.period.toNat ≤ 2 * ((s.clk.fabric - p.t0).toNat % p.period.toNat))
    | none => true
  half && decide (s.sweep.heldAt.toNat + 4000 ≤ s.clk.ref.toNat)

/-- HELD_RECORD_SEND (R303, R306): with a route again, the oldest held record goes to the collector; HELDDELIV when the store is empty. -/
def heldRecordSend (s : State) : State :=
  let t := s.rejoin
  match t.sweep.held with
  | bs :: rest =>
    if t.up && (t.route t.sweep.heldTo).isSome && t.heldTurn then
      let n := t.sweep.heldSent + 1
      let u := ({ t with sweep := { t.sweep with held := rest, heldSent := n, heldAt := t.clk.ref } }.sendTo tyRecord t.sweep.heldTo bs).setFld
        0x2037 0 16 rest.length
      if rest.isEmpty then
        { u with sweep := { u.sweep with heldSent := 0 } }.raise 58 (pack [(0, 16, min 0xFFFF n), (16, 16, u.fld 0x2037 16 16)])
      else u
    else t
  | [] => t

/-! ## Event snapshots (R304, R305) -/

/-- The sweep interval of the running table (R304). -/
def State.sweepInterval (s : State) : Nat :=
  if s.seq.phase == .watch then s.seq.wInt
  else
    let n := (enabled s.seq.active).foldl (fun a x => if x.1.sweep then a + x.1.count else a) 0
    if n = 0 then 0 else (quot (loopTicks s.seq.active s.lead) n).toNat

/-- A trigger that captures nothing is counted. -/
def State.snapLost (s : State) : State := s.addSat 0x2044 0 16 1

/-- Start the post-trigger fill with `left` sweeps to come. -/
def State.snapArm (s : State) (n left : Nat) (who : FAddr) (ev : BitVec 7) (fabric late : Bool) (time : DWord) : State :=
  { s with snap := { s.snap with slots := s.snap.slots.set n (.filling left s.snap.pos), trigger := some (who, ev, fabric, time), late := late } }

/-- The slot a trigger finds recording: none while one is filling or none is free (R304). -/
def State.armSlot (s : State) : Option Nat :=
  match s.recSlot with
  | some n => if nth s.snap.slots n .full == .free then some n else none
  | none => none

/-- SNAPSHOT_TRIGGER (R304, R305): a trigger that has arrived starts the fill of the recording slot, and is sent to the string with FABRIC. -/
def snapshotTrigger (event : BitVec 7) (s : State) : State :=
  if !(s.up && s.snap.due.contains event) then s
  else
    let s1 := { s with snap := { s.snap with due := s.snap.due.erase event } }
    let s2 := if s1.bit 0x2040 1 && s1.fab.valid then
        s1.sendAll tyRecord ([0x23, 0] ++ bytesBE 2 s1.fab.addr.toNat ++ [BitVec.ofNat 8 event.toNat] ++ bytesBE 8 s1.stamp.2.toNat)
      else s1
    match s2.armSlot with
    | none => s2.snapLost
    | some n => s2.snapArm n (1024 - s2.fld 0x2043 0 11) s2.srcAddr event false false s2.stamp.2

/-- The distance of two times. -/
def timeGap (a b : DWord) : Nat := (a - b).toInt.natAbs

/-- FABRIC_TRIGGER_RECEIVED (R305): a trigger of another node of the string; position PRE holds the sweep nearest its time. -/
def fabricTriggerReceived (sender : FAddr) (event : BitVec 7) (time : DWord) (s : State) : State :=
  let mate := s.fab.valid && sender.toNat / 64 == s.fab.addr.toNat / 64 && !(sender == s.fab.addr)
  if !(s.up && mate && s.bit 0x2040 0 && s.bit 0x2041 4) then s
  else
    let soon := match s.snap.lastFab with | some t => decide (s.clk.ref.toNat < t.toNat + 40000) | none => false
    if soon then s.snapLost
    else match s.armSlot with
      | none => s.snapLost
      | some n =>
        let pre := s.fld 0x2043 0 11
        let ts := s.snap.times
        let s1 := { s with snap := { s.snap with lastFab := some s.clk.ref } }
        let late := match ts.getLast? with | some o => decide (time.toNat < o.toNat) && decide (1 ≤ ts.length) | none => false
        if late then s1.snapArm n (1024 - ts.length) sender event true true time
        else
          let j := match least (ts.zipIdx.map fun x => (timeGap x.1 time, x.2)) with | some j => j | none => 0
          let ahead := match ts with | [] => true | t :: _ => decide (t.toNat < time.toNat) && decide (timeGap t time * 2 > s.sweepInterval * (s.fld 0x2042 0 16 + 1))
          s1.snapArm n (if ahead then 1024 - pre else 1023 - pre - j) sender event true false time

/-- R304: bring the sweeps of a slot into order: the oldest first. -/
def State.turnSlot (s : State) (n first : Nat) : State :=
  let lo := slotBase n + 32
  let len := 104 * 1024
  let cells := memPart s.mem lo (lo + len)
  let clear := cells.foldl (fun (t : State) c => t.stByte c.1 0) s
  cells.foldl (fun (t : State) c => t.stByte (lo + (c.1 - lo + len - 104 * first) % len) c.2) clear

/-- FREE (R304): a slot is released. -/
def State.slotFree (s : State) (n : Nat) : State :=
  let was := nth s.snap.slots n .free
  let t := { s with snap := { s.snap with slots := s.snap.slots.set n .free } }.setBit 0x2040 (4 + n) false
  match was with
  | .filling _ _ => { t with snap := { t.snap with trigger := none, late := false } }
  | _ => t

end Sys2Proof.Machine
end

