-- ==== Sys2Proof/Machine/Placement.lean ====
section
/-! DEFINITION. Floating jobs at work (R319 to R322), the records of jobs and their copies (R317, R318, R327, R328), and reading
records (R326, R329). -/
namespace Sys2Proof.Machine

/-! ## Checkpoints and moves (R319 to R322) -/

/-- This node hosts a job under a key. -/
def State.hosted (s : State) (key : JobKey) : Option Job := s.plc.jobs.find? fun j => j.key == key

/-- Change a job this node hosts. -/
def State.jobSet (s : State) (key : JobKey) (f : Job → Job) : State :=
  { s with plc := { s.plc with jobs := s.plc.jobs.map fun j => if j.key == key then f j else j } }

/-- A job leaves this node. -/
def State.jobDrop (s : State) (key : JobKey) : State :=
  ({ s with plc := { s.plc with jobs := s.plc.jobs.filter (fun j => !(j.key == key)),
                                soc := s.plc.soc.filter (fun x => !(key.kind == 2 && x.slot == key.slot)),
                                fits := s.plc.fits.filter fun x => !(key.kind == 3 && x.slot == key.slot) } }).plcShow

/-- R319: a new checkpoint goes into the half not in use; the other half stays in force until the CRC-32C of the new one has checked. -/
def Checkpoint.take (c : Checkpoint) (host : FAddr) (seq : Word) (ok : Bool) (body : JobBody) : Checkpoint :=
  let d := if c.inHalf1 then { c with half0 := some body } else { c with half1 := some body }
  if ok then { d with inHalf1 := !c.inHalf1, host := host, seq := seq } else d

/-- R319: store a checkpoint in the job's slot, or in a free one of the 16. -/
def State.ckptStore (s : State) (key : JobKey) (host : FAddr) (seq : Word) (ok : Bool) (body : JobBody) : State :=
  let l := s.plc.ckpts
  if l.any fun c => c.key == key then
    { s with plc := { s.plc with ckpts := l.map fun c => if c.key == key then c.take host seq ok body else c } }
  else if l.length < 16 then
    let c : Checkpoint := { key := key, host := host, seq := seq, half0 := none, half1 := none, inHalf1 := true }
    { s with plc := { s.plc with ckpts := l ++ [c.take host seq ok body] } }.plcShow
  else s

/-- The head of a JOB frame that carries a checkpoint: its last byte tells a handover before Hatbox or Guard from a rebalancing move (R330). -/
def State.ckptHead (s : State) (j : Job) : List Byte :=
  keyBytes j.key ++ bytesBE 2 s.fab.addr.toNat ++ bytesBE 4 j.seq.toNat
    ++ [BitVec.ofNat 8 (b2n (s.pwr.hatbox != .none || s.pwr.stopping || s.pwr.mode == .guard))]

/-- A checkpoint of a job here: the firmware's bytes, of a STATE job what it has counted (R327), of an IMPF job its measurement (R201). -/
def State.jobBody (s : State) (key : JobKey) (bytes : List Byte) : JobBody :=
  let fit := if key.kind == 3 then s.plc.fits.find? fun f => f.slot == key.slot else none
  match s.plc.soc.find? fun x => key.kind == 2 && x.slot == key.slot with
  | some x => ⟨bytes, x.charge, x.rows, none⟩
  | none => ⟨bytes, 0, [], fit⟩

/-- CHECKPOINT (R319, R320): at its instant a running job's checkpoint goes to the host and its other holders, or, where the job has been
placed elsewhere, to its new host, and the job pauses. In Guard after COREPACE no checkpoint is trusted, and the job restarts there. -/
def checkpoint (key : JobKey) (body : List Byte) (s : State) : State :=
  match s.hosted key with
  | none => s
  | some j =>
    if !(s.up && s.fab.valid) || j.paused || decide (8192 < body.length) then s
    else
      let hs := s.holders s.fab.addr
      match j.moving with
      | some a =>
        if s.pwr.gcause == 2 then (s.sendJob a 6 (keyBytes key ++ bytesBE 2 s.fab.addr.toNat) []).jobDrop key
        else ((s.ckptStore key s.fab.addr j.seq true (s.jobBody key body)).sendJob a 2 (s.ckptHead j) body).jobSet key fun x => { x with paused := true }
      | none =>
        (hs.filter fun a => !(a == s.fab.addr)).foldl (fun t a => t.sendJob a 1 (s.ckptHead j) body)
          (s.ckptStore key s.fab.addr j.seq true (s.jobBody key body))

/-- The string number and cost of a job that the goal table asks for. -/
def State.needOf (s : State) (key : JobKey) : Option (BitVec 6 × Nat) :=
  (s.jobNeeds.find? fun j => j.1 == key).map fun j => (BitVec.ofNat 6 (j.2.1.getD 0), j.2.2)

/-- R320: a job moves here with its checkpoint: it starts, its old host is answered, and JOBMOVE is raised (R330). -/
def State.jobArrives (s : State) (key : JobKey) (host : FAddr) (seq : Word) (guard : Bool) (body : JobBody) : State :=
  match s.needOf key with
  | none => s
  | some (str, cost) =>
    if (s.hosted key).isSome then s
    else
      let t := (((s.ckptStore key s.fab.addr seq true body).startJob key str cost seq false).takeBody key (some body)).plcShow
      ((t.sendJob host 4 (keyBytes key) []).addSat 0x210A 0 16 1).raise 61
        (pack [(0, 4, key.kind.toNat), (4, 5, key.slot.val), (9, 1, b2n guard), (16, 12, host.toNat)])

/-- JOB_FRAME (R317, R319, R320, R201): a checkpoint for this holder, a job that moves here, a copy of a record, the end of an impedance
measurement, a fit that asks for the phasors again, or a job to restart. -/
def jobFrame (m : JobMsg) (s : State) : State :=
  if !(s.up && s.fab.valid) then s
  else match m with
    | .checkpoint key host seq ok body => if body.bytes.length ≤ 8192 then s.ckptStore key host seq ok body else s
    | .move key host seq ok guard body => if ok && decide (body.bytes.length ≤ 8192) then s.jobArrives key host seq guard body else s
    | .copy r => s.recStore r
    | .release t0 => s.impRelease t0
    | .resend t0 host => s.impResend t0 host
    | .restart key host =>
      match s.needOf key with
      | some (str, cost) => if (s.hosted key).isSome then s else (s.restartJob key str cost host).plcShow
      | none => s

/-- JOB_MOVE_ACK (R320): the new host has answered, and the old host drops the job. -/
def jobMoveAck (key : JobKey) (host : FAddr) (s : State) : State :=
  match s.hosted key with
  | some j => if j.moving == some host && j.paused then s.jobDrop key else s
  | none => s

/-- JOB_MOVE_TIMEOUT (R322): the old host resumes the job from its own checkpoint, and it is placed again. -/
def jobMoveTimeout (key : JobKey) (s : State) : State :=
  match s.hosted key with
  | some j =>
    if j.moving.isSome && j.paused then
      let t := s.jobSet key fun x => { x with moving := none, paused := false }
      ({ t with plc := { t.plc with placed := t.plc.placed.map fun (p : Placed) => if p.key == key then { p with host := some s.fab.addr } else p } }).maquette
    else s
  | none => s

/-! ## Copies of records (R318) -/

/-- RECORD_COPY (R318): with a changed holder list of an owner, a remaining holder copies its records to the others, a node that dropped
out discards its copies, and REPLICALOW clears when the copies are restored. -/
def recordCopy (owner : FAddr) (s : State) : State :=
  if !(s.up && s.fab.valid) then s
  else
    let hs := s.holders owner
    let old := s.remaining owner
    let mine := s.plc.recs.filter fun r => r.owner == owner
    let others := s.plc.hold.filter fun h => !(h.1 == owner)
    if hs.contains s.fab.addr then
      let t0 := (hs.filter fun a => !(a == s.fab.addr) && !(old.contains a)).foldl (fun t a => mine.foldl (fun t r => t.sendRec a r) t) s
      let t := { t0 with plc := { t0.plc with hold := others ++ [(owner, hs)] } }
      if t.plc.low.contains owner && decide (s.nCopies ≤ hs.length) then
        let u := { t with plc := { t.plc with low := t.plc.low.erase owner } }
        if least (old.map fun a => (a.toNat, a)) == some s.fab.addr then u.raiseC 65 (s.lowData owner hs.length) true else u
      else t
    else
      { s with plc := { s.plc with recs := s.plc.recs.filter (fun r => !(r.owner == owner)), low := s.plc.low.erase owner, hold := others } }.recShow

/-! ## Reading records (R326, R329) -/

/-- A record of this node's store: the one with a SEQ, or the latest for SEQ 0 (R326). -/
def State.recFind (s : State) (kind : Byte) (owner : FAddr) (seq : Word) : Option Rec :=
  let l := s.plc.recs.filter fun r => r.kind == kind && r.owner == owner
  if seq = 0 then least (l.map fun r => (0xFFFFFFFF - r.seq.toNat, r)) else l.find? fun r => r.seq == seq

/-- The response of a record read (R326). -/
def recReply (r : Option Rec) (off : Nat) : List Word :=
  match r with
  | none => copies 8 0
  | some r =>
    [pack [(16, 1, b2n r.rerun), (0, 16, r.bytes.length)], r.seq]
      ++ (List.range 6).map fun i => BitVec.ofNat 32 (numBE (padTo 4 ((r.bytes.drop (off + 4 * i)).take 4)))

/-- R326: read from the reachable holder with the fewest hops: this node, or another to which the command is forwarded. -/
def State.readRecord (s : State) (src : Src) (r : Req) (chk : Check) (kind : Byte) (owner : FAddr) (seq : Word) (off : Nat) : State × Reply :=
  let hs := s.holders owner
  if hs.contains s.fab.addr || hs.isEmpty then
    let s1 := if chk = .transient then s.transient 1 1 else s
    if chk = .lasting then (s1.memFault true 6).fail stDataErr
    else (s1, .done stOk (recReply (s1.recFind kind owner seq) off))
  else
    match least (hs.filterMap fun a => (s.route a).map fun x => (x.2 * 4096 + a.toNat, a)) with
    | none => s.fail stNoRoute
    | some a => s.relayTo src r a a

/-- RECORD_READ (R326). -/
def recordRead (src : Src) (chk : Check) (s : State) : State :=
  s.serveCode src 0x42 fun s r =>
    if bitsOf r.a0 20 12 != 0 || bitsOf r.a2 16 16 != 0 || r.a3 != 0 then s.fail stBadValue
    else s.readRecord src r chk (BitVec.ofNat 8 (bitsOf r.a0 0 8)) (BitVec.ofNat 12 (bitsOf r.a0 8 12)) r.a1 (bitsOf r.a2 0 16)

/-- DIGEST_READ (R329). -/
def digestRead (src : Src) (chk : Check) (s : State) : State :=
  s.serveCode src 0x43 fun s r =>
    if bitsOf r.a1 16 16 != 0 || r.a2 != 0 || r.a3 != 0 then s.fail stBadValue
    else match s.anchor with
      | some a => s.readRecord src r chk 0x34 a r.a0 (bitsOf r.a1 0 16)
      | none => s.fail stNoRoute

/-! ## The records of jobs (R327, R328) -/

/-- The 16-byte header of a job's record (R327). -/
def recHead (kind : Byte) (rerun part : Bool) (owner : FAddr) (start : DWord) (interval cells : Nat) : List Byte :=
  [kind, BitVec.ofNat 8 (b2n rerun + 2 * b2n part)] ++ bytesBE 2 owner.toNat ++ bytesBE 8 start.toNat ++ bytesBE 2 interval
    ++ [BitVec.ofNat 8 cells, 0]

/-- The cells of a node of the Armature. -/
def State.cellsAt (s : State) (a : FAddr) : Nat := match nodeAt s.fab.nodes a with | some n => n.cells | none => 0

/-- The start of an interval that ends now. -/
def State.intervalStart (s : State) (interval : Nat) : DWord := s.clk.fabric - BitVec.ofNat 64 (interval * oneSecond)

/-- The body of an SRED record (R327): minimum, maximum and mean of each cell, in 0.1 mV; without a snapshot the spec states none. -/
def State.sredBody (s : State) (x : Sred) : List Byte :=
  (List.range 24).flatMap fun k =>
    let c := nth x.cells k (0, 0, 0)
    if x.count = 0 then (bytesBE 4 (Config.freeWord s.free).toNat).take 2 ++ bytesBE 4 (Config.freeWord (s.free + 1)).toNat
    else bytesBE 2 c.1.toNat ++ bytesBE 2 c.2.1.toNat ++ bytesBE 2 (quot c.2.2 x.count).toNat

/-- SoC in 0.01 % at a rest voltage in mV, from `plc.ocv0` to `plc.ocv15` by linear interpolation (R327, R331). A voltage below the first or above the
last point takes that point's (DESIGN CHOICE, log 119). -/
def State.ocvSoc (s : State) (mv : Nat) : Int :=
  let pt (i : Nat) : Nat × Nat := (s.fld (0x2120 + i) 16 16, s.fld (0x2120 + i) 0 16)
  match (List.range 16).find? fun i => decide (mv ≤ (pt i).1) with
  | some 0 => (pt 0).2
  | none => (pt 15).2
  | some i =>
    let a := pt (i - 1)
    let b := pt i
    a.2 + quot (((b.2 : Int) - a.2) * ((mv : Int) - a.1)) (b.1 - a.1)

/-- The rated capacity of a STATE goal in mA·s (R309). -/
def ratedCharge (g : Goal) : Nat := g.arg1.toNat * 360000

/-- SoC of a cell now in 0.01 % (R327): that of its last rest and the charge counted since. -/
def socNow (c : SocCell) (g : Goal) (charge : Int) : Option Int :=
  c.rest.map fun r => max 0 (min 10000 (r.1 + quot ((charge - r.2) * 10000) (ratedCharge g)))

/-- A rest ends (R327): SoC is reset from the table; SoH is the capacity between two rests at least 30 % apart, over the rated capacity. -/
def socAtRest (c : SocCell) (g : Goal) (charge soc : Int) : SocCell :=
  match c.from_ with
  | none => { c with rest := some (soc, charge), from_ := some (soc, charge) }
  | some f =>
    let d := soc - f.1
    if 3000 ≤ d.natAbs then
      let soh := (quot ((charge - f.2).natAbs * 100000000) (d.natAbs * ratedCharge g)).toNat
      { rest := some (soc, charge), from_ := some (soc, charge), soh := some soh }
    else { c with rest := some (soc, charge) }

/-- The body of a STATE record (R327): per cell SoC and SoH in 0.01 %, 0xFFFF not valid. -/
def socBody (r : SocRow) (g : Goal) (charge : Int) : List Byte :=
  (List.range 24).flatMap fun k =>
    let c := nth r.cells k ⟨none, none, none⟩
    bytesBE 2 (match socNow c g charge with | some v => v.toNat | none => 0xFFFF) ++ bytesBE 2 (match c.soh with | some v => min 0xFFFE v | none => 0xFFFF)

/-- A STATE job counts the charge of an interval and takes the rests that ended in it (R327). -/
def State.socStep (s : State) (g : Goal) (old : SocJob) (charge : Int) (rests : List RestIn) : SocJob :=
  let q := old.charge + charge
  let rows := (stringNodes s.fab.nodes g.string.toNat).filterMap fun n => n.addr.map fun a =>
    let row := match old.rows.find? fun r => r.node == a with | some r => r.cells | none => copies 24 ⟨none, none, none⟩
    let ends := match rests.find? fun r => r.node == a with | some r => r.cells | none => []
    (⟨a, (List.range 24).map fun k =>
      let c := nth row k ⟨none, none, none⟩
      match nth ends k none with
      | some mv => if decide (k < n.cells) then socAtRest c g q (s.ocvSoc mv) else c
      | none => c⟩ : SocRow)
  ⟨old.slot, q, rows⟩

/-- JOB_RECORD_INTERVAL (R317, R327): a STATE job counts the shunt node's charge of the interval in mA·s and writes the records of its string's nodes;
the collector writes those of a REDUCE goal. -/
def jobRecordInterval (slot : Fin 32) (charge : Int) (rests : List RestIn) (s : State) : State :=
  match nth s.plc.goals slot.val none with
  | none => s
  | some g =>
    if !(s.up && s.fab.valid) then s
    else if g.kind == 4 then
      let key : JobKey := ⟨2, slot⟩
      match s.hosted key with
      | none => s
      | some j =>
        if j.paused then s
        else
          let iv := g.arg2.toNat
          let old := (s.plc.soc.find? fun x => x.slot == slot).getD ⟨slot, 0, []⟩
          let new := s.socStep g old charge rests
          let rec_ (r : SocRow) : Rec :=
            { kind := 0x31, owner := r.node, seq := s.jobSeq j 0x31 r.node, rerun := j.rerun,
              bytes := recHead 0x31 j.rerun false r.node (s.intervalStart iv) iv (s.cellsAt r.node) ++ socBody r g new.charge }
          let s1 := { s with plc := { s.plc with soc := (s.plc.soc.filter fun x => !(x.slot == slot)) ++ [new] } }
          let t := new.rows.foldl (fun (t : State) r => t.recSpread (rec_ r)) s1
          t.jobWrote key (new.rows.foldl (fun m r => let n := s.jobSeq j 0x31 r.node; if m.toNat < n.toNat then n else m) j.seq)
    else if g.kind == 5 then
      let iv := g.arg1.toNat
      let t := (s.plc.sred.filter fun x => x.slot == slot).foldl (fun (t : State) x =>
        (t.recSpread { kind := 0x30, owner := x.node, seq := x.seq, rerun := false,
                       bytes := recHead 0x30 false x.part x.node (s.intervalStart iv) iv (s.cellsAt x.node) ++ s.sredBody x })) s
      let used := if s.plc.sred.any fun x => x.slot == slot && x.count == 0 then 2 else 0
      { t with free := t.free + used
               plc := { t.plc with sred := t.plc.sred.map fun x =>
                 if x.slot == slot then { x with cells := [], count := 0, part := false, seq := x.seq + 1 } else x } }
    else s

/-- The bytes of a DIGEST record (R328): what the node's state gives, the body of counts, string blocks and event lines, and the CRC. -/
def State.digestBytes (s : State) (seq : Word) (rerun : Bool) (body : List Byte) : List Byte :=
  let part := (addressed s.fab.nodes).any fun n => !n.present || (s.route (n.addr.getD noAddr)).isNone && !(n.topo.serial == s.serial)
  let lost := ((addressed s.fab.nodes).filter (·.lost)).length
  let head : List Byte := [0x34, BitVec.ofNat 8 (1 + 16 * b2n rerun + 32 * b2n part)] ++ bytesBE 2 (s.anchor.getD noAddr).toNat ++ bytesBE 4 seq.toNat
    ++ bytesBE 8 s.clk.fabric.toNat ++ bytesBE 2 (addressed s.fab.nodes).length
    ++ [BitVec.ofNat 8 (min 255 lost), BitVec.ofNat 8 (min 255 (quarantined s.fab.nodes).length)]
  sealed (head ++ body)

/-- A string block of the digest (R328). -/
def digestStringBytes (b : DigestString) : List Byte :=
  [BitVec.ofNat 8 b.string.toNat, BitVec.ofNat 8 b.present] ++ bytesBE 2 b.low ++ bytesBE 2 b.high
    ++ [BitVec.ofNat 8 (match b.soc with | some v => min 254 v | none => 255), BitVec.ofNat 8 (match b.soh with | some v => min 254 v | none => 255)]
    ++ bytesBE 2 (satField 16 b.temp) ++ [BitVec.ofNat 8 (min 255 b.spread), BitVec.ofNat 8 b.flags.toNat]

/-- An event line of the digest (R328). -/
def digestEventBytes (e : DigestEvent) : List Byte :=
  [BitVec.ofNat 8 e.num.toNat, BitVec.ofNat 8 (min 255 e.count)] ++ bytesBE 2 e.minute ++ bytesBE 2 e.src.toNat ++ bytesBE 2 e.data.toNat

/-- The event lines (R328): class F, BROWNOUT, BOOTSLOT, OWNERCHANGE, REPLICALOW and CAPACITY; faults first, then by count, then by number; 24 at
most. -/
def digestLines (es : List DigestEvent) : List DigestEvent :=
  (sortKey (fun (e : DigestEvent) => (if e.num.toNat ∈ faultEvents then 0 else 2 ^ 40) + (2 ^ 32 - min (2 ^ 32) e.count) * 128 + e.num.toNat)
    (es.filter fun e => decide (e.num.toNat ∈ faultEvents) || decide (e.num.toNat ∈ [8, 9, 90, 65, 63]))).take 24

/-- A digest's record from byte 20 (R328): m, e, the counts of the period, the string blocks in ascending string number and the event lines. -/
def digestBody (d : DigestIn) : List Byte :=
  let strs := sortKey (fun (b : DigestString) => b.string.toNat) d.strings
  let lines := digestLines d.events
  [BitVec.ofNat 8 strs.length, BitVec.ofNat 8 lines.length, BitVec.ofNat 8 (min 255 d.resets), 0] ++ bytesBE 2 (min 0xFFFF d.lost)
    ++ bytesBE 2 (min 0xFFFF d.partial_) ++ [0, 0, 0, 0] ++ strs.flatMap digestStringBytes ++ lines.flatMap digestEventBytes

/-- DIGEST_CLOSE (R328, R330): the digest host closes the record of a period. -/
def digestClose (slot : Fin 32) (d : DigestIn) (s : State) : State :=
  let key : JobKey := ⟨6, slot⟩
  match s.hosted key, s.anchor with
  | some j, some a =>
    if !(s.up && s.fab.valid) || j.paused || decide (64 < d.strings.length) then s
    else
      let seq := s.jobSeq j 0x34 a
      let bs := s.digestBytes seq j.rerun (digestBody d)
      let t := (s.recSpread { kind := 0x34, owner := a, seq := seq, rerun := j.rerun, bytes := bs }).jobWrote key seq
      t.raise 64 (pack [(0, 16, seq.toNat), (16, 10, bs.length), (26, 1, b2n j.rerun), (27, 1, b2n ((nth bs 1 0).getLsbD 5))])
  | _, _ => s

/-- The result words of one channel in some sweeps of a frozen slot. -/
def State.slotWords (s : State) (n lo count c : Nat) : List Word :=
  (List.range count).map fun k => s.ldWord (slotBase n + 32 + 104 * (lo + k) + 4 * c)

/-- The body of a SNAPC record (R327): the capture header, then per channel the first word and the coded differences of the rest. -/
def State.snapcBody (s : State) (n lo count : Nat) : List Byte :=
  s.ldBytes (slotBase n) 32 ++ (List.range 26).flatMap fun c =>
    let ws := s.slotWords n lo count c
    wordsBE (ws.take 1) ++ Config.rice ws

/-- The SNAPC job of the string (R309, R313, R327): a frozen capture becomes a record on its node, and its slot is freed. -/
def State.snapc (s : State) (n : Nat) : State :=
  match s.me with
  | none => s
  | some me =>
    let out := (s.pinsOn me).2
    let on := s.goalList.any fun g => g.2.kind == 6 && g.2.string.toNat == me.str && !(out.contains g.1)
    if !(on && s.fab.valid && s.pwr.mode == .run) then s
    else
      let a := s.fab.addr
      let start : DWord := BitVec.ofNat 64 (numBE (s.ldBytes (slotBase n + 16) 8))
      let all := s.snapcBody n 0 1024
      let long := decide (65535 < 16 + all.length)
      let pre := s.fld 0x2043 0 11
      let body := if long then s.snapcBody n (pre - 128) (min 256 (1024 - (pre - 128))) else all
      let head := (recHead 0x33 false false a start 0 s.cells).set 1 (BitVec.ofNat 8 (4 * b2n long))
      (s.recSpread { kind := 0x33, owner := a, seq := s.nextSeq 0x33 a, rerun := false, bytes := head ++ body }).slotFree n

/-- SNAPSHOT_FROZEN (R304, R306, R327): the slot whose last sweep is written freezes, with its header; a SNAPC goal reads it. -/
def snapshotFrozen (s : State) : State :=
  match s.recSlot, s.snap.trigger with
  | some n, some (who, ev, fab, time) =>
    match nth s.snap.slots n .full with
    | .filling 0 _ =>
      let head := bytesBE 4 0x534E4150 ++ bytesBE 2 who.toNat ++ [BitVec.ofNat 8 ev.toNat, BitVec.ofNat 8 (b2n fab + 2 * b2n s.snap.late)]
        ++ bytesBE 8 time.toNat ++ bytesBE 8 (s.snap.times.getLast?.getD 0).toNat ++ bytesBE 2 (s.fld 0x2042 0 16)
        ++ bytesBE 2 (s.fld 0x2043 0 11) ++ bytesBE 4 s.sweepInterval
      let t := (s.turnSlot n s.snap.pos).stBytes (slotBase n) head
      let u := { t with snap := { t.snap with slots := t.snap.slots.set n .full, pos := 0, skip := 0, put := none, times := [], trigger := none,
                                              late := false } }
      let u := (u.setBit 0x2040 (4 + n) true).raise 59
        (pack [(0, 1, n), (1, 1, b2n fab), (2, 1, b2n s.snap.late), (8, 7, ev.toNat), (16, 12, who.toNat)])
      u.snapc n
    | _ => s
  | _, _ => s

end Sys2Proof.Machine
end

