-- ==== Sys2Proof/Machine/Memory.lean ====
section
/-! DEFINITION. Parity faults of the link buffers (R412), eDRAM refresh and its loss (R413 to R416), MRAM page writes (R418, R419, R339), the event log (R423), the key check and
attestation (R427, R428), and the acceptance of a newcomer (R432). -/
namespace Sys2Proof.Machine

/-! ## Reads that fail (R20, R412) -/

/-- LINK_ACK_TIMEOUT (R266): no ACK within 6 µs of the frame's EOF. Where a lasting parity fault of the link buffer cut the frame off with ABORT (R412), it
is counted lost and not repeated, and the buffer's row block in SRAM bank 15 is repaired. -/
def linkAckTimeout (p : Fin 4) (lseq : Byte) (chk : Check) (s : State) : State :=
  if s.portUp p then
    match chk with
    | .pass => s.linkFail p lseq
    | .transient => (s.transient 0 1).linkFail p lseq
    | .lasting => (s.linkLost p lseq).memFault false 15
  else s

/-- What a read of a record in MRAM meets: a transient is counted (R20). -/
def State.nvRead (s : State) (chk : Check) : State := if chk = .transient then s.transient 2 1 else s

/-- What start-up met at an MRAM record of `n` bytes (R20, R58): the pages whose read failed, by address. -/
def nvMet (met : List (Nat × Check)) (a n : Nat) : Check :=
  match met.find? fun x => decide (a ≤ x.1) && decide (x.1 < a + n) with | some x => x.2 | none => .pass

/-- The transients of start-up's reads (R20). -/
def State.nvMetCount (s : State) (met : List (Nat × Check)) : State :=
  let n := (met.filter fun x => x.2 == .transient).length
  if n = 0 then s else s.transient 2 n

/-- The sequence number of a record whose read met what start-up met: a lasting fault makes it absent (R20). -/
def State.recordMet (s : State) (met : List (Nat × Check)) (magic a n : Nat) : Option Nat :=
  if nvMet met a n = .lasting then none else s.recordSeq magic a n

/-! ## eDRAM (R413 to R416) -/

/-- EDRAM_REFRESH (R413, R415): the next row group is refreshed; in Hatbox one or four groups at each slow tick. -/
def edramRefresh (s : State) : State :=
  let n := match s.pwr.mode with
    | .run | .watch | .guard | .start => 1
    | .hatbox => if s.bit 0x4000 1 then 4 else 1
    | .off => 0
  { s with therm := { s.therm with row := (s.therm.row + n) % 512 } }

/-- The words an eDRAM stream holds are lost (R416). -/
def State.streamEmpty (s : State) (n : Nat) : State :=
  if s.bit (streamId n) 0 && s.bit (streamId n) 1 then
    let f := s.fill n
    ((s.wr (streamId n + 4) (s.rd (streamId n + 3))).streamLose n f).watermark n
  else s

/-- R416: every eDRAM region is lost. -/
def State.edramLost (s : State) : State :=
  let t := (List.range 8).foldl State.streamEmpty s
  let u := ((t.slotFree 0).slotFree 1)
  let n := u.sweep.held.length
  let v := (({ u with snap := { u.snap with pos := 0, skip := 0, put := none, times := [] }
                      sweep := { u.sweep with held := [] }
                      plc := { u.plc with recs := [], ckpts := [] } }.setFld 0x2037 0 16 0).addSat 0x2037 16 16 n)
  (v.recShow).plcShow

/-- EDRAM_REFRESH_LATE (R416, R433): row groups were not refreshed in time; in Hatbox the event waits for the wake. -/
def edramRefreshLate (groups : Nat) (s : State) : State :=
  if s.awake || s.pwr.mode == .hatbox then
    let t := (((s.edramLost).setBit 0x4000 2 true).addSat 0x4002 16 16 1).addSat 0x4002 0 16 groups
    if s.pwr.mode == .hatbox then
      { t with therm := { t.therm with lateGroups := some (match t.therm.lateGroups with | some (g, b) => (g + groups, b) | none => (groups, true)) } }
    else t.raise 95 (BitVec.ofNat 32 (min 511 groups))
  else s

/-- The refresh interval without an event: `mem.edram.ref` and EDFAST (R434). -/
def State.refreshSet (s : State) (fast : Bool) : State := (s.setBit 0x4000 1 fast).setFld 0x4001 0 16 (if fast then 4000 else 16000)

/-- HATBOX_REFRESH_COMPARATOR_READ (R415): one comparator that has tripped selects 4 ms; three readings with every one released, 16 ms. -/
def hatboxRefreshComparatorRead (tripped : BitVec 6) (s : State) : State :=
  if s.pwr.mode == .hatbox then
    let live := tripped &&& ~~~ (BitVec.ofNat 6 (s.fld 0x3000 8 6))
    if live != 0 then { s with therm := { s.therm with released := 0 } }.refreshSet true
    else
      let n := s.therm.released + 1
      let t := { s with therm := { s.therm with released := n } }
      if 3 ≤ n then t.refreshSet false else t
  else s

/-! ## Page writes (R418, R419) -/

/-- Region and page of an MRAM address (R16, R433). -/
def nvRegion (a : Nat) : Nat × Nat :=
  if a < 0x20060000 then (0, (a - 0x20000000) / 128)
  else if a < 0x200C0000 then (1, (a - 0x20060000) / 128)
  else if a < 0x200C2000 then (2, (a - 0x200C0000) / 128)
  else if a < 0x200C3000 then (3, (a - 0x200C2000) / 128)
  else if a < 0x200D3000 then (4, (a - 0x200C3000) / 128)
  else if a < 0x200E3000 then (5, (a - 0x200D3000) / 128)
  else (6, (a - 0x200E3000) / 128)

/-- SECVER of the running image (R62, R434). -/
def State.secRunning (s : State) : Nat := if s.bit 0x0108 8 then s.fld 0x4011 16 16 else s.fld 0x4011 0 16

/-- A CAL_COMMIT record is whole: what `pat.commit.*` shows of it (R179, R184). -/
def State.calStored (s : State) (bank : Bool) : State :=
  let w (k : Nat) : Word := s.ldWord (calBank bank + 4 * k)
  let t := { s with pat := { s.pat with commit := none } }
  let u := (((t.wr 0x1303 (w 1)).wr 0x1304 (w 3)).wr 0x1305 (w 2)).wr 0x1306
    (pack [(4, 1, b2n ((w 4).getLsbD 4)), (3, 1, b2n bank), (0, 2, bitsOf (w 4) 0 2)])
  u.raise 31 (pack [(0, 1, b2n bank), (8, 24, bitsOf (w 1) 0 24)])

/-- The last page of a job is written and verified: its command completes (R84, R94, R179). -/
def State.nvFinish (s : State) (job : NvJob) : State :=
  match job with
  | .log | .goals | .armature | .scan => s
  | .string src => match src with | some c => s.complete c stOk [] | none => s
  | .cfg bank src => (s.raise 12 (BitVec.ofNat 32 (b2n bank))).complete src stOk [BitVec.ofNat 32 (b2n bank)]
  | .cal bank src => (s.calStored bank).complete src stOk [BitVec.ofNat 32 (b2n bank)]
  | .slot _ src =>
    let next := match s.running src with
      | some r => if r.code = 0x71 then s.setFld 0x020F 0 20 (r.a0.toNat + 12) else s
      | none => s
    next.complete src stOk []
  | .boot src =>
    let t := (s.setFld 0x0108 0 2 (b2n s.nv.fwTarget)).complete src stOk []
    { t with pwr := { t.pwr with resetDue := some 5 } }
  | .rollback src =>
    let old := s.fld 0x4010 0 16
    let new := s.secRunning
    ((s.setFld 0x4010 0 16 new).raise 93 (pack [(0, 16, new), (16, 16, old)])).complete src stOk []

/-- A job ends without success: the command that asked for it reports a status (R339, R419). -/
def State.nvStop (s : State) (job : NvJob) (status : Byte) : State :=
  match job with
  | .log | .goals | .armature | .scan => s
  | .string src => match src with | some c => s.complete c status [] | none => s
  | .cfg _ src => s.complete src status []
  | .cal _ src => { s with pat := { s.pat with commit := none } }.complete src status []
  | .slot _ src => s.complete src status []
  | .boot src => s.complete src status []
  | .rollback src => s.complete src status []

/-- The queue once a page of a job is written (R13, R418): the other requesters of the write port are served before that job's next page. -/
def nvTurn (job : NvJob) (rest : List NvWrite) : List NvWrite := (rest.filter fun x => !(x.job == job)) ++ rest.filter fun x => x.job == job

/-- Commands of several pages stop at an orderly stop (R339). -/
def NvJob.multi : NvJob → Bool
  | .cfg _ _ | .cal _ _ | .slot _ _ => true
  | .log | .string _ | .goals | .armature | .boot _ | .rollback _ | .scan => false

/-- NV_PAGE_WRITE_DONE (R418, R419, R339): the page under way is verified; a lasting failure leaves its previous content. While an orderly
stop holds page writes back, only the page under way completes. -/
def nvPageWriteDone (chk : Check) (s : State) : State :=
  match s.nv.queue with
  | [] => s
  | w :: rest =>
    if !s.awake || (s.nv.hold && s.nv.drained) then s
    else
      let s0 := { s with nv := { s.nv with queue := nvTurn w.job rest, drained := s.nv.hold } }
      if chk = .lasting then
        let reg := nvRegion w.addr
        let s1 := ({ s0 with nv := { s0.nv with queue := s0.nv.queue.filter fun x => w.last || !(x.job == w.job) } }.addSat 0x4004 0 16 1).raise 89
          (pack [(0, 4, reg.1), (4, 12, reg.2)])
        let s2 := match w.job with
          | .cal bank _ => s1.raise 32 (pack [(0, 1, b2n bank), (8, 8, (w.addr - calBank bank) / 128)])
          | .log | .cfg _ _ | .string _ | .goals | .armature | .slot _ _ | .boot _ | .rollback _ | .scan => s1
        s2.nvStop w.job stNvFail
      else
        let s1 := (s0.stBytes w.addr w.data).addWord 0x4003 1
        let s2 := if chk = .transient then s1.transient 3 1 else s1
        if w.last then s2.nvFinish w.job
        else if s.nv.hold && w.job.multi then
          { s2 with nv := { s2.nv with queue := s2.nv.queue.filter fun x => !(x.job == w.job) } }.nvStop w.job stRefused
        else s2

/-! ## The event log (R423) -/

/-- LOG_READ (R423). `chk` is what the read meets in MRAM: an entry that cannot be read counts as absent (R20). -/
def logRead (src : Src) (chk : Check) (s0 : State) : State :=
  s0.serveCode src 0x62 fun s r =>
    let newest := (s.rd 0x4008).toNat
    let oldest := (s.rd 0x4009).toNat
    let n := if r.a0 = 0 then oldest else if r.a0 = 0xFFFFFFFF then newest else r.a0.toNat
    if r.a1 != 0 || r.a2 != 0 || r.a3 != 0 || n = 0 || n < oldest || newest < n then s.fail stBadValue
    else
      let bs := s.ldSoon (logBase + 32 * ((n - 1) % 2048)) 32
      let word (k : Nat) : Word := BitVec.ofNat 32 (numBE ((bs.drop (4 * k)).take 4))
      let tail := [BitVec.ofNat 32 oldest, BitVec.ofNat 32 newest]
      if chk != .lasting && sealedOk bs && word 4 == BitVec.ofNat 32 n then
        (s.nvRead chk, .done stOk ([word 0, word 1, word 2, word 3, BitVec.ofNat 32 n, pack [(0, 16, bitsOf (word 5) 16 16)]] ++ tail))
      else (s, .done stOk ([0, 0, 0, 0, BitVec.ofNat 32 n, pack [(16, 1, 1)]] ++ tail))

/-! ## The identity (R427, R428, R432) -/

/-- KEY_CHECK (R427): once per reset, after Ready. -/
def keyCheck (chk : Check) (cause : Fin 3) (s : State) : State :=
  if s.up && !s.bit 0x4000 4 then
    let t := (s.setBit 0x4000 4 true).setBit 0x4000 3 (chk != .lasting)
    if chk = .lasting then t.raise 94 (BitVec.ofNat 32 cause.val)
    else if chk = .transient then t.transient (if cause = 0 then 2 else 5) 1
    else t
  else s

/-- The 64 bytes of the statement (R428). -/
def State.statement (s : State) (r : Req) : List Byte :=
  bytesBE 4 0x41545354 ++ bytesBE 8 s.serial.toNat ++ wordsBE [r.a0, r.a1, r.a2, s.idRev]
    ++ bytesBE 2 s.secRunning ++ bytesBE 2 (s.fld 0x4010 0 16) ++ bytesBE 8 s.stamp.2.toNat ++ wordsBE [s.nodeAddr]
    ++ bytesBE 2 (s.fld 0x4012 0 16) ++ [BitVec.ofNat 8 (s.fld 0x0102 0 6), BitVec.ofNat 8 (s.fld 0x0108 8 2)]
    ++ (padTo 16 s.nv.digest).take 16

/-- 32 bytes as the eight response words. -/
def wordsOf32 (bs : List Byte) : List Word :=
  (List.range 8).map fun i => BitVec.ofNat 32 (numBE ((padTo 32 bs).drop (4 * i) |>.take 4))

/-- ATTEST (R428): PART 0 builds and signs the statement; PART 1 to 7 return its parts, the key and the certificate. -/
def attest (src : Src) (r s' : BitVec 256) (s : State) : State :=
  s.serveCode src 0x60 fun s q =>
    let part := bitsOf q.a3 0 3
    let factory := Config.factory s.serial
    if bitsOf q.a3 3 29 != 0 || (part != 0 && (q.a0 != 0 || q.a1 != 0 || q.a2 != 0)) then s.fail stBadValue
    else if !s.bit 0x4000 3 then s.fail stRefused
    else if part = 0 then
      let x := (s.statement q, bytesBE 32 r.toNat, bytesBE 32 s'.toNat)
      ({ s with nv := { s.nv with attest := some x } }, .done stOk (wordsOf32 x.2.1))
    else if 4 ≤ part then (s, .done stOk (wordsOf32 ((factory.drop (32 * (part - 4))).take 32)))
    else match s.nv.attest with
      | none => s.fail stRefused
      | some x => (s, .done stOk (wordsOf32 (if part = 1 then x.2.2 else (x.1.drop (32 * (part - 2))).take 32)))

/-- OWNER_ACCEPT (R432). -/
def ownerAccept (src : Src) (s : State) : State :=
  s.serveCode src 0x61 fun s r =>
    let a : FAddr := BitVec.ofNat 12 (bitsOf r.a0 0 12)
    let serial : DWord := BitVec.ofNat 64 (r.a1.toNat + 2 ^ 32 * r.a2.toNat)
    if bitsOf r.a0 12 20 != 0 || r.a3 != 0 then s.fail stBadValue
    else match nodeAt s.fab.nodes a with
      | none => s.fail stNoRoute
      | some n =>
        if !n.pending then s.fail stRefused
        else if !(n.topo.serial == serial) then s.fail stBadValue
        else ((s.floodTopo (.accept a serial)).takeAccept a serial, .done stOk [])

end Sys2Proof.Machine
end

