-- ==== Sys2Proof/Machine/Params.lean ====
section
/-! DEFINITION. Reading and writing parameters (R79 to R84, R323 to R325, R452): what a read shows, the checks of R81 in their
order, what a write sets off, the staging set, and the saved configuration. -/
namespace Sys2Proof.Machine

/-! ## What a read shows -/

/-- One of the four window words of an entry (R161). -/
def Entry.word (e : Entry) : Nat → Word
  | 0 => e.mask0
  | 1 => e.mask1
  | 2 => e.ctrl
  | _ => e.delay

/-- An entry with one of its window words replaced. -/
def Entry.put (e : Entry) (k : Nat) (w : Word) : Entry :=
  match k with
  | 0 => { e with mask0 := w }
  | 1 => { e with mask1 := w }
  | 2 => { e with ctrl := w }
  | _ => { e with delay := w }

/-- The entry `seq.sel` selects (R161). -/
def State.selEntry (s : State) : Entry :=
  nth (if s.bit 0x1210 6 then s.seq.active else s.seq.pending) (s.fld 0x1210 0 6) noEntry

/-- `plc.job.info` (R331) of the job that `plc.job.sel` selects. -/
def State.jobInfo (s : State) : Word :=
  match s.plc.jobs[s.fld 0x2118 0 4]? with
  | none => pack [(4, 6, 0x3F)]
  | some j => pack [(25, 1, b2n j.moving.isSome), (24, 1, b2n j.rerun), (16, 8, j.cost), (10, 6, j.str.toNat), (4, 6, j.key.slot.val),
      (0, 4, j.key.kind.toNat)]

/-- `chisel.res` to `chisel.last.hi` (R410) of the slice that `chisel.sel` selects. -/
def State.sliceWord (s : State) (k : Nat) : Word :=
  let i := s.fld 0x3210 0 6
  let x := s.slice i
  match k with
  | 0 => pack [(30, 2, x.result.toNat), (29, 1, b2n x.retired), (24, 3, x.notruns), (16, 8, min 255 (s.sliceSteps i)), (8, 8, x.count)]
  | 1 => pack [(16, 16, (sliceSig (copies (s.sliceSteps i) 0)).toNat), (0, 16, x.sig.toNat)]
  | 2 => BitVec.ofNat 32 x.time.toNat
  | _ => BitVec.ofNat 32 (x.time.toNat / 2 ^ 32)

/-- `sf.tf.peer` (R388) of the node that `sf.tf.sel` selects. -/
def State.peerWord (s : State) : Word :=
  match s.safe.peers.find? fun p => p.addr.toNat == s.fld 0x312C 0 12 with
  | none => 0
  | some p => pack [(31, 1, 1), (30, 1, b2n p.upOk), (29, 1, b2n p.downOk), (28, 1, b2n (p.watchUp != p.watchDown)),
      (16, 4, p.cause.toNat), (0, 16, p.state.toNat)]

/-- `mem.pend.addr` to `mem.pend.old.hi` (R434) of the position that `mem.pend.sel` selects. -/
def State.pendWord (s : State) (k : Nat) : Word :=
  match s.pendings[s.fld 0x4019 0 8]? with
  | none => 0
  | some n =>
    let a := n.addr.getD 0
    let new := n.topo.serial.toNat
    let old := ((s.cachedSerial a).getD 0).toNat
    match k with
    | 0 => pack [(12, 1, 1), (0, 12, a.toNat)]
    | 1 => BitVec.ofNat 32 new
    | 2 => BitVec.ofNat 32 (new / 2 ^ 32)
    | 3 => BitVec.ofNat 32 old
    | _ => BitVec.ofNat 32 (old / 2 ^ 32)

/-- The value a read of a parameter returns (R81, R82): most are held as words; windows and clocks are computed. -/
def State.shown (s : State) (id : Nat) : Word :=
  match id with
  | 0x0100 => s.sysState
  | 0x1507 => BitVec.ofNat 32 s.budget
  | 0x1211 => s.selEntry.word 0
  | 0x1212 => s.selEntry.word 1
  | 0x1213 => s.selEntry.word 2
  | 0x1214 => s.selEntry.word 3
  | 0x2007 => BitVec.ofNat 32 s.clk.fabric.toNat
  | 0x2008 => BitVec.ofNat 32 (s.clk.fabric.toNat / 2 ^ 32)
  | 0x2021 => nth s.armWords 0 0
  | 0x2022 => nth s.armWords 1 0
  | 0x2023 => nth s.armWords 2 0
  | 0x2024 => nth s.armWords 3 0
  | 0x2111 => nth (s.goalWords (Fin.ofNat 32 (s.fld 0x2110 0 5))) 0 0
  | 0x2112 => nth (s.goalWords (Fin.ofNat 32 (s.fld 0x2110 0 5))) 1 0
  | 0x2113 => nth (s.goalWords (Fin.ofNat 32 (s.fld 0x2110 0 5))) 2 0
  | 0x2114 => nth (s.goalWords (Fin.ofNat 32 (s.fld 0x2110 0 5))) 3 0
  | 0x2119 => s.jobInfo
  | 0x3211 => s.sliceWord 0
  | 0x3212 => s.sliceWord 1
  | 0x3213 => s.sliceWord 2
  | 0x3214 => s.sliceWord 3
  | 0x312D => s.peerWord
  | 0x401A => s.pendWord 0
  | 0x401B => s.pendWord 1
  | 0x401C => s.pendWord 2
  | 0x401D => s.pendWord 3
  | 0x401E => s.pendWord 4
  | _ => s.rd id

/-- Whether an ID lies in a timer unit's parameters: the unit, and the place in it (R256). -/
def timerPlace (id : Nat) : Option (Nat × Nat) := if 0x1610 ≤ id ∧ id < 0x1690 then some ((id - 0x1610) / 16, (id - 0x1610) % 16) else none

/-- The stream an ID belongs to, and the place in it (R144). -/
def streamPlace (id : Nat) : Option (Nat × Nat) := if 0x1110 ≤ id ∧ id < 0x1150 then some ((id - 0x1110) / 8, (id - 0x1110) % 8) else none

/-- What a read changes: RC fields clear (R67), a lower count latches the upper half (R250), a captured value is read (R245). -/
def State.readEffect (s : State) (id : Nat) : State :=
  let rcm := maskOf ((fieldsOf id).getD []) fun f => f.acc == .rc
  let s1 := if rcm = 0 then s else s.wr id ((s.rd id &&& ~~~ rcm) ||| (resetParam id &&& rcm))
  match timerPlace id with
  | none => s1
  | some (u, k) =>
    if k = 3 then (if s1.chainedLow u then s1.wr (tid (u + 1) + 4) (s1.count (u + 1)) else s1)
    else if 8 ≤ k ∧ k % 2 = 1 then (if s1.chMode u ((k - 8) / 2) == 2 then s1.setBit (tid u + 6) (20 + (k - 8) / 2) false else s1)
    else s1

/-! ## The value a write gives -/

/-- Put a value under a key. -/
def keyPut (l : List (Nat × Word)) (id : Nat) (v : Word) : List (Nat × Word) := l.filter (fun x => !(x.1 == id)) ++ [(id, v)]

/-- The value under a key. -/
def keyGet (l : List (Nat × Word)) (id : Nat) : Option Word := (l.find? fun x => x.1 == id).map (·.2)

/-- A calibration value (R164 to R166, R171, R185). -/
def isCal (id : Nat) : Bool := decide (0x1320 ≤ id) && decide (id ≤ 0x13F3)

/-- The value a masked write builds on: of a calibration value the latest one written, of the entry window the entry selected. -/
def State.baseOf (s : State) (id : Nat) : Word :=
  if isCal id then ((keyGet s.pat.held id).orElse fun _ => keyGet s.pat.due id).getD (s.rd id)
  else if 0x1211 ≤ id ∧ id ≤ 0x1214 then s.selEntry.word (id - 0x1211)
  else s.rd id

/-- The whole value after a write (R81): masked RW bits written, masked 1s of W1C fields cleared; WO fields hold nothing. LOAD reads 1
until the load ends (R161). -/
def State.merged (s : State) (id : Nat) (fs : List Field) (value mask : Word) : Word :=
  let rwm := maskOf fs fun f => f.acc == .rw
  let w1 := maskOf fs fun f => f.acc == .w1c
  let old := s.baseOf id
  let v := ((old &&& ~~~ (mask &&& rwm)) ||| (value &&& mask &&& rwm)) &&& ~~~ (value &&& mask &&& w1)
  if id = 0x1200 then v ||| (old &&& 2) else v

/-- Keep a value where a write of it waits or takes force: calibration values wait (R177), the window writes the pending bank (R154). -/
def State.store (s : State) (id : Nat) (v : Word) : State :=
  if isCal id then
    if s.bit 0x1300 1 then { s with pat := { s.pat with held := keyPut s.pat.held id v } }.setBit 0x1301 3 true
    else { s with pat := { s.pat with due := keyPut s.pat.due id v } }
  else if 0x1211 ≤ id ∧ id ≤ 0x1214 then
    { s with seq := { s.seq with pending := alter s.seq.pending (s.fld 0x1210 0 6) fun e => e.put (id - 0x1211) v } }
  else s.wr id v

/-! ## The checks of R81 -/

/-- A value lies in the range of its field. -/
def Chk.ok (c : Chk) (width v : Nat) : Bool :=
  match c with
  | .any => true
  | .rng lo hi => decide (lo ≤ v) && decide (v ≤ hi)
  | .srng lo hi => let x := (BitVec.ofNat width v).toInt; decide (lo ≤ x) && decide (x ≤ hi)
  | .zeroOr lo hi => v == 0 || (decide (lo ≤ v) && decide (v ≤ hi))
  | .pow2 lo hi => decide (lo ≤ v) && decide (v ≤ hi) && (List.range 20).any fun k => v == 2 ^ k

/-- R81, step 3: a masked writable field outside its range. -/
def rangeBad (fs : List Field) (value mask new : Word) : Bool :=
  fs.any fun f => (mask &&& f.mask) != 0 && match f.acc with
    | .rw => !f.chk.ok f.width (bitsOf new f.lo f.width)
    | .wo => !f.chk.ok f.width (bitsOf (value &&& mask) f.lo f.width)
    | .ro | .w1c | .rc => false

/-- R193: an enabled entry whose frequency is out of its source's range, or near a frequency that R172 forbids. Exact fractions: with f =
num / den Hz, 305.185 Hz and its ±1 Hz in thousandths, 244.140625 Hz and its ±3.81 Hz in millionths. -/
def impFreqBad (new : Word) : Bool :=
  let src := bitsOf new 29 2
  let fq := bitsOf new 0 21
  let out := if src = 0 then fq < 100 ∨ 2000000 < fq else if src = 1 then fq < 100 ∨ 200000 < fq else fq < 1000 ∨ 2000000 < fq
  let num : Int := if src = 1 then 625000 else 20000000
  let den : Nat := if src = 1 then shuttleTicks fq else chopTicks fq
  let near (step tol unit : Int) (m : Nat) : Bool := decide ((num * unit - (m : Int) * step * den).natAbs ≤ (tol * den).toNat)
  let m := ((num * 1000) / (305185 * (den : Int))).toNat
  let k := ((num * 1000000) / (244140625 * (den : Int))).toNat
  (new.getLsbD 31) && (decide out || (src != 0 &&
    ([m, m + 1].any (fun i => i != 0 && near 305185 1000 1000 i) || [k, k + 1].any fun i => i % 4 != 0 && near 244140625 3810000 1000000 i)))

/-- R136: the placement of a stream's buffer is bad. -/
def placeBad (edram : Bool) (base len : Nat) : Bool :=
  let lo := if edram then 0x10000000 else 0x28000
  let hi := if edram then 0x10100000 else 0x58000
  base % 4 != 0 || decide (base < lo) || decide (hi < base + 4 * len)

/-- R220: the blanking time would be too short for the modules fitted. -/
def blankShort (sht : Word) (n blank settle : Nat) : Bool := bitsOf sht 0 (n - 1) != 0 && decide (blank < settle + 8)

/-- R364: a limit of SF-OC above 95 % of the full scale of its channel. -/
def State.ocOver (s : State) (v : Nat) : Bool :=
  let g := nth [1, 8, 32] (s.fld 0x1001 (2 * s.fld 0x3106 0 1) 2) 1
  decide (95 * 320000000 < v * g * (s.rd 0x1002).toNat * 100)

/-- R81, step 3: a resulting value that breaks a condition its owning chapter places on it beside the ranges. -/
def State.crossBad (s : State) (id : Nat) (value mask new : Word) : Bool :=
  let old := s.baseOf id
  let hi := bitsOf new 16 16
  let lo := bitsOf new 0 16
  match streamPlace id, timerPlace id with
  | some (n, k), _ =>
    let b := streamId n
    if k = 0 then !old.getLsbD 0 && new.getLsbD 0 && placeBad (new.getLsbD 1) (s.rd (b + 1)).toNat (s.fld (b + 2) 0 19)
    else if k = 2 then decide (bitsOf new 0 19 < s.fld (b + 5) 0 19)
    else if k = 4 then decide ((s.rd (b + 3) - old).toNat < (new - old).toNat)
    else if k = 5 then decide (s.fld (b + 2) 0 19 < bitsOf new 0 19)
    else false
  | none, some (u, k) =>
    k == 5 && !(sourceOk true (bitsOf new 0 7) none && sourceOk false (bitsOf new 8 7) none && sourceOk false (bitsOf new 16 7) (some u))
  | none, none =>
    match id with
    | 0x1003 => decide (hi ≤ lo)
    | 0x1213 => new.getLsbD 31 && bitsOf new 0 12 == 0
    | 0x1219 => decide (200000 < bitsOf new 16 6 * bitsOf new 0 16)
    | 0x1402 => bitsOf new 3 3 == bitsOf new 0 3
    | 0x1509 => blankShort (s.rd 0x150A) (s.fld 0x1000 0 5) lo (s.fld 0x150C 0 16)
    | 0x150C => blankShort (s.rd 0x150A) (s.fld 0x1000 0 5) (s.fld 0x1509 0 16) lo
    | 0x150A => bitsOf (new &&& mask) 0 23 / 2 ^ (s.fld 0x1000 0 5 - 1) != 0
        || blankShort new (s.fld 0x1000 0 5) (s.fld 0x1509 0 16) (s.fld 0x150C 0 16)
    | 0x1600 => bitsOf (value &&& mask) 0 8 &&& bitsOf (value &&& mask) 8 8 != 0
    | 0x3104 => s.ocOver lo
    | 0x3105 => s.ocOver lo
    | 0x3108 => (List.range 16).any fun i => new.getLsbD i && !(s.fld (0x1010 + i) 0 2 == 1)
    | 0x3125 => decide (bitsOf new 16 7 * 250 < bitsOf new 0 9)
    | 0x3128 => decide (bitsOf new 8 8 < 2 * bitsOf new 0 8 + 2)
    | _ =>
      if 0x1410 ≤ id ∧ id < 0x1430 ∧ id % 2 = 0 then impFreqBad new
      else if 0x1690 ≤ id ∧ id < 0x1698 then
        bitsOf new 0 2 == 2 && (List.range 8).any fun n => 0x1690 + n != id && s.fld (0x1690 + n) 0 2 == 2
      else false

/-- R81, step 4 (R364): the over-temperature limit may not pass the limit of the sealed class. -/
def State.sealedBad (s : State) (id : Nat) (new : Word) : Bool :=
  id == 0x3107 && (!sealSet s.seal || decide (classOt (sealClass s.seal) < (BitVec.ofNat 16 (bitsOf new 0 16)).toInt))

/-- R136: the buffer of an enabled stream other than `n` overlaps bytes `[base, base + 4 × len)`. -/
def State.overlaps (s : State) (n : Nat) : Bool :=
  let lo (i : Nat) : Nat := (s.rd (streamId i + 1)).toNat
  let hi (i : Nat) : Nat := lo i + 4 * s.fld (streamId i + 2) 0 19
  (List.range 8).any fun i => i != n && s.bit (streamId i) 0 && decide (lo i < hi n) && decide (lo n < hi i)

/-- R254: a write that would touch a unit the impedance job has claimed. -/
def State.claimBad (s : State) (id : Nat) (value mask : Word) : Bool :=
  let claims := s.rd 0x1606
  let w := value &&& mask
  if id = 0x1600 then ((w ||| (w >>> 8)) &&& 0xFF &&& claims) != 0
  else if id = 0x1601 then (w &&& claims) != 0
  else if 0x1690 ≤ id ∧ id < 0x1698 then s.fld id 0 2 == 1 && claims.getLsbD (s.fld id 4 3)
  else match timerPlace id with
    | some (u, _) => claims.getLsbD u
    | none => false

/-- Running, as `tmr.uN.status` shows it: of an upper chained unit, the lower one's. -/
def State.unitRuns (s : State) (u : Nat) : Bool := if s.chainedHigh u then (s.unit (u - 1)).running else (s.unit u).running

/-- The port a request came in by cannot be turned off by it (R92, R286): host port or link. -/
def State.ownPort (s : State) (src : Src) (id : Nat) (new : Word) : Bool :=
  match src with
  | .mbx => id == 0x0200 && !new.getLsbD (portCode s.host.goPort)
  | .fabric =>
    id == 0x2003 && match s.host.queue.head?.bind fun q => s.route q.sender with
      | some (p, _) => !new.getLsbD p.val
      | none => false

/-- The first half of R81, step 5: blocks locked while an output is on (R97, R364, R388, R410), timers (R249, R254, R256). -/
def State.refusesLocked (s : State) (id : Nat) (value mask : Word) : Bool :=
  let locked := id == 0x1000 || id == 0x3200 || id == 0x3201 || (id / 256 == 0x31 && id != 0x312C)
  (locked && s.outputsOn) || s.claimBad id value mask ||
    match timerPlace id with
    | none =>
      (id == 0x1600 && (List.range 8).any fun u => ((value &&& mask) ||| ((value &&& mask) >>> 8)).getLsbD u && s.chainedHigh u)
        || (id == 0x1601 && (value &&& mask &&& 0xFF) != 0 && (!s.fab.hasTime
            || decide ((s.rd 0x1603).toNat * 2 ^ 32 + (s.rd 0x1602).toNat < s.clk.fabric.toNat)
            || (List.range 8).any fun u => (value &&& mask).getLsbD u && s.unitRuns u))
    | some (u, k) =>
      (k == 0 && s.chainedHigh u && (mask &&& 0x33) != 0)
        || (k == 3 && (s.chainedHigh u || s.chainedLow u) && s.unitRuns u)
        || (decide (8 ≤ k) && k % 2 == 1 && s.chMode u ((k - 8) / 2) == 2)

/-- The second half of R81, step 5: everything else an owning chapter refuses in the present state. -/
def State.refuses (s : State) (src : Src) (id : Nat) (value mask new : Word) : Bool :=
  let n := s.fld 0x1000 0 5
  s.refusesLocked id value mask || s.ownPort src id new ||
    match streamPlace id with
    | some (i, k) =>
      let on := s.bit (streamId i) 0
      (on && (k == 1 || k == 2 || (k == 0 && (s.rd id).getLsbD 1 != new.getLsbD 1)))
        || (k == 0 && !on && new.getLsbD 0 && s.overlaps i)
    | none =>
      if isCal id then s.pat.set.isSome || (s.bit 0x1300 0 && decide (id ≤ 0x1360))
      else match id with
        | 0x0101 => s.pwr.mode == .guard || (bitsOf new 0 2 == 2 && s.outputsOn)
        | 0x1108 => s.pat.set.isSome && new.getLsbD 15 && decide (bitsOf new 0 6 < n)
        | 0x1109 =>
          let c := bitsOf (value &&& mask) 0 6
          (mask &&& 0x3F) != 0 && (decide (8 ≤ s.conv.inject.length) || (s.pat.set.isSome && decide (c < n)))
        | 0x1211 | 0x1212 | 0x1213 | 0x1214 => s.bit 0x1210 6 || s.bit 0x1200 1
        | 0x1509 =>
          let tooLong (es : List Entry) : Bool := (enabled es).any fun x => x.1.blank && decide (400000 < spanOf (40 * bitsOf new 0 16) x.1)
          tooLong s.seq.active || ((s.bit 0x1200 1 || s.seq.checked.isSome) && tooLong s.seq.pending)
        | 0x2025 => (mask &&& 0xFFF) != 0 && (s.wakeWrite (BitVec.ofNat 12 (bitsOf (value &&& mask) 0 12))).isNone
        | 0x2042 | 0x2043 => s.recSlot.isSome
        | _ =>
          decide (0x1204 ≤ id) && decide (id ≤ 0x1207) && !new.getLsbD 0
            && (enabled s.seq.active).any fun x => x.1.wait && x.1.tsel == id - 0x1204

/-- R81: the status of a write, OK where it passes every check. -/
def State.writeCheck (s : State) (src : Src) (id : Nat) (value mask : Word) : Byte :=
  match fieldsOf id with
  | none => stBadParam
  | some fs =>
    let new := s.merged id fs value mask
    if !(fs.any fun f => f.acc == .rw || f.acc == .wo || f.acc == .w1c) then stReadOnly
    else if rangeBad fs value mask new || s.crossBad id value mask new then stBadValue
    else if s.sealedBad id new then stSealed
    else if s.refuses src id value mask new then stRefused
    else stOk

/-! ## What a write sets off -/

/-- R62, R48, R49: a request for a state. Before the sequencer boundary the newest request stands; once Hatbox entry stops the node, it
goes on. -/
def State.request (s : State) (req : Nat) : State :=
  if s.pwr.hatbox == .stopping then s
  else
    let ask (m : Option Mode) (h : HatboxStep) : State := { s with pwr := { s.pwr with request := m, hatbox := h } }
    match req with
    | 0 => ask (if s.pwr.mode == .watch then some .run else none) .none
    | 1 => ask (if s.pwr.mode == .run then some .watch else none) .none
    | _ => ask (some .hatbox) .accepted

/-- R136: EN rises: HEAD and TAIL are 0, STOPPED clears; EN falls: what is on its way is dropped. -/
def State.streamSwitch (s : State) (i : Nat) (was now : Bool) : State :=
  let b := streamId i
  let fresh : Stream := ⟨[], true, 0, none, 0, false, false, false, false, s.fld (b + 5) 0 19⟩
  if was == now then s
  else if now then (((s.setStream i fun _ => fresh).wr (b + 3) 0).wr (b + 4) 0).setBit b 4 false
  else s.setStream i fun _ => fresh

/-- R236: START and STOP act on all named units at one tick. -/
def State.startStop (s : State) (w : Word) : State :=
  let t := (ones 8 (bitsOf w 0 8)).foldl (fun (t : State) u => t.tmrStart u) s
  (ones 8 (bitsOf w 8 8)).foldl (fun (t : State) u => t.tmrStop u) t

/-- R236 to R242, R248, R250: a timer parameter has been written; `o` is the state before. A gate follows its new source at the next tick. -/
def State.timerWritten (o s : State) (u k : Nat) (new : Word) : State :=
  match k with
  | 0 =>
    let t := (if bitsOf (o.rd (tid u)) 0 2 == bitsOf new 0 2 then s else s.modeFollow u).tmrShow u
    if o.chainedHigh u && !s.chainedHigh u then t.wr (tid u + 4) 0 else t
  | 1 => if s.unitRuns u then s else s.setUnit u fun x => { x with psc := bitsOf new 0 16 }
  | 3 => if s.unitRuns u then o.setUnit u fun x => { x with loaded := some new } else s
  | 2 | 4 | 5 | 6 | 7 => s
  | _ => if k % 2 = 0 then s.chanMode u ((k - 8) / 2) (bitsOf (o.rd (tid u + k)) 0 2) else s

/-- R258: link ports have been enabled or disabled. -/
def State.portsSwitched (o s : State) : State :=
  allPorts.foldl (fun (t : State) p => if o.bit 0x2003 p.val && !s.bit 0x2003 p.val then t.portDown p 0 else t) s

/-- R304: MANUAL triggers, FREE releases slots, EN begins a new history. -/
def State.snapWritten (o s : State) (w : Word) : State :=
  let t := if !o.bit 0x2040 0 && s.bit 0x2040 0 then { s with snap := { s.snap with times := [], pos := 0, skip := 0 } } else s
  let t1 := (ones 2 (bitsOf w 8 2)).foldl (fun (t : State) n => t.slotFree n) t
  if w.getLsbD 2 then { t1 with snap := { t1.snap with due := t1.snap.due ++ [0x7F] } } else t1

/-- R231: switches and shuttles whose fault bits were cleared are admitted again. -/
def State.readmit (s : State) (id : Nat) (w : Word) : State :=
  (if id = 0x151D then { s with bal := { s.bal with stuckOn := s.bal.stuckOn &&& ~~~ (BitVec.ofNat 24 (bitsOf w 0 24)) } } else s).balRefresh

/-- R105, R115: an auxiliary input that is no NTC has no temperature. -/
def State.auxSet (s : State) (i : Nat) : State := if s.fld (0x1010 + i) 0 2 = 1 then s else s.setFld (0x1020 + i / 2) (16 * (i % 2)) 16 0x8000

/-- What a write that passed its checks sets off, as its owning chapter says; `o` is the state before, `s` with the value stored. -/
def State.written (o s : State) (src : Option Src) (id : Nat) (value mask new : Word) : State :=
  let w := value &&& mask
  match streamPlace id, timerPlace id with
  | some (i, k), _ =>
    if k = 0 then s.streamSwitch i ((o.rd id).getLsbD 0) (new.getLsbD 0) else if k = 4 then s.tailMoved i else s
  | none, some (u, k) => o.timerWritten s u k new
  | none, none =>
    match id with
    | 0x0101 => s.request (bitsOf new 0 2)
    | 0x1504 => s.balRefresh
    | 0x1000 | 0x1002 | 0x2102 => s.balRefresh.settle
    | 0x3120 => s.peersRefresh.peersShow.settle
    | 0x3128 => s.peersRefresh.peersShow
    | 0x1109 => if (mask &&& 0x3F) != 0 then (s.inject ⟨bitsOf w 0 6, .host src⟩ true).1 else s
    | 0x1300 =>
      let a := if (o.rd 0x1300).getLsbD 1 && !new.getLsbD 1 then
          { s with pat := { s.pat with due := s.pat.held.foldl (fun (l : List (Nat × Word)) (x : Nat × Word) => keyPut l x.1 x.2) s.pat.due, held := [] } }.setBit 0x1301 3 false
        else s
      if !(o.rd 0x1300).getLsbD 0 && new.getLsbD 0 then a.rearm else a
    | 0x1400 => if (o.rd 0x1400).getLsbD 1 && !new.getLsbD 1 then s.tempsOff else s
    | 0x1500 => if w.getLsbD 1 then s.balRefresh.probeAll else s.balRefresh
    | 0x150A => s.balRefresh
    | 0x151D | 0x151E => s.readmit id w
    | 0x1600 => s.startStop w
    | 0x1601 => (List.range 8).foldl (fun (t : State) u => t.tmrShow u) s
    | 0x2003 => o.portsSwitched s
    | 0x2025 => if (mask &&& 0xFFF) != 0 then (s.wakeWrite (BitVec.ofNat 12 (bitsOf w 0 12))).getD s else s
    | 0x2040 => o.snapWritten s w
    | 0x2100 => s.replicaCheck
    | _ =>
      if 0x1690 ≤ id ∧ id < 0x1698 then s.pinsFollow
      else if 0x1010 ≤ id ∧ id < 0x1020 then (s.auxSet (id - 0x1010)).replan (id - 0x1010 + 27)
      else if 0x1150 ≤ id ∧ id < 0x118A then s.replan (id - 0x1150)
      else s

/-- A checked write of one parameter: its value is stored and acts. -/
def State.writeParam (s : State) (src : Option Src) (id : Nat) (value mask : Word) : State :=
  let new := s.merged id ((fieldsOf id).getD []) value mask
  s.written (s.store id new) src id value mask new

/-- R130: a refused host injection is counted and reported where the queue was full. -/
def State.refusedNote (s : State) (id : Nat) (value mask : Word) : State :=
  if id = 0x1109 ∧ 8 ≤ s.conv.inject.length then (s.inject ⟨bitsOf (value &&& mask) 0 6, .host none⟩ true).1 else s

/-! ## The commands (R79, R81 to R83) -/

/-- Argument words that a command does not name are 0 (R79). -/
def noArgs (r : Req) : Bool := r.a0 == 0 && r.a1 == 0 && r.a2 == 0 && r.a3 == 0

/-- PARAM_GET (R82). `chk` is what the reads met in SRAM (R20): bank 11, where the parameter buffers lie (R16; log 126). -/
def paramGet (src : Src) (chk : Check) (s : State) : State :=
  s.serveCode src 0x10 fun s r =>
    let ids := (List.range (bitsOf r.a0 16 3 + 1)).map fun i => bitsOf r.a0 0 16 + i
    if bitsOf r.a0 19 13 != 0 || r.a1 != 0 || r.a2 != 0 || r.a3 != 0 then s.fail stBadValue
    else if ids.any fun i => (fieldsOf i).isNone then s.fail stBadParam
    else if chk = .lasting then (s.memFault false 11).fail stDataErr
    else
      let t := if chk = .transient then s.transient 0 1 else s
      (ids.foldl (fun (u : State) i => u.readEffect i) t, .done stOk (ids.map t.shown))

/-- R325: a request that arrived in this tick from another requester has already written the parameter. -/
def State.tickTaken (s : State) (src : Src) (r : Req) (id : Nat) : Bool :=
  r.at_ == s.host.tickAt && s.host.tickIds.any fun x => x.1 == id && x.2 != s.requester src

/-- Note the parameters a request has written (R325). Two requests of one requester never arrive in one tick: the second begins a new one. -/
def State.tickNote (s : State) (src : Src) (r : Req) (ids : List Nat) : State :=
  let me := s.requester src
  let keep := if r.at_ == s.host.tickAt && !(s.host.tickIds.any fun x => x.2 == me) then s.host.tickIds else []
  { s with host := { s.host with tickAt := r.at_, tickIds := keep ++ ids.map fun id => (id, me) } }

/-- PARAM_SET (R81, R325). -/
def State.paramSetAt (s : State) (src : Src) (r : Req) : State × Reply :=
  let id := bitsOf r.a0 0 16
  if bitsOf r.a0 16 16 != 0 || r.a3 != 0 then s.fail stBadValue
  else
    let st := s.writeCheck src id r.a1 r.a2
    if st != stOk then (if st == stRefused then s.refusedNote id r.a1 r.a2 else s).fail st
    else if s.tickTaken src r id then s.fail stRefused
    else
      let t := (s.tickNote src r [id]).writeParam (some src) id r.a1 r.a2
      if id = 0x1109 ∧ (r.a2 &&& 0x3F) ≠ 0 then (t, .later) else (t, .done stOk [t.shown id])

/-- PARAM_SET (R81). -/
def paramSet (src : Src) (s : State) : State := s.serveCode src 0x11 fun s r => s.paramSetAt src r

/-- A PARAM_SET to one particular parameter: the rows of the command table that name one write. -/
def State.serveSet (s : State) (src : Src) (want : Nat → Word → Bool) : State :=
  s.serve src (fun r => r.code == 0x11 && want (bitsOf r.a0 0 16) (r.a1 &&& r.a2)) fun s r => s.paramSetAt src r

/-- The staging set with its values in place: what a further staged write is checked against (R83). -/
def State.project (s : State) : State :=
  s.host.staged.foldl (fun (t : State) e => t.store e.id.toNat (t.merged e.id.toNat ((fieldsOf e.id.toNat).getD []) e.value e.mask)) s

/-- R83: the staging set is free for a requester. -/
def State.stageFree (s : State) (src : Src) : Bool :=
  s.host.staged.isEmpty || s.host.stageOwner == some (s.requester src)

/-- PARAM_STAGE (R81, R83). -/
def paramStage (src : Src) (s : State) : State :=
  s.serveCode src 0x12 fun s r =>
    let id := bitsOf r.a0 0 16
    if bitsOf r.a0 16 16 != 0 || r.a3 != 0 then s.fail stBadValue
    else if !s.stageFree src then s.fail stRefused
    else
      let st := s.project.writeCheck src id r.a1 r.a2
      if st != stOk then s.fail st
      else if s.host.staged.length = 32 then s.fail stStageFull
      else
        let l := s.host.staged ++ [⟨BitVec.ofNat 16 id, r.a1, r.a2⟩]
        ({ s with host := { s.host with staged := l, stageOwner := some (s.requester src) } }, .done stOk [BitVec.ofNat 32 l.length])

/-- The staging set is empty again. -/
def State.stageClear (s : State) : State := { s with host := { s.host with staged := [], stageOwner := none, applyWait := none } }

/-- The first staged entry that its owning chapter now refuses (R83), each judged with those before it in place. -/
def firstRefused (src : Src) : List Staged → State → Option Staged
  | [], _ => none
  | e :: rest, s =>
    let id := e.id.toNat
    let new := s.merged id ((fieldsOf id).getD []) e.value e.mask
    if s.crossBad id e.value e.mask new || s.sealedBad id new || s.refuses src id e.value e.mask new then some e
    else firstRefused src rest (s.store id new)

/-- The apply of a staging set comes too late for one of its IDs, which another request of its tick has written (R325): the first such ID. -/
def State.tickClash (s : State) (src : Src) (r : Req) : Option Staged := s.host.staged.find? fun e => s.tickTaken src r e.id.toNat

/-- R83, R325: apply the staging set as one change, or refuse it whole and discard it. -/
def State.applyStaged (s : State) (src : Src) (r : Req) : State × Reply :=
  match (firstRefused src s.host.staged s).orElse fun _ => s.tickClash src r with
  | some e => ((s.refusedNote e.id.toNat e.value e.mask).stageClear, .done stRefused [BitVec.ofNat 32 e.id.toNat])
  | none =>
    let ids := s.host.staged.map fun e => e.id.toNat
    let t := s.host.staged.foldl (fun (t : State) e => t.writeParam none e.id.toNat e.value e.mask) (s.tickNote src r ids)
    (t.stageClear, .done stOk [BitVec.ofNat 32 ids.length])

/-- PARAM_APPLY (R83, R155): now, or at the next sequencer boundary. An empty set has nothing to wait for: it completes at once with 0 entries
(DESIGN CHOICE, log 130). -/
def paramApply (src : Src) (s : State) : State :=
  s.serveCode src 0x13 fun s r =>
    if bitsOf r.a0 1 31 != 0 || r.a1 != 0 || r.a2 != 0 || r.a3 != 0 then s.fail stBadValue
    else if !s.stageFree src then s.fail stRefused
    else if r.a0 = 0 || s.host.staged.isEmpty then s.applyStaged src r
    else ({ s with host := { s.host with applyWait := some src } }, .later)

/-- The change that PARAM_APPLY with WHEN 1 left for a sequencer boundary (R155). Its tick is the boundary's. -/
def State.applyAtBoundary (s : State) : State :=
  match s.host.applyWait, s.host.applyWait.bind s.running with
  | some src, some r =>
    let o := { s with host := { s.host with applyWait := none } }.applyStaged src { r with at_ := s.clk.ref }
    match o.2 with
    | .done st rsp => o.1.complete src st rsp
    | .later => o.1
  | _, _ => s

/-- PARAM_DISCARD (R83); of an empty set it discards 0 entries (DESIGN CHOICE, log 130). -/
def paramDiscard (src : Src) (s : State) : State :=
  s.serveCode src 0x14 fun s r =>
    if !noArgs r then s.fail stBadValue
    else if !s.stageFree src then s.fail stRefused
    else (s.stageClear, .done stOk [BitVec.ofNat 32 s.host.staged.length])

/-! ## The saved configuration (R84, R452) -/

/-- The IDs with saved fields, ascending (R84). -/
def savedIds : List (Nat × Word) :=
  (blocks.filter fun b => decide (b ≤ 0x32)).flatMap fun b => (List.range 256).filterMap fun i =>
    let id := 256 * b + i
    let m := maskOf ((fieldsOf id).getD []) (·.saved)
    if m = 0 then none else some (id, m)

/-- The bytes of a CFG_SAVE record (R452). -/
def State.cfgBytes (s : State) (seq : Nat) : List Byte :=
  let ws := savedIds.flatMap fun x => [BitVec.ofNat 32 (x.1 * 65536), s.rd x.1 &&& x.2]
  let es := s.seq.active.flatMap fun e => [e.mask0, e.mask1, e.ctrl, e.delay]
  sealed (wordsBE ([0x43464731, BitVec.ofNat 32 seq, BitVec.ofNat 32 savedIds.length, 0] ++ ws ++ es))

/-- The length of the CFG_SAVE record that starts at an address, by its own count; 0 where the count does not fit the bank. -/
def State.cfgLength (s : State) (a : Nat) : Nat :=
  let n := numBE (s.ldSoon (a + 8) 4)
  if 1044 + 8 * n ≤ 368 * 128 then 1044 + 8 * n else 0

/-- The sequence number of a bank's CFG_SAVE record, where it is valid. -/
def State.cfgSeq (s : State) (b : Bool) : Option Nat := s.recordSeq 0x43464731 (cfgBank b) (s.cfgLength (cfgBank b))

/-- The same, where the bank can be read (R20). -/
def State.cfgMet (s : State) (met : List (Nat × Check)) (b : Bool) : Option Nat :=
  s.recordMet met 0x43464731 (cfgBank b) (s.cfgLength (cfgBank b))

/-- CFG_SAVE (R84): the record is taken now and written page by page into the older bank. -/
def cfgSave (src : Src) (s : State) : State :=
  s.serveCode src 0x15 fun s r =>
    if !noArgs r then s.fail stBadValue
    else
      let bank := nextCopy (s.cfgSeq false) (s.cfgSeq true)
      let seq := max ((s.cfgSeq false).getD 0) ((s.cfgSeq true).getD 0) + 1
      (s.nvPut (.cfg bank src) (cfgBank bank) (s.cfgBytes seq), .later)

/-- The reset value of a saved parameter; `sf.ot.lim` has the limit of the sealed class (R364). -/
def State.savedReset (s : State) (id : Nat) : Word :=
  if id = 0x3107 then pack [(0, 16, satField 16 (classOt (sealClass s.seal)))] else resetParam id

/-- CFG_DEFAULTS (R79): every saved field takes its reset value; refused, as each write to the safety block would be, while an output is on
(R364). -/
def cfgDefaults (src : Src) (s : State) : State :=
  s.serveCode src 0x16 fun s r =>
    if r.a0 != 0xA5C3 || r.a1 != 0 || r.a2 != 0 || r.a3 != 0 then s.fail stBadValue
    else if s.outputsOn then s.fail stRefused
    else
      (savedIds.foldl (fun (t : State) x =>
        if (t.rd x.1 &&& x.2) = (t.savedReset x.1 &&& x.2) then t else t.writeParam none x.1 (t.savedReset x.1) x.2) s, .done stOk [])

/-- Step 7 of R58: the newest valid CFG_SAVE record takes force, its saved fields and the active bank (R84, R157, R364); port settings are in
force at once. `met` is what its reads of MRAM meet (R20). -/
def State.cfgRestore (s : State) (met : List (Nat × Check)) : State :=
  match liveCopy (s.cfgMet met false) (s.cfgMet met true) with
  | none => s
  | some b =>
    let a := cfgBank b
    let n := (s.cfgLength a - 1044) / 8
    let word (t : State) (k : Nat) : Word := t.ldWord (a + 4 * k)
    let put (t : State) (i : Nat) : State :=
      let id := (word s (4 + 2 * i)).toNat / 65536
      let v := word s (5 + 2 * i)
      let m := maskOf ((fieldsOf id).getD []) (·.saved)
      if t.sealedBad id (t.merged id ((fieldsOf id).getD []) v m) then t else t.writeParam none id v m
    let entry (k : Nat) : Entry :=
      let w (j : Nat) : Word := word s (4 + 2 * n + 4 * k + j)
      ⟨w 0, w 1, w 2, w 3⟩
    let t := (List.range n).foldl put s
    { t with seq := { t.seq with active := (List.range 64).map entry } }

/-- The host port settings of R92 as the parameters hold them come into force. -/
def State.portsInForce (s : State) : State :=
  { s with host := { s.host with portsOn := BitVec.ofNat 3 (s.fld 0x0200 0 3), canBase := BitVec.ofNat 11 (s.fld 0x0201 0 11),
                                 canRate := BitVec.ofNat 8 (s.fld 0x0202 0 8), uartRate := BitVec.ofNat 2 (s.fld 0x0203 0 2) } }

end Sys2Proof.Machine
end

