-- ==== Sys2Proof/Machine/HostPorts.lean ====
section
/-! DEFINITION. The host side of a node (R63 to R96, R448, R451): the direct registers and what an access to each does, the three
ports that carry accesses, the doorbell and the mailbox, requests through the fabric, and firmware update. -/
namespace Sys2Proof.Machine

/-! ## Direct registers (R72) -/

/-- The buffer length of a stream in words. -/
def State.streamLen (s : State) (i : Nat) : Nat := s.fld (streamId i + 2) 0 19

/-- The byte address of the word that a STREAM_WIN read takes (R136, R140): by OFFSET in MODE 1, by TAIL in MODE 0. -/
def State.winAddr (s : State) : Nat :=
  let i := bitsOf s.host.sel 24 3
  let off := if s.host.sel.getLsbD 31 then bitsOf s.host.sel 0 18 else (s.rd (streamId i + 4)).toNat % s.streamLen i
  (s.rd (streamId i + 1)).toNat + 4 * off

/-- The word at an address lies in a memory of R16. -/
def mapped (a : Nat) : Bool :=
  decide (a + 4 ≤ 0x80000) || decide (0x10000000 ≤ a ∧ a + 4 ≤ 0x10200000) || decide (0x20000000 ≤ a ∧ a + 4 ≤ 0x20100000)

/-- A stream in MODE 0 that holds no word. -/
def State.winEmpty (s : State) : Bool := !s.host.sel.getLsbD 31 && s.fill (bitsOf s.host.sel 24 3) == 0

/-- STREAM_WIN would read outside the memory map, as the base of a stream that is not enabled lets it (R16, log 129). -/
def State.winOff (s : State) : Bool := !s.winEmpty && !mapped s.winAddr

/-- The word STREAM_WIN shows (R72, R140); outside the memory map 0. -/
def State.winWord (s : State) : Word := if s.winEmpty then 0xFFFFFFFF else if s.winOff then 0 else s.ldWord s.winAddr

/-- R140, R72: a read of STREAM_WIN moves the tail in MODE 0, or OFFSET in MODE 1. -/
def State.winMove (s : State) : State :=
  let i := bitsOf s.host.sel 24 3
  if s.winOff then s
  else if s.host.sel.getLsbD 31 then
    { s with host := { s.host with sel := putBits s.host.sel 0 18 ((bitsOf s.host.sel 0 18 + 1) % s.streamLen i) } }
  else if s.winEmpty then s
  else (s.addWord (streamId i + 4) 1).tailMoved i

/-- PORT_STAT (R72). -/
def State.portStat (s : State) : Word :=
  pack [(16, 8, s.host.crcCnt), (8, 8, s.host.frameCnt), (2, 1, b2n s.host.badTail), (0, 2, s.host.lastPort.toNat)]

/-- A word of the entry at TAIL (R72, R86). -/
def State.evtWin (s : State) (k : Nat) : Word :=
  if s.host.head = s.host.tail then (if k = 0 then 0xFFFFFFFF else 0)
  else s.ldWord (ringBase + 16 * (s.host.tail.toNat % 256) + 4 * k)

/-- What a direct register shows (R72). -/
def State.regRead (s : State) (addr : Nat) : Word :=
  match addr with
  | 0x00 => 0x0DA52440
  | 0x01 => s.idRev
  | 0x02 => BitVec.ofNat 32 s.serial.toNat
  | 0x03 => BitVec.ofNat 32 (s.serial.toNat / 2 ^ 32)
  | 0x04 => s.nodeAddr
  | 0x05 => s.host.cmd
  | 0x06 => nth s.host.args 0 0
  | 0x07 => nth s.host.args 1 0
  | 0x08 => nth s.host.args 2 0
  | 0x09 => nth s.host.args 3 0
  | 0x0A => s.mbxStat
  | 0x0B => nth s.host.rsp 0 0
  | 0x0C => nth s.host.rsp 1 0
  | 0x0D => nth s.host.rsp 2 0
  | 0x0E => nth s.host.rsp 3 0
  | 0x0F => nth s.host.rsp 4 0
  | 0x10 => nth s.host.rsp 5 0
  | 0x11 => nth s.host.rsp 6 0
  | 0x12 => nth s.host.rsp 7 0
  | 0x14 => BitVec.ofNat 32 s.host.head.toNat
  | 0x15 => BitVec.ofNat 32 s.host.tail.toNat
  | 0x16 => s.evtWin 0
  | 0x17 => s.evtWin 1
  | 0x18 => s.evtWin 2
  | 0x19 => s.evtWin 3
  | 0x1A => BitVec.ofNat 32 s.intStat.toNat
  | 0x1B => BitVec.ofNat 32 s.host.intMask.toNat
  | 0x1C => s.host.sel
  | 0x1D => s.winWord
  | 0x1E => s.portStat
  | 0x1F => s.host.scratch
  | _ => 0

/-- What a read of a direct register changes (R67, R72). -/
def State.regReadEffect (s : State) (addr : Nat) : State :=
  match addr with
  | 0x1D => s.winMove
  | 0x1E => { s with host := { s.host with crcCnt := 0, frameCnt := 0 } }
  | _ => s

/-- A write of EVT_TAIL (R85, R88): refused when it moves TAIL backwards or past HEAD; else a RINGOVF that waits enters the ring. -/
def State.tailWrite (s : State) (v : Half) : State × Bool :=
  if (s.host.head - s.host.tail).toNat < (v - s.host.tail).toNat then
    ({ s with host := { s.host with badTail := true } }, false)
  else
    let t := { s with host := { s.host with tail := v } }
    (if t.ev.ringLost && decide (t.ringFill < 256) then t.ringOverflow else t, true)

/-- CODEs of R79 that Evrus has. -/
def knownCode (c : Byte) : Bool :=
  c ∈ ([0x00, 0x01, 0x02, 0x10, 0x11, 0x12, 0x13, 0x14, 0x15, 0x16, 0x20, 0x21, 0x22, 0x30, 0x31, 0x38, 0x40, 0x41, 0x42, 0x43, 0x50,
    0x51, 0x58, 0x60, 0x61, 0x62, 0x70, 0x71, 0x72, 0x73, 0x74, 0x75] : List Byte)

/-- IDENTIFY and FW_BEGIN to FW_ABORT (R77). -/
def earlyCode (c : Byte) : Bool := c ∈ ([0x01, 0x70, 0x71, 0x72, 0x73, 0x74, 0x75] : List Byte)

/-- R77: before Ready, and without a valid image, most commands complete at once. -/
def State.early (s : State) (c : Byte) : Option Byte :=
  if s.pwr.mode = .start ∧ !earlyCode c then some (if s.pwr.phase = .bootOnly then stNoFw else stNotReady) else none

/-- R77, R74: the status a command completes with before it runs at all, if any. -/
def State.gate (s : State) (c : Byte) : Option Byte :=
  (s.early c).orElse fun _ => if knownCode c then none else some stBadCmd

/-- R73 to R75, R77: GO starts the command in MBX_CMD, or is refused with REJ while BUSY or DONE is 1. -/
def State.go (s : State) (port : HostPort) : State :=
  if s.host.busy || s.host.done then { s with host := { s.host with rej := true } }
  else
    let w := s.host.cmd
    let r : Req := ⟨BitVec.ofNat 8 (bitsOf w 0 8), BitVec.ofNat 8 (bitsOf w 8 8), s.clk.ref, nth s.host.args 0 0, nth s.host.args 1 0,
      nth s.host.args 2 0, nth s.host.args 3 0, false⟩
    let target : FAddr := BitVec.ofNat 12 (bitsOf w 16 12)
    let t := { s with host := { s.host with busy := true, owner := BitVec.ofNat 2 (portCode port), goPort := port, req := some r,
                                            remote := none } }
    if w.getLsbD 28 && !(s.fab.valid && s.fab.addr == target) then
      match s.early r.code with
      | some st => t.mbxDone r.tag st []
      | none =>
        if (nodeAt s.fab.nodes target).isNone || (s.route target).isNone then t.mbxDone r.tag stNoRoute []
        else (t.relayTo .mbx r target target).1
    else match s.gate r.code with
      | some st => t.mbxDone r.tag st []
      | none => t

/-- The node's own command ends with ABORTED. -/
def State.mbxAborted (s : State) : State :=
  match s.host.req with
  | some r => s.mbxDone r.tag stAborted []
  | none => s

/-- R78, R174: ABORT ends a running remote command, CFG_SAVE or PATINA_SET, begun or not; of any other command it changes nothing. -/
def State.abort (s : State) : State :=
  match s.host.busy, s.host.req with
  | true, some r =>
    if s.host.remote.isSome then (if r.started then s else s.mbxAborted)
    else if r.code = 0x15 then
      { s with nv := { s.nv with queue := s.nv.queue.filter fun w => match w.job with | .cfg _ .mbx => false | _ => true } }.mbxAborted
    else if r.code = 0x20 then (if r.started then s.patinaAbort stAborted else s.mbxAborted)
    else s
  | _, _ => s

/-- A write of DOORBELL (R78): ABORT acts first, then GO. -/
def State.doorbell (s : State) (port : HostPort) (v : Word) : State :=
  let t := if v.getLsbD 1 then s.abort else s
  if v.getLsbD 0 then t.go port else t

/-- STREAM_SEL (R72): an OFFSET at or above the buffer length of the stream it names changes nothing. -/
def State.selWrite (s : State) (v : Word) : State × Bool :=
  if s.streamLen (bitsOf v 24 3) ≤ bitsOf v 0 18 then (s, false)
  else ({ s with host := { s.host with sel := v &&& 0x8703FFFF } }, true)

/-- A write of a direct register (R72): the state, and whether the register took the value. -/
def State.regWrite (s : State) (port : HostPort) (addr : Nat) (v : Word) : State × Bool :=
  let t := { s with host := { s.host with lastPort := BitVec.ofNat 2 (portCode port) } }
  let arg (k : Nat) (x : State) : State :=
    if x.host.busy then { x with host := { x.host with rej := true } } else { x with host := { x.host with args := x.host.args.set k v } }
  match addr with
  | 0x05 => (if t.host.busy then { t with host := { t.host with rej := true } } else { t with host := { t.host with cmd := v &&& 0x1FFFFFFF } }, true)
  | 0x06 => (arg 0 t, true)
  | 0x07 => (arg 1 t, true)
  | 0x08 => (arg 2 t, true)
  | 0x09 => (arg 3 t, true)
  | 0x0A => ({ t with host := { t.host with rej := t.host.rej && !v.getLsbD 2, done := t.host.done && !v.getLsbD 1 } }, true)
  | 0x13 => (t.doorbell port v, true)
  | 0x15 => t.tailWrite (BitVec.ofNat 16 (bitsOf v 0 16))
  | 0x1A => ({ t with host := { t.host with intSafe := t.host.intSafe && !v.getLsbD 5, intOvf := t.host.intOvf && !v.getLsbD 4,
                                            intStream := t.host.intStream && !v.getLsbD 3, intReady := t.host.intReady && !v.getLsbD 0 } }, true)
  | 0x1B => ({ t with host := { t.host with intMask := BitVec.ofNat 6 (bitsOf v 0 6) } }, true)
  | 0x1C => t.selWrite v
  | 0x1E => ({ t with host := { t.host with badTail := t.host.badTail && !v.getLsbD 2 } }, true)
  | 0x1F => ({ t with host := { t.host with scratch := v } }, true)
  | _ => (t, true)

/-! ## Operations and frames (R64 to R71) -/

/-- The status byte of R66 from its parts; INT and BUSY as they stand at the end. -/
def State.opStatus (s : State) (crc badOp badAddr badValue : Bool) : Byte :=
  BitVec.ofNat 8 (128 * b2n crc + 64 * b2n badOp + 32 * b2n badAddr + 16 * b2n s.nIntLow + 8 * b2n s.host.busy + 4 * b2n badValue)

/-- One operation of an accepted frame (R64, R66): the state, the status byte and the data word. -/
def State.access (s : State) (port : HostPort) (op addr : Byte) (data : Word) : State × Byte × Word :=
  if 2 < op.toNat then (s, s.opStatus false true false false, 0)
  else if 0x1F < addr.toNat ∨ (op = 1 ∧ addr = 0x1D ∧ s.winOff = true) then (s, s.opStatus false false true false, 0)
  else if op = 0 then (s, s.opStatus false false false false, 0)
  else if op = 1 then
    let t := s.regReadEffect addr.toNat
    (t, t.opStatus false false false false, s.regRead addr.toNat)
  else
    let o := s.regWrite port addr.toNat data
    (o.1, o.1.opStatus false false false (!o.2), o.1.regRead addr.toNat)

/-- R92, R91: the first valid frame on a port since reset. -/
def State.hostSeen (s : State) (port : HostPort) : State :=
  let k := portCode port
  if s.bit 0x0205 k then s else (s.setBit 0x0205 k true).raise 15 (BitVec.ofNat 32 k)

/-- A host port the node listens on (R63, R66, R92). -/
def State.portLive (s : State) (port : HostPort) : Bool := s.awake && s.host.portsOn.getLsbD (portCode port)

/-- A discarded frame is counted (R64, R65, R68, R448): `crc` where its CRC failed. -/
def State.frameBad (s : State) (port : HostPort) (crc : Bool) : State :=
  let h := s.host
  let up (n : Nat) : Nat := min 255 (n + 1)
  let h1 := { h with errPorts := setBitV h.errPorts (portCode port) true }
  { s with host := if crc then { h1 with crcCnt := up h.crcCnt, errCrc := up h.errCrc }
                   else { h1 with frameCnt := up h.frameCnt, errFrames := up h.errFrames } }

/-- The 56 bits of an SPI response (R66). -/
def spiResponse (status addr : Byte) (data : Word) : BitVec 56 :=
  let bs := [status, addr] ++ bytesBE 4 data.toNat
  BitVec.ofNat 56 (numBE (bs ++ [crc8 bs]))

/-- SPI_FRAME (R64 to R66): nCS rises after `cycles` SCK cycles; `bits` were shifted in. The response to the frame before leaves on SDO, which stays high
impedance where the node answers no host. A frame with a good CRC and an OP that is none of R64's counts as valid for R92 (DESIGN CHOICE, log 131). -/
def spiFrame (cycles : Nat) (bits : BitVec 56) (s : State) : State :=
  if !s.portLive .spi then { s with host := { s.host with sdo := none } }
  else
    let s0 := { s with host := { s.host with sdo := some s.host.spiResp } }
    if cycles ≠ 56 then s0.frameBad .spi false
    else
      let bs := bytesBE 7 bits.toNat
      let op := nth bs 0 0
      let addr := nth bs 1 0
      if crc8 (bs.take 6) = nth bs 6 0 then
        let o := (s0.hostSeen .spi).access .spi op addr (BitVec.ofNat 32 (numBE ((bs.drop 2).take 4)))
        { o.1 with host := { o.1.host with spiResp := spiResponse o.2.1 addr o.2.2 } }
      else
        let t := s0.frameBad .spi true
        { t with host := { t.host with spiResp := spiResponse (t.opStatus true false false false) addr 0 } }

/-- The records of a request, executed in order (R63, R68), and their response records. -/
def State.records (s : State) (port : HostPort) : Nat → List Byte → State × List Byte
  | 0, _ => (s, [])
  | n + 1, bs =>
    let o := s.access port (nth bs 0 0) (nth bs 1 0) (BitVec.ofNat 32 (numBE ((bs.drop 2).take 4)))
    let rest := State.records o.1 port n (bs.drop 6)
    (rest.1, [o.2.1, nth bs 1 0] ++ bytesBE 4 o.2.2.toNat ++ rest.2)

/-- A request of R68 whose count and length agree is executed as one group; the response follows. -/
def State.request68 (s : State) (port : HostPort) (bs : List Byte) : State × List Byte :=
  let n := (nth bs 2 0).toNat
  let o := (s.hostSeen port).records port n (bs.drop 3)
  (o.1, [0x81, nth bs 1 0, nth bs 2 0] ++ o.2)

/-- COUNT of a request is 1 to 10 (R68). -/
def countOk (bs : List Byte) : Bool := decide (1 ≤ (nth bs 2 0).toNat) && decide ((nth bs 2 0).toNat ≤ 10)

/-- CAN_FD_REQUEST (R68, R69): a frame on the request identifier. -/
def canFdRequest (ident : BitVec 11) (bytes : List Byte) (s : State) : State :=
  if !s.portLive .can || ident != s.host.canBase || nth bytes 0 0 != 0x01 then s
  else if !countOk bytes || bytes.length != canLength (3 + 6 * (nth bytes 2 0).toNat) then s.frameBad .can false
  else
    let o := s.request68 .can bytes
    o.1.canSend 1 o.2

/-- R70: undo the escapes of a UART frame; none where an escape is broken. -/
def unescape : List Byte → Option (List Byte)
  | [] => some []
  | [b] => if b = 0x7D then none else some [b]
  | b :: c :: t =>
    if b = 0x7D then
      if c = 0x5E then (unescape t).map (0x7E :: ·) else if c = 0x5D then (unescape t).map (0x7D :: ·) else none
    else (unescape (c :: t)).map (b :: ·)

/-- UART_FRAME (R70): the bytes between the opening and the closing 0x7E. -/
def uartFrame (bytes : List Byte) (s : State) : State :=
  if !s.portLive .uart then s
  else match unescape bytes with
    | none => s.frameBad .uart false
    | some bs =>
      let payload := bs.take (bs.length - 1)
      if bs.length < 2 then s.frameBad .uart false
      else if crc8 payload != nth bs (bs.length - 1) 0 then s.frameBad .uart true
      else if nth payload 0 0 != 0x01 then s
      else if !countOk payload || payload.length != 3 + 6 * (nth payload 2 0).toNat then s.frameBad .uart false
      else
        let o := s.request68 .uart payload
        o.1.uartSend o.2

/-- UART_FRAME_TIMEOUT (R70). -/
def uartFrameTimeout (s : State) : State := if s.portLive .uart then s.frameBad .uart false else s

/-- HOSTERR (R448): a 1 s interval since Ready ends; raised where a port discarded a frame in it. -/
def hosterr (s : State) : State :=
  if s.up && s.host.errPorts != 0 then
    let data := pack [(0, 3, s.host.errPorts.toNat), (8, 8, s.host.errFrames), (16, 8, s.host.errCrc)]
    { s with host := { s.host with errPorts := 0, errFrames := 0, errCrc := 0 } }.raise 11 data
  else s

/-- HOST_PORT_RECONFIG (R92): 10 ms after the response, new port settings take effect. -/
def hostPortReconfig (s : State) : State := if s.awake then s.portsInForce else s

/-- INT_NOTICE_HOLDOFF_END (R71): the spacing ends; a notice held back is sent with the state as it stands. -/
def intNoticeHoldoffEnd (s : State) : State :=
  let t := { s with host := { s.host with holdoff := false } }
  if t.host.noticeDue && t.awake then t.sendNotice else t

/-! ## Rows for one access -/

/-- REGISTER_WRITE (R72). -/
def registerWrite (port : HostPort) (addr : Byte) (value : Word) (s : State) : State :=
  if s.portLive port && decide (addr.toNat ≤ 0x1F) then (s.regWrite port addr.toNat value).1 else s

/-- READ_CLEAR (R67): the read returns the value and clears it. -/
def readClear (port : HostPort) (addr : Byte) (s : State) : State :=
  if s.portLive port && addr == 0x1E then { s.regReadEffect 0x1E with host := { (s.regReadEffect 0x1E).host with shownWord := s.regRead 0x1E } } else s

/-- R412: whether the word a STREAM_WIN read takes lies in eDRAM, and its bank. -/
def State.winBank (s : State) : Bool × Nat :=
  if s.winAddr < 0x10000000 then (false, s.winAddr / 0x8000) else (true, (s.winAddr - 0x10000000) / 0x40000)

/-- STREAM_WIN_READ (R140, R412): the word returned, 0xFFFF_FFFE after a lasting parity fault; the tail, or OFFSET, moves whatever parity says. -/
def streamWinRead (port : HostPort) (chk : Check) (s : State) : State :=
  if s.portLive port then
    let b := s.winBank
    let held := !s.winEmpty && !s.winOff
    let word := if held && chk == .lasting then 0xFFFFFFFE else s.winWord
    let t := if !held then s
      else match chk with
        | .pass => s
        | .transient => s.transient (b2n b.1) 1
        | .lasting => s.memFault b.1 b.2
    let u := t.regReadEffect 0x1D
    { u with host := { u.host with shownWord := word } }
  else s

/-- EVT_TAIL_WRITE (R85, R88). -/
def evtTailWrite (port : HostPort) (value : Word) (s : State) : State :=
  if s.portLive port then (s.regWrite port 0x15 value).1 else s

/-- DOORBELL_GO (R73, R74). -/
def doorbellGo (port : HostPort) (s : State) : State := if s.portLive port then (s.regWrite port 0x13 1).1 else s

/-- DOORBELL_ABORT (R78). -/
def doorbellAbort (port : HostPort) (s : State) : State := if s.portLive port then (s.regWrite port 0x13 2).1 else s

/-! ## Plain commands (R79) -/

/-- NOP (R79). -/
def nop (src : Src) (s : State) : State :=
  s.serveCode src 0x00 fun s r => if noArgs r then (s, .done stOk []) else s.fail stBadValue

/-- IDENTIFY (R79). -/
def identify (src : Src) (s : State) : State :=
  s.serveCode src 0x01 fun s r =>
    if noArgs r then (s, .done stOk [s.regRead 0x00, s.idRev, s.regRead 0x02, s.regRead 0x03, s.nodeAddr, s.sysState]) else s.fail stBadValue

/-- SYS_RESET (R79): completes, and the reset follows within 1 ms. -/
def sysReset (src : Src) (s : State) : State :=
  s.serveCode src 0x02 fun s r =>
    if r.a0 != 0xA5C3 || r.a1 != 0 || r.a2 != 0 || r.a3 != 0 then s.fail stBadValue
    else ({ s with pwr := { s.pwr with resetDue := some 4 } }, .done stOk [])

/-! ## Requests through the fabric (R75, R76, R451) -/

/-- A request takes its place in the queue: after those that arrived before it, and of one tick in the order of source addresses (R14, R76, R324); the
request that is being served stays at the front. -/
def queueIn (q : FabricReq) : List FabricReq → List FabricReq
  | [] => [q]
  | x :: t => if !x.req.started && x.req.at_ == q.req.at_ && decide (q.sender.toNat < x.sender.toNat) then q :: x :: t else x :: queueIn q t

/-- TARGET of a REQUEST that this node serves (R451): its own address, or of a goal command forwarded to the anchor the address it carries (log 25). -/
def State.targetHere (s : State) (code : Byte) (sender target : FAddr) : Bool :=
  target == s.fab.addr || ((code == 0x40 || code == 0x41) && (target == sender || target == noAddr))

/-- REMOTE_REQUEST (R76, R77, R451): a REQUEST frame reaches this node, the TARGET. -/
def remoteRequest (sender : FAddr) (fid : Half) (bytes : List Byte) (s : State) : State :=
  let word (k : Nat) : Word := BitVec.ofNat 32 (numBE ((bytes.drop (4 + 4 * k)).take 4))
  let r : Req := ⟨nth bytes 0 0, nth bytes 1 0, s.clk.ref, word 0, word 1, word 2, word 3, false⟩
  let target : FAddr := BitVec.ofNat 12 (numBE ((bytes.drop 2).take 2))
  if !s.evrus || bytes.length != 20 || !s.fab.valid || !s.targetHere r.code sender target then s
  else
    let answer (st : Byte) : State := s.sendTo tyResponse sender (responseBytes st r.tag fid [])
    match s.gate r.code with
    | some st => answer st
    | none => if s.host.queue.length < 8 then { s with host := { s.host with queue := queueIn ⟨sender, fid, target, r⟩ s.host.queue } } else answer stBusy

/-- REMOTE_RESPONSE (R75, R451): a RESPONSE completes the command that waits for it by FID and sender, or is discarded. -/
def remoteResponse (sender : FAddr) (bytes : List Byte) (s : State) : State :=
  let key : Half × FAddr := (BitVec.ofNat 16 (numBE ((bytes.drop 2).take 2)), sender)
  let rsp : List Word := (List.range 8).map fun k => BitVec.ofNat 32 (numBE ((bytes.drop (4 + 4 * k)).take 4))
  if !s.evrus || bytes.length != 36 then s
  else if s.host.remote = some key then s.complete .mbx (nth bytes 0 0) rsp
  else if s.host.relay = some key then { s with host := { s.host with relay := none } }.complete .fabric (nth bytes 0 0) rsp
  else s

/-- REMOTE_TIMEOUT (R75): no reply within `host.mbx.timeout`. -/
def remoteTimeout (s : State) : State :=
  if !s.awake then s
  else if s.host.remote.isSome then s.complete .mbx stTimeout []
  else if s.host.relay.isSome then { s with host := { s.host with relay := none } }.complete .fabric stTimeout []
  else s

/-- EVENT_FRAME (R90): a forwarded event enters the ring of a host-attached node with FWD set. -/
def eventFrame (w0 w1 w2 w3 : Word) (s : State) : State :=
  if s.up && s.fld 0x0205 0 3 != 0 then s.ringAdd [w0 ||| 0x10000000, w1, w2, w3] (bitsOf w0 0 7) else s

/-! ## Firmware update (R93 to R96) -/

/-- Where a slot begins (R16). -/
def slotAddr (b : Bool) : Nat := if b then 0x20060000 else 0x20000000

/-- FWST (R92). -/
def State.fwst (s : State) : Nat := s.fld 0x020F 20 3

/-- A field of a slot's image header (R93), as it will stand once the page writes that wait are done. -/
def State.slotField (s : State) (b : Bool) (off n : Nat) : Nat := numBE (s.ldSoon (slotAddr b + off) n)

/-- SECVER of the image in a slot (R93). -/
def State.slotSec (s : State) (b : Bool) : Nat := s.slotField b 12 2

/-- LENGTH is one of R93: a multiple of 4 from 4,096 to 393,216 bytes. -/
def imageLength (n : Nat) : Bool := n % 4 == 0 && decide (4096 ≤ n) && decide (n ≤ 393216)

/-- The checks of R60 on a slot, in their order (R94): the signature, whose verdict is `sign`, over an image that has the layout of R93; SECVER against the
rollback counter; the readback. An image without MAGIC and LENGTH of R93 has no signature that could verify (log 128). -/
def State.slotCheck (s : State) (b sign : Bool) (chk : Check) : SlotCheck :=
  if !sign || s.slotField b 0 4 != 0x45565253 || !imageLength (s.slotField b 4 4) then .signature
  else if s.slotSec b < s.fld 0x4010 0 16 then .version
  else if chk = .lasting then .readback
  else .valid

/-- Show SECVER of a slot in `mem.secver`, 0xFFFF where it is not valid (R434), and whether it stands marked invalid (R94). -/
def State.slotIs (s : State) (b valid : Bool) (sec : Nat) : State :=
  let t := s.setFld 0x4011 (if b then 16 else 0) 16 (if valid then sec else 0xFFFF)
  { t with nv := { t.nv with marked := setBitV t.nv.marked (b2n b) (!valid) } }

/-- FW_BEGIN (R94): the target slot is marked invalid. -/
def fwBegin (src : Src) (s : State) : State :=
  s.serveCode src 0x70 fun s r =>
    if bitsOf r.a2 1 31 != 0 || r.a3 != 0 || !imageLength r.a0.toNat then s.fail stBadValue
    else
      let b := if s.nv.noImage then r.a2.getLsbD 0 else !s.bit 0x0108 8
      let t := { s with nv := { s.nv with fwLength := r.a0, fwTarget := b, fwVer := r.a1 } }.slotIs b false 0
      ((t.wr 0x020F (pack [(20, 3, 1)])).nvPut (.slot b src) (slotAddr b) (copies 4 0), .later)

/-- FW_DATA (R94): 12 bytes at NEXT; bytes past LENGTH must be 0 and are not written. With FWST other than 1 it is refused (DESIGN CHOICE, log 132). -/
def fwData (src : Src) (s : State) : State :=
  s.serveCode src 0x71 fun s r =>
    let next := s.fld 0x020F 0 20
    let len := s.nv.fwLength.toNat
    let bs := wordsBE [r.a1, r.a2, r.a3]
    if s.fwst != 1 then s.fail stRefused
    else if r.a0.toNat != next || ((bs.drop (len - next)).any fun b => b != 0) then s.fail stBadValue
    else
      let body := bs.take (len - next)
      if body.isEmpty then (s.setFld 0x020F 0 20 (next + 12), .done stOk [])
      else (s.nvPut (.slot s.nv.fwTarget src) (slotAddr s.nv.fwTarget + next) body, .later)

/-- FW_END (R94): the checks of R60 on the staged image, whose LENGTH is that of FW_BEGIN; `sign` is the signature's verdict and `chk` what the readback
meets. -/
def fwEnd (src : Src) (sign : Bool) (chk : Check) (s : State) : State :=
  s.serveCode src 0x72 fun s r =>
    let b := s.nv.fwTarget
    if !noArgs r then s.fail stBadValue
    else if s.fwst != 1 || decide (s.fld 0x020F 0 20 < s.nv.fwLength.toNat) then s.fail stRefused
    else
      let bad (st : Byte) : State × Reply :=
        (((s.setFld 0x020F 20 3 3).slotIs b false 0).raise 14 (pack [(0, 8, st.toNat), (8, 1, b2n b)]), .done st [])
      match s.slotCheck b (sign && s.slotField b 4 4 == s.nv.fwLength.toNat) chk with
      | .signature => bad stSigFail
      | .version => bad stOldVersion
      | .readback => bad stNvFail
      | .valid =>
        ((((s.nvRead chk).setFld 0x020F 20 3 2).slotIs b true (s.slotSec b)).raise 13
          (pack [(0, 1, b2n b), (8, 24, s.slotField b 9 3)]), .done stOk [])

/-- A record of one of the identity pairs (R424), as the model lays it out: MAGIC, sequence number, value, CRC-32C in the last 4 bytes. -/
def idPage (pair : Nat) (copy : Bool) : Nat := 0x200C2000 + 128 * (4 + 2 * pair + b2n copy)

/-- The sequence number of a copy of an identity record, where it is valid. -/
def State.idSeq (s : State) (pair : Nat) (copy : Bool) : Option Nat := s.recordSeq (0x49440000 + pair) (idPage pair copy) 128

/-- Write an identity record into the page of its pair that is not in force (R424). -/
def State.idPut (s : State) (job : NvJob) (pair value : Nat) : State :=
  let c0 := s.idSeq pair false
  let c1 := s.idSeq pair true
  let seq := max (c0.getD 0) (c1.getD 0) + 1
  s.nvPut job (idPage pair (nextCopy c0 c1)) (pageRecord 1 (bytesBE 4 (0x49440000 + pair) ++ bytesBE 4 seq ++ bytesBE 4 value))

/-- The value of an identity record in force, 0 with none valid (R425). -/
def State.idValue (s : State) (pair : Nat) : Nat :=
  match liveCopy (s.idSeq pair false) (s.idSeq pair true) with
  | some b => numBE (s.ldBytes (idPage pair b + 8) 4)
  | none => 0

/-- The sequence number of a copy whose read met what start-up met (R20). -/
def State.idMet (s : State) (met : List (Nat × Check)) (pair : Nat) (copy : Bool) : Option Nat :=
  s.recordMet met (0x49440000 + pair) (idPage pair copy) 128

/-- The value of an identity record as start-up reads it (R20, R425). -/
def State.idBoot (s : State) (met : List (Nat × Check)) (pair : Nat) : Nat :=
  match liveCopy (s.idMet met pair false) (s.idMet met pair true) with
  | some b => numBE (s.ldBytes (idPage pair b + 8) 4)
  | none => 0

/-- FW_ACTIVATE (R94, R95): with FWST other than 2 it is refused (DESIGN CHOICE, log 132). PREF is set to the staged slot; the reset follows once the record is written. -/
def fwActivate (src : Src) (s : State) : State :=
  s.serveCode src 0x73 fun s r =>
    if r.a0 != 0xA5C3 || r.a1 != 0 || r.a2 != 0 || r.a3 != 0 then s.fail stBadValue
    else if s.fwst != 2 || s.outputsOn then s.fail stRefused
    else (s.idPut (.boot src) 1 (b2n s.nv.fwTarget), .later)

/-- FW_COMMIT (R94, R95, R425): a node without a valid image runs no SECVER, so it is refused (DESIGN CHOICE, log 132). The rollback counter rises to the SECVER of the running image. -/
def fwCommit (src : Src) (s : State) : State :=
  s.serveCode src 0x74 fun s r =>
    if !noArgs r then s.fail stBadValue
    else if s.bit 0x0108 9 || s.nv.noImage then s.fail stRefused
    else if s.fld 0x4010 0 16 < s.secRunning then (s.idPut (.rollback src) 0 s.secRunning, .later)
    else (s, .done stOk [])

/-- FW_ABORT (R94). -/
def fwAbort (src : Src) (s : State) : State :=
  s.serveCode src 0x75 fun s r =>
    if !noArgs r then s.fail stBadValue
    else if s.fwst = 0 then (s, .done stOk [])
    else ((s.setFld 0x020F 20 3 0).slotIs s.nv.fwTarget false 0, .done stOk [])

end Sys2Proof.Machine
end

