-- ==== Sys2Proof/Machine/Writes.lean ====
section
/-! DEFINITION. The rows of the command table that name one particular write: each is a PARAM_SET (0x11) to that parameter,
with the checks of R81 and what the write sets off. -/
namespace Sys2Proof.Machine

/-- STATE_REQ_RUN (R48, R62). -/
def stateReqRun (src : Src) (s : State) : State := s.serveSet src fun id w => id == 0x0101 && bitsOf w 0 2 == 0

/-- STATE_REQ_WATCH (R48). -/
def stateReqWatch (src : Src) (s : State) : State := s.serveSet src fun id w => id == 0x0101 && bitsOf w 0 2 == 1

/-- STATE_REQ_HATBOX (R49). -/
def stateReqHatbox (src : Src) (s : State) : State := s.serveSet src fun id w => id == 0x0101 && bitsOf w 0 2 == 2

/-- SEQ_LOAD (R154): a write of 1 to LOAD. -/
def seqLoad (src : Src) (s : State) : State := s.serveSet src fun id w => id == 0x1200 && w.getLsbD 1

/-- SEQ_RUN_WRITE (R157): a write of `seq.ctrl` that leaves LOAD alone. -/
def seqRunWrite (src : Src) (s : State) : State := s.serveSet src fun id w => id == 0x1200 && !w.getLsbD 1

/-- STREAM_ENABLE (R136, R141): a write of `conv.sN.ctrl`. -/
def streamEnable (src : Src) (s : State) : State :=
  s.serveSet src fun id _ => match streamPlace id with | some (_, k) => k == 0 | none => false

/-- STREAM_TAIL_WRITE (R140): a write of `conv.sN.tail`. -/
def streamTailWrite (src : Src) (s : State) : State :=
  s.serveSet src fun id _ => match streamPlace id with | some (_, k) => k == 4 | none => false

/-- HOST_INJECTION_REQUEST (R130, R135): a write of `conv.inj.host`, which completes when the result is in `conv.inj.result`. -/
def hostInjectionRequest (src : Src) (s : State) : State := s.serveSet src fun id _ => id == 0x1109

/-- PAT_HOLD_RELEASE (R177): HOLD written to 0. -/
def patHoldRelease (src : Src) (s : State) : State := s.serveSet src fun id w => id == 0x1300 && !w.getLsbD 1

/-- PROBENOW (R229). -/
def probenow (src : Src) (s : State) : State := s.serveSet src fun id w => id == 0x1500 && w.getLsbD 1

/-- TIMER_START_STOP (R236): a write of `tmr.start`. -/
def timerStartStop (src : Src) (s : State) : State := s.serveSet src fun id _ => id == 0x1600

/-- TIMER_COUNT_WRITE (R237): a write of `tmr.uN.count`. -/
def timerCountWrite (src : Src) (s : State) : State :=
  s.serveSet src fun id _ => match timerPlace id with | some (_, k) => k == 3 | none => false

/-- FAB_WAKE (R276): a write of `fab.wake`. -/
def fabWake (src : Src) (s : State) : State := s.serveSet src fun id _ => id == 0x2025

/-- SNAP_FREE (R304): a write of FREE in `fab.snap.ctrl`. -/
def snapFree (src : Src) (s : State) : State := s.serveSet src fun id w => id == 0x2040 && bitsOf w 8 2 != 0

end Sys2Proof.Machine
end

