-- ==== Sys2Proof/Machine/Patina.lean ====
section
/-! DEFINITION. Patina (R162 to R185): how calibration values come into force, background updates and convergence, PATINA_SET, and
CAL_COMMIT and CAL_RELOAD. -/
namespace Sys2Proof.Machine

/-- The 212 calibration IDs, ascending (R179, R185). -/
def calIds : List Nat := (List.range 212).map fun i => 0x1320 + i

/-- Replace values of the working set as one change (R163, R168, R177): the values they replace stay known to conversions sampled before. -/
def State.calPut (s : State) (vs : List (Nat × Word)) : State :=
  if vs.isEmpty then s
  else
    let n := s.rd 0x1302
    let t := vs.foldl (fun (t : State) x =>
      { t.wr x.1 x.2 with pat := { t.pat with past := t.pat.past ++ [(n, x.1, t.rd x.1)] } }) s
    t.addWord 0x1302 1

/-- A stored calibration bank is valid (R180). -/
def State.calSeq (s : State) (b : Bool) : Option Nat := s.recordSeq 0x50415431 (calBank b) 1024

/-- The valid bank with the higher sequence number, if any (R180). -/
def State.calLive (s : State) : Option Bool := liveCopy (s.calSeq false) (s.calSeq true)

/-- The values of a bank, or the nominal set (R180, R181). -/
def State.calValues (s : State) (bank : Option Bool) : List (Nat × Word) := calIds.map fun i => (i, s.bankValue bank i)

/-- R179, step 2: the bytes of a CAL_COMMIT record. -/
def State.calBytes (s : State) : List Byte :=
  let st := s.stamp
  sealed (padTo 1020 (wordsBE [0x50415431, s.rd 0x1303 + 1] ++ bytesBE 8 st.2.toNat
    ++ wordsBE ([pack [(4, 1, b2n st.1), (0, 2, 2)], s.rd 0x1307] ++ calIds.map s.rd)))

/-- The end of CAL_RELOAD at a sweep boundary (R181). A bank that cannot be read leaves the working set as it is, and the command completes with DATAERR
(DESIGN CHOICE, log 133). -/
def State.calReloadNow (s : State) : State :=
  match s.pat.reload with
  | none => s
  | some (src, .lasting) => { s with pat := { s.pat with reload := none } }.complete src stDataErr []
  | some (src, _) =>
    let t := { s with pat := { s.pat with reload := none, held := [], due := [] } }.calPut (s.calValues s.calBankOn)
    ((t.setBit 0x1301 3 false).rearm).complete src stOk []

/-- CAL_COMMIT takes the working set at a sweep boundary and writes it (R179). -/
def State.calCommitNow (s : State) : State :=
  match s.pat.commit with
  | some (src, false) =>
    let bank := match s.calBankOn with | some b => !b | none => false
    { s with pat := { s.pat with commit := some (src, true) } }.nvPut (.cal bank src) (calBank bank) s.calBytes
  | _ => s

/-- A sweep boundary (R168, R177, R179, R181): waiting values take force, then a reload, then the snapshot of a commit. -/
def State.calBoundary (s : State) : State :=
  ({ s with pat := { s.pat with due := [], update := [] } }.calPut (s.pat.update ++ s.pat.due)).calReloadNow.calCommitNow
/-- PATINA_ROTATION_MARK (R165). -/
def patinaRotationMark (s : State) : State := if s.patinaRuns then { s with pat := { s.pat with mark := true } } else s

/-- R169: a gain moved by more than 2 ppm, or a lane offset by more than 8 units. -/
def calMoved (id : Nat) (old new : Word) : Bool :=
  if 0x1357 ≤ id ∧ id ≤ 0x135B then decide (8 < (new.toInt - old.toInt).natAbs)
  else decide (2 * old.toNat < ((new.toNat : Int) - old.toNat).natAbs * 1000000)

/-- R165: cell `k` (from 0) is compared: connected, on neither side of an open line, and converted on all four lanes of the period. -/
def State.compared (s : State) (k : Nat) : Bool :=
  decide (k < s.cells) && !s.lineOpen k && !s.lineOpen (k + 1)
    && [0, 1, 2, 3].all fun l => decide (0 < (nth s.pat.cells (4 * k + l) (0, 0)).2)

/-- A sum over its count. -/
def sumMean (x : Int × Nat) : Rat := (x.1 : Rat) / (x.2 : Rat)

/-- R165: a cell's average on lane `l` less its mean over the four lanes. -/
def State.laneDiff (s : State) (l k : Nat) : Rat :=
  let m (i : Nat) : Rat := sumMean (nth s.pat.cells (4 * k + i) (0, 0))
  m l - (m 0 + m 1 + m 2 + m 3) / 4

/-- What the period's comparisons say of lane `l` (R165, R166): the mean difference over the compared cells, the sums of its codes and of their
second conversions, and its loop-back codes. -/
def State.laneData (s : State) (l : Nat) : List (Int × Nat) :=
  let cs := (List.range 24).filter s.compared
  let mean : Rat := (cs.foldl (fun a k => a + s.laneDiff l k) 0) / (cs.length : Rat)
  let p := nth s.pat.pairs l (0, 0, 0)
  (if cs.isEmpty then [] else [(mean.num, mean.den)]) ++ (if p.2.2 = 0 then [] else [(p.1, p.2.2), (p.2.1, p.2.2)])
    ++ (List.range 4).filterMap fun i =>
      let x := nth s.pat.loops (4 * l + i) (0, 0)
      if x.2 = 0 then none else some x

/-- A value held within the range of its row (R185): stage gains, lane offsets, lane gains. -/
def laneClamp (id : Nat) (w : Word) : Word :=
  if id < 0x1357 then BitVec.ofNat 32 (max 0x30000000 (min 0x50000000 w.toNat))
  else if id < 0x135C then BitVec.ofInt 32 (max (-65536) (min 65536 w.toInt))
  else BitVec.ofNat 32 (max 0x3999999A (min 0x46666666 w.toNat))

/-- The ten lane values of an update (R165, R166): the lane matching of L0 to L3, and with L4 the scale all lanes share, from the comparisons of the
period. How a comparison moves an offset and a gain is not stated: free (log 114). A lane without a comparison keeps its values. -/
def State.laneValues (s : State) : List (Nat × Word) :=
  (List.range 10).map fun i =>
    let id := 0x1357 + i
    let data := s.laneData (i % 5)
    (id, if data.isEmpty then s.baseOf id else laneClamp id (Config.laneValue i (s.baseOf id) data))

/-- A new update period begins with nothing averaged (R168). -/
def State.patinaFresh (s : State) : State :=
  { s with pat := { s.pat with cells := copies 96 (0, 0), pairs := copies 4 (0, 0, 0), loops := copies 20 (0, 0) } }

/-- PATINA_UPDATE (R164 to R169): an update period ends. The 55 stage gains come from the correlation of the stages' residues with the dither, which
never leave the lanes (log 13); the 10 lane values come from the comparisons. Together they wait for the next sweep boundary. -/
def patinaUpdate (gains : List Word) (s : State) : State :=
  if s.patinaRuns && gains.length == 55 then
    let vs := (gains.zipIdx.map fun x => (0x1320 + x.2, laneClamp (0x1320 + x.2) x.1)) ++ s.laneValues
    let quiet := if vs.any fun x => calMoved x.1 (s.baseOf x.1) x.2 then 0 else s.pat.quiet + 1
    let t := ({ s with pat := { s.pat with update := vs, quiet := quiet } }.patinaFresh).addSat 0x1301 8 8 1
    let n := t.fld 0x1301 8 8
    if 8 ≤ n ∧ 4 ≤ quiet ∧ !t.bit 0x1301 0 then
      (t.setBit 0x1301 0 true).raise 29 (pack [(0, 8, n), (8, 1, b2n (!t.bit 0x1301 1))])
    else t
  else s

/-- CAL_COMMIT (R179). -/
def calCommit (src : Src) (s : State) : State :=
  s.serveCode src 0x21 fun s r =>
    if !noArgs r then s.fail stBadValue
    else if s.bit 0x1300 1 || s.pat.set.isSome || s.pat.reload.isSome || s.pat.commit.isSome then s.fail stRefused
    else ({ s with pat := { s.pat with commit := some (src, false) } }, .later)

/-- CAL_RELOAD (R181); `chk` is what the read of the bank meets (R20). -/
def calReload (src : Src) (chk : Check) (s : State) : State :=
  s.serveCode src 0x22 fun s r =>
    if !noArgs r then s.fail stBadValue
    else if s.pat.set.isSome || s.pat.commit.isSome || s.pat.reload.isSome then s.fail stRefused
    else ({ s.nvRead chk with pat := { s.pat with reload := some (src, chk) } }, .later)

/-! ## PATINA_SET (R173, R174) -/

/-- PATINA_SET (R173). -/
def patinaSet (src : Src) (s : State) : State :=
  s.serveCode src 0x20 fun s r =>
    let inj := s.bit 0x1108 15 && decide (s.fld 0x1108 0 6 < s.fld 0x1000 0 5)
    if !noArgs r then s.fail stBadValue
    else if s.pwr.mode != .run || !s.bit 0x1200 0 || s.bit 0x1200 1 || inj || s.bit 0x1300 1 || s.pat.commit.isSome || s.pat.reload.isSome
        || s.pat.set.isSome then s.fail stRefused
    else ({ s with pat := { s.pat with set := some ⟨src, false, 0, 0, false, copies 24 (0, 0, false)⟩ } }.setBit 0x1301 2 true, .later)

/-- The cells of a group, from 0, among `n` (R174). -/
def groupOf (n g : Nat) : List Nat := (List.range 8).filterMap fun i => if 8 * g + i < n then some (8 * g + i) else none

/-- Close the shorting switches of some cells and of no others. -/
def State.shortOnly (s : State) (cs : List Nat) : State := s.setFld 0x1006 0 24 (cs.foldl (fun a c => a + 2 ^ c) 0)

/-- A timer or host injection of a cell is queued or in a lane (R174). -/
def State.cellInjected (s : State) : Bool :=
  let n := s.fld 0x1000 0 5
  let own (d : Dest) : Bool := match d with | .timer _ | .host _ => true | .table | .safety | .patina => false
  (s.conv.inject.any fun i => decide (i.chan < n)) || s.conv.plan.any fun k => own k.dest && decide (k.chan < n)

/-- R174, step 2: at the aperture of a pass the group's switches close, 500 µs × g after the table's start. -/
def State.setClose (s : State) : State :=
  match s.pat.set with
  | some p =>
    let cells := groupOf (s.fld 0x1000 0 5) p.group
    if p.started && !p.closed && !cells.isEmpty && decide (p.start + 20000 * p.group ≤ s.seq.due.toNat) then
      { s with pat := { s.pat with set := some { p with closed := true } } }.shortOnly cells
    else s
  | none => s

/-- PATINA_SET_START (R174, step 1): at a sequencer boundary after its other changes, the calibration table takes the active table's place, with the
gap of R156; the first group's switches close at its start. While a slice of 10 to 12 holds shorting switches it waits (R113, log 122). -/
def patinaSetStart (s : State) : State :=
  match s.pat.set with
  | some p =>
    if p.started || s.cellInjected || s.pwr.request.isSome || s.seq.checked.isSome || s.host.applyWait.isSome || s.pwr.mode != .run
        || (s.chis.busy && decide (10 ≤ s.chis.next ∧ s.chis.next ≤ 12)) then s
    else
      let t := (s.takeTc calTable).tableStart .calibration true
      { t with pat := { t.pat with set := some { p with started := true, start := t.seq.due.toNat } } }.setClose
  | none => s

/-- PATINA_SET_GROUP (R174, steps 2 to 4): 450 µs after a group's switches closed its samples are averaged and the switches open. -/
def patinaSetGroup (s0 : State) : State :=
  match s0.pat.set with
  | some p =>
    if !p.started || (groupOf (s0.fld 0x1000 0 5) p.group).isEmpty then s0
    else
      let s := s0.advanceTo (BitVec.ofNat 64 (p.start + 20000 * p.group + 18000))
      { s with pat := { s.pat with set := some { p with group := p.group + 1, closed := false } } }.shortNone
  | none => s0

/-- The cells whose offset changes (R174): index from 0 and the mean of the samples, rounded to 1/256 LSB; a cell with a CLIPPED sample or a mean more
than 10 mV from zero is left out, and so is one without samples. -/
def setChanges (sums : List (Int × Nat × Bool)) : List (Nat × Int) :=
  sums.zipIdx.filterMap fun x =>
    if x.1.2.1 = 0 ∨ x.1.2.2 ∨ 100 * x.1.2.1 < x.1.1.natAbs then none else some (x.2, roundNear (256 * x.1.1) x.1.2.1)

/-- The largest change and its cell, the lowest-numbered on a tie. -/
def largestChange (l : List (Nat × Int)) : Option (Nat × Int) :=
  l.foldl (fun (b : Option (Nat × Int)) (x : Nat × Int) => match b with
    | none => some x
    | some y => if y.2.natAbs < x.2.natAbs then some x else some y) none

/-- PATINA_SET_APPLY (R173, R174, steps 5 and 6): new offset = old offset − mean; the active table restarts; the command completes. -/
def patinaSetApply (s : State) : State :=
  match s.pat.set with
  | some p =>
    if !p.started || !(groupOf (s.fld 0x1000 0 5) p.group).isEmpty then s
    else
      let ch := setChanges p.sums
      let s1 := { s with pat := { s.pat with set := none } }
      let t := (if ch.isEmpty then s1.addWord 0x1302 1 else s1).calPut
        (ch.map fun (x : Nat × Int) => (0x1362 + 2 * x.1, s.rd (0x1362 + 2 * x.1) - BitVec.ofInt 32 x.2))
      let rsp0 := BitVec.ofNat 32 (ch.foldl (fun a x => a + 2 ^ x.1) 0)
      let rsp1 := match largestChange ch with
        | some x => pack [(16, 5, x.1 + 1), (0, 16, min 0xFFFF (quot (x.2.natAbs * 100) 256).toNat)]
        | none => 0
      let u := ((t.shortNone).setBit 0x1301 2 false).addSat 0x1308 0 16 1
      (u.activeAgain.raise 30 rsp0).complete p.src stOk [rsp0, rsp1]
  | none => s

end Sys2Proof.Machine
end

