-- ==== Sys2Proof/Machine/Sequencer.lean ====
section
/-! DEFINITION. The sequencer (R145 to R161): passes, triggers and blanking, the boundary and the changes it takes, the Watch table, and
the check of the pending bank. -/
namespace Sys2Proof.Machine


/-! ## Boundaries (R155) -/

/-- Tables start or stop as `seq.ctrl` RUN and the state say: the active table in Run, the Watch table in Watch at the next 10 ms start
(R157, R158). SEQLOAD names the Watch table, or the active table where it starts `again` (R160). -/
def State.tableFollow (s : State) (again : Bool) : State :=
  if s.pwr.mode = .watch then
    if s.bit 0x1200 0 then
      let t := s.tableStart .watch true
      let gap := t.seq.due.toNat - t.seq.base.toNat
      { t with seq := { t.seq with due := t.seq.base + BitVec.ofNat 64 (400000 * ((gap + 399999) / 400000)) } }.seqLoadEvent false true
    else s.seqStop
  else
    if again then s.activeAgain else s.activeStart false

/-- A change of state that waited for the boundary (R48, R49): it ends PATINA_SET (R174). -/
def State.stateBoundary (s : State) : State :=
  match s.pwr.request with
  | none => s
  | some m =>
    let q := s.patinaAbort stRefused
    let a := { q with pwr := { q.pwr with request := none } }
    match m with
    | .run => if s.pwr.mode = .watch then (((a.toRun .watch).refreshAll).tableFollow true).balRefresh else a
    | .watch =>
      if s.pwr.mode = .run then
        let b := (({ a with pwr := { a.pwr with mode := .watch, roundOn := false }, seq := { a.seq with base := a.gapTick } }.impStop).thermRestart
          |>.patinaStop).refreshAll
        ((b.stateChg .run .watch 0).tableFollow true).balRefresh
      else a
    | .hatbox =>
      let b := { a with pwr := { a.pwr with hatbox := .stopping } }.seqStop
      { b with conv := { b.conv with plan := [], streams := b.conv.streams.map fun (x : Stream) => { x with stage := [], burst := none } } }.impDrop.patinaStop
    | .off | .start | .guard => a

/-- A checked bank swaps in (R154 to R156): at the next boundary, or with WHEN 1 at the first of a loop; in Watch WHEN has no effect and the
table does not start. -/
def State.swapBoundary (s : State) (wrap : Bool) : State :=
  match s.seq.checked with
  | none => s
  | some w =>
    if s.seq.phase = .calibration then s
    else
      let runs := s.seq.phase = .running ∨ s.seq.phase = .waiting ∨ s.seq.phase = .leadIn
      if runs then (if !w || wrap then s.swapBanks w true else s) else s.swapBanks w false

/-- RUN, and the restart that brings an ON GRID table to the grid (R157, R290), after the changes of R155. -/
def State.runBoundary (s : State) : State :=
  let on := s.bit 0x1200 0
  if s.seq.phase = .calibration then s
  else if !on then (if s.seq.phase = .stopped then s else s.seqStop)
  else if s.seq.phase = .stopped then
    if (s.pwr.mode = .run ∨ s.pwr.mode = .watch) ∧ s.pwr.hatbox ≠ .stopping then s.tableFollow false else s
  else s

/-- A sequencer boundary (R155): state, swap, PARAM_APPLY with WHEN 1, then RUN. -/
def State.boundary (s : State) (wrap : Bool) : State :=
  ((s.stateBoundary.swapBoundary wrap).applyAtBoundary).runBoundary

/-- R290: the sweep's table restarts at the earliest tick, 40 ticks or more after the boundary, that lies on the grid of the sweep. -/
def State.alignStart (s : State) : State :=
  match s.sweep.align, s.sweep.grid, s.sweep.plan with
  | true, some g, some p =>
    let t := s.tableStart .running true
    let at_ := t.seq.due.toNat + 40
    let fab := (t.clk.fabric + (BitVec.ofNat 64 at_ - t.clk.ref)).toNat
    let step := max 1 g
    let off := (p.t0.toNat + step * (fab / step + 1) - fab) % step
    { t with sweep := { t.sweep with align := false }, seq := { t.seq with due := BitVec.ofNat 64 (at_ + off) } }
  | _, _, _ => { s with sweep := { s.sweep with align := false } }

/-! ## Passes -/

/-- The enabled entry after `i`, or the first of the next loop (R145). -/
def State.entryAfter (s : State) (i : Nat) : Nat × Bool :=
  let es := enabled s.seq.active
  match es.find? fun x => decide (i < x.2) with
  | some x => (x.2, false)
  | none => match es with | x :: _ => (x.2, true) | [] => (0, true)

/-- A sweep aperture, and what takes force there (R163, R165, R168). -/
def State.sweepBoundary (s : State) : State :=
  let t := if s.pat.mark then { s with pat := { s.pat with mark := false } }.setFld 0x1101 0 2 ((s.fld 0x1101 0 2 + 1) % 4) else s
  t.calBoundary

/-- One pass of an entry starts now (R146, R147): values that wait for it take force, and its conversions are planned. -/
def State.runPass (s : State) (e : Entry) : State :=
  let sweeps := (enabled s.seq.active).any fun x => x.1.sweep
  let t := if e.sweep then s.sweepBoundary else if sweeps then s else s.calBoundary
  t.planPass e s.seq.due.toNat

/-- R149: the tick at which the blanked span of a pass ends: its aperture closes, or its last conversion starts. -/
def State.spanOver (s : State) (e : Entry) (pass : Nat) : DWord :=
  if e.sweep then s.seq.due + 8
  else BitVec.ofNat 64 ((s.conv.plan.filter fun k => k.pass == pass).foldl (fun m k => max m (4 * k.clk)) s.seq.due.toNat)

/-- The pass of the active table that is due starts, and the next one is due I ticks later (R145, R147). With the last pass of a BLANK entry the end of
its blanked span is known (R149). -/
def State.tablePass (s : State) : State :=
  let i := s.seq.entry
  let e := nth s.seq.active i noEntry
  let t := ({ s with seq := { s.seq with phase := .running } }.runPass e).seqShow i s.seq.pass
  let next := s.seq.due + BitVec.ofNat 64 e.interval
  if s.seq.pass + 1 < e.count then { t with seq := { t.seq with pass := s.seq.pass + 1, due := next } }
  else
    let n := t.entryAfter i
    let ends := if e.blank then some (t.spanOver e s.conv.passNo) else t.seq.spanEnd
    { t with seq := { t.seq with entry := n.1, pass := 0, due := next, wrap := n.2, spanEnd := ends } }

/-- The lead-in of a BLANK entry starts at the tick due (R149). -/
def State.leadStart (s : State) : State :=
  (({ s with seq := { s.seq with due := s.seq.due + BitVec.ofNat 64 s.lead, fired := none } }.blankSpan).seqPhase .leadIn).seqShow s.seq.entry 0

/-- An entry is reached (R148, R149): it waits, leads in, or starts its pass. -/
def State.entryStart (s : State) : State :=
  let e := nth s.seq.active s.seq.entry noEntry
  if s.seq.pass = 0 ∧ e.wait then s.trigWait.seqShow s.seq.entry 0
  else if s.seq.pass = 0 ∧ e.blank then s.leadStart
  else s.tablePass

/-- The Watch table (R158): COUNT_W sweeps, then the auxiliary pass, in each 10 ms; its settings are taken at the 10 ms start. -/
def State.watchPass (s : State) : State :=
  let t := if s.seq.pass = 0 then
      { s with seq := { s.seq with base := s.seq.due, wCount := s.fld 0x1219 16 6, wInt := s.fld 0x1219 0 16,
                                   wAux := BitVec.ofNat 16 (s.fld 0x1218 0 16) } }
    else s
  let k := t.seq.pass
  let shown := t.seqShow 0 k
  if k < t.seq.wCount then
    let u := (shown.sweepBoundary).planPass shown.watchSweep t.seq.due.toNat
    { u with seq := { u.seq with pass := k + 1, due := t.seq.due + BitVec.ofNat 64 t.seq.wInt } }
  else
    let u := shown.planPass shown.watchAux t.seq.due.toNat
    { u with seq := { u.seq with pass := 0, due := t.seq.base + 400000 } }

/-- A pass of the calibration table (R174): SWEEP every 40 ticks; a group's switches close at the aperture at its time. -/
def State.calPass (s : State) : State :=
  let t := s.setClose.runPass ⟨0x03FFFFFF, 0, 0xC0000001, 0⟩
  { t with seq := { t.seq with due := t.seq.due + 40 } }

/-- The blanked span ends at its tick where that has come (R149). -/
def State.spanPassed (s : State) (due : DWord) : State :=
  match s.seq.spanEnd with
  | some d => if d.toNat ≤ due.toNat then s.unblank else s
  | none => s

/-- SEQ_PASS_START (R147, R155, R158, R174): the tick of the next pass has come. A blanked span that ends before it is over; its boundary is taken
first; where that starts another table, the pass under way ends there. -/
def seqPassStart (s0 : State) : State :=
  let s := s0.spanPassed s0.seq.due
  match s.seq.phase with
  | .stopped | .waiting => s
  | .calibration =>
    let a := s.advanceTo s.seq.due
    let b := a.boundary false
    if b.seq.phase = .calibration then b.calPass else b
  | .watch =>
    let a := s.advanceTo s.seq.due
    let b := a.boundary false
    if b.seq.phase = .watch ∧ b.seq.due = a.seq.due then b.watchPass else b
  | .leadIn =>
    let a := s.advanceTo s.seq.due
    let b := a.boundary false
    if b.seq.phase = .leadIn then b.tablePass else b
  | .running =>
    let a := s.advanceTo s.seq.due
    let a1 := if a.seq.wrap then a.addWord 0x1202 1 else a
    let b := { a1 with seq := { a1.seq with wrap := false } }.boundary a.seq.wrap
    if b.seq.phase = .running ∧ b.sweep.align then b.alignStart
    else if b.seq.phase = .running ∧ b.seq.due = a.seq.due then b.entryStart
    else b

/-- SEQ_TRIGGER (R148, R155): an event of the entry's source has released it (`seqEvent`): its lead-in or first pass starts at the first lane-clock
edge after the event, which is a boundary. -/
def seqTrigger (s : State) : State :=
  match s.seq.phase, s.seq.fired with
  | .waiting, some at_ =>
    let edge := BitVec.ofNat 64 (4 * (at_.toNat / 4 + 1))
    let b := (s.advanceTo edge).boundary false
    if b.seq.phase = .waiting then
      let t := { b with seq := { b.seq with due := edge, fired := none } }
      if (nth t.seq.active t.seq.entry noEntry).blank then t.leadStart else t.tablePass
    else b
  | _, _ => s

/-- TRIGMISS (R148, R160): no trigger within `seq.trig.tmo`; the entry is skipped and the next one starts at once. -/
def trigmiss (s : State) : State :=
  if s.seq.phase = .waiting ∧ s.seq.fired = none ∧ s.fld 0x1208 0 16 ≠ 0 then
    let i := s.seq.entry
    let t := s.raise 28 (pack [(0, 6, i), (8, 2, (nth s.seq.active i noEntry).tsel)])
    let n := t.entryAfter i
    { t with seq := { t.seq with phase := .running, entry := n.1, pass := 0, due := t.clk.ref, wrap := n.2 } }.seqShow n.1 0
  else s

/-- BLANKED_SPAN_END (R149, R219): the aperture of a BLANK entry's last pass closes, or its last conversion starts: the blanked span is over. Before
its last pass has started there is no such end. -/
def blankedSpanEnd (s : State) : State :=
  match s.seq.spanEnd with
  | some d => (s.advanceTo d).unblank
  | none => s

/-! ## The check of the pending bank (R154) -/
/-- Ticks of passes the check keeps: more than the 50 µs of R154 and a window of R119. -/
def checkSpan : Nat := 2400

/-- The passes of an entry the check looks at. The conversions of a long entry repeat every four passes against the lane clock, so a multiple
of four passes is left out of its middle; what is left still spans more than any window of R154 at either end. -/
def keptPasses (e : Entry) : Nat :=
  let k := (checkSpan + e.interval - 1) / e.interval + 12
  if e.count ≤ k then e.count else k + (e.count - k) % 4

/-- The passes of one loop from a tick on: entry, number and start; triggers arrive at once (R154). -/
def loopPasses (lead : Nat) : Nat → List (Entry × Nat) → List (Entry × Nat × Nat)
  | _, [] => []
  | t0, x :: rest =>
    let a := t0 + if x.1.blank then lead else 0
    (List.range (keptPasses x.1)).map (fun k => (x.1, x.2, a + k * x.1.interval))
      ++ loopPasses lead (a + keptPasses x.1 * x.1.interval) rest

/-- The ticks of that loop. -/
def checkLoop (lead : Nat) (es : List (Entry × Nat)) : Nat :=
  es.foldl (fun t x => t + (if x.1.blank then lead else 0) + keptPasses x.1 * x.1.interval) 0

/-- The conversions of a number of loops from a start phase and a rotation index, as lane clock, lane and entry: sweep slots first, which never move
(R117, R134), then the others in their passes' order (R119). -/
def tableSlots (es : List (Entry × Nat)) (lead phase r loops : Nat) : List (Nat × Nat × Nat) :=
  let loop := checkLoop lead es
  let one := loopPasses lead phase es
  let ps := (List.range loops).flatMap fun k =>
    one.map fun (p : Entry × Nat × Nat) => (p.1, p.2.1, p.2.2 + k * loop)
  let sw := (ps.filter fun p => p.1.sweep).flatMap fun p => (sweepSlots p.2.2 r).map fun x => (x.1, x.2.1, p.2.1)
  ps.foldl (fun (acc : List (Nat × Nat × Nat)) p =>
    let first := if p.1.sweep then (p.2.2 + 8) / 4 + 1 else (p.2.2 + 3) / 4
    let occ := (acc.filter fun y => decide (first ≤ y.1)).map fun y => (y.1, y.2.1)
    ((placeSlow occ first p.1.slow).map fun y => (y.1, y.2.1, p.2.1)).reverse ++ acc) sw.reverse

/-- The clocks of a lane's conversions in rising order, with their entries. -/
def laneClocks (slots : List (Nat × Nat × Nat)) (lane : Nat) : List (Nat × Nat) :=
  sortKey (·.1) ((slots.filter fun y => y.2.1 == lane).map fun y => (y.1, y.2.2))

/-- R154, failure 5: the first conversion in time that is the ninth of its lane within 10 clocks: its clock, entry and lane. -/
def overfull (slots : List (Nat × Nat × Nat)) : Option (Nat × Nat × Nat) :=
  let hits := [0, 1, 2, 3].filterMap fun lane =>
    let l := laneClocks slots lane
    (((l.zip (l.drop 8)).find? fun x => decide (x.2.1 < x.1.1 + 10)).map fun x => (x.2.1, x.2.2, lane))
  least (hits.map fun h => ((h.1 * 64 + h.2.1) * 4 + h.2.2, h))


/-- The conversions of a round cannot all be placed within `span` clocks from `c` on. -/
def roundFails (span c : Nat) : Nat → List (Nat × Nat) → Bool
  | 0, _ => false
  | n + 1, slots => match placeRound slots c span with | none => true | some p => roundFails span c n (p :: slots)

/-- The clocks of the ranges, each once; the ranges' starts do not fall. -/
def covered : Nat → List (Nat × Nat) → List Nat
  | _, [] => []
  | next, x :: rest =>
    let lo := max next x.1
    (List.range (x.2 + 1 - lo)).map (lo + ·) ++ covered (max next (x.2 + 1)) rest

/-- The clocks at which a lane takes no further conversion: its own, and those of windows that already hold 8 (R119). -/
def fullClocks (l : List Nat) : List Nat :=
  covered 0 ((l.zip ((l.drop 7).map some ++ copies 7 none)).map fun x => match x.2 with
    | some e => if e < x.1 + 10 then (e - 9, x.1 + 9) else (x.1, x.1)
    | none => (x.1, x.1))

/-- R154, failure 6, over a loop: some 50 µs, 500 lane clocks, cannot take the 12 conversions. One placing takes at most 21 positions from its
lane, so a window with 252 of its 2,000 positions open takes them all, and only the others are tried. -/
def starves (lead : Nat) (es : List (Entry × Nat)) (slots : List (Nat × Nat × Nat)) : Bool :=
  let loop := checkLoop lead es / 4 + 1
  let shut := [0, 1, 2, 3].flatMap fun lane => fullClocks ((laneClocks slots lane).map (·.1))
  let tight (c : Nat) : Bool := decide (1748 < (shut.filter fun k => decide (c ≤ k) && decide (k < c + 500)).length)
  let near (c : Nat) : List (Nat × Nat) :=
    (slots.filter fun y => decide (c ≤ y.1 + 10) && decide (y.1 < c + 510)).map fun y => (y.1, y.2.1)
  decide (1748 < shut.length) && (List.range (loop + 1)).any fun k => tight (loop + k) && roundFails 500 (loop + k) 12 (near (loop + k))

/-- R154: the first failure of a bank, as DATA of SEQERR: entry, failure, lane. Over the rotation indices and start phases the failure 5 of the
lowest entry is named. -/
def State.bankFailure (s : State) (es : List Entry) : Option (Nat × Nat × Nat) :=
  let on := enabled es
  let lead := s.lead
  let first (p : Entry → Bool) : Option Nat := (on.find? fun x => p x.1).map (·.2)
  let loop := checkLoop lead on
  let runs (loops : Nat) : List (List (Nat × Nat × Nat)) :=
    [0, 1, 2, 3].flatMap fun ph => [0, 1, 2, 3].map fun r => tableSlots on lead ph r loops
  let crowded (loops : Nat) : Option (Nat × Nat × Nat) :=
    least (((runs loops).filterMap overfull).map fun p => (p.2.1 * 4 + p.2.2, p))
  let all := 2 + (checkSpan + loop) / max 1 loop
  if on.isEmpty then some (63, 1, 0)
  else match first (fun e => !e.sweep && bitsOf e.mask0 0 26 != 0) with
    | some i => some (i, 2, 0)
    | none => match first (fun e => e.wait && !s.bit (0x1204 + e.tsel) 0) with
      | some i => some (i, 3, 0)
      | none => match first (fun e => e.blank && decide (400000 < spanOf lead e)) with
        | some i => some (i, 4, 0)
        | none => match (crowded 2).or (crowded all) with
          | some p => some (p.2.1, 5, p.2.2)
          | none => if (runs all).any fun x => starves lead on x then some (63, 6, 0) else none

/-- TABLE_CHECK_DONE (R154): the pending bank is refused with SEQERR, or awaits its swap. -/
def tableCheckDone (s : State) : State :=
  if !s.up || !s.bit 0x1200 1 || s.seq.checked.isSome then s
  else match s.bankFailure s.seq.pending with
    | some (e, f, l) =>
      let d := pack [(0, 6, e), (8, 4, f), (12, 2, l)]
      ((s.wr 0x1203 d).setBit 0x1200 1 false).raise 27 d
    | none => { s with seq := { s.seq with checked := some (s.bit 0x1200 2) } }.setBit 0x1201 11 true

end Sys2Proof.Machine
end

