-- ==== Sys2Proof/Machine/Power.lean ====
section
/-! DEFINITION. Power, reset, start-up, Hatbox and scan entry (R43 to R62, R341, R342, R406, R407), and the two safety commands of the
mailbox (R355, R356). -/
namespace Sys2Proof.Machine

/-! ## Reset -/

/-- The page write under way completes; the rest of the queue is dropped (R53, R56, R341). None is under way in Hatbox (R49), in reset or in Off, nor once
an orderly stop holds new ones back (R339). -/
def State.finishPage (s : State) : State :=
  let t := { s with nv := { s.nv with queue := [] } }
  match s.nv.queue with
  | [] => t
  | w :: _ => if !s.awake || (s.nv.hold && s.nv.drained) then t else t.stBytes w.addr w.data

/-- A reset: every field at its reset value but what outlives it. MRAM, the serial number and the levels outside the node stay; the
always-on island keeps the reset count, the cut and Doff counts and the excluded sensors until POWERON (R57, R62, R334, R341). -/
def State.resetNode (s : State) (cause : Word) (phase : Phase) (poweron : Bool) : State :=
  let t : State :=
    { State.reset with
      pwr := { State.reset.pwr with phase := phase, stuck := s.pwr.stuck && !poweron, scanDue := s.pwr.scanDue }
      mem := memPart s.mem mramBase 0x100000000
      nv := { State.reset.nv with marked := s.nv.marked }
      pins := { State.reset.pins with fbH := s.pins.fbH, fbL := s.pins.fbL, tmpIn := s.pins.tmpIn, test := s.pins.test }
      serial := s.serial
      free := s.free
      pending := s.pending }
  let u := t.wr 0x0102 cause
  if poweron then u.outShow
  else
    ((((u.wr 0x0103 (s.rd 0x0103)).addSat 0x0103 0 16 1).wr 0x310D (s.rd 0x310D)).wr 0x3008 (s.rd 0x3008)).setFld 0x3000 8 6
      (s.fld 0x3000 8 6) |>.outShow

/-- The end of a reset: the boot logic samples TEST (R406), and start-up begins or the unlock window opens. -/
def State.resetEnds (s : State) (test : Bool) : State :=
  { s with pins := { s.pins with test := test }
           pwr := { s.pwr with phase := if test then .scanWindow else .begin, unlock := 0 } }

/-- POWER_ON (R44, R53, R62): VSTK passes the start threshold. -/
def powerOn (islandKept : Bool) (s : State) : State :=
  if s.pwr.mode = .off then
    let t := s.resetNode (if islandKept then 2 else 1) .begin (!islandKept)
    { t with pwr := { t.pwr with brownDue := islandKept } }.resetEnds s.pins.test
  else s

/-- BROWN_OUT (R53): outputs off, the page write under way completes; the node then holds itself in reset and goes to Off. `sys.reset.count` counts the
reset once, when power returns. -/
def brownOut (s : State) : State :=
  if s.pwr.mode = .off then s
  else
    let t := (s.finishPage.resetNode 2 .begin false).wr 0x0103 (s.rd 0x0103)
    { t with pwr := { t.pwr with mode := .off } }.outShow

/-- NRST_ACCEPTED (R47, R55, R56): the filter accepts a low level, unless the pin was declared stuck. -/
def nrstAccepted (s : State) : State :=
  if s.pwr.mode = .off ∨ s.pwr.stuck then s else s.finishPage.resetNode 4 .held false

/-- NRST_RELEASE (R55): nRST rises and start-up begins. -/
def nrstRelease (testHigh : Bool) (s : State) : State := if s.pwr.mode = .start ∧ s.pwr.phase = .held then s.resetEnds testHigh else s

/-- STUCKRESET (R57): the pin has stayed low for 262,144 slow ticks. -/
def stuckreset (testHigh : Bool) (s : State) : State :=
  if s.pwr.mode = .start ∧ s.pwr.phase = .held then
    let t := s.setBit 0x0102 3 true
    { t with pwr := { t.pwr with stuck := true, stuckDue := true } }.resetEnds testHigh
  else s

/-- NRST_REARM (R57): nRST has been high for 100 ms. -/
def nrstRearm (s : State) : State := { s with pwr := { s.pwr with stuck := false } }

/-- A reset that a completed command brings (R79, R95): `sys.reset.cause` bit 4 or 5. -/
def State.softReset (s : State) (bit : Nat) : State := (s.finishPage.resetNode (BitVec.ofNat 32 (2 ^ bit)) .begin false).resetEnds s.pins.test

/-- THERMAL_HW_CUT (R341): two comparators of sensors not excluded have stayed above their cut level for 100 µs. -/
def thermalHwCut (tripped : BitVec 6) (s : State) : State :=
  let n := ((List.range 6).filter fun i => tripped.getLsbD i && !s.excluded i).length
  if s.pwr.mode = .off ∨ s.pwr.phase = .cut ∨ n < 2 then s
  else
    let t := s.finishPage.resetNode 2 .cut false
    { t with pwr := { t.pwr with cutMask := tripped } }

/-- THERMAL_CUT_RELEASE (R342): every comparator has been released for 1 s; start-up runs, `seconds` after the cut. -/
def thermalCutRelease (seconds : Nat) (s : State) : State :=
  if s.pwr.phase = .cut then { s with pwr := { s.pwr with cutDue := some (s.pwr.cutMask, seconds) } }.resetEnds s.pins.test else s

/-! ## Start-up (R58) -/

/-- The sequence number of a calibration bank whose read met what start-up met (R20, R180). -/
def State.calMet (s : State) (met : List (Nat × Check)) (b : Bool) : Option Nat := s.recordMet met 0x50415431 (calBank b) 1024

/-- Step 1: the calibration set of the newest bank that is valid, or the nominal set, goes into the working registers (R180, R182, R184). -/
def State.bootCal (s : State) (met : List (Nat × Check)) : State :=
  let live := liveCopy (s.calMet met false) (s.calMet met true)
  let t := (s.calValues live).foldl (fun (t : State) x => t.wr x.1 x.2) s
  match live with
  | none => t
  | some b =>
    let w (k : Nat) : Word := s.ldWord (calBank b + 4 * k)
    (((t.wr 0x1303 (w 1)).wr 0x1304 (w 3)).wr 0x1305 (w 2)).wr 0x1306
      (pack [(4, 1, b2n ((w 4).getLsbD 4)), (3, 1, b2n b), (0, 2, bitsOf (w 4) 0 2)])

/-- The first check a slot failed, as R450 codes it. -/
def slotCheckCode : SlotCheck → Nat
  | .valid | .signature => 0
  | .version => 1
  | .readback => 2

/-- What the boot logic finds in a slot (R60): one that FW_BEGIN has marked is not valid (R94, R96). -/
def State.slotBoot (s : State) (i : StartUpIn) (b : Bool) : SlotCheck :=
  s.slotCheck b ((if b then i.signB else i.signA) && !s.nv.marked.getLsbD (b2n b)) (nvMet i.mram (slotAddr b) 393216)

/-- `mem.secver` of a slot (R434). -/
def State.secBoot (s : State) (i : StartUpIn) (b : Bool) : Nat := if s.slotBoot i b = .valid then s.slotSec b else 0xFFFF

/-- Slot `b` starts (R60): its image gives ID_REV the version, and the rest of start-up follows. -/
def State.slotRun (s : State) (b : Bool) : State :=
  { s with host := { s.host with fw := BitVec.ofNat 24 (s.slotField b 9 3) } }.setBit 0x0108 8 b

/-- Step 3: the image (R60, R61, R425). -/
def State.bootImage (s : State) (i : StartUpIn) : State :=
  let saved := s.idBoot i.mram 1 % 4
  let pref := saved == 1
  let s1 := ((s.setFld 0x4010 0 16 (s.idBoot i.mram 0)).setFld 0x4012 0 16 (s.idBoot i.mram 2)).setFld 0x0108 0 2 saved
  let s2 := s1.wr 0x4011 (pack [(16, 16, s1.secBoot i true), (0, 16, s1.secBoot i false)])
  let s3 := { s2 with nv := { s2.nv with noImage := false, digest := i.digest } }
  if s1.slotBoot i pref = .valid then s3.slotRun pref
  else if s1.slotBoot i (!pref) = .valid then
    let t := (s3.slotRun (!pref)).setBit 0x0108 9 true
    { t with pwr := { t.pwr with bootDue := some (pack [(4, 2, slotCheckCode (s1.slotBoot i pref)), (1, 2, saved), (0, 1, b2n !pref)]) } }
  else { s3 with host := { s3.host with fw := 0 }, nv := { s3.nv with noImage := true, digest := [] }, pwr := { s3.pwr with phase := .bootOnly } }

/-- All 16 samples of the leads agree (R37). -/
def agreed {w : Nat} (l : List (BitVec w)) : Option (BitVec w) :=
  match l with
  | [] => none
  | x :: t => if t.length = 15 ∧ t.all (fun y => y == x) then some x else none

/-- Step 4: straps and seal switches, read once more where any lead disagreed (R37 to R39); the limits follow the seal. After a lasting fault the strap
reads 0 with STRAPOK at 0, and the seal reads 0 and so unset (DESIGN CHOICE, log 92). -/
def State.bootLeads (s : State) (i : StartUpIn) : State :=
  let first := agreed i.addr1
  let firstSeal := agreed i.seal1
  let again := first.isNone || firstSeal.isNone
  let strap := if again then agreed i.addr2 else first
  let sealRead := if again then agreed i.seal2 else firstSeal
  let s1 := if again && strap.isSome && sealRead.isSome then s.transient 5 1 else s
  let s2 := { s1 with pwr := { s1.pwr with strapOk := strap.isSome, strap := strap.getD 0 } }
  let b := sealRead.getD 0
  let c := sealClass b
  let s3 := (((s2.wr 0x3101 (pack [(0, 8, b.toNat)])).wr 0x3102 (pack [(16, 16, classOv c), (0, 16, classUv c)])).wr 0x3107
    (pack [(0, 16, satField 16 (classOt c))])).wr 0x3127 (pack [(0, 12, discTime (sealDisc b))])
  if sealRead.isSome && sealSet b then s3
  else
    { s3 with safe := { s3.safe with sealBad := true } }.raise 77 (pack [(8, 8, b2n sealRead.isNone), (0, 5, 11)])

/-- The string record and the goal table of MRAM (R20, R275, R308, R452). -/
def State.bootRecords (s : State) (met : List (Nat × Check)) : State :=
  let str (b : Bool) : Option Nat := s.recordMet met 0x53545231 (stringAddr b) 128
  let goal (b : Bool) : Option Nat := s.recordMet met 0x474F4C31 (goalAddr b) 640
  let s1 := match liveCopy (str false) (str true) with
    | some b => s.wr 0x200E (pack [(0, 7, (s.ldByte (stringAddr b + 8)).toNat)])
    | none => s
  match liveCopy (goal false) (goal true) with
  | some b =>
    let a := goalAddr b
    { s1 with plc := { s1.plc with goals := (List.range 32).map fun i => goalOf (s1.ldBytes (a + 8 + 16 * i) 16) } }.wr 0x2104 (s1.ldWord (a + 4))
  | none => s1

/-- The slots of the event log that hold a byte which is not 0: no other slot holds a valid entry, since LSEQ is at least 1 (R421). -/
def State.logSlots (s : State) : List Nat := distinct ((memPart s.mem logBase 0x200D3000).map fun c => (c.1 - logBase) / 32)

/-- LSEQ of the entry in a slot, where it is valid and can be read (R20, R421). -/
def State.logEntry (s : State) (met : List (Nat × Check)) (k : Nat) : Option Nat :=
  let bs := s.ldBytes (logBase + 32 * k) 32
  if nvMet met (logBase + 32 * k) 32 != .lasting && sealedOk bs then some (numBE ((bs.drop 16).take 4)) else none

/-- Step 7: the head of the event log is the valid entry with the highest LSEQ (R421). -/
def State.bootLog (s : State) (met : List (Nat × Check)) : State :=
  let top := (s.logSlots.filterMap (s.logEntry met)).foldl max 0
  if top = 0 then s
  else ((s.wr 0x4008 (BitVec.ofNat 32 top)).wr 0x4009 (BitVec.ofNat 32 (top - 2047 + b2n (decide (top ≤ 2047))))).setBit 0x4000 0 true

/-- START_UP (R58 to R61): steps 0 to 4, and steps 5 and 6 begin; the links train and discovery runs by the commands that follow. Without a valid image
only the boot logic goes on, which has done steps 0 to 3. -/
def startUp (i : StartUpIn) (s : State) : State :=
  if s.pwr.mode = .start ∧ s.pwr.phase = .begin then
    let s1 := ((s.nvMetCount i.mram).setFld 0x0110 0 2 (if i.xtal then 0 else 2)).bootCal i.mram
    let s2 := (s1.fullRound i.slices).bootImage i
    if s2.nv.noImage then s2
    else
      let s3 := (s2.bootLeads i).bootRecords i.mram
      { s3 with pwr := { s3.pwr with phase := .discovery } }.discoverStart none false
  else s

/-! ## Ready -/

/-- The held events enter the ring, judged by the enables in force now; then RINGOVF, where the list overflowed (R87 to R90); the log
takes the entries raised before Ready (R420). -/
def State.placeHeld (s : State) : State :=
  let t := { s with ev := { s.ev with holding := [], preLog := [] } }
  let u := s.ev.holding.foldl (fun (t : State) e => t.evPlace e) t
  let v := if u.ev.holdLost then u.ringOverflow else u
  s.ev.preLog.foldl (fun (t : State) e => t.logPut e) v

/-- What `Ready` reports of the reset: STUCKRESET, BROWNOUT, BOOTSLOT, THWCUT, SCANENTRY (R57, R53, R60, R342, R407, R450). -/
def State.readyReports (s : State) : State :=
  let p := s.pwr
  let s1 := if p.stuckDue then s.raise 1 0 else s
  let s2 := if p.brownDue then s1.raise 8 (pack [(0, 16, s1.fld 0x0103 0 16)]) else s1
  let s3 := match p.bootDue with | some d => s2.raise 9 d | none => s2
  let s4 := match p.cutDue with
    | some c =>
      let t := (s3.setBit 0x3000 7 true).addSat 0x3008 0 16 1
      t.raise 70 (pack [(0, 6, c.1.toNat), (8, 8, min 255 (t.fld 0x3008 0 16)), (16, 16, min 0xFFFF c.2)])
    | none => s3
  let s5 := if p.scanDue then s4.raise 88 (pack [(0, 16, s4.fld 0x4012 0 16)]) else s4
  { s5 with pwr := { s5.pwr with stuckDue := false, brownDue := false, bootDue := none, cutDue := none, scanDue := false } }

/-- READY (R46, R58, R59, R87, R169, R229, R371, R389): discovery has completed, `micros` after step 0; `mram` is what the reads of step 7 meet (R20). -/
def ready (micros : Nat) (mram : List (Nat × Check)) (s : State) : State :=
  if s.pwr.mode = .start ∧ s.pwr.phase = .discovery ∧ s.fab.disc = none then
    let gc := s.pwr.guardDue
    let mode : Mode := if gc.isSome then .guard else .run
    let s1 := ((((s.nvMetCount mram).wr 0x0109 (BitVec.ofNat 32 micros)).bootLog mram).cfgRestore mram).portsInForce
    let s2 := State.notifyFrom s1 { s1 with
      pwr := { s1.pwr with mode := mode, phase := .ready, gcause := gc.getD 0, guardDue := none, request := none }
      host := { s1.host with intReady := true, errPorts := 0, errFrames := 0, errCrc := 0 }
      pins := { s1.pins with tpA := true, tpB := true }
      safe := { s1.safe with ticks := 0, peers := s1.safe.peers.map fun p => { p with anySeq := true } }
      therm := { s1.therm with history := [] }
      chis := { s1.chis with next := 0, roundAt := s1.clk.ref.toNat }
      bal := { s1.bal with probeAt := s1.clk.ref }
      sense := { s1.sense with v5 := none } }
    let s3 := ((s2.reqRun.rearm).thermRestart).takeTc s2.seq.active
    let s4 := ((s3.placeHeld).readyReports).stateChg .start mode (gc.getD 0)
    let s5 := if gc.isNone then s4.tableFollow false else s4
    (s5.peersRefresh.probeAll.balRefresh.pinsFollow.slotShow).settle
  else s

/-! ## Hatbox (R49 to R51) -/

/-- A trained port sends its sleep notice three times and goes down without a report (R49, R258). -/
def State.portSleep (s : State) (p : Fin 4) : State :=
  if s.portUp p then
    (((s.control p 0x04 0x5A 0).control p 0x04 0x5A 0).control p 0x04 0x5A 0).setPort p fun q =>
      { q with up := false, heard := false, nbrHeard := false, same := 0, credit := 0, queue := [], unacked := [], stamps := none, lostAt := [] }
  else s

/-- R289: the sweep that this node collects ends with its Hatbox entry; the snapshots still open are closed (R299). -/
def State.collectEnd (s : State) : State :=
  match s.sweep.collect with
  | none => s
  | some _ =>
    let t := s.sweep.open_.foldl State.snapClose { s with sweep := { s.sweep with collect := none } }
    (t.wr 0x2035 0).sweepEnd

/-- HATBOX_ENTRY_COMPLETE (R49, R46, R252, R284, R289, R320): the page write is done, jobs are handed over or left, the ports sleep, and the clocks
stop. A Chisel attempt under way ends without a result (DESIGN CHOICE, log 134). `sys.wake.cause` of the wake before is cleared here (DESIGN CHOICE, log 134).
The slow oscillator has been measured against the reference (log 120). -/
def hatboxEntryComplete (s : State) : State :=
  if (s.pwr.mode = .run ∨ s.pwr.mode = .watch) ∧ s.pwr.hatbox = .stopping then
    let old := s.pwr.mode
    let s0 := (nvPageWriteDone .pass s).collectEnd
    let s1 := if s0.chis.busy then { s0 with chis := { s0.chis with busy := false, repeat_ := false, aborted := false, found := [] } }.sliceFree s0.chis.next
      else s0
    let s2 := { s1 with plc := { s1.plc with jobs := [] }, free := s1.free + 1 }.wr 0x1604 (BitVec.ofNat 32 (77669903 + (Config.slowRatio s1.free).val))
    let s3 := if s2.fab.valid then s2.topoChg 2 s2.fab.addr else s2
    let s4 := (allPorts.foldl State.portSleep s3).stateChg old .hatbox 0
    let s5 := { s4 with
      pwr := { s4.pwr with mode := .hatbox, hatbox := .none, request := none }
      clk := { s4.clk with slow := 0 }
      fab := { s4.fab with hasTime := false, disc := none, crcs := [] }
      therm := { s4.therm with hatFast := s4.bit 0x4000 1, released := 0, lateGroups := none } }
    (s5.wr 0x0104 0).leadsOff.balRefresh
  else s

/-- A wake source is recorded, unless one already is (R50). -/
def State.wakeBy (s : State) (ok : Bool) (cause : Word) : State :=
  if s.pwr.mode = .hatbox ∧ ok ∧ s.rd 0x0104 = 0 then s.wr 0x0104 cause else s

/-- NWAKE (R50). -/
def nwake (s : State) : State := s.wakeBy (s.bit 0x0105 0) 1

/-- LINK_ACTIVITY_WAKE (R50): on a port enabled both as a link and as a wake source. -/
def linkActivityWake (port : Fin 4) (s : State) : State :=
  s.wakeBy (s.bit 0x2003 port.val && s.bit 0x0105 (4 + port.val)) (pack [(4 + port.val, 1, 1), (1, 1, 1)])

/-- HATBOX_ALARM (R50). -/
def hatboxAlarm (s : State) : State := s.wakeBy (s.bit 0x0105 2 && s.rd 0x0106 != 0) 4

/-- SAFETY_COMPARATOR_WAKE (R50): against the limits of the seal class, so only where a class is set. -/
def safetyComparatorWake (s : State) : State := s.wakeBy (sealClass s.seal != 0) 8

/-- R105: no auxiliary temperature is known before V5 is converted again. -/
def State.auxUnknown (s : State) : State := (List.range 8).foldl (fun (t : State) i => t.wr (0x1020 + i) 0x80008000) s

/-- HATBOX_WAKE (R50, R51, R105, R252, R284, R337, R391, R415, R416): back in Run, `slept` slow ticks after entry. The safety monitor's conversions are
asked for at once, so that its first tick has values to judge (R50). -/
def hatboxWake (slept : Nat) (s : State) : State :=
  if s.pwr.mode = .hatbox ∧ s.rd 0x0104 ≠ 0 then
    let s1 := { s with
      pwr := { s.pwr with mode := .run, request := none, roundDue := true, roundOn := false }
      host := { s.host with spiResp := spiResponse 0 0 0 }
      chis := { s.chis with next := 0, full := false, fullDue := s.bit 0x3200 0, roundAt := s.clk.ref.toNat }
      therm := { s.therm with stop := ⟨0, 0, false⟩, history := [] }
      sense := { s.sense with v5 := none }
      conv := { s.conv with safetyInj := s.watched }
      safe := { s.safe with now := [], window := [] }
      fab := { s.fab with woke := true } }
    let s2 := (((s1.auxUnknown.setBit 0x3000 0 false).reqRun.rearm).thermRestart.thermShow).stateChg .hatbox .run 0
    let s3 := s2.timerCatchUp slept
    let fast := s3.bit 0x4000 1
    let s4 := if fast == s3.therm.hatFast then s3
      else s3.raise 91 (pack [(0, 1, b2n fast), (1, 1, 1), (16, 16, 0x8000)])
    let s5 := match s4.therm.lateGroups with
      | some g => { s4 with therm := { s4.therm with lateGroups := none } }.raise 95 (pack [(0, 9, min 511 g.1), (9, 1, b2n g.2)])
      | none => s4
    ((s5.tableFollow true).balRefresh).settle
  else s

/-! ## Scan entry (R406) -/

/-- The frame of R406 expected next. -/
def unlockFrame (serial : DWord) (k : Nat) : Byte × Word :=
  let lo : Word := BitVec.ofNat 32 serial.toNat
  let hi : Word := BitVec.ofNat 32 (serial.toNat / 2 ^ 32)
  if k = 0 then (0xC1, lo) else if k = 1 then (0xC2, hi) else (0xC3, lo ^^^ hi ^^^ 0x5A5A5A5A)

/-- Step 4 of R406: SRAM and the calibration working set are cleared, the entry is recorded, the write port is disabled, and the scan
chains are enabled. -/
def State.enterScan (s : State) : State :=
  let t := { s with mem := memPart s.mem 0x00080000 0x100000000 }
  let u := calIds.foldl (fun (t : State) id => t.wr id 0) t
  let v := (u.idPut .scan 2 (min 0xFFFF (u.idValue 2 + 1))).finishPage
  { v with pwr := { v.pwr with phase := .scan, scanDue := true, unlock := 0 } }

/-- SCAN_UNLOCK_FRAME (R406). -/
def scanUnlockFrame (cycles : Nat) (bits : BitVec 56) (s : State) : State :=
  if s.pwr.mode = .start ∧ s.pwr.phase = .scanWindow then
    let bs := bytesBE 7 bits.toNat
    let want := unlockFrame s.serial s.pwr.unlock
    let good := decide (cycles = 56) && crc8 (bs.take 6) == nth bs 6 0 && nth bs 0 0 == want.1 && nth bs 1 0 == 0x1F
      && BitVec.ofNat 32 (numBE ((bs.drop 2).take 4)) == want.2
    if !good then { s with pwr := { s.pwr with phase := .begin, unlock := 0 } }
    else if s.pwr.unlock + 1 < 3 then { s with pwr := { s.pwr with unlock := s.pwr.unlock + 1 } }
    else s.enterScan
  else s

/-- SCAN_UNLOCK_TIMEOUT (R406): start-up runs with TEST ignored. -/
def scanUnlockTimeout (s : State) : State :=
  if s.pwr.mode = .start ∧ s.pwr.phase = .scanWindow then { s with pwr := { s.pwr with phase := .begin, unlock := 0 } } else s

/-! ## The safety commands (R355, R356) -/

/-- SAFE_ACK (R355). -/
def safeAck (src : Src) (s : State) : State := s.serveCode src 0x51 fun s r => s.safeAck r

/-- SAFE_STOP (R356). -/
def safeStop (src : Src) (s : State) : State := s.serveCode src 0x50 fun s r => s.safeStop r

end Sys2Proof.Machine
end

