-- ==== Sys2Proof/Machine/Commands.lean ====
section
/-! DEFINITION. The meaning of every command, one definition each, over the effects of the family files. Each answers a next state: the
spec gives every command an effect, and a command whose occasion the state rules out changes nothing (log 5). Where a command can change
what this node offers, the change is flooded and the placement recomputed with it (R312, R314). -/
namespace Sys2Proof.Machine

/-- POWER_ON (R44). -/
def execPowerOn (islandKept : Bool) (s : State) : Host.Outcome State Fault Refusal := .next (powerOn islandKept s)

/-- START_UP (R58). -/
def execStartUp (i : StartUpIn) (s : State) : Host.Outcome State Fault Refusal := .next (startUp i s)

/-- READY (R58). -/
def execReady (micros : Nat) (mram : List (Nat × Check)) (s : State) : Host.Outcome State Fault Refusal := .next (ready micros mram s)

/-- BROWN_OUT (R53). -/
def execBrownOut (s : State) : Host.Outcome State Fault Refusal := .next (brownOut s)

/-- NRST_ACCEPTED (R55). -/
def execNrstAccepted (s : State) : Host.Outcome State Fault Refusal := .next (nrstAccepted s)

/-- NRST_RELEASE (R55). -/
def execNrstRelease (testHigh : Bool) (s : State) : Host.Outcome State Fault Refusal := .next (nrstRelease testHigh s)

/-- STUCKRESET (R57). -/
def execStuckreset (testHigh : Bool) (s : State) : Host.Outcome State Fault Refusal := .next (stuckreset testHigh s)

/-- NRST_REARM (R57). -/
def execNrstRearm (s : State) : Host.Outcome State Fault Refusal := .next (nrstRearm s)

/-- REFFAIL (R11). -/
def execReffail (s : State) : Host.Outcome State Fault Refusal := .next (reffail s)

/-- REFLOCK (R10). -/
def execReflock (gained : Bool) (s : State) : Host.Outcome State Fault Refusal := .next (reflock gained s)

/-- HOUSEKEEPING_ROUND (R151). -/
def execHousekeepingRound (r : RoundIn) (s : State) : Host.Outcome State Fault Refusal := .next (housekeepingRound r s)

/-- GUARD_ENTRY_AFTER_STOP (R338). -/
def execGuardEntryAfterStop (s : State) : Host.Outcome State Fault Refusal := .next (guardEntryAfterStop s)

/-- THERMAL_HW_CUT (R341). -/
def execThermalHwCut (tripped : BitVec 6) (s : State) : Host.Outcome State Fault Refusal := .next (thermalHwCut tripped s)

/-- THERMAL_CUT_RELEASE (R342). -/
def execThermalCutRelease (seconds : Nat) (s : State) : Host.Outcome State Fault Refusal := .next (thermalCutRelease seconds s)

/-- STATE_REQ_RUN (R48). -/
def execStateReqRun (src : Src) (s : State) : Host.Outcome State Fault Refusal := .next (stateReqRun src s).settle

/-- STATE_REQ_WATCH (R48). -/
def execStateReqWatch (src : Src) (s : State) : Host.Outcome State Fault Refusal := .next (stateReqWatch src s).settle

/-- STATE_REQ_HATBOX (R49). -/
def execStateReqHatbox (src : Src) (s : State) : Host.Outcome State Fault Refusal := .next (stateReqHatbox src s).settle

/-- HATBOX_ENTRY_COMPLETE (R49). -/
def execHatboxEntryComplete (s : State) : Host.Outcome State Fault Refusal := .next (hatboxEntryComplete s)

/-- NWAKE (R50). -/
def execNwake (s : State) : Host.Outcome State Fault Refusal := .next (nwake s)

/-- LINK_ACTIVITY_WAKE (R50). -/
def execLinkActivityWake (port : Fin 4) (s : State) : Host.Outcome State Fault Refusal := .next (linkActivityWake port s)

/-- HATBOX_ALARM (R50). -/
def execHatboxAlarm (s : State) : Host.Outcome State Fault Refusal := .next (hatboxAlarm s)

/-- SAFETY_COMPARATOR_WAKE (R50). -/
def execSafetyComparatorWake (s : State) : Host.Outcome State Fault Refusal := .next (safetyComparatorWake s)

/-- HATBOX_WAKE (R50). -/
def execHatboxWake (slept : Nat) (s : State) : Host.Outcome State Fault Refusal := .next (hatboxWake slept s)

/-- SPI_FRAME (R64). -/
def execSpiFrame (cycles : Nat) (bits : BitVec 56) (s : State) : Host.Outcome State Fault Refusal := .next (spiFrame cycles bits s)

/-- CAN_FD_REQUEST (R69). -/
def execCanFdRequest (ident : BitVec 11) (bytes : List Byte) (s : State) : Host.Outcome State Fault Refusal := .next (canFdRequest ident bytes s)

/-- UART_FRAME (R70). -/
def execUartFrame (bytes : List Byte) (s : State) : Host.Outcome State Fault Refusal := .next (uartFrame bytes s)

/-- UART_FRAME_TIMEOUT (R70). -/
def execUartFrameTimeout (s : State) : Host.Outcome State Fault Refusal := .next (uartFrameTimeout s)

/-- HOSTERR (R448). -/
def execHosterr (s : State) : Host.Outcome State Fault Refusal := .next (hosterr s)

/-- HOST_PORT_RECONFIG (R92). -/
def execHostPortReconfig (s : State) : Host.Outcome State Fault Refusal := .next (hostPortReconfig s)

/-- REGISTER_WRITE (R72). -/
def execRegisterWrite (port : HostPort) (addr : Byte) (value : Word) (s : State) : Host.Outcome State Fault Refusal := .next (registerWrite port addr value s)

/-- READ_CLEAR (R67). -/
def execReadClear (port : HostPort) (addr : Byte) (s : State) : Host.Outcome State Fault Refusal := .next (readClear port addr s)

/-- STREAM_WIN_READ (R140). -/
def execStreamWinRead (port : HostPort) (chk : Check) (s : State) : Host.Outcome State Fault Refusal := .next (streamWinRead port chk s).settle

/-- EVT_TAIL_WRITE (R85). -/
def execEvtTailWrite (port : HostPort) (value : Word) (s : State) : Host.Outcome State Fault Refusal := .next (evtTailWrite port value s)

/-- DOORBELL_GO (R74). -/
def execDoorbellGo (port : HostPort) (s : State) : Host.Outcome State Fault Refusal := .next (doorbellGo port s)

/-- DOORBELL_ABORT (R78). -/
def execDoorbellAbort (port : HostPort) (s : State) : Host.Outcome State Fault Refusal := .next (doorbellAbort port s)

/-- NOP (R79). -/
def execNop (src : Src) (s : State) : Host.Outcome State Fault Refusal := .next (nop src s)

/-- IDENTIFY (R79). -/
def execIdentify (src : Src) (s : State) : Host.Outcome State Fault Refusal := .next (identify src s)

/-- SYS_RESET (R79). -/
def execSysReset (src : Src) (s : State) : Host.Outcome State Fault Refusal := .next (sysReset src s)

/-- PARAM_GET (R82). -/
def execParamGet (src : Src) (chk : Check) (s : State) : Host.Outcome State Fault Refusal := .next (paramGet src chk s).settle

/-- PARAM_SET (R81). -/
def execParamSet (src : Src) (s : State) : Host.Outcome State Fault Refusal := .next (paramSet src s).settle

/-- PARAM_STAGE (R83). -/
def execParamStage (src : Src) (s : State) : Host.Outcome State Fault Refusal := .next (paramStage src s)

/-- PARAM_APPLY (R83). -/
def execParamApply (src : Src) (s : State) : Host.Outcome State Fault Refusal := .next (paramApply src s).settle

/-- PARAM_DISCARD (R83). -/
def execParamDiscard (src : Src) (s : State) : Host.Outcome State Fault Refusal := .next (paramDiscard src s)

/-- CFG_SAVE (R84). -/
def execCfgSave (src : Src) (s : State) : Host.Outcome State Fault Refusal := .next (cfgSave src s)

/-- CFG_DEFAULTS (R79). -/
def execCfgDefaults (src : Src) (s : State) : Host.Outcome State Fault Refusal := .next (cfgDefaults src s).settle

/-- NV_PAGE_WRITE_DONE (R418). -/
def execNvPageWriteDone (chk : Check) (s : State) : Host.Outcome State Fault Refusal := .next (nvPageWriteDone chk s)

/-- REMOTE_REQUEST (R451). -/
def execRemoteRequest (sender : FAddr) (fid : Half) (bytes : List Byte) (s : State) : Host.Outcome State Fault Refusal := .next (remoteRequest sender fid bytes s)

/-- REMOTE_RESPONSE (R451). -/
def execRemoteResponse (sender : FAddr) (bytes : List Byte) (s : State) : Host.Outcome State Fault Refusal := .next (remoteResponse sender bytes s)

/-- REMOTE_TIMEOUT (R75). -/
def execRemoteTimeout (s : State) : Host.Outcome State Fault Refusal := .next (remoteTimeout s)

/-- EVENT_FRAME (R90). -/
def execEventFrame (w0 w1 w2 w3 : Word) (s : State) : Host.Outcome State Fault Refusal := .next (eventFrame w0 w1 w2 w3 s)

/-- FW_BEGIN (R94). -/
def execFwBegin (src : Src) (s : State) : Host.Outcome State Fault Refusal := .next (fwBegin src s)

/-- FW_DATA (R94). -/
def execFwData (src : Src) (s : State) : Host.Outcome State Fault Refusal := .next (fwData src s)

/-- FW_END (R94). -/
def execFwEnd (src : Src) (sign : Bool) (chk : Check) (s : State) : Host.Outcome State Fault Refusal := .next (fwEnd src sign chk s)

/-- FW_ACTIVATE (R95). -/
def execFwActivate (src : Src) (s : State) : Host.Outcome State Fault Refusal := .next (fwActivate src s)

/-- FW_COMMIT (R94). -/
def execFwCommit (src : Src) (s : State) : Host.Outcome State Fault Refusal := .next (fwCommit src s)

/-- FW_ABORT (R94). -/
def execFwAbort (src : Src) (s : State) : Host.Outcome State Fault Refusal := .next (fwAbort src s)

/-- SEQ_PASS_START (R147). -/
def execSeqPassStart (s : State) : Host.Outcome State Fault Refusal := .next (seqPassStart s).settle

/-- SEQ_TRIGGER (R148). -/
def execSeqTrigger (s : State) : Host.Outcome State Fault Refusal := .next (seqTrigger s).settle

/-- TRIGMISS (R148). -/
def execTrigmiss (s : State) : Host.Outcome State Fault Refusal := .next (trigmiss s).settle

/-- BLANKED_SPAN_END (R219). -/
def execBlankedSpanEnd (s : State) : Host.Outcome State Fault Refusal := .next (blankedSpanEnd s)

/-- SEQ_LOAD (R154). -/
def execSeqLoad (src : Src) (s : State) : Host.Outcome State Fault Refusal := .next (seqLoad src s)

/-- TABLE_CHECK_DONE (R154). -/
def execTableCheckDone (s : State) : Host.Outcome State Fault Refusal := .next (tableCheckDone s)

/-- SEQ_RUN_WRITE (R157). -/
def execSeqRunWrite (src : Src) (s : State) : Host.Outcome State Fault Refusal := .next (seqRunWrite src s)

/-- CONVERSION_RESULT (R116). -/
def execConversionResult (lane : Fin 5) (code : BitVec 16) (s : State) : Host.Outcome State Fault Refusal := .next (conversionResult lane code s)

/-- STREAM_BURST_WRITE (R137). -/
def execStreamBurstWrite (stream : Fin 8) (s : State) : Host.Outcome State Fault Refusal := .next (streamBurstWrite stream s)

/-- STREAM_ENABLE (R136). -/
def execStreamEnable (src : Src) (s : State) : Host.Outcome State Fault Refusal := .next (streamEnable src s)

/-- STREAM_TAIL_WRITE (R140). -/
def execStreamTailWrite (src : Src) (s : State) : Host.Outcome State Fault Refusal := .next (streamTailWrite src s)

/-- HOST_INJECTION_REQUEST (R130). -/
def execHostInjectionRequest (src : Src) (s : State) : Host.Outcome State Fault Refusal := .next (hostInjectionRequest src s)

/-- INJECTION_START (R131). -/
def execInjectionStart (edge : Nat) (s : State) : Host.Outcome State Fault Refusal := .next (injectionStart edge s)

/-- WINTRACK_TIMEOUT (R129). -/
def execWintrackTimeout (s : State) : Host.Outcome State Fault Refusal := .next (wintrackTimeout s)

/-- PATINA_ROTATION_MARK (R165). -/
def execPatinaRotationMark (s : State) : Host.Outcome State Fault Refusal := .next (patinaRotationMark s)

/-- PATINA_UPDATE (R168). -/
def execPatinaUpdate (gains : List Word) (s : State) : Host.Outcome State Fault Refusal := .next (patinaUpdate gains s)

/-- PATINA_SET (R173). -/
def execPatinaSet (src : Src) (s : State) : Host.Outcome State Fault Refusal := .next (patinaSet src s)

/-- PATINA_SET_START (R174). -/
def execPatinaSetStart (s : State) : Host.Outcome State Fault Refusal := .next (patinaSetStart s).settle

/-- PATINA_SET_GROUP (R174). -/
def execPatinaSetGroup (s : State) : Host.Outcome State Fault Refusal := .next (patinaSetGroup s)

/-- PATINA_SET_APPLY (R174). -/
def execPatinaSetApply (s : State) : Host.Outcome State Fault Refusal := .next (patinaSetApply s).settle

/-- CAL_COMMIT (R179). -/
def execCalCommit (src : Src) (s : State) : Host.Outcome State Fault Refusal := .next (calCommit src s)

/-- CAL_RELOAD (R181). -/
def execCalReload (src : Src) (chk : Check) (s : State) : Host.Outcome State Fault Refusal := .next (calReload src chk s)

/-- PAT_HOLD_RELEASE (R177). -/
def execPatHoldRelease (src : Src) (s : State) : Host.Outcome State Fault Refusal := .next (patHoldRelease src s)

/-- IMP_MEASUREMENT_START (R201). -/
def execImpMeasurementStart (slot : Fin 32) (plan : List Word) (s : State) : Host.Outcome State Fault Refusal := .next (impMeasurementStart slot plan s)

/-- IMP_ANNOUNCE_RECEIVED (R201). -/
def execImpAnnounceReceived (t0 : DWord) (fit : FAddr) (plan : List Word) (s : State) : Host.Outcome State Fault Refusal := .next (impAnnounceReceived t0 fit plan s)

/-- IMP_PASS_START (R194). -/
def execImpPassStart (s : State) : Host.Outcome State Fault Refusal := .next (impPassStart s)

/-- IMP_SEGMENT_END (R188). -/
def execImpSegmentEnd (entry : Fin 16) (s : State) : Host.Outcome State Fault Refusal := .next (impSegmentEnd entry s)

/-- IMP_PHASOR_RECEIVED (R201). -/
def execImpPhasorReceived (p : SegIn) (s : State) : Host.Outcome State Fault Refusal := .next (impPhasorReceived p s)

/-- IMP_PHASOR_TIMEOUT (R201). -/
def execImpPhasorTimeout (node : FAddr) (s : State) : Host.Outcome State Fault Refusal := .next (impPhasorTimeout node s)

/-- IMP_FIT_DONE (R201). -/
def execImpFitDone (s : State) : Host.Outcome State Fault Refusal := .next (impFitDone s)

/-- BAL_PLAN_EVALUATE (R216). -/
def execBalPlanEvaluate (slot : Fin 32) (reports : List BalReport) (s : State) : Host.Outcome State Fault Refusal := .next (balPlanEvaluate slot reports s)

/-- BAL_REPORT (R215). -/
def execBalReport (plan : FAddr) (s : State) : Host.Outcome State Fault Refusal := .next (balReport plan s)

/-- BAL_ASSIGNMENT_RECEIVED (R217). -/
def execBalAssignmentReceived (items : List BalItem) (s : State) : Host.Outcome State Fault Refusal := .next (balAssignmentReceived items s)

/-- BAL_ASSIGNMENT_APPLY (R217). -/
def execBalAssignmentApply (s : State) : Host.Outcome State Fault Refusal := .next (balAssignmentApply s)

/-- BAL_LEASE_LAPSE (R217). -/
def execBalLeaseLapse (s : State) : Host.Outcome State Fault Refusal := .next (balLeaseLapse s)

/-- BAL_OVERCURRENT_TRIP (R205). -/
def execBalOvercurrentTrip (cell : Fin 24) (s : State) : Host.Outcome State Fault Refusal := .next (balOvercurrentTrip cell s)

/-- BAL_RECLOSE (R205). -/
def execBalReclose (cell : Fin 24) (s : State) : Host.Outcome State Fault Refusal := .next (balReclose cell s)

/-- SHUTTLE_FRAME_SEND (R208). -/
def execShuttleFrameSend (j : Fin 23) (sense : BitVec 2) (s : State) : Host.Outcome State Fault Refusal := .next (shuttleFrameSend j sense s)

/-- PROBENOW (R229). -/
def execProbenow (src : Src) (s : State) : Host.Outcome State Fault Refusal := .next (probenow src s)

/-- PROBE_START (R229). -/
def execProbeStart (cell : Fin 24) (s : State) : Host.Outcome State Fault Refusal := .next (probeStart cell s)

/-- PROBE_CYCLE_END (R227). -/
def execProbeCycleEnd (off on : List Int) (s : State) : Host.Outcome State Fault Refusal := .next (probeCycleEnd off on s)

/-- TIMER_WRAP (R235). -/
def execTimerWrap (u : Fin 8) (s : State) : Host.Outcome State Fault Refusal := .next (timerWrap u s)

/-- TIMER_MATCH (R240). -/
def execTimerMatch (u : Fin 8) (c : Fin 4) (s : State) : Host.Outcome State Fault Refusal := .next (timerMatch u c s)

/-- TIMER_CAPTURE (R243). -/
def execTimerCapture (u : Fin 8) (c : Fin 4) (s : State) : Host.Outcome State Fault Refusal := .next (timerCapture u c s)

/-- TIMER_START_STOP (R236). -/
def execTimerStartStop (src : Src) (s : State) : Host.Outcome State Fault Refusal := .next (timerStartStop src s)

/-- TIMER_AT_START (R236). -/
def execTimerAtStart (s : State) : Host.Outcome State Fault Refusal := .next (timerAtStart s)

/-- TIMER_COUNT_WRITE (R237). -/
def execTimerCountWrite (src : Src) (s : State) : Host.Outcome State Fault Refusal := .next (timerCountWrite src s)

/-- LINK_CONTROL_RECEIVED (R258). -/
def execLinkControlReceived (port : Fin 4) (code arg1 arg2 : Byte) (s : State) : Host.Outcome State Fault Refusal := .next (linkControlReceived port code arg1 arg2 s)

/-- LINK_TRAIN_BLOCK (R260). -/
def execLinkTrainBlock (port : Fin 4) (block : List Byte) (s : State) : Host.Outcome State Fault Refusal := .next (linkTrainBlock port block s)

/-- LINK_DOWN (R261). -/
def execLinkDown (port : Fin 4) (cause : Fin 4) (s : State) : Host.Outcome State Fault Refusal := .next (linkDown port cause s)

/-- LINK_RETRAIN_DELAY (R261). -/
def execLinkRetrainDelay (port : Fin 4) (s : State) : Host.Outcome State Fault Refusal := .next (linkRetrainDelay port s)

/-- KEEPALIVE_SEND (R258). -/
def execKeepaliveSend (port : Fin 4) (s : State) : Host.Outcome State Fault Refusal := .next (keepaliveSend port s)

/-- FRAME_RECEIVE (R262). -/
def execFrameReceive (port : Fin 4) (bytes : List Byte) (aborted : Bool) (s : State) : Host.Outcome State Fault Refusal := .next (frameReceive port bytes aborted s)

/-- LINK_ACK_TIMEOUT (R266). -/
def execLinkAckTimeout (port : Fin 4) (lseq : Byte) (chk : Check) (s : State) : Host.Outcome State Fault Refusal := .next (linkAckTimeout port lseq chk s).settle

/-- DISCOVER (R275). -/
def execDiscover (src : Src) (s : State) : Host.Outcome State Fault Refusal := .next (discover src s)

/-- TOPO_FRAME (R273). -/
def execTopoFrame (port : Fin 4) (m : TopoMsg) (s : State) : Host.Outcome State Fault Refusal := .next (topoFrame port m s)

/-- DISCDONE (R269). -/
def execDiscdone (s : State) : Host.Outcome State Fault Refusal := .next (discdone s)

/-- STRING_ASSIGN (R275). -/
def execStringAssign (src : Src) (outputOn : Bool) (s : State) : Host.Outcome State Fault Refusal := .next (stringAssign src outputOn s)

/-- FAB_WAKE (R276). -/
def execFabWake (src : Src) (s : State) : Host.Outcome State Fault Refusal := .next (fabWake src s)

/-- WAKE_FRAME (R276). -/
def execWakeFrame (target : FAddr) (s : State) : Host.Outcome State Fault Refusal := .next (wakeFrame target s)

/-- TIME_SYNC_SEND (R280). -/
def execTimeSyncSend (s : State) : Host.Outcome State Fault Refusal := .next (timeSyncSend s)

/-- TIME_FRAME (R280). -/
def execTimeFrame (port : Fin 4) (m : TimeMsg) (stamp : Int) (s : State) : Host.Outcome State Fault Refusal := .next (timeFrame port m stamp s)

/-- SWEEP_START (R287). -/
def execSweepStart (src : Src) (s : State) : Host.Outcome State Fault Refusal := .next (sweepStart src s)

/-- SWEEP_STOP (R289). -/
def execSweepStop (src : Src) (s : State) : Host.Outcome State Fault Refusal := .next (sweepStop src s)

/-- SWEEP_ANNOUNCE (R288). -/
def execSweepAnnounce (bytes : List Byte) (s : State) : Host.Outcome State Fault Refusal := .next (sweepAnnounce bytes s)

/-- SNAPSHOT_TIME (R292). -/
def execSnapshotTime (s : State) : Host.Outcome State Fault Refusal := .next (snapshotTime s)

/-- SWEEP_RECORD_SEND (R297). -/
def execSweepRecordSend (s : State) : Host.Outcome State Fault Refusal := .next (sweepRecordSend s)

/-- SWEEP_RECORD_RECEIVE (R293). -/
def execSweepRecordReceive (bytes : List Byte) (rerouted : Bool) (port : Fin 4) (chk : Check) (s : State) : Host.Outcome State Fault Refusal := .next (sweepRecordReceive bytes rerouted port chk s).settle

/-- SNAPSHOT_CLOSE_TIMEOUT (R299). -/
def execSnapshotCloseTimeout (s : State) : Host.Outcome State Fault Refusal := .next (snapshotCloseTimeout s)

/-- SWEEP_ISOLATED (R302). -/
def execSweepIsolated (s : State) : Host.Outcome State Fault Refusal := .next (sweepIsolated s)

/-- SWEEP_HOLD_EXPIRY (R302). -/
def execSweepHoldExpiry (s : State) : Host.Outcome State Fault Refusal := .next (sweepHoldExpiry s)

/-- HELD_RECORD_SEND (R303). -/
def execHeldRecordSend (s : State) : Host.Outcome State Fault Refusal := .next (heldRecordSend s)

/-- SNAPSHOT_TRIGGER (R304). -/
def execSnapshotTrigger (event : BitVec 7) (s : State) : Host.Outcome State Fault Refusal := .next (snapshotTrigger event s)

/-- SNAPSHOT_FROZEN (R304). -/
def execSnapshotFrozen (s : State) : Host.Outcome State Fault Refusal := .next (snapshotFrozen s)

/-- FABRIC_TRIGGER_RECEIVED (R305). -/
def execFabricTriggerReceived (sender : FAddr) (event : BitVec 7) (time : DWord) (s : State) : Host.Outcome State Fault Refusal := .next (fabricTriggerReceived sender event time s)

/-- SNAP_FREE (R304). -/
def execSnapFree (src : Src) (s : State) : Host.Outcome State Fault Refusal := .next (snapFree src s)

/-- GOAL_SET (R309). -/
def execGoalSet (src : Src) (s : State) : Host.Outcome State Fault Refusal := .next (goalSet src s)

/-- GOAL_CLEAR (R311). -/
def execGoalClear (src : Src) (s : State) : Host.Outcome State Fault Refusal := .next (goalClear src s)

/-- GOAL_TABLE_FRAME (R308). -/
def execGoalTableFrame (sender : FAddr) (seq : Word) (slots : List (Option Goal)) (s : State) : Host.Outcome State Fault Refusal := .next (goalTableFrame sender seq slots s)

/-- CHECKPOINT (R319). -/
def execCheckpoint (key : JobKey) (body : List Byte) (s : State) : Host.Outcome State Fault Refusal := .next (checkpoint key body s)

/-- JOB_FRAME (R319). -/
def execJobFrame (m : JobMsg) (s : State) : Host.Outcome State Fault Refusal := .next (jobFrame m s)

/-- JOB_MOVE_ACK (R320). -/
def execJobMoveAck (key : JobKey) (host : FAddr) (s : State) : Host.Outcome State Fault Refusal := .next (jobMoveAck key host s)

/-- JOB_MOVE_TIMEOUT (R322). -/
def execJobMoveTimeout (key : JobKey) (s : State) : Host.Outcome State Fault Refusal := .next (jobMoveTimeout key s)

/-- RECORD_COPY (R318). -/
def execRecordCopy (owner : FAddr) (s : State) : Host.Outcome State Fault Refusal := .next (recordCopy owner s)

/-- RECORD_READ (R326). -/
def execRecordRead (src : Src) (chk : Check) (s : State) : Host.Outcome State Fault Refusal := .next (recordRead src chk s).settle

/-- DIGEST_CLOSE (R328). -/
def execDigestClose (slot : Fin 32) (d : DigestIn) (s : State) : Host.Outcome State Fault Refusal := .next (digestClose slot d s)

/-- DIGEST_READ (R329). -/
def execDigestRead (src : Src) (chk : Check) (s : State) : Host.Outcome State Fault Refusal := .next (digestRead src chk s).settle

/-- SAFETY_TICK (R351). -/
def execSafetyTick (s : State) : Host.Outcome State Fault Refusal := .next (safetyTick s)

/-- SAFE_ACK (R355). -/
def execSafeAck (src : Src) (s : State) : Host.Outcome State Fault Refusal := .next (safeAck src s)

/-- SAFE_STOP (R356). -/
def execSafeStop (src : Src) (s : State) : Host.Outcome State Fault Refusal := .next (safeStop src s)

/-- FEEDBACK_CHANGE (R365). -/
def execFeedbackChange (low : Bool) (level : Bool) (s : State) : Host.Outcome State Fault Refusal := .next (feedbackChange low level s)

/-- CLOSE_SEQUENCE (R367). -/
def execCloseSequence (s : State) : Host.Outcome State Fault Refusal := .next (closeSequence s)

/-- FEEDBACK_TIMEOUT (R368). -/
def execFeedbackTimeout (low : Bool) (s : State) : Host.Outcome State Fault Refusal := .next (feedbackTimeout low s)

/-- CLOSE_SEQUENCE_RETRY (R367). -/
def execCloseSequenceRetry (s : State) : Host.Outcome State Fault Refusal := .next (closeSequenceRetry s)

/-- OFFTEST_PULSE_END (R369). -/
def execOfftestPulseEnd (delay : Option Nat) (s : State) : Host.Outcome State Fault Refusal := .next (offtestPulseEnd delay s)

/-- OFFTEST_RETRY (R369). -/
def execOfftestRetry (s : State) : Host.Outcome State Fault Refusal := .next (offtestRetry s)

/-- TP_PULSE (R371). -/
def execTpPulse (b : Bool) (s : State) : Host.Outcome State Fault Refusal := .next (tpPulse b s)

/-- TP_PULSE_END (R373). -/
def execTpPulseEnd (b : Bool) (ownLow otherLow otherAround : Bool) (s : State) : Host.Outcome State Fault Refusal := .next (tpPulseEnd b ownLow otherLow otherAround s)

/-- INPUT_CHANGE (R372). -/
def execInputChange (b : Bool) (level : Bool) (s : State) : Host.Outcome State Fault Refusal := .next (inputChange b level s)

/-- TWIN_FRAME_SEND (R379). -/
def execTwinFrameSend (s : State) : Host.Outcome State Fault Refusal := .next (twinFrameSend s)

/-- TWIN_FRAME_RECEIVE (R382). -/
def execTwinFrameReceive (port : Fin 4) (bytes : List Byte) (s : State) : Host.Outcome State Fault Refusal := .next (twinFrameReceive port bytes s)

/-- TWIN_COPY_TIMEOUT (R383). -/
def execTwinCopyTimeout (sender : FAddr) (s : State) : Host.Outcome State Fault Refusal := .next (twinCopyTimeout sender s)

/-- SAFEWDOG (R384). -/
def execSafewdog (sender : FAddr) (down : Bool) (s : State) : Host.Outcome State Fault Refusal := .next (safewdog sender down s)

/-- CHISEL_SLICE_START (R390). -/
def execChiselSliceStart (s : State) : Host.Outcome State Fault Refusal := .next (chiselSliceStart s)

/-- CHISEL_SLICE_END (R394). -/
def execChiselSliceEnd (r : SliceIn) (s : State) : Host.Outcome State Fault Refusal := .next (chiselSliceEnd r s).settle

/-- LANE_REPAIR (R401). -/
def execLaneRepair (s : State) : Host.Outcome State Fault Refusal := .next (laneRepair s).settle

/-- MEMORY_REPAIR_DONE (R402). -/
def execMemoryRepairDone (s : State) : Host.Outcome State Fault Refusal := .next (memoryRepairDone s)

/-- CHISEL_STATUS (R409). -/
def execChiselStatus (src : Src) (s : State) : Host.Outcome State Fault Refusal := .next (chiselStatus src s)

/-- SCAN_UNLOCK_FRAME (R406). -/
def execScanUnlockFrame (cycles : Nat) (bits : BitVec 56) (s : State) : Host.Outcome State Fault Refusal := .next (scanUnlockFrame cycles bits s)

/-- SCAN_UNLOCK_TIMEOUT (R406). -/
def execScanUnlockTimeout (s : State) : Host.Outcome State Fault Refusal := .next (scanUnlockTimeout s)

/-- EDRAM_REFRESH (R413). -/
def execEdramRefresh (s : State) : Host.Outcome State Fault Refusal := .next (edramRefresh s)

/-- EDRAM_REFRESH_LATE (R416). -/
def execEdramRefreshLate (groups : Nat) (s : State) : Host.Outcome State Fault Refusal := .next (edramRefreshLate groups s)

/-- KEY_CHECK (R427). -/
def execKeyCheck (chk : Check) (cause : Fin 3) (s : State) : Host.Outcome State Fault Refusal := .next (keyCheck chk cause s)

/-- ATTEST (R428). -/
def execAttest (src : Src) (r s : BitVec 256) (st : State) : Host.Outcome State Fault Refusal := .next (attest src r s st)

/-- OWNER_ACCEPT (R432). -/
def execOwnerAccept (src : Src) (s : State) : Host.Outcome State Fault Refusal := .next (ownerAccept src s)

/-- LOG_READ (R423). -/
def execLogRead (src : Src) (chk : Check) (s : State) : Host.Outcome State Fault Refusal := .next (logRead src chk s)

/-- TIMER_GATE_PIN_CHANGE (R248). -/
def execTimerGatePinChange (pin : Fin 8) (level : Bool) (s : State) : Host.Outcome State Fault Refusal := .next (timerGatePinChange pin level s)

/-- CHOP_PASS_BUDGET_TIMEOUT (R192). -/
def execChopPassBudgetTimeout (s : State) : Host.Outcome State Fault Refusal := .next (chopPassBudgetTimeout s)

/-- SWEEP_ANNOUNCE_REPEAT (R288). -/
def execSweepAnnounceRepeat (s : State) : Host.Outcome State Fault Refusal := .next (sweepAnnounceRepeat s)

/-- JOB_RECORD_INTERVAL (R327). -/
def execJobRecordInterval (slot : Fin 32) (charge : Int) (rests : List RestIn) (s : State) : Host.Outcome State Fault Refusal := .next (jobRecordInterval slot charge rests s)

/-- HATBOX_REFRESH_COMPARATOR_READ (R415). -/
def execHatboxRefreshComparatorRead (tripped : BitVec 6) (s : State) : Host.Outcome State Fault Refusal := .next (hatboxRefreshComparatorRead tripped s)

/-- INT_NOTICE_HOLDOFF_END (R71). -/
def execIntNoticeHoldoffEnd (s : State) : Host.Outcome State Fault Refusal := .next (intNoticeHoldoffEnd s)

end Sys2Proof.Machine
end

