-- ==== Sys2Proof/Machine/Dispatch.lean ====
section
/-! DEFINITION. One arm per command. -/
namespace Sys2Proof.Machine

def exec (i : Instr) (s : State) : Host.Outcome State Fault Refusal :=
  match i with
  | .powerOn islandKept => Sys2Proof.Machine.execPowerOn islandKept s
  | .startUp x => Sys2Proof.Machine.execStartUp x s
  | .ready micros mram => Sys2Proof.Machine.execReady micros mram s
  | .brownOut => Sys2Proof.Machine.execBrownOut s
  | .nrstAccepted => Sys2Proof.Machine.execNrstAccepted s
  | .nrstRelease testHigh => Sys2Proof.Machine.execNrstRelease testHigh s
  | .stuckreset testHigh => Sys2Proof.Machine.execStuckreset testHigh s
  | .nrstRearm => Sys2Proof.Machine.execNrstRearm s
  | .reffail => Sys2Proof.Machine.execReffail s
  | .reflock gained => Sys2Proof.Machine.execReflock gained s
  | .housekeepingRound r => Sys2Proof.Machine.execHousekeepingRound r s
  | .guardEntryAfterStop => Sys2Proof.Machine.execGuardEntryAfterStop s
  | .thermalHwCut tripped => Sys2Proof.Machine.execThermalHwCut tripped s
  | .thermalCutRelease seconds => Sys2Proof.Machine.execThermalCutRelease seconds s
  | .stateReqRun src => Sys2Proof.Machine.execStateReqRun src s
  | .stateReqWatch src => Sys2Proof.Machine.execStateReqWatch src s
  | .stateReqHatbox src => Sys2Proof.Machine.execStateReqHatbox src s
  | .hatboxEntryComplete => Sys2Proof.Machine.execHatboxEntryComplete s
  | .nwake => Sys2Proof.Machine.execNwake s
  | .linkActivityWake port => Sys2Proof.Machine.execLinkActivityWake port s
  | .hatboxAlarm => Sys2Proof.Machine.execHatboxAlarm s
  | .safetyComparatorWake => Sys2Proof.Machine.execSafetyComparatorWake s
  | .hatboxWake slept => Sys2Proof.Machine.execHatboxWake slept s
  | .spiFrame cycles bits => Sys2Proof.Machine.execSpiFrame cycles bits s
  | .canFdRequest ident bytes => Sys2Proof.Machine.execCanFdRequest ident bytes s
  | .uartFrame bytes => Sys2Proof.Machine.execUartFrame bytes s
  | .uartFrameTimeout => Sys2Proof.Machine.execUartFrameTimeout s
  | .hosterr => Sys2Proof.Machine.execHosterr s
  | .hostPortReconfig => Sys2Proof.Machine.execHostPortReconfig s
  | .registerWrite port addr value => Sys2Proof.Machine.execRegisterWrite port addr value s
  | .readClear port addr => Sys2Proof.Machine.execReadClear port addr s
  | .streamWinRead port chk => Sys2Proof.Machine.execStreamWinRead port chk s
  | .evtTailWrite port value => Sys2Proof.Machine.execEvtTailWrite port value s
  | .doorbellGo port => Sys2Proof.Machine.execDoorbellGo port s
  | .doorbellAbort port => Sys2Proof.Machine.execDoorbellAbort port s
  | .nop src => Sys2Proof.Machine.execNop src s
  | .identify src => Sys2Proof.Machine.execIdentify src s
  | .sysReset src => Sys2Proof.Machine.execSysReset src s
  | .paramGet src chk => Sys2Proof.Machine.execParamGet src chk s
  | .paramSet src => Sys2Proof.Machine.execParamSet src s
  | .paramStage src => Sys2Proof.Machine.execParamStage src s
  | .paramApply src => Sys2Proof.Machine.execParamApply src s
  | .paramDiscard src => Sys2Proof.Machine.execParamDiscard src s
  | .cfgSave src => Sys2Proof.Machine.execCfgSave src s
  | .cfgDefaults src => Sys2Proof.Machine.execCfgDefaults src s
  | .nvPageWriteDone chk => Sys2Proof.Machine.execNvPageWriteDone chk s
  | .remoteRequest sender fid bytes => Sys2Proof.Machine.execRemoteRequest sender fid bytes s
  | .remoteResponse sender bytes => Sys2Proof.Machine.execRemoteResponse sender bytes s
  | .remoteTimeout => Sys2Proof.Machine.execRemoteTimeout s
  | .eventFrame w0 w1 w2 w3 => Sys2Proof.Machine.execEventFrame w0 w1 w2 w3 s
  | .fwBegin src => Sys2Proof.Machine.execFwBegin src s
  | .fwData src => Sys2Proof.Machine.execFwData src s
  | .fwEnd src sign chk => Sys2Proof.Machine.execFwEnd src sign chk s
  | .fwActivate src => Sys2Proof.Machine.execFwActivate src s
  | .fwCommit src => Sys2Proof.Machine.execFwCommit src s
  | .fwAbort src => Sys2Proof.Machine.execFwAbort src s
  | .seqPassStart => Sys2Proof.Machine.execSeqPassStart s
  | .seqTrigger => Sys2Proof.Machine.execSeqTrigger s
  | .trigmiss => Sys2Proof.Machine.execTrigmiss s
  | .blankedSpanEnd => Sys2Proof.Machine.execBlankedSpanEnd s
  | .seqLoad src => Sys2Proof.Machine.execSeqLoad src s
  | .tableCheckDone => Sys2Proof.Machine.execTableCheckDone s
  | .seqRunWrite src => Sys2Proof.Machine.execSeqRunWrite src s
  | .conversionResult lane code => Sys2Proof.Machine.execConversionResult lane code s
  | .streamBurstWrite stream => Sys2Proof.Machine.execStreamBurstWrite stream s
  | .streamEnable src => Sys2Proof.Machine.execStreamEnable src s
  | .streamTailWrite src => Sys2Proof.Machine.execStreamTailWrite src s
  | .hostInjectionRequest src => Sys2Proof.Machine.execHostInjectionRequest src s
  | .injectionStart edge => Sys2Proof.Machine.execInjectionStart edge s
  | .wintrackTimeout => Sys2Proof.Machine.execWintrackTimeout s
  | .patinaRotationMark => Sys2Proof.Machine.execPatinaRotationMark s
  | .patinaUpdate gains => Sys2Proof.Machine.execPatinaUpdate gains s
  | .patinaSet src => Sys2Proof.Machine.execPatinaSet src s
  | .patinaSetStart => Sys2Proof.Machine.execPatinaSetStart s
  | .patinaSetGroup => Sys2Proof.Machine.execPatinaSetGroup s
  | .patinaSetApply => Sys2Proof.Machine.execPatinaSetApply s
  | .calCommit src => Sys2Proof.Machine.execCalCommit src s
  | .calReload src chk => Sys2Proof.Machine.execCalReload src chk s
  | .patHoldRelease src => Sys2Proof.Machine.execPatHoldRelease src s
  | .impMeasurementStart slot plan => Sys2Proof.Machine.execImpMeasurementStart slot plan s
  | .impAnnounceReceived t0 fit plan => Sys2Proof.Machine.execImpAnnounceReceived t0 fit plan s
  | .impPassStart => Sys2Proof.Machine.execImpPassStart s
  | .impSegmentEnd entry => Sys2Proof.Machine.execImpSegmentEnd entry s
  | .impPhasorReceived p => Sys2Proof.Machine.execImpPhasorReceived p s
  | .impPhasorTimeout node => Sys2Proof.Machine.execImpPhasorTimeout node s
  | .impFitDone => Sys2Proof.Machine.execImpFitDone s
  | .balPlanEvaluate slot reports => Sys2Proof.Machine.execBalPlanEvaluate slot reports s
  | .balReport plan => Sys2Proof.Machine.execBalReport plan s
  | .balAssignmentReceived items => Sys2Proof.Machine.execBalAssignmentReceived items s
  | .balAssignmentApply => Sys2Proof.Machine.execBalAssignmentApply s
  | .balLeaseLapse => Sys2Proof.Machine.execBalLeaseLapse s
  | .balOvercurrentTrip cell => Sys2Proof.Machine.execBalOvercurrentTrip cell s
  | .balReclose cell => Sys2Proof.Machine.execBalReclose cell s
  | .shuttleFrameSend j sense => Sys2Proof.Machine.execShuttleFrameSend j sense s
  | .probenow src => Sys2Proof.Machine.execProbenow src s
  | .probeStart cell => Sys2Proof.Machine.execProbeStart cell s
  | .probeCycleEnd off on => Sys2Proof.Machine.execProbeCycleEnd off on s
  | .timerWrap u => Sys2Proof.Machine.execTimerWrap u s
  | .timerMatch u c => Sys2Proof.Machine.execTimerMatch u c s
  | .timerCapture u c => Sys2Proof.Machine.execTimerCapture u c s
  | .timerStartStop src => Sys2Proof.Machine.execTimerStartStop src s
  | .timerAtStart => Sys2Proof.Machine.execTimerAtStart s
  | .timerCountWrite src => Sys2Proof.Machine.execTimerCountWrite src s
  | .linkControlReceived port code arg1 arg2 => Sys2Proof.Machine.execLinkControlReceived port code arg1 arg2 s
  | .linkTrainBlock port block => Sys2Proof.Machine.execLinkTrainBlock port block s
  | .linkDown port cause => Sys2Proof.Machine.execLinkDown port cause s
  | .linkRetrainDelay port => Sys2Proof.Machine.execLinkRetrainDelay port s
  | .keepaliveSend port => Sys2Proof.Machine.execKeepaliveSend port s
  | .frameReceive port bytes aborted => Sys2Proof.Machine.execFrameReceive port bytes aborted s
  | .linkAckTimeout port lseq chk => Sys2Proof.Machine.execLinkAckTimeout port lseq chk s
  | .discover src => Sys2Proof.Machine.execDiscover src s
  | .topoFrame port m => Sys2Proof.Machine.execTopoFrame port m s
  | .discdone => Sys2Proof.Machine.execDiscdone s
  | .stringAssign src outputOn => Sys2Proof.Machine.execStringAssign src outputOn s
  | .fabWake src => Sys2Proof.Machine.execFabWake src s
  | .wakeFrame target => Sys2Proof.Machine.execWakeFrame target s
  | .timeSyncSend => Sys2Proof.Machine.execTimeSyncSend s
  | .timeFrame port m stamp => Sys2Proof.Machine.execTimeFrame port m stamp s
  | .sweepStart src => Sys2Proof.Machine.execSweepStart src s
  | .sweepStop src => Sys2Proof.Machine.execSweepStop src s
  | .sweepAnnounce bytes => Sys2Proof.Machine.execSweepAnnounce bytes s
  | .snapshotTime => Sys2Proof.Machine.execSnapshotTime s
  | .sweepRecordSend => Sys2Proof.Machine.execSweepRecordSend s
  | .sweepRecordReceive bytes rerouted port chk => Sys2Proof.Machine.execSweepRecordReceive bytes rerouted port chk s
  | .snapshotCloseTimeout => Sys2Proof.Machine.execSnapshotCloseTimeout s
  | .sweepIsolated => Sys2Proof.Machine.execSweepIsolated s
  | .sweepHoldExpiry => Sys2Proof.Machine.execSweepHoldExpiry s
  | .heldRecordSend => Sys2Proof.Machine.execHeldRecordSend s
  | .snapshotTrigger event => Sys2Proof.Machine.execSnapshotTrigger event s
  | .snapshotFrozen => Sys2Proof.Machine.execSnapshotFrozen s
  | .fabricTriggerReceived sender event time => Sys2Proof.Machine.execFabricTriggerReceived sender event time s
  | .snapFree src => Sys2Proof.Machine.execSnapFree src s
  | .goalSet src => Sys2Proof.Machine.execGoalSet src s
  | .goalClear src => Sys2Proof.Machine.execGoalClear src s
  | .goalTableFrame sender seq slots => Sys2Proof.Machine.execGoalTableFrame sender seq slots s
  | .checkpoint key body => Sys2Proof.Machine.execCheckpoint key body s
  | .jobFrame m => Sys2Proof.Machine.execJobFrame m s
  | .jobMoveAck key host => Sys2Proof.Machine.execJobMoveAck key host s
  | .jobMoveTimeout key => Sys2Proof.Machine.execJobMoveTimeout key s
  | .recordCopy owner => Sys2Proof.Machine.execRecordCopy owner s
  | .recordRead src chk => Sys2Proof.Machine.execRecordRead src chk s
  | .digestClose slot body => Sys2Proof.Machine.execDigestClose slot body s
  | .digestRead src chk => Sys2Proof.Machine.execDigestRead src chk s
  | .safetyTick => Sys2Proof.Machine.execSafetyTick s
  | .safeAck src => Sys2Proof.Machine.execSafeAck src s
  | .safeStop src => Sys2Proof.Machine.execSafeStop src s
  | .feedbackChange low level => Sys2Proof.Machine.execFeedbackChange low level s
  | .closeSequence => Sys2Proof.Machine.execCloseSequence s
  | .feedbackTimeout low => Sys2Proof.Machine.execFeedbackTimeout low s
  | .closeSequenceRetry => Sys2Proof.Machine.execCloseSequenceRetry s
  | .offtestPulseEnd delay => Sys2Proof.Machine.execOfftestPulseEnd delay s
  | .offtestRetry => Sys2Proof.Machine.execOfftestRetry s
  | .tpPulse b => Sys2Proof.Machine.execTpPulse b s
  | .tpPulseEnd b ownLow otherLow otherAround => Sys2Proof.Machine.execTpPulseEnd b ownLow otherLow otherAround s
  | .inputChange b level => Sys2Proof.Machine.execInputChange b level s
  | .twinFrameSend => Sys2Proof.Machine.execTwinFrameSend s
  | .twinFrameReceive port bytes => Sys2Proof.Machine.execTwinFrameReceive port bytes s
  | .twinCopyTimeout sender => Sys2Proof.Machine.execTwinCopyTimeout sender s
  | .safewdog sender down => Sys2Proof.Machine.execSafewdog sender down s
  | .chiselSliceStart => Sys2Proof.Machine.execChiselSliceStart s
  | .chiselSliceEnd r => Sys2Proof.Machine.execChiselSliceEnd r s
  | .laneRepair => Sys2Proof.Machine.execLaneRepair s
  | .memoryRepairDone => Sys2Proof.Machine.execMemoryRepairDone s
  | .chiselStatus src => Sys2Proof.Machine.execChiselStatus src s
  | .scanUnlockFrame cycles bits => Sys2Proof.Machine.execScanUnlockFrame cycles bits s
  | .scanUnlockTimeout => Sys2Proof.Machine.execScanUnlockTimeout s
  | .edramRefresh => Sys2Proof.Machine.execEdramRefresh s
  | .edramRefreshLate groups => Sys2Proof.Machine.execEdramRefreshLate groups s
  | .keyCheck chk cause => Sys2Proof.Machine.execKeyCheck chk cause s
  | .attest src r v => Sys2Proof.Machine.execAttest src r v s
  | .ownerAccept src => Sys2Proof.Machine.execOwnerAccept src s
  | .logRead src chk => Sys2Proof.Machine.execLogRead src chk s
  | .timerGatePinChange pin level => Sys2Proof.Machine.execTimerGatePinChange pin level s
  | .chopPassBudgetTimeout => Sys2Proof.Machine.execChopPassBudgetTimeout s
  | .sweepAnnounceRepeat => Sys2Proof.Machine.execSweepAnnounceRepeat s
  | .jobRecordInterval slot charge rests => Sys2Proof.Machine.execJobRecordInterval slot charge rests s
  | .hatboxRefreshComparatorRead tripped => Sys2Proof.Machine.execHatboxRefreshComparatorRead tripped s
  | .intNoticeHoldoffEnd => Sys2Proof.Machine.execIntNoticeHoldoffEnd s

end Sys2Proof.Machine
end

