-- ==== Sys2Proof/Machine/Tick.lean ====
section
/-! DEFINITION. What an empty queue does: one tick of the node's clock (log 6). The table has no row for a tick; this is the model's place for
what the spec times by the reference or the slow clock and no row performs. -/
namespace Sys2Proof.Machine

/-- R155: this lane-clock edge is a sequencer boundary, because the sequencer stands still, waits, leads in, or waits out a delay. -/
def State.edgeBoundary (s : State) : Bool :=
  let within (delay : Nat) : Bool := decide (s.clk.ref.toNat < s.seq.due.toNat) && decide (s.seq.due.toNat ≤ s.clk.ref.toNat + delay)
  decide (s.clk.ref.toNat % 4 = 0) && match s.seq.phase with
    | .stopped | .waiting | .leadIn => true
    | .calibration => false
    | .watch => s.seq.pass == 0 || within (s.seq.wInt - 40)
    | .running => within (nth s.seq.active (s.fld 0x1201 0 6) noEntry).dly

/-- What a lane-clock edge that is a boundary takes (R155, R179, R181, R290). -/
def State.edgeTaken (s : State) : State :=
  let t := s.boundary false
  let u := if t.seq.phase = .stopped then t.calBoundary else t
  (if u.seq.phase = .waiting ∧ u.sweep.align then u.alignStart else u).settle

/-- R152, R167: once L4 has replaced a lane, Patina takes a lane clock of L0 to L3 that the table, the round and the injections leave free. -/
def State.patinaClock (s : State) : State :=
  let clk := s.clk.ref.toNat / 4
  if decide (s.clk.ref.toNat % 4 = 0) && s.patinaRuns && s.fld 0x1100 8 3 != 7 && s.nextInjection.isNone then
    match [0, 1, 2, 3].find? fun n => !(s.occupied.contains (clk, n)) with
    | some n => s.patinaPlan (s.lane n) clk
    | none => s
  else s

/-- One tick (R6, R235, R278, R415): the reference and fabric time count, running timers count, and the edge is taken where it is a boundary. In
Hatbox one slow tick passes; a reset that a command brought takes place first. -/
def State.tick (s : State) : State :=
  match s.pwr.resetDue with
  | some b => s.softReset b
  | none =>
    match s.pwr.mode with
    | .off => s
    | .hatbox => { s with clk := { s.clk with slow := s.clk.slow + 1 } }
    | .start => { s with clk := { s.clk with ref := s.clk.ref + 1 } }
    | .run | .watch | .guard =>
      let now := { s with clk := { s.clk with ref := s.clk.ref + 1, fabric := if s.fab.hasTime then s.clk.fabric + 1 else s.clk.fabric } }
      let t := now.tmrTick.atTick
      (if t.edgeBoundary then t.edgeTaken else t).patinaClock

end Sys2Proof.Machine
end

