-- ==== Sys2Proof/Safety.lean ====
section
/-! DEFINITION. What counts as a sound state of this node, in the terms the statements use. -/
namespace Sys2Proof.Machine

/-- The sparse stores are in their one canonical form: keys strictly rising, nothing listed that an unlisted key already reads as. -/
abbrev State.Stored (s : State) : Prop := Memory.wf s.mem = true ∧ Params.wf s.par = true

/-- Both output leads are low, and nothing is under way that would raise one without asking whether it may (R47, R365, R367, R369). -/
abbrev State.OutputsOff (s : State) : Prop :=
  s.pins.safeH = false ∧ s.pins.safeL = false ∧ s.safe.phase = 0 ∧ s.safe.testH.busy = false ∧ s.safe.testL.busy = false

/-- R47: outside Run and Watch the outputs are off. -/
abbrev State.OutputsHeld (s : State) : Prop := s.pwr.mode = .run ∨ s.pwr.mode = .watch ∨ s.OutputsOff

/-- A source's request waits to run: the core is awake, the request is the one in service there, it has not started, and no request of its tick ranks
before it (R73, R76, R324). -/
abbrev State.Requests (s : State) (src : Src) (r : Req) : Prop :=
  s.awake = true ∧ s.running src = some r ∧ r.started = false ∧ s.outranked src r = false

end Sys2Proof.Machine
end

