-- ==== Sys2Proof/Certificates/Slice0/Obligations.lean ====
section
/-! DEFINITION. The statements about this model, for the provers. -/
open Sys2Proof Sys2Proof.Machine

/-! ## The machine as a whole -/

/-- A step with a command at the front of the queue is that command's meaning on the state with the queue's rest. -/
def Obligations.StepTakesFrontCommand : Prop :=
  ∀ (c : Instr) (rest : List Instr) (s : State), s.pending = c :: rest → step s = exec c { s with pending := rest }

/-- On an empty queue one tick passes (log entry 6, the model's choice): before Ready the reference counts, in Hatbox the slow clock, in Off
nothing. -/
def Obligations.EmptyQueueIsATick : Prop :=
  ∀ s : State, s.pending = [] → step s = .next s.tick ∧
    (s.pwr.resetDue = none → s.pwr.mode = .start → s.tick = { s with clk := { s.clk with ref := s.clk.ref + 1 } }) ∧
    (s.pwr.resetDue = none → s.pwr.mode = .hatbox → s.tick = { s with clk := { s.clk with slow := s.clk.slow + 1 } }) ∧
    (s.pwr.resetDue = none → s.pwr.mode = .off → s.tick = s)

/-- Right after reset: Start, outputs off, no command waiting, every parameter at its reset value but POWERON in `sys.reset.cause`, and the direct
registers as R72 gives them, and in MRAM the factory's calibration set, number 1, in bank 0 alone (R182). That SRAM and eDRAM read 0 is the model's
choice (log entry 2). -/
def Obligations.ResetValues : Prop :=
  State.reset.pwr.mode = .start ∧ State.reset.pins.safeH = false ∧ State.reset.pins.safeL = false ∧ State.reset.pending = [] ∧
  (∀ id, State.reset.rd id = if id = 0x0102 then 1 else resetParam id) ∧ (∀ a, a < 0x20000000 → State.reset.ldByte a = 0) ∧
  State.reset.ldWord 0x200C0000 = 0x50415431 ∧ State.reset.ldWord 0x200C0004 = 1 ∧ bitsOf (State.reset.ldWord 0x200C0010) 0 2 = 1 ∧
  (∀ a, 0x200C0400 ≤ a → State.reset.ldByte a = 0) ∧
  ([0x00, 0x01, 0x05, 0x06, 0x09, 0x0A, 0x0B, 0x12, 0x14, 0x15, 0x16, 0x17, 0x1A, 0x1B, 0x1C, 0x1D, 0x1F].map State.reset.regRead =
    [0x0DA52440, 0x02000000, 0, 0, 0, 0xC0, 0, 0, 0, 0, 0xFFFFFFFF, 0, 0, 0x3F, 0, 0xFFFFFFFF, 0])

/-- The state after reset meets the invariants that every step keeps. -/
def Obligations.ResetMeetsInvariants : Prop := State.reset.Stored ∧ State.reset.OutputsHeld

/-- Every step keeps the canonical form of memory and of the parameter store. -/
def Obligations.StepKeepsStored : Prop := ∀ s t : State, s.Stored → step s = .next t → t.Stored

/-- R47: no step leaves an output on outside Run and Watch. -/
def Obligations.StepKeepsOutputsHeld : Prop := ∀ s t : State, s.OutputsHeld → step s = .next t → t.OutputsHeld

/-- No command changes the queue of waiting commands or the serial number, and free values are drawn in rising order. -/
def Obligations.CommandsKeepQueueAndSerial : Prop :=
  ∀ (c : Instr) (s t : State), exec c s = .next t → t.pending = s.pending ∧ t.serial = s.serial ∧ s.free ≤ t.free

/-! ## Power, reset and start-up -/

/-- POWER_ON, NRST_ACCEPTED and THERMAL_HW_CUT put the node into Start with its reset values: `sys.reset.cause` names the cause, the outputs are
off, time restarts, SRAM and eDRAM are empty, and MRAM, where no page write waits, keeps every byte. -/
def Obligations.ResetRowsReachStart : Prop :=
  ∀ s : State, s.nv.queue = [] →
    let isReset (t : State) (cause : Word) (phase : Phase) : Prop :=
      t.pwr.mode = .start ∧ t.pwr.phase = phase ∧ t.rd 0x0102 = cause ∧ t.pins.safeH = false ∧ t.pins.safeL = false ∧
      t.clk = State.reset.clk ∧ t.seq = State.reset.seq ∧ t.bal = State.reset.bal ∧ t.tmr = State.reset.tmr ∧ t.plc = State.reset.plc ∧
      t.serial = s.serial ∧ t.pending = s.pending ∧ (∀ a, a < 0x20000000 → t.ldByte a = 0) ∧
      (∀ a, 0x20000000 ≤ a → a < 0x100000000 → t.ldByte a = s.ldByte a)
    (s.pwr.mode = .off → ∀ kept : Bool, ∃ t, exec (.powerOn kept) s = .next t ∧
      isReset t (if kept then 2 else 1) (if s.pins.test then .scanWindow else .begin) ∧
      t.fld 0x0103 0 16 = if kept then min 65535 (s.fld 0x0103 0 16 + 1) else 0) ∧
    (s.pwr.mode ≠ .off → s.pwr.stuck = false → ∃ t, exec .nrstAccepted s = .next t ∧ isReset t 4 .held ∧
      t.fld 0x0103 0 16 = min 65535 (s.fld 0x0103 0 16 + 1)) ∧
    (s.pwr.mode ≠ .off → s.pwr.phase ≠ .cut → ∀ trip : BitVec 6,
      2 ≤ ((List.range 6).filter fun i => trip.getLsbD i && !(s.rd 0x3000).getLsbD (8 + i)).length →
      ∃ t, exec (.thermalHwCut trip) s = .next t ∧ isReset t 2 .cut)

/-- The rows that end a reset, a cut or the unlock window let start-up begin, or open the unlock window where TEST is high; NRST_REARM obeys the
pin again. Nothing else changes. R406: in the unlock window a good frame counts, a bad one ends the window, and the third good one enables the
scan chains with SRAM cleared. BROWN_OUT (R53, R46): Off, with both outputs off, every timer pin released and no page write left; what the node held in
registers is at its reset value, the reset is not counted before power returns, and MRAM, where no page write waits, keeps every byte. -/
def Obligations.ResetEndsAndWindow : Prop :=
  (∀ s : State,
    let opened (x : State) (test : Bool) : State :=
      { x with pins := { x.pins with test := test }, pwr := { x.pwr with phase := if test then .scanWindow else .begin, unlock := 0 } }
    (s.pwr.mode = .start → s.pwr.phase = .held → ∀ test : Bool, exec (.nrstRelease test) s = .next (opened s test) ∧
      ∃ t, exec (.stuckreset test) s = .next t ∧ t = opened { s.setBit 0x0102 3 true with pwr := { s.pwr with stuck := true, stuckDue := true } } test) ∧
    exec .nrstRearm s = .next { s with pwr := { s.pwr with stuck := false } } ∧
    (s.pwr.phase = .cut → ∀ n : Nat, exec (.thermalCutRelease n) s =
      .next (opened { s with pwr := { s.pwr with cutDue := some (s.pwr.cutMask, n) } } s.pins.test)) ∧
    (s.pwr.mode = .start → s.pwr.phase = .scanWindow → exec .scanUnlockTimeout s = .next { s with pwr := { s.pwr with phase := .begin, unlock := 0 } })) ∧
  (∀ s : State, s.pwr.mode = .start → s.pwr.phase = .scanWindow → ∀ (n : Nat) (bits : BitVec 56),
    let bs := bytesBE 7 bits.toNat
    let lo : Word := BitVec.ofNat 32 s.serial.toNat
    let hi : Word := BitVec.ofNat 32 (s.serial.toNat / 2 ^ 32)
    let want : Byte × Word := if s.pwr.unlock = 0 then (0xC1, lo) else if s.pwr.unlock = 1 then (0xC2, hi) else (0xC3, lo ^^^ hi ^^^ 0x5A5A5A5A)
    let good : Prop := n = 56 ∧ crc8 (bs.take 6) = nth bs 6 0 ∧ nth bs 0 0 = want.1 ∧ nth bs 1 0 = 0x1F ∧
      BitVec.ofNat 32 (numBE ((bs.drop 2).take 4)) = want.2
    (¬ good → exec (.scanUnlockFrame n bits) s = .next { s with pwr := { s.pwr with phase := .begin, unlock := 0 } }) ∧
    (good → s.pwr.unlock < 2 → exec (.scanUnlockFrame n bits) s = .next { s with pwr := { s.pwr with unlock := s.pwr.unlock + 1 } }) ∧
    (good → 2 ≤ s.pwr.unlock → s.Stored → s.nv.queue = [] → ∃ t, exec (.scanUnlockFrame n bits) s = .next t ∧ t.pwr.phase = .scan ∧
      (∀ a, a < 0x80000 → t.ldByte a = 0))) ∧
  (∀ s : State, s.pwr.mode ≠ .off → ∃ t, exec .brownOut s = .next t ∧ t.pwr.mode = .off ∧ t.pins.safeH = false ∧ t.pins.safeL = false ∧
    t.pins.tmpOut = 0 ∧ t.nv.queue = [] ∧ t.seq = State.reset.seq ∧ t.tmr = State.reset.tmr ∧ t.ports = State.reset.ports ∧ t.plc = State.reset.plc ∧
    t.host = State.reset.host ∧ t.serial = s.serial ∧ t.fld 0x0103 0 16 = s.fld 0x0103 0 16 ∧
    (s.nv.queue = [] → ∀ a, 0x20000000 ≤ a → a < 0x100000000 → t.ldByte a = s.ldByte a))

/-- START_UP (R58 to R61, R93, R96) with no failing slice and no failing read: a slot is good where its signature holds, nothing has marked it invalid,
its header has MAGIC and a LENGTH of R93, and its SECVER is not below the rollback counter. With neither slot good the node stays in its boot logic and
shows firmware version 0; with the preferred slot good, or else the other, discovery runs, and the version and the slot are shown. The outputs stay off. -/
def Obligations.StartUpRuns : Prop :=
  ∀ (s : State) (i : StartUpIn), s.Stored → s.pwr.mode = .start → s.pwr.phase = .begin → i.slices = [] → i.mram = [] → s.OutputsOff →
    let good (b : Bool) : Prop := (if b then i.signB else i.signA) = true ∧ s.nv.marked.getLsbD (if b then 1 else 0) = false ∧
      s.slotField b 0 4 = 0x45565253 ∧ s.slotField b 4 4 % 4 = 0 ∧ 4096 ≤ s.slotField b 4 4 ∧ s.slotField b 4 4 ≤ 393216 ∧
      s.idBoot [] 0 % 65536 ≤ s.slotSec b
    let pref : Bool := decide (s.idBoot [] 1 % 4 = 1)
    let off (t : State) : Prop := t.pwr.mode = .start ∧ t.pins.safeH = false ∧ t.pins.safeL = false
    let runs (t : State) (b : Bool) : Prop := off t ∧ t.pwr.phase = .discovery ∧ t.host.fw = BitVec.ofNat 24 (s.slotField b 9 3) ∧
      t.bit 0x0108 8 = b ∧ t.fab.disc = some none
    (¬ good false → ¬ good true → ∃ t, exec (.startUp i) s = .next t ∧ off t ∧ t.pwr.phase = .bootOnly ∧ t.host.fw = 0) ∧
    (good pref → ∃ t, exec (.startUp i) s = .next t ∧ runs t pref) ∧
    (¬ good pref → good (!pref) → ∃ t, exec (.startUp i) s = .next t ∧ runs t (!pref) ∧ t.bit 0x0108 9 = true ∧ t.pwr.bootDue.isSome = true)

/-- READY (R46, R58): with discovery complete the node enters Run, or Guard where start-up found a lasting failure; GCAUSE, READY of INT_STAT and
the test-pulse leads follow. -/
def Obligations.ReadyEntersRunOrGuard : Prop :=
  ∀ (s : State) (n : Nat) (mram : List (Nat × Check)), s.pwr.mode = .start → s.pwr.phase = .discovery → s.fab.disc = none →
    ∃ t, exec (.ready n mram) s = .next t ∧ t.pwr.phase = .ready ∧ t.pwr.mode = (if s.pwr.guardDue.isSome then .guard else .run) ∧
      t.pwr.gcause = s.pwr.guardDue.getD 0 ∧ t.host.intReady = true ∧ t.pins.tpA = true ∧ t.pins.tpB = true

/-- HATBOX_ENTRY_COMPLETE and HATBOX_WAKE (R49 to R51): the node sleeps with its outputs off, without fabric time and without hosted jobs; it
wakes to Run, and its outputs wait for a full Chisel round. R50: in Hatbox with no source recorded yet, an enabled wake source is recorded in
`sys.wake.cause` and nothing else changes; a source that is not enabled changes nothing. -/
def Obligations.HatboxAndWakes : Prop :=
  (∀ s : State,
    ((s.pwr.mode = .run ∨ s.pwr.mode = .watch) → s.pwr.hatbox = .stopping → ∃ t, exec .hatboxEntryComplete s = .next t ∧
      t.pwr.mode = .hatbox ∧ t.pins.safeH = false ∧ t.pins.safeL = false ∧ t.fab.hasTime = false ∧ t.plc.jobs = [] ∧ t.clk.slow = 0) ∧
    (s.pwr.mode = .hatbox → s.rd 0x0104 ≠ 0 → ∀ n : Nat, ∃ t, exec (.hatboxWake n) s = .next t ∧ t.pwr.mode = .run ∧ t.pwr.roundDue = true)) ∧
  (∀ s : State, s.pwr.mode = .hatbox → s.rd 0x0104 = 0 →
    exec .nwake s = .next (if (s.rd 0x0105).getLsbD 0 then s.wr 0x0104 1 else s) ∧
    exec .hatboxAlarm s = .next (if (s.rd 0x0105).getLsbD 2 ∧ s.rd 0x0106 ≠ 0 then s.wr 0x0104 4 else s) ∧
    exec .safetyComparatorWake s = .next (if sealClass s.seal ≠ 0 then s.wr 0x0104 8 else s) ∧
    ∀ p : Fin 4, exec (.linkActivityWake p) s =
      .next (if (s.rd 0x2003).getLsbD p.val ∧ (s.rd 0x0105).getLsbD (4 + p.val) then s.wr 0x0104 (BitVec.ofNat 32 (2 + 2 ^ (4 + p.val))) else s))

/-- REFFAIL and REFLOCK (R10, R11): the source of the reference follows the crystal's failure and the lock. HOUSEKEEPING_ROUND and
GUARD_ENTRY_AFTER_STOP (R151, R163, R338): the round's codes, corrected as every code is, become the last values of channels 26 and 43 to 53; after an
orderly stop the node enters Guard with GCAUSE 1 and its outputs off. -/
def Obligations.ReferenceAndHousekeeping : Prop :=
  (∀ s : State, s.Stored → s.awake = true →
    (s.fld 0x0110 0 2 = 0 → ∃ t, exec .reffail s = .next t ∧ t.fld 0x0110 0 2 = (if (s.rd 0x0110).getLsbD 2 then 1 else 2) ∧
      t.pins = s.pins ∧ t.seq = s.seq ∧ t.tmr = s.tmr ∧ t.clk = s.clk) ∧
    (s.fld 0x0110 0 2 ≠ 0 → s.fab.hasTime = true → (s.rd 0x0110).getLsbD 2 = false → ∃ t, exec (.reflock true) s = .next t ∧
      (t.rd 0x0110).getLsbD 2 = true ∧ t.fld 0x0110 0 2 = 1 ∧ t.pins = s.pins ∧ t.seq = s.seq ∧ t.tmr = s.tmr ∧ t.clk = s.clk) ∧
    (s.fld 0x0110 0 2 ≠ 0 → (s.rd 0x0110).getLsbD 2 = true → ∃ t, exec (.reflock false) s = .next t ∧
      (t.rd 0x0110).getLsbD 2 = false ∧ t.fld 0x0110 0 2 = s.fld 0x0110 0 2 ∧ t.pins = s.pins ∧ t.tmr = s.tmr ∧ t.clk = s.clk)) ∧
  (∀ s : State,
    (∀ r : RoundIn, s.up = true → s.sense.last.length = 58 → r.codes.length = 12 → ∃ t, exec (.housekeepingRound r) s = .next t ∧
      (∀ (i : Nat) (k : Conversion) (c : BitVec 16), s.roundConvs[i]? = some k → r.codes[i]? = some c →
        k.chan = nth [26, 43, 44, 45, 46, 47, 48, 49, 50, 51, 52, 53] i 0 ∧ nth t.sense.last k.chan 0 = s.delivered k c) ∧
      s.roundConvs.length = 12 ∧ t.conv.passNo = s.conv.passNo + 1) ∧
    ((s.pwr.mode = .run ∨ s.pwr.mode = .watch) → s.pwr.stopping = true → s.ramping = false →
      ∃ t, exec .guardEntryAfterStop s = .next t ∧ t.pwr.mode = .guard ∧ t.pwr.gcause = 1 ∧ t.pins.safeH = false ∧ t.pins.safeL = false))

/-! ## Host ports, registers and the mailbox -/

/-- SPI_FRAME (R64 to R66): where the node answers no host SDO stays high impedance and nothing else happens; a frame of another length is counted
and executes nothing; one whose CRC fails is counted and answered with the CRC bit and data 0; a good read or write is executed, and its status,
address and data are the next response. A NOP, a bad OP (BADOP alone, the model's choice, log entry 19) and a bad address change nothing but the
response; nor does a read of STREAM_WIN that would leave the memory map (log entry 129). -/
def Obligations.SpiFrames : Prop :=
  (∀ (s : State) (n : Nat) (bits : BitVec 56), s.awake = false ∨ s.host.portsOn.getLsbD 0 = false →
    exec (.spiFrame n bits) s = .next { s with host := { s.host with sdo := none } }) ∧
  ∀ (s : State) (n : Nat) (bits : BitVec 56), s.awake = true → s.host.portsOn.getLsbD 0 = true →
    let bs := bytesBE 7 bits.toNat
    let out : State := { s with host := { s.host with sdo := some s.host.spiResp } }
    (n ≠ 56 → ∃ t, exec (.spiFrame n bits) s = .next t ∧ t.host.sdo = some s.host.spiResp ∧ t.host.spiResp = s.host.spiResp ∧
      t.host.frameCnt = min 255 (s.host.frameCnt + 1) ∧ t.host.crcCnt = s.host.crcCnt ∧ t.par = s.par ∧ t.mem = s.mem) ∧
    (n = 56 → crc8 (bs.take 6) ≠ nth bs 6 0 → ∃ t, exec (.spiFrame n bits) s = .next t ∧ t.host.sdo = some s.host.spiResp ∧
      t.host.spiResp = spiResponse (t.opStatus true false false false) (nth bs 1 0) 0 ∧ t.host.crcCnt = min 255 (s.host.crcCnt + 1) ∧
      t.host.frameCnt = s.host.frameCnt ∧ t.par = s.par ∧ t.mem = s.mem) ∧
    (n = 56 → crc8 (bs.take 6) = nth bs 6 0 → (s.rd 0x0205).getLsbD 0 = true →
      (nth bs 0 0 = 1 → nth bs 1 0 ≤ 0x1F → (nth bs 1 0 = 0x1D → s.winOff = false) → ∃ t, exec (.spiFrame n bits) s = .next t ∧ t.host.sdo = some s.host.spiResp ∧
        t.host.spiResp = spiResponse (t.opStatus false false false false) (nth bs 1 0) (out.regRead (nth bs 1 0).toNat)) ∧
      (nth bs 0 0 = 2 → nth bs 1 0 ≤ 0x1F →
        let o := out.regWrite .spi (nth bs 1 0).toNat (BitVec.ofNat 32 (numBE ((bs.drop 2).take 4)))
        exec (.spiFrame n bits) s = .next { o.1 with host := { o.1.host with
          spiResp := spiResponse (o.1.opStatus false false false (!o.2)) (nth bs 1 0) (o.1.regRead (nth bs 1 0).toNat) } }) ∧
      (nth bs 0 0 = 0 → nth bs 1 0 ≤ 0x1F → exec (.spiFrame n bits) s = .next { out with host := { out.host with
        spiResp := spiResponse (s.opStatus false false false false) (nth bs 1 0) 0 } }) ∧
      (2 < nth bs 0 0 → exec (.spiFrame n bits) s = .next { out with host := { out.host with
        spiResp := spiResponse (s.opStatus false true false false) (nth bs 1 0) 0 } }) ∧
      (nth bs 0 0 = 1 → nth bs 1 0 = 0x1D → s.winOff = true → exec (.spiFrame n bits) s = .next { out with host := { out.host with
        spiResp := spiResponse (s.opStatus false false true false) (nth bs 1 0) 0 } }) ∧
      (nth bs 0 0 ≤ 2 → 0x1F < nth bs 1 0 → exec (.spiFrame n bits) s = .next { out with host := { out.host with
        spiResp := spiResponse (s.opStatus false false true false) (nth bs 1 0) 0 } }))

/-- CAN_FD_REQUEST, UART_FRAME and UART_FRAME_TIMEOUT (R68 to R70): a request of one record reads a register into its response, sent on the
response identifier or as a UART frame; a frame that is broken off, or whose UART CRC fails, is counted and executes nothing. -/
def Obligations.CanAndUartFrames : Prop :=
  ∀ (s : State) (seqNo : Byte) (a : Byte), s.awake = true → a ≤ 0x1C →
    let req : List Byte := [0x01, seqNo, 1, 1, a, 0, 0, 0, 0]
    let rsp (t : State) : List Byte := [0x81, seqNo, 1, t.opStatus false false false false, a] ++ bytesBE 4 (s.regRead a.toNat).toNat
    (s.host.portsOn.getLsbD 1 = true → (s.rd 0x0205).getLsbD 1 = true → ∃ t, exec (.canFdRequest s.host.canBase (req ++ [0, 0, 0])) s = .next t ∧
      t = { s with host := { s.host with canTx := s.host.canTx ++ [(s.host.canBase + 1, rsp s ++ [0, 0, 0])] } }) ∧
    (s.host.portsOn.getLsbD 2 = true → (s.rd 0x0205).getLsbD 2 = true → ∃ t, exec (.uartFrame (uartEscape (req ++ [crc8 req]))) s = .next t ∧
      t = { s with host := { s.host with uartTx := s.host.uartTx ++ [uartWrap (rsp s)] } }) ∧
    (s.host.portsOn.getLsbD 2 = true → ∀ b : Byte, b ≠ crc8 req → ∃ t, exec (.uartFrame (uartEscape (req ++ [b]))) s = .next t ∧
      t.host.crcCnt = min 255 (s.host.crcCnt + 1) ∧ t.host.uartTx = s.host.uartTx ∧ t.par = s.par ∧ t.mem = s.mem) ∧
    (s.host.portsOn.getLsbD 2 = true → ∃ t, exec .uartFrameTimeout s = .next t ∧
      t.host.frameCnt = min 255 (s.host.frameCnt + 1) ∧ t.host.uartTx = s.host.uartTx ∧ t.par = s.par ∧ t.mem = s.mem)

/-- REGISTER_WRITE (R72): while BUSY is 1 a write of MBX_CMD or an argument changes nothing but REJ; otherwise they take the value; MBX_STAT and
INT_STAT bits are cleared by a written 1; SCRATCH and INT_MASK take the value, and STREAM_SEL takes it unless OFFSET is outside the stream's
buffer; a read-only register takes nothing. -/
def Obligations.RegisterWrites : Prop :=
  ∀ (s : State) (p : HostPort) (v : Word), s.awake = true → s.host.portsOn.getLsbD (portCode p) = true →
    let h := { s.host with lastPort := BitVec.ofNat 2 (portCode p) }
    let ends (a : Byte) (g : HostIf) : Prop := exec (.registerWrite p a v) s = .next { s with host := g }
    (s.host.busy = true → ∀ a : Byte, 0x05 ≤ a → a ≤ 0x09 → ends a { h with rej := true }) ∧
    (s.host.busy = false → ends 0x05 { h with cmd := v &&& 0x1FFFFFFF } ∧ ∀ a : Byte, 0x06 ≤ a → a ≤ 0x09 → ends a { h with args := h.args.set (a.toNat - 6) v }) ∧
    ends 0x0A { h with rej := h.rej && !v.getLsbD 2, done := h.done && !v.getLsbD 1 } ∧
    ends 0x1A { h with intSafe := h.intSafe && !v.getLsbD 5, intOvf := h.intOvf && !v.getLsbD 4, intStream := h.intStream && !v.getLsbD 3,
                       intReady := h.intReady && !v.getLsbD 0 } ∧
    ends 0x1B { h with intMask := BitVec.ofNat 6 (bitsOf v 0 6) } ∧ ends 0x1F { h with scratch := v } ∧
    ends 0x1E { h with badTail := h.badTail && !v.getLsbD 2 } ∧
    (s.fld (0x1112 + 8 * bitsOf v 24 3) 0 19 ≤ bitsOf v 0 18 → ends 0x1C h) ∧
    (bitsOf v 0 18 < s.fld (0x1112 + 8 * bitsOf v 24 3) 0 19 → ends 0x1C { h with sel := v &&& 0x8703FFFF }) ∧
    (∀ a : Byte, (a ≤ 0x04 ∨ (0x0B ≤ a ∧ a ≤ 0x12) ∨ a = 0x14 ∨ (0x16 ≤ a ∧ a ≤ 0x19) ∨ a = 0x1D) → ends a h)

/-- READ_CLEAR, EVT_TAIL_WRITE and STREAM_WIN_READ (R67, R85, R140): a read of PORT_STAT clears its counts; TAIL moves forward to at most HEAD,
and a move past HEAD is refused and sets the PORT_STAT bit; a read in MODE 1 returns the word at OFFSET and moves OFFSET by one word around the buffer.
HOSTERR, HOST_PORT_RECONFIG and INT_NOTICE_HOLDOFF_END (R71, R92, R448): the interval's counts start again; the port settings written take force; the
spacing of notices ends, and a notice held back is sent. -/
def Obligations.PortReadsAndHousekeeping : Prop :=
  (∀ (s : State) (p : HostPort), s.awake = true → s.host.portsOn.getLsbD (portCode p) = true →
    exec (.readClear p 0x1E) s = .next { s with host := { s.host with crcCnt := 0, frameCnt := 0, shownWord := s.regRead 0x1E } } ∧
    (∀ v : Word, let w : Half := BitVec.ofNat 16 (bitsOf v 0 16)
      let h := { s.host with lastPort := BitVec.ofNat 2 (portCode p) }
      ((s.host.head - s.host.tail).toNat < (w - s.host.tail).toNat → exec (.evtTailWrite p v) s = .next { s with host := { h with badTail := true } }) ∧
      ((w - s.host.tail).toNat ≤ (s.host.head - s.host.tail).toNat → s.ev.ringLost = false →
        exec (.evtTailWrite p v) s = .next { s with host := { h with tail := w } })) ∧
    (s.host.sel.getLsbD 31 = true → s.winOff = false → ∃ t, exec (.streamWinRead p .pass) s = .next t ∧ t.host.shownWord = s.ldWord s.winAddr ∧
      bitsOf t.host.sel 0 18 = ((bitsOf s.host.sel 0 18 + 1) % s.fld (0x1112 + 8 * bitsOf s.host.sel 24 3) 0 19) % 2 ^ 18)) ∧
  (∀ s : State,
    (s.up = true → s.host.errPorts ≠ 0 → ∃ t, exec .hosterr s = .next t ∧ t.host.errPorts = 0 ∧ t.host.errFrames = 0 ∧ t.host.errCrc = 0 ∧
      t.host.crcCnt = s.host.crcCnt ∧ t.host.frameCnt = s.host.frameCnt) ∧
    (s.awake = true → ∃ t, exec .hostPortReconfig s = .next t ∧ t.host.portsOn = BitVec.ofNat 3 (s.fld 0x0200 0 3) ∧
      t.host.canBase = BitVec.ofNat 11 (s.fld 0x0201 0 11) ∧ t.host.uartRate = BitVec.ofNat 2 (s.fld 0x0203 0 2) ∧ t.par = s.par ∧ t.mem = s.mem) ∧
    (∃ t, exec .intNoticeHoldoffEnd s = .next t ∧
      (s.host.noticeDue = false → t = { s with host := { s.host with holdoff := false } }) ∧
      (s.host.noticeDue = true → s.awake = true → t.host.holdoff = true ∧ t.host.noticeDue = false ∧ t.host.noticeSeq = s.host.noticeSeq + 1 ∧
        (s.host.portsOn.getLsbD 2 = true → t.host.uartTx = s.host.uartTx ++ [uartWrap s.notice]))))

/-- R74: a GO while BUSY or DONE is 1 sets REJ and starts nothing; any port may clear DONE; what is written after the start belongs to the next
command; an unknown CODE completes with BADCMD, here or at the node a remote command names. -/
def Obligations.GoStartsOrIsRefused : Prop :=
  ∀ (s : State) (p : HostPort), s.awake = true → s.host.portsOn.getLsbD (portCode p) = true →
    let h := { s.host with lastPort := BitVec.ofNat 2 (portCode p) }
    let w := s.host.cmd
    let r : Req := ⟨BitVec.ofNat 8 (bitsOf w 0 8), BitVec.ofNat 8 (bitsOf w 8 8), s.clk.ref, nth s.host.args 0 0, nth s.host.args 1 0, nth s.host.args 2 0,
      nth s.host.args 3 0, false⟩
    ((s.host.busy = true ∨ s.host.done = true) → exec (.doorbellGo p) s = .next { s with host := { h with rej := true } }) ∧
    (∃ t, exec (.registerWrite p 0x0A 2) s = .next t ∧ t.host.done = false) ∧
    (s.host.busy = false → s.host.done = false → w.getLsbD 28 = false → s.pwr.mode ≠ .start →
      (knownCode r.code = true → exec (.doorbellGo p) s =
        .next { s with host := { h with busy := true, owner := BitVec.ofNat 2 (portCode p), goPort := p, req := some r, remote := none } }) ∧
      (knownCode r.code = false → ∃ t, exec (.doorbellGo p) s = .next t ∧ t.host.busy = false ∧ t.host.done = true ∧ t.host.status = 0x01 ∧
        t.host.tag = r.tag)) ∧
    (∀ (a : Byte) (v : Word), 0x06 ≤ a → a ≤ 0x09 → ∃ t, exec (.registerWrite p a v) s = .next t ∧ t.host.req = s.host.req) ∧
    (∀ (from_ : FAddr) (fid : Half) (bytes : List Byte), s.up = true → s.fab.valid = true → bytes.length = 20 →
      numBE ((bytes.drop 2).take 2) % 4096 = s.fab.addr.toNat → knownCode (nth bytes 0 0) = false →
      exec (.remoteRequest from_ fid bytes) s = .next (s.sendTo tyResponse from_ (responseBytes 0x01 (nth bytes 1 0) fid [])))

/-- R77: before Ready every command but IDENTIFY and the firmware update commands completes at once: with NOFW without a valid image, with
NOTREADY otherwise. Those seven are started. A request through the fabric is answered alike. -/
def Obligations.CommandsBeforeReady : Prop :=
  ∀ (s : State) (p : HostPort), s.awake = true → s.host.portsOn.getLsbD (portCode p) = true → s.pwr.mode = .start → s.host.busy = false →
    s.host.done = false →
    let code : Byte := BitVec.ofNat 8 (bitsOf s.host.cmd 0 8)
    ∃ t, exec (.doorbellGo p) s = .next t ∧
      (code ∉ ([0x01, 0x70, 0x71, 0x72, 0x73, 0x74, 0x75] : List Byte) → t.host.busy = false ∧ t.host.done = true ∧
        t.host.status = (if s.pwr.phase = .bootOnly then 0x0A else 0x09) ∧ t.host.tag = BitVec.ofNat 8 (bitsOf s.host.cmd 8 8) ∧ t.host.req = none) ∧
      (s.host.cmd.getLsbD 28 = false → code ∈ ([0x01, 0x70, 0x71, 0x72, 0x73, 0x74, 0x75] : List Byte) → t.host.busy = true ∧ (t.host.req.map (·.code)) = some code) ∧
      (∀ (from_ : FAddr) (fid : Half) (bytes : List Byte), s.pwr.phase = .discovery → s.fab.valid = true → bytes.length = 20 →
        numBE ((bytes.drop 2).take 2) % 4096 = s.fab.addr.toNat → nth bytes 0 0 ∉ ([0x01, 0x70, 0x71, 0x72, 0x73, 0x74, 0x75] : List Byte) →
        exec (.remoteRequest from_ fid bytes) s = .next (s.sendTo tyResponse from_ (responseBytes 0x09 (nth bytes 1 0) fid [])))

/-- R78: ABORT ends a waiting remote command with ABORTED, and a CFG_SAVE, begun or not, dropping its pages; a local command of another kind is
left running. -/
def Obligations.AbortEndsCommands : Prop :=
  ∀ (s : State) (p : HostPort) (r : Req), s.awake = true → s.host.portsOn.getLsbD (portCode p) = true → s.host.busy = true → s.host.req = some r →
    let aborted (t : State) : Prop := t.host.busy = false ∧ t.host.done = true ∧ t.host.status = 0x0F ∧ t.host.tag = r.tag ∧ t.host.req = none ∧
      t.host.remote = none ∧ t.par = s.par ∧ t.mem = s.mem ∧ t.pins = s.pins
    (s.host.remote.isSome = true → r.started = false → ∃ t, exec (.doorbellAbort p) s = .next t ∧ aborted t) ∧
    (s.host.remote = none → r.code = 0x15 → ∃ t, exec (.doorbellAbort p) s = .next t ∧ aborted t ∧
      ∀ w, w ∈ t.nv.queue → ∀ b, w.job ≠ .cfg b .mbx) ∧
    (s.host.remote = none → r.code ≠ 0x15 → r.code ≠ 0x20 →
      exec (.doorbellAbort p) s = .next { s with host := { s.host with lastPort := BitVec.ofNat 2 (portCode p) } })

/-- R73: completing a mailbox request shows its status and TAG, sets DONE, clears BUSY and fills all eight response words; completing a fabric
request takes it from the queue. Neither touches memory, the leads, nor (for the mailbox) any parameter. -/
def Obligations.CompletionShowsResult : Prop :=
  ∀ (s : State) (st : Byte) (rsp : List Word),
    (∀ r, s.host.req = some r → ∀ t, t = s.complete .mbx st rsp → t.host.status = st ∧ t.host.tag = r.tag ∧ t.host.done = true ∧ t.host.busy = false ∧
      t.host.req = none ∧ t.host.owner = s.host.owner ∧ (∀ k, k < 8 → nth t.host.rsp k 0 = nth rsp k 0) ∧
      bitsOf (t.regRead 0x0A) 16 8 = st.toNat ∧ bitsOf (t.regRead 0x0A) 8 8 = r.tag.toNat ∧ bitsOf (t.regRead 0x0A) 6 2 = s.host.owner.toNat ∧
      (t.regRead 0x0A).getLsbD 1 = true ∧ (t.regRead 0x0A).getLsbD 0 = false ∧
      t.par = s.par ∧ t.mem = s.mem ∧ t.pins = s.pins) ∧
    (∀ q rest, s.host.queue = q :: rest → ∀ t, t = s.complete .fabric st rsp → t.host.queue = rest ∧ t.host.req = s.host.req ∧ t.mem = s.mem ∧
      t.pins = s.pins ∧ t.fab.fid = s.fab.fid + 1)

/-- NOP, IDENTIFY, SYS_RESET and CHISEL_STATUS (R79, R409): each completes with OK and its response words; SYS_RESET also brings the reset. An
argument bit that is not named must be 0, else BADVALUE. R324: a request through the fabric waits while one that arrived in the mailbox in its tick has
not been served. -/
def Obligations.PlainCommands : Prop :=
  (∀ (s : State) (r : Req), s.running .fabric = some r → s.outranked .fabric r = true → exec (.nop .fabric) s = .next s ∧
    exec (.identify .fabric) s = .next s ∧ exec (.sysReset .fabric) s = .next s ∧ exec (.chiselStatus .fabric) s = .next s) ∧
  ∀ (s : State) (src : Src) (r : Req), s.Requests src r →
    let none_ : Prop := r.a0 = 0 ∧ r.a1 = 0 ∧ r.a2 = 0 ∧ r.a3 = 0
    (r.code = 0x00 → exec (.nop src) s = .next (s.complete src (if none_ then 0x00 else 0x03) [])) ∧
    (r.code = 0x01 → (none_ → exec (.identify src) s = .next (s.complete src 0x00
        [0x0DA52440, s.regRead 1, s.regRead 2, s.regRead 3, s.regRead 4, s.sysState])) ∧
      (¬ none_ → exec (.identify src) s = .next (s.complete src 0x03 []))) ∧
    (r.code = 0x02 → (r.a0 = 0xA5C3 ∧ r.a1 = 0 ∧ r.a2 = 0 ∧ r.a3 = 0 →
        exec (.sysReset src) s = .next ({ s with pwr := { s.pwr with resetDue := some 4 } }.complete src 0x00 [])) ∧
      (¬ (r.a0 = 0xA5C3 ∧ r.a1 = 0 ∧ r.a2 = 0 ∧ r.a3 = 0) → exec (.sysReset src) s = .next (s.complete src 0x03 []))) ∧
    (r.code = 0x58 → (none_ → exec (.chiselStatus src) s = .next (s.complete src 0x00 ((List.range 8).map fun i => s.rd (0x3202 + i)))) ∧
      (¬ none_ → exec (.chiselStatus src) s = .next (s.complete src 0x03 [])))

/-! ## Parameters, configuration and firmware -/

/-- PARAM_GET (R82): a read of 1 to 8 parameters shows them all at one instant; an unknown ID gives BADPARAM, an unnamed argument bit BADVALUE, a
lasting parity fault DATAERR. A read clears the read-and-clear fields of the parameter and nothing else of it. -/
def Obligations.ParamGetReads : Prop :=
  ∀ (s : State) (src : Src) (r : Req), s.Requests src r → r.code = 0x10 →
    let ids := (List.range (bitsOf r.a0 16 3 + 1)).map fun i => bitsOf r.a0 0 16 + i
    let plain : Prop := bitsOf r.a0 19 13 = 0 ∧ r.a1 = 0 ∧ r.a2 = 0 ∧ r.a3 = 0
    (plain → (∀ i, i ∈ ids → (fieldsOf i).isSome = true) →
      exec (.paramGet src .pass) s = .next ((ids.foldl State.readEffect s).complete src 0x00 (ids.map s.shown)).settle ∧
      exec (.paramGet src .transient) s =
        .next ((ids.foldl State.readEffect (s.transient 0 1)).complete src 0x00 (ids.map (s.transient 0 1).shown)).settle ∧
      exec (.paramGet src .lasting) s = .next ((s.memFault false 11).complete src 0x11 []).settle) ∧
    (plain → (∃ i, i ∈ ids ∧ fieldsOf i = none) → ∀ chk : Check, exec (.paramGet src chk) s = .next (s.complete src 0x02 []).settle) ∧
    (¬ plain → ∀ chk : Check, exec (.paramGet src chk) s = .next (s.complete src 0x03 []).settle) ∧
    (s.Stored → ∀ id, timerPlace id = none →
      let rc := maskOf ((fieldsOf id).getD []) fun f => f.acc == .rc
      (s.readEffect id).rd id = (s.rd id &&& ~~~ rc) ||| (resetParam id &&& rc) ∧ ∀ j, j ≠ id → (s.readEffect id).rd j = s.rd j)

/-- PARAM_SET (R81, R325): a write that passes every check takes force and completes with the value shown; one that fails a check completes with
that check's status and changes no parameter; a write of a parameter that a request of another requester wrote in the same tick is REFUSED. -/
def Obligations.ParamSetWrites : Prop :=
  ∀ (s : State) (src : Src) (r : Req), s.Requests src r → r.code = 0x11 →
    let id := bitsOf r.a0 0 16
    let st := s.writeCheck src id r.a1 r.a2
    let named : Prop := bitsOf r.a0 16 16 = 0 ∧ r.a3 = 0
    let late : Prop := r.at_ = s.host.tickAt ∧ ∃ x, x ∈ s.host.tickIds ∧ x.1 = id ∧ x.2 ≠ s.requester src
    let noted := s.tickNote src r [id]
    let t := noted.writeParam (some src) id r.a1 r.a2
    (¬ named → exec (.paramSet src) s = .next (s.complete src 0x03 []).settle) ∧
    (named → st ≠ 0x00 → (id ≠ 0x1109 ∨ st ≠ 0x06) → exec (.paramSet src) s = .next (s.complete src st []).settle) ∧
    (named → st = 0x00 → ¬ late → id ≠ 0x1109 → exec (.paramSet src) s = .next (t.complete src 0x00 [t.shown id]).settle) ∧
    (named → st = 0x00 → late → exec (.paramSet src) s = .next (s.complete src 0x06 []).settle) ∧
    ((id, s.requester src) ∈ noted.host.tickIds ∧ noted.host.tickAt = r.at_ ∧
      noted = { s with host := { s.host with tickAt := noted.host.tickAt, tickIds := noted.host.tickIds } }) ∧
    (fieldsOf id = none → st = 0x02) ∧
    (∀ fs, fieldsOf id = some fs → (fs.any fun f => f.acc == .rw || f.acc == .wo || f.acc == .w1c) = false → st = 0x04)

/-- R81: a masked write of a parameter that sets nothing else off changes exactly its masked writable bits, clears the masked write-1-to-clear
bits that are 1, keeps every other bit, and touches no other parameter and nothing beside the parameters. -/
def Obligations.MaskedWriteIsReadModifyWrite : Prop :=
  ∀ (s : State) (src : Option Src) (id : Nat) (fs : List Field) (value mask : Word), s.Stored → fieldsOf id = some fs →
    streamPlace id = none → timerPlace id = none → isCal id = false → ¬ (0x1690 ≤ id ∧ id < 0x1698) →
    ¬ (0x1010 ≤ id ∧ id < 0x1020) → ¬ (0x1150 ≤ id ∧ id < 0x118A) →
    id ∉ [0x0101, 0x1000, 0x1002, 0x2102, 0x3120, 0x3128, 0x1109, 0x1300, 0x1400, 0x1500, 0x1504, 0x150A, 0x151D, 0x151E, 0x1600, 0x1601, 0x2003, 0x2025,
      0x2040, 0x2100, 0x1200, 0x1211, 0x1212, 0x1213, 0x1214] →
    let rw := maskOf fs fun f => f.acc == .rw
    let w1 := maskOf fs fun f => f.acc == .w1c
    let t := s.writeParam src id value mask
    t.rd id = ((s.rd id &&& ~~~ (mask &&& rw)) ||| (value &&& mask &&& rw)) &&& ~~~ (value &&& mask &&& w1) ∧
    (∀ j, j ≠ id → t.rd j = s.rd j) ∧ t = { s with par := t.par }

/-- The rows that name one parameter write (R48, R49, R130, R136, R140, R154, R157, R177, R229, R236, R237, R276, R304): one that passes the
checks of R81 and comes in no other's tick (R325) completes with OK and the value shown; a host injection completes when its result is in. -/
def Obligations.NamedWritesComplete : Prop :=
  ∀ (s : State) (src : Src) (r : Req), s.Requests src r → r.code = 0x11 → r.a3 = 0 → r.a0.toNat < 65536 →
    s.writeCheck src r.a0.toNat r.a1 r.a2 = 0x00 → s.tickTaken src r r.a0.toNat = false →
    let id := r.a0.toNat
    let w := r.a1 &&& r.a2
    let t := (s.tickNote src r [id]).writeParam (some src) id r.a1 r.a2
    let done := t.complete src 0x00 [t.shown id]
    (id = 0x0101 → (bitsOf w 0 2 = 0 → exec (.stateReqRun src) s = .next done.settle) ∧
      (bitsOf w 0 2 = 1 → exec (.stateReqWatch src) s = .next done.settle) ∧ (bitsOf w 0 2 = 2 → exec (.stateReqHatbox src) s = .next done.settle)) ∧
    (id = 0x1200 → exec (if w.getLsbD 1 then .seqLoad src else .seqRunWrite src) s = .next done) ∧
    (∀ n, n < 8 → (id = 0x1110 + 8 * n → exec (.streamEnable src) s = .next done) ∧
      (id = 0x1114 + 8 * n → exec (.streamTailWrite src) s = .next done) ∧ (id = 0x1613 + 16 * n → exec (.timerCountWrite src) s = .next done)) ∧
    (id = 0x1109 → exec (.hostInjectionRequest src) s = .next (if r.a2 &&& 0x3F = 0 then done else t.markStarted src)) ∧
    (id = 0x1300 → w.getLsbD 1 = false → exec (.patHoldRelease src) s = .next done) ∧
    (id = 0x1500 → w.getLsbD 1 = true → exec (.probenow src) s = .next done) ∧
    (id = 0x1600 → exec (.timerStartStop src) s = .next done) ∧
    (id = 0x2025 → exec (.fabWake src) s = .next done) ∧
    (id = 0x2040 → bitsOf w 8 2 ≠ 0 → exec (.snapFree src) s = .next done)

/-- What those writes set off: a requested state waits for the boundary (R48, R49); LOAD and RUN are kept; a stream that is enabled starts empty
(R136); a tail takes its value (R140); an injection waits in the queue (R130); held calibration values are released (R177); all cells are to be
probed (R229); timers start (R236) or take a count (R237); a snapshot slot is freed (R304). -/
def Obligations.NamedWriteEffects : Prop :=
  ∀ (s : State) (src : Option Src), s.Stored →
    (s.pwr.hatbox ≠ .stopping → s.pwr.mode = .run →
      (s.writeParam src 0x0101 1 3).pwr = { s.pwr with request := some .watch, hatbox := .none } ∧
      (s.writeParam src 0x0101 2 3).pwr = { s.pwr with request := some .hatbox, hatbox := .accepted } ∧
      (s.writeParam src 0x0101 0 3).pwr = { s.pwr with request := none, hatbox := .none }) ∧
    (s.pwr.hatbox ≠ .stopping → s.pwr.mode = .watch →
      (s.writeParam src 0x0101 0 3).pwr = { s.pwr with request := some .run, hatbox := .none }) ∧
    (s.writeParam src 0x1200 2 2).rd 0x1200 = s.rd 0x1200 ||| 2 ∧ (s.writeParam src 0x1200 1 1).rd 0x1200 = s.rd 0x1200 ||| 1 ∧
    (s.writeParam src 0x1200 0 1).rd 0x1200 = s.rd 0x1200 &&& 0xFFFFFFFE ∧
    (∀ n, n < 8 → let b := 0x1110 + 8 * n
      ((s.rd b).getLsbD 0 = false → ∀ t, t = s.writeParam src b 1 1 → (t.rd b).getLsbD 0 = true ∧ t.rd (b + 3) = 0 ∧ t.rd (b + 4) = 0 ∧
        (t.rd b).getLsbD 4 = false) ∧
      (∀ v : Word, (s.writeParam src (b + 4) v 0xFFFFFFFF).rd (b + 4) = v)) ∧
    (∀ (c : Src) (chan : Word), chan.toNat < 58 → s.conv.inject.length < 8 →
      (s.writeParam (some c) 0x1109 chan 0x3F).conv.inject = s.conv.inject ++ [(⟨chan.toNat, .host (some c)⟩ : Injection)]) ∧
    ((s.rd 0x1300).getLsbD 1 = true → ∀ t, t = s.writeParam src 0x1300 0 2 → t.pat.held = [] ∧ (t.rd 0x1300).getLsbD 1 = false ∧
      (∀ x, x ∈ s.pat.held → ∃ v, (x.1, v) ∈ t.pat.due)) ∧
    (s.writeParam src 0x1500 2 2).bal.toProbe = BitVec.ofNat 24 (2 ^ s.fld 0x1000 0 5 - 1) ∧
    (∀ u, u < 8 → s.tmr.length = 8 →
      ((s.writeParam src 0x1600 (BitVec.ofNat 32 (2 ^ u)) 0xFFFF).unit u).running = true ∧
      ((s.writeParam src 0x1600 (BitVec.ofNat 32 (2 ^ (8 + u))) 0xFFFF).unit u).running = false ∧
      (∀ v : Word, s.unitRuns u = true → ((s.writeParam src (0x1613 + 16 * u) v 0xFFFFFFFF).unit u).loaded = some v) ∧
      (∀ v : Word, s.unitRuns u = false → (s.writeParam src (0x1613 + 16 * u) v 0xFFFFFFFF).rd (0x1613 + 16 * u) = v)) ∧
    (∀ a : FAddr, s.writeParam src 0x2025 (BitVec.ofNat 32 a.toNat) 0xFFF = (s.wakeWrite a).getD s) ∧
    (∀ n, n < 2 → (s.writeParam src 0x2040 (BitVec.ofNat 32 (2 ^ (8 + n))) 0x300).snap.slots = s.snap.slots.set n .free)

/-- PARAM_STAGE, PARAM_APPLY and PARAM_DISCARD (R83, R325): a staged write waits and is counted; a full set gives STAGEFULL; applying puts every entry
in force, or at the next boundary; one refused entry, or one whose parameter another request of the tick wrote, discards the whole set; another
requester's set is REFUSED. An empty set completes at once with 0 entries (the model's choice, log entry 130). -/
def Obligations.StagingSet : Prop :=
  ∀ (s : State) (src : Src) (r : Req), s.Requests src r →
    let mine : Prop := s.host.staged = [] ∨ s.host.stageOwner = some (s.requester src)
    let id := bitsOf r.a0 0 16
    let st := s.project.writeCheck src id r.a1 r.a2
    let cleared (t : State) : State := { t with host := { t.host with staged := [], stageOwner := none, applyWait := none } }
    (r.code = 0x12 → bitsOf r.a0 16 16 = 0 → r.a3 = 0 →
      (¬ mine → exec (.paramStage src) s = .next (s.complete src 0x06 [])) ∧
      (mine → st ≠ 0x00 → exec (.paramStage src) s = .next (s.complete src st [])) ∧
      (mine → st = 0x00 → s.host.staged.length = 32 → exec (.paramStage src) s = .next (s.complete src 0x0B [])) ∧
      (mine → st = 0x00 → s.host.staged.length < 32 → exec (.paramStage src) s =
        .next ({ s with host := { s.host with staged := s.host.staged ++ [(⟨BitVec.ofNat 16 id, r.a1, r.a2⟩ : Staged)], stageOwner := some (s.requester src) } }.complete
          src 0x00 [BitVec.ofNat 32 (s.host.staged.length + 1)]))) ∧
    (r.code = 0x13 → r.a1 = 0 → r.a2 = 0 → r.a3 = 0 →
      (¬ mine → (r.a0 = 0 ∨ r.a0 = 1) → exec (.paramApply src) s = .next (s.complete src 0x06 []).settle) ∧
      (mine → r.a0 = 1 → s.host.staged ≠ [] →
        exec (.paramApply src) s = .next ({ s with host := { s.host with applyWait := some src } }.markStarted src).settle) ∧
      (∀ (t : State) (ids : List Nat), mine → (r.a0 = 0 ∨ (r.a0 = 1 ∧ s.host.staged = [])) → firstRefused src s.host.staged s = none →
        s.tickClash src r = none → ids = s.host.staged.map (fun e => e.id.toNat) →
        t = s.host.staged.foldl (fun (t : State) e => t.writeParam none e.id.toNat e.value e.mask) (s.tickNote src r ids) →
        exec (.paramApply src) s = .next ((cleared t).complete src 0x00 [BitVec.ofNat 32 ids.length]).settle) ∧
      (∀ e, mine → r.a0 = 0 → firstRefused src s.host.staged s = none → s.tickClash src r = some e → e.id.toNat ≠ 0x1109 →
        exec (.paramApply src) s = .next ((cleared s).complete src 0x06 [BitVec.ofNat 32 e.id.toNat]).settle) ∧
      (∀ e rest, mine → r.a0 = 0 → s.host.staged = e :: rest → e.id.toNat ≠ 0x1109 →
        s.refuses src e.id.toNat e.value e.mask (s.merged e.id.toNat ((fieldsOf e.id.toNat).getD []) e.value e.mask) = true →
        exec (.paramApply src) s = .next ((cleared s).complete src 0x06 [BitVec.ofNat 32 e.id.toNat]).settle)) ∧
    (r.code = 0x14 → r.a0 = 0 → r.a1 = 0 → r.a2 = 0 → r.a3 = 0 →
      (mine → exec (.paramDiscard src) s = .next ((cleared s).complete src 0x00 [BitVec.ofNat 32 s.host.staged.length])) ∧
      (¬ mine → exec (.paramDiscard src) s = .next (s.complete src 0x06 [])))

/-- CFG_SAVE and CFG_DEFAULTS (R79, R84): the record is queued page by page for the bank that is not in force, and the command completes when it
is written; defaults need the confirmation word and both outputs off. -/
def Obligations.ConfigurationSaved : Prop :=
  ∀ (s : State) (src : Src) (r : Req), s.Requests src r →
    (r.code = 0x15 → r.a0 = 0 → r.a1 = 0 → r.a2 = 0 → r.a3 = 0 →
      ∃ (bank : Bool) (seqNo : Nat) (t : State), exec (.cfgSave src) s = .next t ∧
        bank = nextCopy (s.cfgSeq false) (s.cfgSeq true) ∧ seqNo = max ((s.cfgSeq false).getD 0) ((s.cfgSeq true).getD 0) + 1 ∧
        t = (s.nvPut (.cfg bank src) (cfgBank bank) (s.cfgBytes seqNo)).markStarted src ∧ t.mem = s.mem ∧ t.par = s.par) ∧
    (r.code = 0x16 →
      (r.a0 ≠ 0xA5C3 → exec (.cfgDefaults src) s = .next (s.complete src 0x03 []).settle) ∧
      (r.a0 = 0xA5C3 → r.a1 = 0 → r.a2 = 0 → r.a3 = 0 →
        ((s.pins.safeH = true ∨ s.pins.safeL = true) → exec (.cfgDefaults src) s = .next (s.complete src 0x06 []).settle) ∧
        (s.pins.safeH = false → s.pins.safeL = false → exec (.cfgDefaults src) s =
          .next ((savedIds.foldl (fun (t : State) x => if t.rd x.1 &&& x.2 = t.savedReset x.1 &&& x.2 then t
            else t.writeParam none x.1 (t.savedReset x.1) x.2) s).complete src 0x00 []).settle)))

/-- NV_PAGE_WRITE_DONE (R13, R418, R419): the page at the head of the queue is written, its bytes and no others, and counted, and the pages of other jobs
come before the next page of its own; a lasting failure keeps the memory, is counted, and is reported with NVWRFAIL; an empty queue does nothing. -/
def Obligations.PageWrites : Prop :=
  ∀ s : State, s.Stored → s.awake = true → s.nv.hold = false →
    (s.nv.queue = [] → ∀ chk : Check, exec (.nvPageWriteDone chk) s = .next s) ∧
    (∀ w rest, s.nv.queue = w :: rest → ∀ u : State,
      let next := rest.filter (fun x => !(x.job == w.job)) ++ rest.filter (fun x => x.job == w.job)
      u = ({ s with nv := { s.nv with queue := next, drained := false } }.stBytes w.addr w.data).addWord 0x4003 1 →
      (w.last = false ∨ w.job = .log ∨ w.job = .goals ∨ w.job = .armature ∨ w.job = .scan ∨ w.job = .string none →
        exec (.nvPageWriteDone .pass) s = .next u) ∧
      (∀ (bank : Bool) (src : Src), w.last = true → w.job = .cfg bank src → exec (.nvPageWriteDone .pass) s =
        .next ((u.raise 12 (if bank then 1 else 0)).complete src 0x00 [if bank then 1 else 0])) ∧
      (∀ src : Src, w.last = true → w.job = .boot src → ∃ t, exec (.nvPageWriteDone .pass) s = .next t ∧ t.pwr.resetDue = some 5 ∧
        t.fld 0x0108 0 2 = (if s.nv.fwTarget then 1 else 0)) ∧
      (∀ a, u.ldByte a = if w.addr ≤ a ∧ a < w.addr + w.data.length then nth w.data (a - w.addr) 0 else s.ldByte a) ∧
      u.rd 0x4003 = s.rd 0x4003 + 1 ∧ (∀ j, j ≠ 0x4003 → u.rd j = s.rd j) ∧
      (w.job = .goals → ∃ t, exec (.nvPageWriteDone .lasting) s = .next t ∧
        t = ({ s with nv := { s.nv with queue := next.filter (fun x => w.last || !(x.job == w.job)), drained := false } }.addSat 0x4004 0 16 1).raise 89
          (pack [(0, 4, (nvRegion w.addr).1), (4, 12, (nvRegion w.addr).2)]) ∧
        (∀ a, 0x20000000 ≤ a → t.ldByte a = s.ldByte a)))

/-- FW_BEGIN, FW_DATA and FW_END (R94): a length that is not a multiple of 4 from 4,096 to 393,216 is BADVALUE; a good one marks the target slot
invalid and starts the update at NEXT 0; data at NEXT is queued for the slot; the first check of R60 that fails ends the staging, the SECVER of the image
against the rollback counter among them, and a good image is staged. FW_ACTIVATE, FW_COMMIT and
FW_ABORT (R94, R95): activation needs a staged image and both outputs off; a commit with nothing to raise completes at once; an abort leaves the
target slot invalid. -/
def Obligations.FirmwareUpdate : Prop :=
  (∀ (s : State) (src : Src) (r : Req), s.Stored → s.Requests src r →
    (r.code = 0x70 → bitsOf r.a2 1 31 = 0 → r.a3 = 0 →
      let n := r.a0.toNat
      (n % 4 ≠ 0 ∨ n < 4096 ∨ 393216 < n → exec (.fwBegin src) s = .next (s.complete src 0x03 [])) ∧
      (n % 4 = 0 → 4096 ≤ n → n ≤ 393216 →
        let b : Bool := if s.nv.noImage then r.a2.getLsbD 0 else !(s.rd 0x0108).getLsbD 8
        ∃ t, exec (.fwBegin src) s = .next t ∧ t.rd 0x020F = 0x00100000 ∧ t.nv.fwLength = r.a0 ∧ t.nv.fwTarget = b ∧ t.nv.fwVer = r.a1 ∧
          t.nv.queue = s.nv.queue ++ [⟨.slot b src, if b then 0x20060000 else 0x20000000, copies 4 0, true⟩] ∧
          t.fld 0x4011 (if b then 16 else 0) 16 = 0xFFFF ∧ t.nv.marked.getLsbD (if b then 1 else 0) = true ∧ t.mem = s.mem ∧ t.pins = s.pins)) ∧
    (r.code = 0x71 →
      (s.fld 0x020F 20 3 ≠ 1 → exec (.fwData src) s = .next (s.complete src 0x06 [])) ∧
      (s.fld 0x020F 20 3 = 1 → r.a0.toNat ≠ s.fld 0x020F 0 20 → exec (.fwData src) s = .next (s.complete src 0x03 [])) ∧
      (s.fld 0x020F 20 3 = 1 → r.a0.toNat = s.fld 0x020F 0 20 →
        let room := s.nv.fwLength.toNat - s.fld 0x020F 0 20
        let bs := wordsBE [r.a1, r.a2, r.a3]
        ((∃ b, b ∈ bs.drop room ∧ b ≠ 0) → exec (.fwData src) s = .next (s.complete src 0x03 [])) ∧
        ((∀ b, b ∈ bs.drop room → b = 0) → room ≠ 0 → exec (.fwData src) s =
          .next ((s.nvPut (.slot s.nv.fwTarget src) ((if s.nv.fwTarget then 0x20060000 else 0x20000000) + s.fld 0x020F 0 20) (bs.take room)).markStarted src)))) ∧
    (r.code = 0x72 → r.a0 = 0 → r.a1 = 0 → r.a2 = 0 → r.a3 = 0 →
      (s.fld 0x020F 20 3 ≠ 1 ∨ s.fld 0x020F 0 20 < s.nv.fwLength.toNat → ∀ (sign : Bool) (chk : Check),
        exec (.fwEnd src sign chk) s = .next (s.complete src 0x06 [])) ∧
      (s.fld 0x020F 20 3 = 1 → s.nv.fwLength.toNat ≤ s.fld 0x020F 0 20 → ∀ (sign : Bool) (chk : Check),
        let b := s.nv.fwTarget
        let whole : Prop := sign = true ∧ s.slotField b 0 4 = 0x45565253 ∧ s.slotField b 4 4 = s.nv.fwLength.toNat ∧ imageLength (s.slotField b 4 4) = true
        ∃ t, exec (.fwEnd src sign chk) s = .next t ∧ t.pins = s.pins ∧ t.seq = s.seq ∧
          t.nv.marked.getLsbD (if b then 0 else 1) = s.nv.marked.getLsbD (if b then 0 else 1) ∧
          (whole → s.fld 0x4010 0 16 ≤ s.slotSec b → chk ≠ .lasting → (src = .mbx → t.host.status = 0x00) ∧ t.fld 0x020F 20 3 = 2 ∧
            t.nv.marked.getLsbD (if b then 1 else 0) = false ∧ t.fld 0x4011 (if b then 16 else 0) 16 = s.slotSec b % 65536) ∧
          (¬ whole ∨ s.slotSec b < s.fld 0x4010 0 16 ∨ chk = .lasting → t.fld 0x020F 20 3 = 3 ∧ t.nv.marked.getLsbD (if b then 1 else 0) = true ∧
            t.fld 0x4011 (if b then 16 else 0) 16 = 0xFFFF) ∧
          (src = .mbx → (¬ whole → t.host.status = 0x0D) ∧ (whole → s.slotSec b < s.fld 0x4010 0 16 → t.host.status = 0x0E) ∧
            (whole → s.fld 0x4010 0 16 ≤ s.slotSec b → chk = .lasting → t.host.status = 0x0C))))) ∧
  (∀ (s : State) (src : Src) (r : Req), s.Stored → s.Requests src r → r.a1 = 0 → r.a2 = 0 → r.a3 = 0 →
    (r.code = 0x73 → r.a0 = 0xA5C3 →
      ((s.fld 0x020F 20 3 ≠ 2 ∨ s.pins.safeH = true ∨ s.pins.safeL = true) → exec (.fwActivate src) s = .next (s.complete src 0x06 [])) ∧
      (s.fld 0x020F 20 3 = 2 → s.pins.safeH = false → s.pins.safeL = false →
        exec (.fwActivate src) s = .next ((s.idPut (.boot src) 1 (if s.nv.fwTarget then 1 else 0)).markStarted src))) ∧
    (r.code = 0x74 → r.a0 = 0 →
      (s.nv.noImage = true ∨ (s.rd 0x0108).getLsbD 9 = true → exec (.fwCommit src) s = .next (s.complete src 0x06 [])) ∧
      (s.nv.noImage = false → (s.rd 0x0108).getLsbD 9 = false →
        (s.secRunning ≤ s.fld 0x4010 0 16 → exec (.fwCommit src) s = .next (s.complete src 0x00 [])) ∧
        (s.fld 0x4010 0 16 < s.secRunning → exec (.fwCommit src) s = .next ((s.idPut (.rollback src) 0 s.secRunning).markStarted src)))) ∧
    (r.code = 0x75 → r.a0 = 0 →
      (s.fld 0x020F 20 3 = 0 → exec (.fwAbort src) s = .next (s.complete src 0x00 [])) ∧
      (s.fld 0x020F 20 3 ≠ 0 → ∃ t, exec (.fwAbort src) s = .next t ∧ t.fld 0x020F 20 3 = 0 ∧ t.mem = s.mem ∧ t.pins = s.pins ∧
        t.nv.marked.getLsbD (if s.nv.fwTarget then 1 else 0) = true)))

/-- REMOTE_REQUEST, REMOTE_RESPONSE, REMOTE_TIMEOUT and EVENT_FRAME (R75, R76, R90, R324, R451): a request waits in a queue of eight, after those before
it, and of one tick in the order of source addresses; a ninth is BUSY; a
response counts only for the command that waits for it; a forwarded event enters the ring with FWD. -/
def Obligations.RemoteCommands : Prop :=
  ∀ s : State, s.up = true →
    (∀ (sender : FAddr) (fid : Half) (bytes : List Byte), s.fab.valid = true → bytes.length = 20 →
      numBE ((bytes.drop 2).take 2) % 4096 = s.fab.addr.toNat → knownCode (nth bytes 0 0) = true →
      (s.host.queue.length < 8 → ∃ t, exec (.remoteRequest sender fid bytes) s = .next t ∧ t = { s with host := { s.host with queue := t.host.queue } } ∧
        ∃ q, ((∀ x, x ∈ s.host.queue → x.req.started = true ∨ x.req.at_ ≠ s.clk.ref ∨ x.sender ≤ sender) → t.host.queue = s.host.queue ++ [q]) ∧
          (∀ x rest, s.host.queue = x :: rest → x.req.started = false → x.req.at_ = s.clk.ref → sender < x.sender → t.host.queue = q :: x :: rest) ∧
          t.host.queue.length = s.host.queue.length + 1 ∧ q ∈ t.host.queue ∧ q.req.at_ = s.clk.ref ∧ q.target = s.fab.addr ∧
          q.sender = sender ∧ q.fid = fid ∧ q.req.code = nth bytes 0 0 ∧ q.req.tag = nth bytes 1 0 ∧
          q.req.a0.toNat = numBE ((bytes.drop 4).take 4) ∧ q.req.started = false) ∧
      (8 ≤ s.host.queue.length → exec (.remoteRequest sender fid bytes) s =
        .next (s.sendTo 0x05 sender (responseBytes 0x12 (nth bytes 1 0) fid [])))) ∧
    (∀ (sender : FAddr) (bytes : List Byte), bytes.length = 36 →
      let key : Half × FAddr := (BitVec.ofNat 16 (numBE ((bytes.drop 2).take 2)), sender)
      let words : List Word := (List.range 8).map fun k => BitVec.ofNat 32 (numBE ((bytes.drop (4 + 4 * k)).take 4))
      (s.host.remote = some key → exec (.remoteResponse sender bytes) s = .next (s.complete .mbx (nth bytes 0 0) words)) ∧
      (s.host.remote ≠ some key → s.host.relay = some key → exec (.remoteResponse sender bytes) s =
        .next ({ s with host := { s.host with relay := none } }.complete .fabric (nth bytes 0 0) words)) ∧
      (s.host.remote ≠ some key → s.host.relay ≠ some key → exec (.remoteResponse sender bytes) s = .next s)) ∧
    (s.host.remote.isSome = true → exec .remoteTimeout s = .next (s.complete .mbx 0x07 [])) ∧
    (s.host.remote = none → s.host.relay.isSome = true → exec .remoteTimeout s =
      .next ({ s with host := { s.host with relay := none } }.complete .fabric 0x07 [])) ∧
    (s.host.remote = none → s.host.relay = none → exec .remoteTimeout s = .next s) ∧
    (∀ w0 w1 w2 w3 : Word,
      (s.fld 0x0205 0 3 = 0 → exec (.eventFrame w0 w1 w2 w3) s = .next s) ∧
      (s.fld 0x0205 0 3 ≠ 0 → s.ev.ringLost = false → s.ringFill ≠ 256 → ∃ t, exec (.eventFrame w0 w1 w2 w3) s = .next t ∧
        t.host.head = s.host.head + 1 ∧ t.par = s.par ∧
        (s.Stored → ∀ k, k < 4 → t.ldWord (0x5F000 + 16 * (s.host.head.toNat % 256) + 4 * k) = nth [w0 ||| 0x10000000, w1, w2, w3] k 0)))

/-! ## Sequencer, conversion and calibration -/

/-- SEQ_PASS_START (R145 to R149, R155): with nothing waiting at the boundary, an entry that waits for a trigger waits, one that blanks begins its
lead-in, and any other starts its pass: the next one is due one interval later, and the pass number moves on. At the end of a lead-in the first pass
starts. The last pass of a BLANK entry fixes where its blanked span ends. -/
def Obligations.SequencerPasses : Prop :=
  ∀ s : State, s.seq.spanEnd = none →
    let i := s.seq.entry
    let e := nth s.seq.active i noEntry
    let ran (u : State) : Prop := u.seq.phase = .running ∧ u.seq.due = s.seq.due + BitVec.ofNat 64 e.interval ∧ u.conv.passNo = s.conv.passNo + 1 ∧
      (s.seq.pass + 1 < e.count → u.seq.pass = s.seq.pass + 1 ∧ u.seq.entry = i ∧ u.seq.spanEnd = none) ∧
      (e.count ≤ s.seq.pass + 1 → u.seq.pass = 0 ∧ u.seq.entry = (s.entryAfter i).1 ∧ u.seq.wrap = (s.entryAfter i).2 ∧
        (e.blank = false → u.seq.spanEnd = none) ∧ (e.blank = true → e.sweep = true → u.seq.spanEnd = some (s.seq.due + 8)))
    ((s.seq.phase = .stopped ∨ s.seq.phase = .waiting) → exec .seqPassStart s = .next s.settle) ∧
    (s.pwr.request = none → s.seq.checked = none → s.host.applyWait = none → (s.rd 0x1200).getLsbD 0 = true →
      (s.seq.phase = .leadIn → ∃ u : State, exec .seqPassStart s = .next u.settle ∧ u.pins = s.pins ∧ u.tmr = s.tmr ∧ ran u) ∧
      (s.seq.phase = .running → s.seq.wrap = false → s.sweep.align = false → ∃ u : State, exec .seqPassStart s = .next u.settle ∧ u.pins = s.pins ∧
        u.tmr = s.tmr ∧ u.clk = (s.advanceTo s.seq.due).clk ∧
        (s.seq.pass = 0 → e.wait = true → ∃ f, u.seq = { s.seq with phase := .waiting, fired := f }) ∧
        (s.seq.pass = 0 → e.wait = false → e.blank = true →
          u.seq = { s.seq with phase := .leadIn, due := s.seq.due + BitVec.ofNat 64 (40 * s.fld 0x1509 0 16), fired := none } ∧
          (s.Stored → (u.rd 0x1501).getLsbD 1 = true)) ∧
        ((s.seq.pass ≠ 0 ∨ (e.wait = false ∧ e.blank = false)) → ran u)))

/-- CONVERSION_RESULT (R116, R121, R135): the result of a lane's oldest conversion always completes. Its value lies inside its channel's range, at the
low end for a code of −32,768, and becomes the channel's last value, but for a safety result and for Patina's own conversions; a host injection's
result is VALID or CLIPPED, is shown and completes its command. A lane that converts nothing hands on nothing. -/
def Obligations.ConversionResults : Prop :=
  ∀ (s : State) (lane : Fin 5) (code : BitVec 16),
    ((∀ k, k ∈ s.conv.plan → k.lane ≠ lane) → (lane.val ≠ 4 ∨ s.patinaRuns = false ∨ s.fld 0x1100 8 3 ≠ 7) →
      exec (.conversionResult lane code) s = .next s) ∧
    (∀ k, s.conv.plan.find? (fun k => k.lane == lane) = some k → s.sense.last.length = 58 → k.chan < 58 → ∃ t v,
      exec (.conversionResult lane code) s = .next t ∧ v = s.delivered k code ∧ (chanRange k.chan).1 ≤ v ∧ v ≤ (chanRange k.chan).2 ∧
      (code = 0x8000 → v = (chanRange k.chan).1) ∧ ((k.dest ≠ .safety ∧ k.dest ≠ .patina) → nth t.sense.last k.chan 0 = v) ∧
      ((k.dest = .safety ∨ k.dest = .patina) → t.sense.last = s.sense.last) ∧
      (∀ c, c ≠ k.chan → nth t.sense.last c 0 = nth s.sense.last c 0) ∧ t.pins = s.pins ∧ t.seq = s.seq ∧
      (k.dest = .host none → s.Stored → t.rd 0x110A = resultWord (if clippedOf k.chan code v then .clipped else .valid) k.chan
        (placeData false false k.chan v 1)))

/-- SEQ_TRIGGER, TRIGMISS and BLANKED_SPAN_END (R148, R149, R219): an event of its source starts the waiting entry at the next lane-clock edge;
without one in time the entry is skipped with TRIGMISS; the end of a blanked span restores switches and shuttles. TABLE_CHECK_DONE (R154): a bank without a
failure awaits its swap; a failing one is refused with SEQERR, and one with no enabled entry fails with failure 1 of entry 63. STREAM_BURST_WRITE,
INJECTION_START, HOST_INJECTION_REQUEST with a full queue, and WINTRACK_TIMEOUT (R129 to R131, R136, R137): a staged word goes to HEAD; an
injection takes the highest free lane, the safety monitor's first; a ninth request is REFUSED and counted with INJQUEUE; losing the window is
reported once. -/
def Obligations.TriggersStreamsAndBanks : Prop :=
  (∀ s : State,
    let i := s.seq.entry
    let e := nth s.seq.active i noEntry
    (∀ at_ : DWord, s.seq.phase = .waiting → s.seq.fired = some at_ → s.pwr.request = none → s.seq.checked = none → s.host.applyWait = none →
      (s.rd 0x1200).getLsbD 0 = true →
      let edge : DWord := BitVec.ofNat 64 (4 * (at_.toNat / 4 + 1))
      ∃ u : State, exec .seqTrigger s = .next u.settle ∧ u.clk = (s.advanceTo edge).clk ∧ u.seq.fired = none ∧
        (e.blank = true → u.seq.phase = .leadIn ∧ u.seq.due = edge + BitVec.ofNat 64 (40 * s.fld 0x1509 0 16)) ∧
        (e.blank = false → u.seq.phase = .running ∧ u.seq.due = edge + BitVec.ofNat 64 e.interval ∧ u.conv.passNo = s.conv.passNo + 1)) ∧
    ((s.seq.phase ≠ .waiting ∨ s.seq.fired = none) → exec .seqTrigger s = .next s.settle) ∧
    (s.seq.phase = .waiting → s.seq.fired = none → s.fld 0x1208 0 16 ≠ 0 → ∃ u : State, exec .trigmiss s = .next u.settle ∧
      u.seq = { s.seq with phase := .running, entry := (s.entryAfter i).1, pass := 0, due := s.clk.ref, wrap := (s.entryAfter i).2 } ∧
      u.pins = s.pins ∧ u.conv = s.conv) ∧
    ((s.fld 0x1208 0 16 = 0 ∨ s.seq.fired.isSome = true) → exec .trigmiss s = .next s.settle) ∧
    (∀ d : DWord, s.seq.spanEnd = some d → ∃ t, exec .blankedSpanEnd s = .next t ∧ t.seq = { s.seq with spanEnd := none } ∧
      t.clk = (s.advanceTo d).clk ∧ (s.Stored → (t.rd 0x1501).getLsbD 1 = false) ∧ t = { s with clk := t.clk, seq := t.seq, par := t.par, bal := t.bal }) ∧
    (s.seq.spanEnd = none → exec .blankedSpanEnd s = .next s)) ∧
  (∀ s : State, s.up = true → (s.rd 0x1200).getLsbD 1 = true → s.seq.checked = none →
    (s.bankFailure s.seq.pending = none → exec .tableCheckDone s =
      .next ({ s with seq := { s.seq with checked := some ((s.rd 0x1200).getLsbD 2) } }.setBit 0x1201 11 true)) ∧
    (∀ e f l, s.bankFailure s.seq.pending = some (e, f, l) → exec .tableCheckDone s =
      .next (((s.wr 0x1203 (pack [(0, 6, e), (8, 4, f), (12, 2, l)])).setBit 0x1200 1 false).raise 27 (pack [(0, 6, e), (8, 4, f), (12, 2, l)]))) ∧
    ((∀ x, x ∈ s.seq.pending → x.ctrl.getLsbD 31 = false) → exec .tableCheckDone s =
      .next (((s.wr 0x1203 0x13F).setBit 0x1200 1 false).raise 27 0x13F))) ∧
  (∀ s : State,
    (∀ (st : Fin 8) (t0 : Stream) (w : StageWord),
      let n := st.val
      ((s.rd (0x1110 + 8 * n)).getLsbD 0 = false → exec (.streamBurstWrite st) s = .next s) ∧
      (s.conv.streams[n]? = some t0 → t0.stage = [w] → t0.burst = none → w.direct = true → s.conv.plan = [] → (s.rd (0x1110 + 8 * n)).getLsbD 0 = true →
        (s.rd (0x1110 + 8 * n)).getLsbD 3 = false → (s.rd (0x1110 + 8 * n)).getLsbD 4 = false → s.fill n + 1 ≤ (s.rd (0x1112 + 8 * n)).toNat →
        ∃ (x : Stream) (v : Word), x.stage = [] ∧ x.burst = none ∧ x.wm = s.fld (0x1115 + 8 * n) 0 19 ∧
          v = resultWord w.tag w.chan (placeData ((s.rd 0x1104).getLsbD n) ((s.rd 0x1105).getLsbD n) w.chan w.num w.den) ∧
          exec (.streamBurstWrite st) s = .next (((s.setStream n fun _ => x).streamPut n [v]).watermark n) ∧
          (s.Stored → ((s.setStream n fun _ => x).streamPut n [v]).rd (0x1113 + 8 * n) = s.rd (0x1113 + 8 * n) + 1 ∧
            ((s.setStream n fun _ => x).streamPut n [v]).ldWord
              ((s.rd (0x1111 + 8 * n)).toNat + 4 * ((s.rd (0x1113 + 8 * n)).toNat % (s.rd (0x1112 + 8 * n)).toNat)) = v))) ∧
    (∀ edge, s.conv.safetyInj = [] → s.conv.inject = [] → exec (.injectionStart edge) s = .next s) ∧
    (∀ (edge : Nat) (i : Injection) (rest : List Injection), s.conv.safetyInj = [] → s.conv.inject = i :: rest → s.conv.plan = [] → s.conv.started = [] →
      s.conv.busy = [] → s.chis.busy = false → ∃ t k, exec (.injectionStart edge) s = .next t ∧ t.conv.plan = [k] ∧ k.clk = edge ∧ k.chan = i.chan ∧ k.dest = i.dest ∧
        k.lane = s.lane 3 ∧ t.conv.inject = rest ∧ t.conv.started = [(edge, s.lane 3, true)] ∧ t = { s with conv := t.conv }) ∧
    (∀ (edge c : Nat) (rest : List Nat), s.conv.safetyInj = c :: rest → s.conv.plan = [] → s.conv.started = [] → s.conv.busy = [] → s.chis.busy = false →
      ∃ t k, exec (.injectionStart edge) s = .next t ∧ t.conv.plan = [k] ∧ k.chan = c ∧ k.dest = .safety ∧ t.conv.safetyInj = rest ∧
        t.conv.inject = s.conv.inject) ∧
    (∀ (src : Src) (r : Req), s.Requests src r → r.code = 0x11 → r.a0 = 0x1109 → r.a3 = 0 → r.a2 = 0x3F → bitsOf r.a1 0 6 ≤ 57 → 8 ≤ s.conv.inject.length →
      exec (.hostInjectionRequest src) s =
        .next (((s.addSat 0x110C 0 16 1).raise 24 (pack [(0, 2, 2), (8, 6, bitsOf r.a1 0 6)])).complete src 0x06 [])) ∧
    (s.rd 0x1107 = 0 → exec .wintrackTimeout s = .next s) ∧
    (s.rd 0x1107 ≠ 0 → s.conv.lost = true → exec .wintrackTimeout s = .next { s with conv := { s.conv with captures := 0 } }) ∧
    (s.rd 0x1107 ≠ 0 → s.conv.lost = false → exec .wintrackTimeout s =
      .next ({ s with conv := { s.conv with lost := true, captures := 0 } }.raise 23 (pack [(0, 3, s.fld 0x1106 8 3), (3, 2, s.fld 0x1106 11 2)]))))

/-- PATINA_ROTATION_MARK, PATINA_UPDATE, CAL_COMMIT and CAL_RELOAD (R165, R168, R177, R179, R181): the marks and updates of background Patina wait
for the next sweep boundary, where they take force as one change; a commit or a reload waits for it too, and is REFUSED while another runs.
PATINA_SET and its stages (R173, R174): refused outside Run or while HOLD, a commit or a reload stands; it starts with the calibration table and
the first group shorted, opens each group's switches 450 µs after they closed, and ends by subtracting each cell's mean from its offset; a CLIPPED
sample or a mean of more than 10 mV leaves a cell out. -/
def Obligations.PatinaCalibrates : Prop :=
  (∀ s : State,
    (s.pwr.mode = .run → (s.rd 0x1300).getLsbD 0 = true →
      exec .patinaRotationMark s = .next { s with pat := { s.pat with mark := true } } ∧
      (∀ gains : List Word, gains.length = 55 → ∃ t, exec (.patinaUpdate gains) s = .next t ∧
        t.pat.update = (gains.zipIdx.map fun x => (0x1320 + x.2, laneClamp (0x1320 + x.2) x.1)) ++ s.laneValues ∧ t.pat.due = s.pat.due ∧
        t.pat.cells = copies 96 (0, 0) ∧ t.seq = s.seq ∧ t.pins = s.pins ∧
        (s.Stored → s.fld 0x1301 8 8 < 7 → t = { s with pat := t.pat }.addSat 0x1301 8 8 1))) ∧
    ((s.pwr.mode ≠ .run ∨ (s.rd 0x1300).getLsbD 0 = false) → exec .patinaRotationMark s = .next s ∧ ∀ gains, exec (.patinaUpdate gains) s = .next s) ∧
    (∀ (src : Src) (r : Req), s.Requests src r → r.a0 = 0 → r.a1 = 0 → r.a2 = 0 → r.a3 = 0 →
      (r.code = 0x21 → ((s.rd 0x1300).getLsbD 1 = false ∧ s.pat.set = none ∧ s.pat.reload = none ∧ s.pat.commit = none →
          exec (.calCommit src) s = .next ({ s with pat := { s.pat with commit := some (src, false) } }.markStarted src)) ∧
        (((s.rd 0x1300).getLsbD 1 = true ∨ s.pat.set.isSome = true ∨ s.pat.reload.isSome = true ∨ s.pat.commit.isSome = true) →
          exec (.calCommit src) s = .next (s.complete src 0x06 []))) ∧
      (r.code = 0x22 → ∀ chk : Check, (s.pat.set = none ∧ s.pat.reload = none ∧ s.pat.commit = none →
          exec (.calReload src chk) s = .next ({ s.nvRead chk with pat := { s.pat with reload := some (src, chk) } }.markStarted src)) ∧
        ((s.pat.set.isSome = true ∨ s.pat.reload.isSome = true ∨ s.pat.commit.isSome = true) →
          exec (.calReload src chk) s = .next (s.complete src 0x06 [])))) ∧
    (∀ (id : Nat) (v : Word), s.Stored → isCal id = true → s.pat.update ++ s.pat.due = [(id, v)] → s.pat.reload = none → s.pat.commit = none →
      s.calBoundary.rd id = v ∧ s.calBoundary.rd 0x1302 = s.rd 0x1302 + 1 ∧ s.calBoundary.pat.due = [] ∧ s.calBoundary.pat.update = [] ∧
      (∀ j, j ≠ id → j ≠ 0x1302 → s.calBoundary.rd j = s.rd j))) ∧
  (∀ s : State,
    (∀ (src : Src) (r : Req), s.Requests src r → r.code = 0x20 → r.a0 = 0 → r.a1 = 0 → r.a2 = 0 → r.a3 = 0 →
      ((s.pwr.mode ≠ .run ∨ (s.rd 0x1200).getLsbD 0 = false ∨ (s.rd 0x1200).getLsbD 1 = true ∨ (s.rd 0x1300).getLsbD 1 = true ∨
          s.pat.commit.isSome = true ∨ s.pat.reload.isSome = true ∨ s.pat.set.isSome = true) →
        exec (.patinaSet src) s = .next (s.complete src 0x06 [])) ∧
      (s.pwr.mode = .run → (s.rd 0x1200).getLsbD 0 = true → (s.rd 0x1200).getLsbD 1 = false → (s.rd 0x1108).getLsbD 15 = false →
        (s.rd 0x1300).getLsbD 1 = false → s.pat.commit = none → s.pat.reload = none → s.pat.set = none →
        exec (.patinaSet src) s = .next (({ s with pat := { s.pat with
          set := some ⟨src, false, 0, 0, false, copies 24 (0, 0, false)⟩ } }.setBit 0x1301 2 true).markStarted src))) ∧
    (∀ p, s.Stored → s.pat.set = some p → p.started = false → p.group = 0 → p.closed = false → s.pwr.mode = .run → s.pwr.request = none →
      s.seq.checked = none → s.host.applyWait = none → s.conv.inject = [] → s.conv.plan = [] → s.chis.busy = false → 0 < s.fld 0x1000 0 5 →
      ∃ u : State, exec .patinaSetStart s = .next u.settle ∧
        u.pat.set = some { p with started := true, start := u.seq.due.toNat, closed := true } ∧
        u.seq.phase = .calibration ∧ u.fld 0x1006 0 24 = 2 ^ (min 8 (s.fld 0x1000 0 5)) - 1 ∧ u.pins = s.pins) ∧
    (∀ p, s.Stored → s.pat.set = some p → p.started = true →
      let n := s.fld 0x1000 0 5
      (8 * p.group < n → ∃ t, exec .patinaSetGroup s = .next t ∧ t.pat = { s.pat with set := some { p with group := p.group + 1, closed := false } } ∧
        t.fld 0x1006 0 24 = 0 ∧ t = { s with clk := t.clk, par := t.par, pat := t.pat } ∧
        t.clk = (s.advanceTo (BitVec.ofNat 64 (p.start + 20000 * p.group + 18000))).clk ∧ (∀ j, j ≠ 0x1006 → t.rd j = s.rd j)) ∧
      (n ≤ 8 * p.group → p.sums.length ≤ 24 → ∃ u : State, exec .patinaSetApply s = .next u.settle ∧ u.pat.set = none ∧
        u.rd 0x1302 = s.rd 0x1302 + 1 ∧ u.fld 0x1006 0 24 = 0 ∧
        (∀ i m, (i, m) ∈ setChanges p.sums → u.rd (0x1362 + 2 * i) = s.rd (0x1362 + 2 * i) - BitVec.ofInt 32 m)))) ∧
  (∀ (sums : List (Int × Nat × Bool)) (i : Nat) (sum : Int) (n : Nat) (clipped : Bool), sums[i]? = some (sum, n, clipped) →
    ((n ≠ 0 ∧ clipped = false ∧ sum.natAbs ≤ 100 * n) → (i, roundNear (256 * sum) n) ∈ setChanges sums) ∧
    ((n = 0 ∨ clipped = true ∨ 100 * n < sum.natAbs) → ∀ m, (i, m) ∉ setChanges sums))

/-! ## Impedance and balancing -/

/-- IMP_MEASUREMENT_START, IMP_ANNOUNCE_RECEIVED, IMP_PASS_START and CHOP_PASS_BUDGET_TIMEOUT (R186, R191 to R195, R201): the fitting node names a time
at least 20 ms ahead; a node that takes it holds the plan and begins at the first run with its claimed timers stopped; a pass drives its source, a
chop pass only within the budget; an abandoned pass is noted and the next one follows. IMP_SEGMENT_END, IMP_PHASOR_RECEIVED, IMP_PHASOR_TIMEOUT and
IMP_FIT_DONE (R188, R194, R201, R203): a segment leaves this node's frame; the fitting node keeps each node's once and notes those that do not come;
after the fit the measurement is over, and a node shows its time and counts it. -/
def Obligations.ImpedanceMeasured : Prop :=
  (∀ s : State,
    (∀ (slot : Fin 32) (g : Goal) (plan : List Word), s.up = true → s.fab.valid = true → s.fab.hasTime = true →
      nth s.plc.goals slot.val none = some g → g.kind = 3 → s.runs ⟨3, slot⟩ = true →
      (∀ f, f ∈ s.plc.fits → f.live = true → f.string ≠ g.string.toNat) → s.imp.fit = none → ∃ t f n,
        exec (.impMeasurementStart slot plan) s = .next t ∧ f ∈ t.plc.fits ∧ f.slot = slot ∧ f.live = true ∧ f.string = g.string.toNat ∧
        f.frames = [] ∧ f.t0 = s.clk.fabric + 800000 + BitVec.ofNat 64 n ∧ t.free = s.free + 1 ∧ t.pins = s.pins ∧
        (∀ me, s.me = some me → me.str = g.string.toNat → t.imp.fit = some s.fab.addr ∧ t.imp.t0 = f.t0 ∧ t.imp.between = true)) ∧
    (∀ (slot : Fin 32) (plan : List Word), nth s.plc.goals slot.val none = none → exec (.impMeasurementStart slot plan) s = .next s) ∧
    (∀ (t0 : DWord) (fit : FAddr) (plan : List Word), s.up = true → s.Stored → ∃ t, exec (.impAnnounceReceived t0 fit plan) s = .next t ∧
      t.imp.fit = some fit ∧ t.imp.t0 = t0 ∧ t.imp.entry = 0 ∧ t.imp.pass = 0 ∧ t.imp.between = true ∧ t.imp.held.length = 64 ∧
      t.imp.part = ((s.rd 0x1400).getLsbD 0 && s.pwr.mode == .run) ∧ t.fld 0x1401 0 2 = 1 ∧ t.pins = s.pins ∧
      (s.pwr.mode = .run → (s.rd 0x1400).getLsbD 0 = true → s.tmr.length = 8 → ∀ u, (u = s.fld 0x1402 0 3 ∨ u = s.fld 0x1402 3 3) →
        (t.unit u).running = false ∧ (t.rd 0x1606).getLsbD u = true)) ∧
    (s.up = false → ∀ t0 fit plan, exec (.impAnnounceReceived t0 fit plan) s = .next s) ∧
    (∀ i rest, s.up = true → s.imp.fit.isSome = true → s.imp.between = true → s.imp.t0.toNat ≤ s.clk.fabric.toNat → s.runNow = i :: rest →
      let base := { s.imp with between := false, idle := s.entSrc i != 0, sine := 0, run := s.passEntries,
                               spoiled := if s.blanked && s.entSrc i != 0 then s.runNow else [] }
      (((s.entSrc i ≠ 1 ∧ s.entSrc i ≠ 2) ∨ s.takesPart i = false) → exec .impPassStart s = .next ({ s with imp := base }.impShow 2)) ∧
      (s.entSrc i = 1 → s.takesPart i = true → ∃ t, exec .impPassStart s = .next t ∧ t.imp = base ∧ t.bal.impDrv = shuttleSet s.cells s.imp.pass ∧
        (s.tmr.length = 8 → (t.unit (s.impF 0x1402 3 3)).running = true)) ∧
      (s.entSrc i = 2 → s.takesPart i = true →
        let drive := { s with imp := base, bal := { s.bal with chopSet := chopCells s.cells s.imp.pass, chop := 0 } }
        (drive.fits s.bal.applied = false → exec .impPassStart s = .next s) ∧
        (drive.fits s.bal.applied = true → ∃ t, exec .impPassStart s = .next t ∧ t.imp = base ∧ t.bal.chopSet = chopCells s.cells s.imp.pass ∧
          (s.tmr.length = 8 → (t.unit (s.impF 0x1402 0 3)).running = true)))) ∧
    ((s.runNow = [] ∨ s.imp.fit = none ∨ s.imp.between = false) → exec .impPassStart s = .next s) ∧
    (s.imp.fit.isSome = true → s.imp.between = true → s.runSrc = 2 → ∃ t p, exec .chopPassBudgetTimeout s = .next t ∧
      t.imp.notMeas = s.imp.notMeas ++ [(s.imp.entry, s.imp.pass)] ∧ t.imp.between = true ∧ t.imp.own = s.imp.own ++ [p] ∧ p.out = true ∧
      (s.imp.pass < 2 → t.imp.pass = s.imp.pass + 1 ∧ t.imp.entry = s.imp.entry) ∧
      (2 ≤ s.imp.pass → t.imp.pass = 0 ∧ t.imp.entry = s.imp.entry + 1))) ∧
  (∀ s : State,
    (∀ (e : Fin 16) (x : ImpEntry), s.up = true → s.imp.fit.isSome = true → s.imp.between = false → s.imp.run.find? (fun x => x.entry == e.val) = some x →
      (s.imp.idle = true → ∃ t, exec (.impSegmentEnd e) s = .next t ∧ t.imp.own = s.imp.own ∧ t.imp.idle = false ∧ t.imp.between = false ∧
        t.imp.run = s.imp.run ∧ t.pins = s.pins) ∧
      (s.imp.idle = false → x.done < x.nseg → ∃ t p, exec (.impSegmentEnd e) s = .next t ∧ p = s.segFrame x e ∧ t.imp.own = s.imp.own ++ [p] ∧
        p.node = s.fab.addr ∧ p.entry = e ∧ p.segment = s.imp.pass * x.nseg + x.done ∧ p.at_ = x.first + x.done ∧ p.cells.length = 24 ∧
        t.pins = s.pins ∧ (s.imp.run = [x] → t.imp.between = decide (x.nseg ≤ x.done + 1)))) ∧
    (∀ e : Fin 16, s.imp.run = [] → exec (.impSegmentEnd e) s = .next s) ∧
    (∀ p : SegIn, s.up = true →
      (∀ f, s.fitFor p.node = some f → p.node ≠ s.fab.addr →
        exec (.impPhasorReceived p) s = .next (s.fitSet f.slot fun x => fitAdd x p)) ∧
      (s.fitFor p.node = none → exec (.impPhasorReceived p) s = .next s)) ∧
    (∀ (f : FitJob) (p : SegIn),
      let known : Prop := (∃ q, q ∈ f.frames ∧ q.node = p.node ∧ q.entry = p.entry ∧ q.segment = p.segment) ∨ (p.node, p.entry.val, p.segment) ∈ f.missing
      (known → fitAdd f p = f) ∧ (¬ known → fitAdd f p = { f with frames := f.frames ++ [p] })) ∧
    (∀ a : FAddr, s.up = true →
      (∀ f, s.fitFor a = some f → exec (.impPhasorTimeout a) s = .next (s.fitSet f.slot fun x => fitLapse x a)) ∧
      (s.fitFor a = none → exec (.impPhasorTimeout a) s = .next s)) ∧
    (∀ (f : FitJob) (a : FAddr), fitLapse f a = { f with missing := (fitLapse f a).missing } ∧ (∀ x, x ∈ f.missing → x ∈ (fitLapse f a).missing) ∧
      ∀ o, o ∈ f.frames → (∀ q, q ∈ f.frames → ¬ (q.node = a ∧ q.entry = o.entry ∧ q.segment = o.segment)) →
        (a, o.entry.val, o.segment) ∈ (fitLapse f a).missing) ∧
    (∀ f : FitJob, s.fitReady = some f → s.up = true → s.fab.valid = true → ∃ t, exec .impFitDone s = .next t ∧ t.pins = s.pins ∧
      (∀ g, g ∈ t.plc.fits → g.slot = f.slot → g.live = false ∧ g.frames = []) ∧
      (s.imp.fit.isSome = true → s.imp.t0 = f.t0 → t.imp.fit = none ∧ t.imp.run = [])) ∧
    (s.fitReady = none → exec .impFitDone s = .next s) ∧
    (s.Stored → s.impEnd.rd 0x1440 = BitVec.ofNat 32 s.imp.t0.toNat ∧ s.impEnd.rd 0x1441 = BitVec.ofNat 32 (s.imp.t0.toNat / 2 ^ 32) ∧
      s.impEnd.fld 0x1401 16 16 = min 65535 (s.fld 0x1401 16 16 + 1)))

/-- BAL_PLAN_EVALUATE, BAL_REPORT and the assignment (R213, R215 to R217, R231): the plan bleeds exactly the eligible cells above the lowest by more
than half the target, and takes those whose switch is stuck closed as bled; a SPREAD goal without rest renews its assignments; an assignment waits for
its boundary, and the longest prefix within the budget is applied; it ends with its lease. -/
def Obligations.BalancingPlan : Prop :=
  ∀ s : State,
    (∀ (value : Nat → Option Int) (lo target : Int) (r : BalReport) (c : Fin 24), BalItem.bleed c ∈ planItems value lo target r ↔
      ∃ v, value c.val = some v ∧ (r.stuck.getLsbD c.val = true ∨ (r.sw.getLsbD c.val = true ∧ target < 2 * (v - lo)))) ∧
    (∀ (slot : Fin 32) (g : Goal) (reports : List BalReport), s.up = true → nth s.plc.goals slot.val none = some g → s.runs ⟨1, slot⟩ = true →
      let value := repValue (g.kind == 2) (s.planTicks reports)
      ((g.kind = 2 ∨ (g.kind = 1 ∧ atRest reports = true)) → ∀ v vs, (reports.flatMap fun r => (List.range 24).filterMap (value r)) = v :: vs →
        exec (.balPlanEvaluate slot reports) s = .next ((reports.foldl (fun (t : State) (r : BalReport) =>
          t.planSend slot r.node (planItems (value r) (vs.foldl min v) g.arg1.toNat r)) s).goalCheck slot g (vs.foldl max v - vs.foldl min v))) ∧
      (g.kind = 1 → atRest reports = false → exec (.balPlanEvaluate slot reports) s =
        .next ((s.bal.planned.filter fun x => x.1 == slot).foldl (fun (t : State) x => t.sendItems x.2.1 x.2.2) s))) ∧
    (∀ plan : FAddr, s.up = true → s.fab.valid = true → plan ≠ s.fab.addr →
      exec (.balReport plan) s = .next (s.sendTo 0x09 plan (reportBytes s.report))) ∧
    (∀ plan : FAddr, (s.up = false ∨ s.fab.valid = false ∨ plan = s.fab.addr) → exec (.balReport plan) s = .next s) ∧
    (∀ items : List BalItem, s.up = true → exec (.balAssignmentReceived items) s =
      .next ({ s with bal := { s.bal with waiting := some items, leased := some s.clk.ref } }.setBit 0x1501 4 false)) ∧
    (∀ items : List BalItem, s.bal.waiting = some items →
      (((s.rd 0x1501).getLsbD 1 = true ∨ s.bal.probe.isSome = true) → exec .balAssignmentApply s = .next s) ∧
      (s.Stored → (s.rd 0x1501).getLsbD 1 = false → s.bal.probe = none → s.segmentRuns = false → ∃ t, exec .balAssignmentApply s = .next t ∧ t.bal.waiting = none ∧
        t.bal.assigned = items ∧ t.bal.applied <+: items ∧ (s.fits t.bal.applied = true ∨ t.bal.applied = []) ∧
        (s.fits items = true → t.bal.applied = items) ∧ t.pins = s.pins ∧ t.seq = s.seq)) ∧
    (s.bal.leased.isSome = true → exec .balLeaseLapse s =
      .next ((({ s with bal := { s.bal with leased := none, waiting := none, assigned := [], applied := [] } }.setBit 0x1501 4 true).setBit 0x1501 0 false).balRefresh)) ∧
    (s.bal.leased = none → exec .balLeaseLapse s = .next s)

/-- BAL_OVERCURRENT_TRIP, BAL_RECLOSE and SHUTTLE_FRAME_SEND (R205, R207, R208): a switch that trips opens, closes again once 1 ms later, and is
at fault when it trips again within a second; a shuttle frame carries its type, its current and its CRC. PROBE_START and PROBE_CYCLE_END (R227 to
R229): a probe starts only where the switch, the table and the budget allow it, and goes through off and on halves; a blanked span restarts its
cycle. -/
def Obligations.SwitchesShuttlesAndProbe : Prop :=
  (∀ s : State,
    (∀ c : Fin 24,
      ((s.rd 0x1502).getLsbD c.val = false → exec (.balOvercurrentTrip c) s = .next s) ∧
      (s.Stored → (s.rd 0x1502).getLsbD c.val = true → (∀ x, x ∈ s.bal.reclosed → x.1 ≠ c.val) → s.bal.stuckOn.getLsbD c.val = false → ∃ t, exec (.balOvercurrentTrip c) s = .next t ∧ (t.rd 0x1502).getLsbD c.val = false ∧
          t.bal.tripped.getLsbD c.val = true ∧ t.pins = s.pins) ∧
      (s.Stored → (s.rd 0x1502).getLsbD c.val = true → (s.bal.reclosed.any fun x => x.1 == c.val && s.recent x.2) = true →
        ∃ t, exec (.balOvercurrentTrip c) s = .next t ∧ (t.rd 0x151D).getLsbD c.val = true ∧ t.bal.tripped.getLsbD c.val = false) ∧
      (s.bal.tripped.getLsbD c.val = false → exec (.balReclose c) s = .next s) ∧
      (s.bal.tripped.getLsbD c.val = true → ∃ t, exec (.balReclose c) s = .next t ∧ t.bal.tripped.getLsbD c.val = false ∧
        (c.val, s.clk.ref) ∈ t.bal.reclosed ∧ t.pins = s.pins)) ∧
    (∀ j : Fin 23,
      let ma := nth s.bal.command j.val 0
      let run := (s.rd 0x1503).getLsbD j.val
      (run = false → nth s.bal.idleLeft j.val 0 = 0 → ∀ sense, exec (.shuttleFrameSend j sense) s = .next s) ∧
      ((run = true ∨ nth s.bal.idleLeft j.val 0 ≠ 0) →
        (nth s.bal.shtBad j.val false = false → ∀ sense : BitVec 2, exec (.shuttleFrameSend j sense) s =
          .next { s with bal := { s.bal with shtFrame := s.bal.shtFrame.set j.val (some (shuttleFrame run ma)),
                                             idleLeft := s.bal.idleLeft.set j.val (if run then 0 else nth s.bal.idleLeft j.val 0 - 1),
                                             shtBad := s.bal.shtBad.set j.val (decide (sense ≠ 0)) } }) ∧
        (s.Stored → nth s.bal.shtBad j.val false = true → ∀ sense : BitVec 2, sense ≠ 0 → ∃ t, exec (.shuttleFrameSend j sense) s = .next t ∧
          (t.rd 0x151E).getLsbD j.val = true))) ∧
    (∀ (run : Bool) (ma : Int),
      let f := (shuttleFrame run ma).toNat
      f / 2 ^ 18 = (if run then 1 else 2) ∧ f / 64 % 4096 = (BitVec.ofInt 12 ma).toNat ∧ f % 64 = crc6 14 (f / 64) 0)) ∧
  (∀ s : State,
    (∀ c : Fin 24,
      let fresh (on : Bool) : Probe := ⟨c, 0, on, false, [], []⟩
      let may : Prop := s.pwr.mode = .run ∧ s.bal.toProbe.getLsbD c.val = true ∧ s.rd 0x1504 ≠ 0 ∧ s.swHeld c.val = false ∧ s.balStopped = false ∧
        s.bal.stuckOn.getLsbD c.val = false ∧ s.tableProbes (s.fld 0x1519 0 16) = true ∧
        { s with bal := { s.bal with probe := some (fresh true) } }.fits s.bal.applied = true
      ((s.bal.probe.isSome = true ∨ ¬ may) → exec (.probeStart c) s = .next s) ∧
      (s.bal.probe = none → may → exec (.probeStart c) s =
        .next (({ s with bal := { s.bal with probe := some (fresh false), toProbe := setBitV s.bal.toProbe c.val false } }.setBit 0x1501 2 true).balRefresh))) ∧
    (s.bal.probe = none → ∀ off on : List Int, exec (.probeCycleEnd off on) s = .next s) ∧
    (∀ (p : Probe) (off on : List Int), s.bal.probe = some p →
      let put (q : Probe) : State := { s with bal := { s.bal with probe := some q } }.balRefresh
      ((s.rd 0x1501).getLsbD 1 = true → exec (.probeCycleEnd off on) s = .next (put { p with on := false, off := [] })) ∧
      ((s.rd 0x1501).getLsbD 1 = false → p.on = false → exec (.probeCycleEnd off on) s = .next (put { p with on := true, off := off })) ∧
      ((s.rd 0x1501).getLsbD 1 = false → p.on = true →
        let q : Probe := { p with on := false, off := [], cycle := p.cycle + 1, done := p.done ++ [(p.off, on)] }
        exec (.probeCycleEnd off on) s = .next (if p.cycle = 3 then (put q).probeJudge q else put q))))

/-! ## Timers -/

/-- TIMER_WRAP, TIMER_MATCH, TIMER_CAPTURE, TIMER_AT_START and TIMER_GATE_PIN_CHANGE (R235 to R244, R247, R248): a wrap makes the count 0 and takes TOP
into force; a match gives its channel the level of MATCHACT; both act through the matrix from the next tick on; a capture keeps the count; a start time
starts the named units; a gate follows its pin; a unit that does not count does nothing. -/
def Obligations.TimerEvents : Prop :=
  ∀ (s : State) (u : Fin 8), s.Stored → s.tmr.length = 8 →
    let b := 0x1610 + 16 * u.val
    let alone : Prop := (∀ v, v < 8 → s.fld (0x1615 + 16 * v) 0 7 = 0x7F ∧ s.fld (0x1615 + 16 * v) 8 7 = 0x7F ∧ s.fld (0x1615 + 16 * v) 16 7 = 0x7F) ∧
      (∀ x, x ∈ s.tmr → x.out = []) ∧ s.bal.impDrv = 0 ∧ s.bal.chopSet = 0 ∧ (s.rd 0x1108).getLsbD 15 = false ∧ s.chainedLow u.val = false ∧
      s.chainedHigh u.val = false
    let still : Prop := (s.rd b).getLsbD 6 = true ∧ (s.unit u.val).loaded = none
    (alone → ((s.unit u.val).running = false ∨ s.up = false) → exec (.timerWrap u) s = .next s ∧ ∀ c : Fin 4, exec (.timerMatch u c) s = .next s) ∧
    (s.counting u.val = true → alone → still → (∀ c, c < 4 → s.fld (b + 8 + 2 * c) 0 2 ≠ 1) → ∃ t, exec (.timerWrap u) s = .next t ∧ t.rd (b + 3) = 0 ∧
      t.rd (b + 7) = s.rd (b + 2) ∧ 0 ∈ (t.unit u.val).out ∧ t.pins = s.pins ∧ t.seq = s.seq ∧ t.bal = s.bal) ∧
    (∀ c : Fin 4, s.counting u.val = true → alone → still → (s.unit u.val).chans.length = 4 →
      (∀ d, d < 4 → s.fld (b + 8 + 2 * d) 0 2 = (if d = c.val then 1 else 0)) → (s.rd (b + 8 + 2 * c.val)).getLsbD 31 = false →
      (s.chan u.val c.val).active = s.rd (b + 9 + 2 * c.val) → s.rd (b + 2) = s.rd (b + 7) → (s.chan u.val c.val).active.toNat ≤ (s.rd (b + 7)).toNat →
      (s.fld (b + 8 + 2 * c.val) 6 3 = 1 ∨ s.fld (b + 8 + 2 * c.val) 6 3 = 2) → ∃ t, exec (.timerMatch u c) s = .next t ∧
        t.rd (b + 3) = (s.chan u.val c.val).active ∧ c.val + 1 ∈ (t.unit u.val).out ∧
        (t.chan u.val c.val).level = (s.fld (b + 8 + 2 * c.val) 6 3 == 1)) ∧
    (∀ c : Fin 4, s.up = true → alone → s.fld (b + 8 + 2 * c.val) 0 2 = 2 → s.fld (b + 8 + 2 * c.val) 17 2 ≠ 3 → (s.unit u.val).chans.length = 4 →
      ((s.chan u.val c.val).edges < s.fld (b + 8 + 2 * c.val) 23 8 → ∃ t, exec (.timerCapture u c) s = .next t ∧
        (t.chan u.val c.val).edges = (s.chan u.val c.val).edges + 1 ∧ ∀ id, id < 0x1610 ∨ 0x1690 ≤ id → t.rd id = s.rd id) ∧
      (s.fld (b + 8 + 2 * c.val) 23 8 ≤ (s.chan u.val c.val).edges → (s.rd (b + 8 + 2 * c.val)).getLsbD 31 = false →
        (s.rd (b + 8 + 2 * c.val)).getLsbD 16 = false → ∃ t, exec (.timerCapture u c) s = .next t ∧ t.rd (b + 9 + 2 * c.val) = s.rd (b + 3) ∧
          (t.chan u.val c.val).edges = 0 ∧ c.val + 1 ∈ (t.unit u.val).out)) ∧
    (s.up = true → s.fab.hasTime = true → s.fld 0x1601 0 8 ≠ 0 → s.clk.fabric.toNat ≤ s.atTime.toNat → ∃ t, exec .timerAtStart s = .next t ∧
      t.rd 0x1601 = 0 ∧ (∀ v, v < 8 → (s.rd 0x1601).getLsbD v = true → (t.unit v).running = true) ∧
      (s.clk.ref.toNat + s.atTime.toNat < 2 ^ 64 → t.clk.fabric = s.atTime)) ∧
    ((s.fab.hasTime = false ∨ s.fld 0x1601 0 8 = 0 ∨ s.atTime.toNat < s.clk.fabric.toNat) → exec .timerAtStart s = .next s) ∧
    (∀ (pin : Fin 8) (level : Bool),
      (s.awake = true → alone → s.fld (0x1690 + pin.val) 0 2 ≠ 1 → ∃ t, exec (.timerGatePinChange pin level) s = .next t ∧
        t.pins.tmpIn.getLsbD pin.val = level ∧ (∀ q : Fin 8, q ≠ pin → t.pins.tmpIn.getLsbD q.val = s.pins.tmpIn.getLsbD q.val) ∧ t.seq = s.seq) ∧
      ((s.awake = false ∨ s.fld (0x1690 + pin.val) 0 2 = 1) → exec (.timerGatePinChange pin level) s = .next s) ∧
      (s.fld (b + 5) 0 7 = 0x40 + pin.val → (s.gatesFollow.unit u.val).gate = s.pins.tmpIn.getLsbD pin.val))

/-! ## Links, frames, discovery and fabric time -/

/-- R262, R263: a fabric frame with at most 512 payload bytes, as it goes on the line, has a good length and a good CRC, and the receiver reads
back every field of it; a UART payload survives its escapes (R70). The known answers of the codes (R65, R263, R381): CRC-8, CRC-16 and CRC-32C of
the nine digits. -/
def Obligations.FramesRoundTrip : Prop :=
  ((∀ (f : Frame) (lseq : Byte), f.payload.length ≤ 512 →
    wireLengthOk (f.wire lseq) = true ∧ wireCrcOk (f.wire lseq) = true ∧ parseFrame (f.wire lseq) = f ∧ nth (f.wire lseq) 6 0 = lseq ∧
    (f.wire lseq).length = 16 + f.payload.length) ∧
  (∀ bs : List Byte, unescape (uartEscape bs) = some bs ∧ ∀ b, b ∈ uartEscape bs → b ≠ 0x7E)) ∧
  (let digits : List Byte := [0x31, 0x32, 0x33, 0x34, 0x35, 0x36, 0x37, 0x38, 0x39]
  crc8 digits = 0xF4 ∧ crc16 digits = 0x29B1 ∧ crc32c digits = 0xE3069283)

/-- LINK_CONTROL_RECEIVED, LINK_ACK_TIMEOUT, KEEPALIVE_SEND and LINK_RETRAIN_DELAY (R258, R261, R266): an ACK frees its frame and gives credit;
the first NACK or timeout repeats the frame with RETX under its number, as soon as the port has credit for it, the second drops it and counts it; a frame
that a lasting fault of its buffer cut off is counted lost and not repeated (R412). -/
def Obligations.LinkControl : Prop :=
  ∀ (s : State) (p : Fin 4) (q : Port), s.port p = some q → s.portUp p = true →
    (∀ (u : Unacked) (a b : Byte), q.unacked = [u] → u.lseq = a → u.due = false → q.queue = [] →
      let freed := s.setPort p fun q => { q with unacked := [], credit := min 8 b.toNat }
      let f : Frame := { u.frame with retx := true }
      let lost := ((s.setPort p fun q => { q with unacked := [], lostAt := q.lostAt ++ [s.clk.ref], lostNow := q.lostNow + 1 }).addSat (0x2018 + p.val) 16 16 1).linkErr
        p u.frame.type
      (u.retry = false → exec (.linkControlReceived p 1 a b) s = .next freed) ∧
      (u.retry = true → exec (.linkControlReceived p 1 a b) s = .next ((freed.addSat (0x2018 + p.val) 0 16 1).transient 4 1)) ∧
      (u.retry = false → (classOf f.type = 0 ∨ 1 ≤ q.credit) → exec (.linkControlReceived p 2 a b) s = .next (s.setPort p fun q => { q with
        unacked := [{ u with retry := true, frame := f }], sent := q.sent ++ [f.wire a],
        credit := if classOf f.type = 0 then q.credit else q.credit - 1 })) ∧
      (u.retry = false → classOf f.type ≠ 0 → q.credit = 0 → exec (.linkControlReceived p 2 a b) s = .next (s.setPort p fun q => { q with
        unacked := [{ u with retry := true, due := true, frame := f }] })) ∧
      (u.retry = true → exec (.linkControlReceived p 2 a b) s = .next lost) ∧
      (q.lseq ≠ a + 1 → exec (.linkAckTimeout p a .lasting) s = .next (lost.memFault false 15).settle)) ∧
    (∀ a b : Byte, ∃ u : State, exec (.linkControlReceived p 2 a b) s = .next u ∧ exec (.linkAckTimeout p a .pass) s = .next u.settle) ∧
    (∀ b : Byte, q.queue = [] → exec (.linkControlReceived p 3 0 b) s = .next (s.setPort p fun q => { q with credit := min 8 b.toNat })) ∧
    exec (.linkControlReceived p 4 0x5A 0) s = .next (s.setPort p fun q => { q with slept := true }) ∧
    exec (.keepaliveSend p) s = .next (s.setPort p fun q => { q with control := q.control ++ [(0x03, BitVec.ofNat 8 s.pwr.mode.code, 8)] }) ∧
    exec (.linkRetrainDelay p) s = .next (s.setPort p fun q => { q with delayed := false })

/-- LINK_TRAIN_BLOCK, LINK_DOWN and FRAME_RECEIVE (R260 to R263, R265 to R267, R276): two equal blocks and HEARD at both ends bring the port up; a
frame of bad length or CRC is refused and nothing else happens; a good one is acknowledged, and taken, forwarded or flooded. -/
def Obligations.LinksAndFrames : Prop :=
  ∀ (s : State) (p : Fin 4) (q : Port), s.port p = some q →
    (∀ block : List Byte, s.portOn p = true → q.up = false → q.delayed = false → block.length = 12 →
      let nbr := (nth block 11 0).getLsbD 7
      let took (heard : Bool) : State := s.setPort p fun q => { q with block := some block, same := 1, heard := heard, nbrHeard := nbr }
      (q.heard = false → (q.same = 0 ∨ q.block ≠ some block) → exec (.linkTrainBlock p block) s = .next (took false)) ∧
      ((q.heard = true ∨ (q.same ≠ 0 ∧ q.block = some block)) →
        exec (.linkTrainBlock p block) s = .next (if nbr then (took true).linkUp p else took true))) ∧
    (s.portUp p = true → ∀ c : Fin 4, c ≠ 3 → exec (.linkDown p c) s = .next (s.portDown p c.val)) ∧
    (s.portUp p = true → (s.rd 0x2000).getLsbD 0 = false → exec (.linkDown p 3) s = .next s) ∧
    (∀ (bytes : List Byte) (aborted : Bool), (s.portUp p = false ∨ aborted = true) → exec (.frameReceive p bytes aborted) s = .next s) ∧
    (s.portUp p = true → ∀ bytes : List Byte,
      let lseq := nth bytes 6 0
      let told (code arg : Byte) : State := s.setPort p fun q => { q with control := q.control ++ [(code, lseq, arg)] }
      let f := parseFrame bytes
      (wireLengthOk bytes = false → exec (.frameReceive p bytes false) s = .next (told 0x02 2)) ∧
      (wireLengthOk bytes = true → wireCrcOk bytes = false → exec (.frameReceive p bytes false) s = .next (told 0x02 1)) ∧
      (wireLengthOk bytes = true → wireCrcOk bytes = true → q.miswire = false →
        (f.bcast = false → s.fab.valid = true → f.dst = s.fab.addr → f.retx = false → f.rerouted = false →
          exec (.frameReceive p bytes false) s = .next ((told 0x01 8).remember f)) ∧
        (f.bcast = false → (s.fab.valid = false ∨ f.dst ≠ s.fab.addr) → exec (.frameReceive p bytes false) s = .next ((told 0x01 8).transit f)) ∧
        (f.bcast = true → s.known f = true → exec (.frameReceive p bytes false) s = .next (told 0x01 8)) ∧
        (f.bcast = true → s.known f = false → f.hops.toNat + 1 ≤ s.fld 0x200D 0 8 →
          exec (.frameReceive p bytes false) s = .next (((told 0x01 8).remember f).flood { f with hops := f.hops + 1 } (some p)))))

/-- DISCOVER, TOPO_FRAME, DISCDONE, STRING_ASSIGN and WAKE_FRAME (R269, R270, R275, R276): discovery begins once and ends only when every CRC
agrees; a string is renumbered only with its outputs off; a node asked to wake another idles the port that faces it. A node without firmware takes a
TOPO frame for its routes alone (the model's choice, log entry 117). -/
def Obligations.DiscoveryRuns : Prop :=
  ∀ s : State,
    (∀ (src : Src) (r : Req), s.Requests src r → r.code = 0x30 → r.a0 = 0 → r.a1 = 0 → r.a2 = 0 → r.a3 = 0 →
      (s.fab.disc.isSome = true → exec (.discover src) s = .next (s.complete src 0x06 [])) ∧
      (s.fab.disc = none → ∃ t, exec (.discover src) s = .next t ∧ t.fab.disc = some (some src) ∧ t.fab.crcs = [] ∧ t.pins = s.pins ∧ t.seq = s.seq)) ∧
    (s.evrus = true → ∀ p : Fin 4,
      (∀ x c, exec (.topoFrame p (.armCrc x c)) s =
        .next { s with fab := { s.fab with crcs := (s.fab.crcs.filter fun y => !(y.1 == x)) ++ [(x, c)] } }) ∧
      (∀ n d, n.serial = s.serial → exec (.topoFrame p (.node n d)) s = .next s) ∧
      (∀ n, n.serial ≠ s.serial → s.fab.disc.isSome = true → exec (.topoFrame p (.node n false)) s =
        .next ({ s with fab := { s.fab with nodes := putTopo s.fab.nodes n } }.floodCrc)) ∧
      (∀ x k clear, exec (.topoFrame p (.number x k clear)) s = .next (s.takeNumber x k clear))) ∧
    (s.evrus = false → (s.pwr.phase ≠ .bootOnly ∨ s.awake = false) → ∀ p m, exec (.topoFrame p m) s = .next s) ∧
    (s.pwr.phase = .bootOnly → s.awake = true → ∀ p m, exec (.topoFrame p m) s = .next (s.bootTopo m)) ∧
    (s.evrus = true → s.putMe.discAgreed (discovered s.putMe.fab.nodes) = false →
      exec .discdone s = .next s) ∧
    (s.evrus = true → s.putMe.discAgreed (discovered s.putMe.fab.nodes) = true → ∃ t, exec .discdone s = .next t ∧ t.fab.disc = none ∧ t.fab.crcs = [] ∧
      t.pins = s.pins) ∧
    (∀ (src : Src) (r : Req) (on : Bool), s.Requests src r → r.code = 0x31 → r.a3 = 0 → r.a2 &&& 0xFFFFFEC0 = 0 →
      let serial : DWord := r.a1 ++ r.a0
      let num : BitVec 6 := BitVec.ofNat 6 (bitsOf r.a2 0 6)
      let clear := r.a2.getLsbD 8
      (nodeOf s.fab.nodes serial = none → exec (.stringAssign src on) s = .next (s.complete src 0x08 [])) ∧
      (∀ x, nodeOf s.fab.nodes serial = some x → (on = true ∨ s.fab.disc.isSome = true) → exec (.stringAssign src on) s = .next (s.complete src 0x06 [])) ∧
      (∀ x, nodeOf s.fab.nodes serial = some x → on = false → s.fab.disc = none →
        (clear = true ∨ ∀ n, n ∈ s.fab.nodes → n.str = x.str ∨ n.topo.hostset = false ∨ n.topo.string ≠ num) → ∃ n, exec (.stringAssign src on) s =
        .next (((s.floodTopo (.number serial num clear)).takeNumber serial num clear).complete src 0x00 [n]))) ∧
    (∀ (a : FAddr) (n : Node) (p : Fin 4), nodeAt s.fab.nodes a = some n → s.facing n.topo.serial = some p → s.up = true →
      exec (.wakeFrame a) s = .next { s with pins := { s.pins with idleOut := s.pins.idleOut ++ [p] } }) ∧
    (∀ a : FAddr, nodeAt s.fab.nodes a = none → exec (.wakeFrame a) s = .next s)

/-- TIME_SYNC_SEND and TIME_FRAME (R280): a node with fabric time sends SYNC to each child; a child answers SYNC from its parent with DREQ, a
parent answers DREQ; the exchange gives the delay and the offset, and a node without fabric time gains it. -/
def Obligations.FabricTime : Prop :=
  ∀ s : State, s.awake = true →
    (s.fab.hasTime = true → exec .timeSyncSend s =
      .next (s.childPorts.foldl (fun (t : State) p => t.sendTime p 1 (256 * (s.clk.fabric.toNat : Int))) s)) ∧
    (s.fab.hasTime = false → exec .timeSyncSend s = .next s) ∧
    (∀ (p : Fin 4) (q : Port), s.port p = some q → q.usable = true → ∀ x y : Int,
      (p ∈ s.childPorts → exec (.timeFrame p .dreq x) s = .next (s.sendTime p 3 x)) ∧
      (p ∉ s.childPorts → exec (.timeFrame p .dreq x) s = .next s) ∧
      (s.fab.parent = some p → exec (.timeFrame p (.sync y) x) s = .next ((s.setPort p fun q => { q with stamps := some (y, x, 0) }).sendTime p 2 0)) ∧
      (s.fab.parent ≠ some p → exec (.timeFrame p (.sync y) x) s = .next s) ∧
      (∀ t1 t2 z : Int, s.Stored → s.fab.parent = some p → q.stamps = some (t1, t2, z) → ∃ t, exec (.timeFrame p (.reply y) x) s = .next t ∧
        t.rd (0x2010 + p.val) = BitVec.ofInt 32 (quot (((t2 - t1) + (y - x)) * 25000) 512) ∧
        t.rd 0x2009 = BitVec.ofInt 32 (quot (((t2 - t1) - (y - x)) * 25000 - 256 * (s.rd (0x2014 + p.val)).toInt) 512) ∧ t.fab.hasTime = true ∧
        t.seq = s.seq ∧ t.pins = s.pins))

/-! ## Fabric sweeps, snapshots, goals, jobs and records -/

/-- SWEEP_START, SWEEP_STOP, SWEEP_ANNOUNCE and SWEEP_ANNOUNCE_REPEAT (R287 to R289): a sweep starts at a multiple of its period at least 20 ms
ahead and is announced; an announcement carries every part of it; a node of its scope takes part; the copies are repeated. -/
def Obligations.SweepsAnnounced : Prop :=
  ∀ s : State,
    (∀ (p : SweepPlan) (stop : Bool), announceOf (announceBytes p stop) = p ∧ (announceBytes p stop).length = 28 ∧
      nth (announceBytes p stop) 0 0 = 0x22 ∧ (nth (announceBytes p stop) 1 0).getLsbD 0 = stop) ∧
    (∀ (src : Src) (r : Req), s.Requests src r → r.code = 0x38 →
      let n := bitsOf r.a0 0 16
      let scope : DWord := r.a3 ++ r.a2
      (r.a0 &&& 0xFFFF0000 = 0 → n < 100 → exec (.sweepStart src) s = .next (s.complete src 0x03 [])) ∧
      (r.a0 &&& 0xFFFF0000 = 0 → 100 ≤ n → scope ≠ 0 → (s.sweep.collect.isSome = true ∨ s.fab.hasTime = false ∨ s.fab.valid = false) →
        exec (.sweepStart src) s = .next (s.complete src 0x06 [])) ∧
      (r.a0 &&& 0xFFFF0000 = 0 → 100 ≤ n → scope ≠ 0 → s.sweep.collect = none → s.fab.hasTime = true → s.fab.valid = true →
        (s.expectedSet s.fab.addr scope).length ≤ 1024 → tcoll (s.expectedSet s.fab.addr scope) ≤ 10 * n →
        ∃ (t : State) (p : SweepPlan) (t0 : Nat), exec (.sweepStart src) s = .next t ∧ t.sweep.collect = some p ∧ t.sweep.cnext = 0 ∧ p.coll = s.fab.addr ∧
          p.period = BitVec.ofNat 32 (400 * n) ∧ p.count = r.a1 ∧ p.scope = scope ∧ p.t0 = BitVec.ofNat 64 t0 ∧ t0 % (400 * n) = 0 ∧
          s.clk.fabric.toNat + 800000 ≤ t0 ∧ t0 < s.clk.fabric.toNat + 800000 + 400 * n) ∧
      (r.a0 = 0x01000000 →
        (s.sweep.collect = none → exec (.sweepStop src) s = .next (s.complete src 0x06 [])) ∧
        (s.sweep.collect.isSome = true → ∃ t, exec (.sweepStop src) s = .next t ∧ t.sweep.collect = none ∧ t.seq = s.seq ∧ t.pins = s.pins))) ∧
    (∀ bytes : List Byte, bytes.length ≠ 28 → exec (.sweepAnnounce bytes) s = .next s) ∧
    (∀ (p : SweepPlan) (me : Node), s.up = true → s.me = some me → s.fab.valid = true → me.str < 64 → p.scope.getLsbD me.str = true →
      (s.pwr.mode = .run ∨ s.pwr.mode = .watch) → s.sweep.plan ≠ some p → ∃ t, exec (.sweepAnnounce (announceBytes p false)) s = .next t ∧
        t.sweep.plan = some p ∧ t.sweep.stop = false ∧ t.sweep.shot = none ∧ t.pins = s.pins ∧
        t.pwr.request = (if s.pwr.mode = .watch ∧ s.pwr.hatbox = .none then some .run else s.pwr.request)) ∧
    (s.up = true → 0 < s.sweep.announce → exec .sweepAnnounceRepeat s =
      .next ({ s with sweep := { s.sweep with announce := s.sweep.announce - 1 } }.sendAll 0x08 s.sweep.said)) ∧
    (s.sweep.announce = 0 → exec .sweepAnnounceRepeat s = .next s)

/-- SNAPSHOT_TIME, SWEEP_RECORD_SEND, SWEEP_RECORD_RECEIVE and SNAPSHOT_CLOSE_TIMEOUT (R287, R292, R293, R297, R299): the collector opens a
snapshot; a node begins its own, and its record, of the layout given, leaves in its slot once its sweep has come; a record enters its snapshot once, a late one is flagged; a snapshot closes. -/
def Obligations.SnapshotsCollected : Prop :=
  ∀ s : State,
    (s.up = false → exec .snapshotTime s = .next s) ∧
    (s.up = true → s.sweep.collect = none → s.sweep.plan = none → s.sweep.shot = none → exec .snapshotTime s = .next (s.sweepShow s.sweepState)) ∧
    (∀ p : SweepPlan, s.up = true → s.sweep.plan = some p → s.sweep.collect = none → s.sweep.isolated = false → s.sweep.shot = none →
      s.sweep.stop = false → p.has s.sweep.next = true → ∃ t, exec .snapshotTime s = .next t ∧
        t.sweep.shot = some (s.shotBegin p s.sweep.next) ∧ t.sweep.next = s.sweep.next + 1 ∧ t = { s with par := t.par, sweep := t.sweep }) ∧
    (∀ p : SweepPlan, s.up = true → s.sweep.plan = none → s.sweep.shot = none → s.sweep.collect = some p → p.has s.sweep.cnext = true → ∃ t x,
      exec .snapshotTime s = .next t ∧ t.sweep.open_ = s.sweep.open_ ++ [x] ∧ x.snap = BitVec.ofNat 16 s.sweep.cnext ∧
        x.ts = p.t0 + BitVec.ofNat 64 (s.sweep.cnext * p.period.toNat) ∧ x.records = [] ∧ t.sweep.cnext = s.sweep.cnext + 1 ∧
        (p.has (s.sweep.cnext + 1) = false → t.sweep.collect = none)) ∧
    (∀ (p : SweepPlan) (x : SweepShot), s.up = true → s.sweep.shot = some x →
      (x.status ≠ 0 ∨ 26 ≤ x.got ∨ x.ts.toNat + x.period ≤ s.clk.fabric.toNat → s.sweep.plan = some p → x.coll ≠ s.fab.addr →
        s.sweep.isolated = false →
        let sent := { s with sweep := { s.sweep with shot := none } }.sendTo 0x08 x.coll (s.sweepRecord x false)
        exec .sweepRecordSend s = .next (if p.has s.sweep.next && !s.sweep.stop then sent else sent.sweepEnd)) ∧
      (x.status = 0 → x.got < 26 → s.clk.fabric.toNat < x.ts.toNat + x.period → exec .sweepRecordSend s = .next s)) ∧
    (s.sweep.shot = none → exec .sweepRecordSend s = .next s) ∧
    (∀ (x : SweepShot) (held : Bool), (s.sweepRecord x held).length = (if x.st = 0 then 94 else 16) ∧
      recSnap (s.sweepRecord x held) = BitVec.ofNat 16 x.snap ∧ recAddr (s.sweepRecord x held) = s.fab.addr) ∧
    (∀ (bytes : List Byte) (p : Fin 4), s.up = true → nth bytes 0 0 = 0x20 → 16 ≤ bytes.length → (nth bytes 1 0).getLsbD 1 = false →
      (s.sweep.open_.find? (fun x => x.snap == recSnap bytes) = none → exec (.sweepRecordReceive bytes false p .pass) s =
        .next ((s.destWrite (flagRecord bytes 4)).addSat 0x2038 0 16 1).settle) ∧
      (∀ x, s.sweep.open_.find? (fun x => x.snap == recSnap bytes) = some x →
        exec (.sweepRecordReceive bytes false p .pass) s = .next (s.snapPut x (recAddr bytes) bytes false).settle ∧
        ((∃ y, y ∈ x.records ∧ y.1 = recAddr bytes) → s.snapPut x (recAddr bytes) bytes false = s)) ∧
      (exec (.sweepRecordReceive bytes false p .lasting) s = .next (s.memFault false 12).settle)) ∧
    (∀ x rest, s.up = true → s.sweep.open_ = x :: rest → ∃ t, exec .snapshotCloseTimeout s = .next t ∧ t.sweep.open_ = rest ∧ t.pins = s.pins) ∧
    (s.sweep.open_ = [] → exec .snapshotCloseTimeout s = .next s)

/-- SWEEP_ISOLATED, SWEEP_HOLD_EXPIRY, HELD_RECORD_SEND, SNAPSHOT_TRIGGER, FABRIC_TRIGGER_RECEIVED and SNAPSHOT_FROZEN (R302 to R305): an isolated
node keeps its records, for a time, and sends them later; a trigger starts the fill of the slot that records, or is counted; a filled slot freezes
with its header. -/
def Obligations.HeldRecordsAndCaptures : Prop :=
  ∀ s : State,
    (∀ p : SweepPlan, s.up = true → s.sweep.plan = some p → s.route p.coll = none → p.coll ≠ s.fab.addr → s.sweep.isolated = false → ∃ t,
      exec .sweepIsolated s = .next t ∧ t.sweep.isolated = true ∧ t.sweep.holding = true ∧ t.sweep.shot = s.sweep.shot ∧ t.sweep.held = s.sweep.held) ∧
    (∀ x : SweepShot, s.up = true → s.sweep.isolated = true → s.sweep.shot = some x → x.coll ≠ s.fab.addr →
      (x.status ≠ 0 ∨ 26 ≤ x.got ∨ x.ts.toNat + x.period ≤ s.clk.fabric.toNat) → s.sweep.held.length < 2730 → ∃ t,
      exec .sweepRecordSend s = .next t ∧ t.sweep.shot = none ∧ t.sweep.held = s.sweep.held ++ [s.sweepRecord x true]) ∧
    (s.sweep.plan = none → exec .sweepIsolated s = .next s ∧ (s.sweep.held = [] → exec .heldRecordSend s = .next s)) ∧
    exec .sweepHoldExpiry s = .next (if s.sweep.isolated then { s with sweep := { s.sweep with holding := false } } else s) ∧
    (∀ (a : FAddr) (bs : List Byte) (rest : List (List Byte)), s.up = true → s.sweep.heldTo = a → s.sweep.isolated = false →
      s.sweep.held = bs :: rest → (s.route a).isSome = true →
      (s.heldTurn = true → ∃ t, exec .heldRecordSend s = .next t ∧ t.sweep.held = rest ∧
        (rest ≠ [] → t = ({ s with sweep := { s.sweep with held := rest, heldSent := s.sweep.heldSent + 1, heldAt := s.clk.ref } }.sendTo 0x08 a bs).setFld
          0x2037 0 16 rest.length)) ∧
      (s.heldTurn = false → exec .heldRecordSend s = .next s)) ∧
    (∀ e : BitVec 7, (e ∉ s.snap.due → exec (.snapshotTrigger e) s = .next s) ∧
      (s.up = true → e ∈ s.snap.due → (s.rd 0x2040).getLsbD 1 = false →
        let u := { s with snap := { s.snap with due := s.snap.due.erase e } }
        (s.armSlot = none → exec (.snapshotTrigger e) s = .next (u.addSat 0x2044 0 16 1)) ∧
        (∀ n, s.armSlot = some n → exec (.snapshotTrigger e) s = .next { u with snap := { u.snap with
          slots := s.snap.slots.set n (.filling (1024 - s.fld 0x2043 0 11) s.snap.pos), trigger := some (s.srcAddr, e, false, s.stamp.2), late := false } }))) ∧
    (∀ (a : FAddr) (e : BitVec 7) (time : DWord), s.up = true → s.fab.valid = true → a.toNat / 64 = s.fab.addr.toNat / 64 → a ≠ s.fab.addr →
      ((s.rd 0x2040).getLsbD 0 = false → exec (.fabricTriggerReceived a e time) s = .next s) ∧
      ((s.rd 0x2040).getLsbD 0 = true → (s.rd 0x2041).getLsbD 4 = true → s.snap.lastFab = none →
        (s.armSlot = none → exec (.fabricTriggerReceived a e time) s = .next (s.addSat 0x2044 0 16 1)) ∧
        (∀ n, s.armSlot = some n → s.snap.times = [] → exec (.fabricTriggerReceived a e time) s = .next { s with snap := { s.snap with
          lastFab := some s.clk.ref, slots := s.snap.slots.set n (.filling (1024 - s.fld 0x2043 0 11) s.snap.pos), trigger := some (a, e, true, time),
          late := false } }))) ∧
    (s.snap.trigger = none → exec .snapshotFrozen s = .next s) ∧
    (∀ n p x, s.recSlot = some n → nth s.snap.slots n .full = .filling 0 p → s.snap.trigger = some x → ∃ t, exec .snapshotFrozen s = .next t ∧
      t.snap.trigger = none ∧ t.snap.times = [] ∧ t.pins = s.pins ∧
      ((∀ g, g ∈ s.plc.goals → ∀ h, g = some h → h.kind ≠ 6) → nth t.snap.slots n .free = .full))

/-- GOAL_SET, GOAL_CLEAR and GOAL_TABLE_FRAME (R308 to R311): the anchor checks a goal, refuses it with its reason, or takes it into the lowest
free slot; any other node forwards the command; a table with a lower number is not taken. -/
def Obligations.GoalTable : Prop :=
  ∀ s : State,
    (∀ goals : List (Option Goal), (s.goalsChange goals).plc.goals = goals) ∧
    (∀ (src : Src) (r : Req), s.Requests src r → s.isAnchor = true →
      let g : Goal := ⟨BitVec.ofNat 4 (bitsOf r.a0 0 4), BitVec.ofNat 6 (bitsOf r.a0 8 6), r.a1, r.a2, s.goalExec src⟩
      (r.code = 0x40 → goalOk r = false → exec (.goalSet src) s = .next (s.complete src 0x03 [])) ∧
      (r.code = 0x40 → goalOk r = true → (∀ x, x ∈ s.goalList → sameScope x.2 g = false) → ∀ i, i < 32 → nth s.plc.goals i none = none →
        (∀ k, k < i → (nth s.plc.goals k none).isSome = true) →
        (s.goalRefuse g (some i) = none → ∃ rsp, exec (.goalSet src) s = .next ((s.goalsChange (s.plc.goals.set i (some g))).complete src 0x00 rsp)) ∧
        (∀ reason, s.goalRefuse g (some i) = some reason → exec (.goalSet src) s = .next ((s.goalRej i g reason).complete src 0x06 []))) ∧
      (r.code = 0x41 → r.a1 = 0 → r.a2 = 0 → r.a3 = 0 →
        (∀ i, i < 32 → r.a0 = BitVec.ofNat 32 i →
          (nth s.plc.goals i none = none → exec (.goalClear src) s = .next (s.complete src 0x00 [])) ∧
          ((nth s.plc.goals i none).isSome = true → exec (.goalClear src) s = .next ((s.goalsChange (s.plc.goals.set i none)).complete src 0x00 []))) ∧
        (r.a0 = 0x100 → s.goalList ≠ [] → exec (.goalClear src) s = .next ((s.goalsChange (copies 32 none)).complete src 0x00 [])))) ∧
    (∀ (r : Req) (a : FAddr), s.Requests .mbx r → s.isAnchor = false → s.anchor = some a →
      let t := s.sendTo 0x04 a (requestBytes r (if s.sweep.collect.isSome then s.fab.addr else 0xFFE))
      let sent := { t with host := { t.host with remote := some (s.fab.fid, a) } }.markStarted .mbx
      (r.code = 0x40 → exec (.goalSet .mbx) s = .next sent) ∧ (r.code = 0x41 → exec (.goalClear .mbx) s = .next sent)) ∧
    (∀ (r : Req) (a : FAddr), s.Requests .fabric r → s.isAnchor = false → s.anchor = some a →
      let t := s.sendTo 0x04 a (requestBytes r (if s.sweep.collect.isSome then s.fab.addr else 0xFFE))
      let sent := { t with host := { t.host with relay := some (s.fab.fid, a) } }.markStarted .fabric
      (r.code = 0x40 → exec (.goalSet .fabric) s = .next sent) ∧ (r.code = 0x41 → exec (.goalClear .fabric) s = .next sent)) ∧
    (∀ (from_ : FAddr) (n : Word) (slots : List (Option Goal)),
      (n.toNat < (s.rd 0x2104).toNat → exec (.goalTableFrame from_ n slots) s = .next s) ∧
      (n = s.rd 0x2104 → s.isAnchor = true → s.plc.goalFrom.toNat ≤ from_.toNat → exec (.goalTableFrame from_ n slots) s = .next s) ∧
      (s.up = true → (s.rd 0x2104).toNat < n.toNat → slots.length = 32 → ∃ t, exec (.goalTableFrame from_ n slots) s = .next t ∧
        t.plc.goals = slots ∧ t.plc.goalFrom = from_ ∧ (s.Stored → t.rd 0x2104 = n)))

/-- CHECKPOINT, JOB_FRAME, JOB_MOVE_ACK and JOB_MOVE_TIMEOUT (R319, R320, R322): a checkpoint goes into the half not in force and takes force only
when its CRC is good; a job moves with its checkpoint, and the old host drops it when the new one has answered, or resumes it. -/
def Obligations.JobsMove : Prop :=
  (∀ (c : Checkpoint) (h : FAddr) (n : Word) (body : JobBody),
    let inForce (c : Checkpoint) : Option JobBody := if c.inHalf1 then c.half1 else c.half0
    inForce (c.take h n true body) = some body ∧ inForce (c.take h n false body) = inForce c ∧ (c.take h n false body).seq = c.seq ∧
    (c.take h n true body).seq = n) ∧
  ∀ (s : State) (key : JobKey),
    (∀ body, s.hosted key = none → exec (.checkpoint key body) s = .next s) ∧
    (∀ (j : Job) (body : List Byte), s.hosted key = some j → s.up = true → s.fab.valid = true → j.paused = false → body.length ≤ 8192 →
      (j.moving = none → exec (.checkpoint key body) s =
        .next (((s.holders s.fab.addr).filter fun a => !(a == s.fab.addr)).foldl
          (fun (t : State) a => t.sendJob a 1 (s.ckptHead j) body) (s.ckptStore key s.fab.addr j.seq true (s.jobBody key body)))) ∧
      (∀ a, j.moving = some a → s.pwr.gcause ≠ 2 → exec (.checkpoint key body) s =
        .next (((s.ckptStore key s.fab.addr j.seq true (s.jobBody key body)).sendJob a 2 (s.ckptHead j) body).jobSet key fun x => { x with paused := true }))) ∧
    (s.up = true → s.fab.valid = true → ∀ (host : FAddr) (n : Word) (guard : Bool) (body : JobBody), body.bytes.length ≤ 8192 →
      (∀ ok, exec (.jobFrame (.checkpoint key host n ok body)) s = .next (s.ckptStore key host n ok body)) ∧
      exec (.jobFrame (.move key host n false guard body)) s = .next s ∧
      ((s.needOf key).isSome = true → s.hosted key = none → ∃ t, exec (.jobFrame (.move key host n true guard body)) s = .next t ∧
        (t.hosted key).isSome = true ∧ t.pins = s.pins) ∧
      (∀ r, exec (.jobFrame (.copy r)) s = .next (s.recStore r)) ∧
      (∀ t0, s.imp.fit.isSome = true → s.imp.t0 = t0 → exec (.jobFrame (.release t0)) s = .next s.impEnd) ∧
      (∀ t0, s.imp.fit.isSome = true → s.imp.t0 = t0 → ∃ t, exec (.jobFrame (.resend t0 host)) s = .next t ∧ t.imp.fit = some host) ∧
      (∀ t0, s.imp.fit = none → exec (.jobFrame (.resend t0 host)) s = .next s) ∧
      (s.needOf key = none → exec (.jobFrame (.restart key host)) s = .next s)) ∧
    (∀ (j : Job) (host : FAddr), s.hosted key = some j →
      (j.moving = some host → j.paused = true → ∃ t, exec (.jobMoveAck key host) s = .next t ∧ t.hosted key = none ∧
        ∀ i, i ∈ s.plc.jobs → i.key ≠ key → i ∈ t.plc.jobs) ∧
      (j.moving ≠ some host → exec (.jobMoveAck key host) s = .next s) ∧
      (j.moving.isSome = true → j.paused = true → ∃ u : State, exec (.jobMoveTimeout key) s = .next u.maquette ∧
        (u.hosted key).map (·.moving) = some none ∧ (u.hosted key).map (·.paused) = some false ∧ u = { s with plc := u.plc }) ∧
      (j.paused = false → exec (.jobMoveTimeout key) s = .next s))

/-- RECORD_COPY, RECORD_READ, DIGEST_READ, DIGEST_CLOSE and JOB_RECORD_INTERVAL (R317, R318, R326 to R329): a node that is no holder discards its
copies; a holder answers a read itself, eight words of 0 for a record it lacks; a job that has written its records takes the next number; a STATE job counts
the charge of its interval. -/
def Obligations.RecordsKept : Prop :=
  ∀ s : State,
    (∀ owner : FAddr, s.up = true → s.fab.valid = true → s.fab.addr ∉ s.holders owner → exec (.recordCopy owner) s =
      .next ({ s with plc := { s.plc with
        recs := s.plc.recs.filter (fun r => !(r.owner == owner)), low := s.plc.low.erase owner,
        hold := s.plc.hold.filter (fun (h : FAddr × List FAddr) => !(h.1 == owner)) } }.recShow)) ∧
    (∀ owner : FAddr, s.up = true → s.fab.valid = true → s.fab.addr ∈ s.holders owner → owner ∉ s.plc.low → exec (.recordCopy owner) s =
      .next (let t : State := ((s.holders owner).filter fun a => !(a == s.fab.addr) && !((s.remaining owner).contains a)).foldl (fun (t : State) a =>
          (s.plc.recs.filter fun r => r.owner == owner).foldl (fun (t : State) r => t.sendRec a r) t) s
        { t with plc := { t.plc with hold := (s.plc.hold.filter fun h => !(h.1 == owner)) ++ [(owner, s.holders owner)] } })) ∧
    (∀ (src : Src) (r : Req), s.Requests src r →
      (r.code = 0x42 → bitsOf r.a0 20 12 = 0 → bitsOf r.a2 16 16 = 0 → r.a3 = 0 →
        let owner : FAddr := BitVec.ofNat 12 (bitsOf r.a0 8 12)
        (s.fab.addr ∈ s.holders owner ∨ s.holders owner = []) →
          exec (.recordRead src .pass) s = .next (s.complete src 0x00
            (recReply (s.recFind (BitVec.ofNat 8 (bitsOf r.a0 0 8)) owner r.a1) (bitsOf r.a2 0 16))).settle ∧
          exec (.recordRead src .lasting) s = .next ((s.memFault true 6).complete src 0x11 []).settle) ∧
      (r.code = 0x43 → bitsOf r.a1 16 16 = 0 → r.a2 = 0 → r.a3 = 0 →
        (s.anchor = none → ∀ chk, exec (.digestRead src chk) s = .next (s.complete src 0x08 []).settle) ∧
        (∀ a, s.anchor = some a → (s.fab.addr ∈ s.holders a ∨ s.holders a = []) → exec (.digestRead src .pass) s =
          .next (s.complete src 0x00 (recReply (s.recFind 0x34 a r.a0) (bitsOf r.a1 0 16))).settle))) ∧
    (∀ off, recReply none off = [0, 0, 0, 0, 0, 0, 0, 0]) ∧
    (∀ d : DigestIn, (digestLines d.events).length ≤ 24 ∧
      (digestBody d).length = 12 + 12 * d.strings.length + 8 * (digestLines d.events).length) ∧
    (∀ (slot : Fin 32) (j : Job) (a : FAddr) (d : DigestIn), s.up = true → s.fab.valid = true → s.hosted ⟨6, slot⟩ = some j → s.anchor = some a →
      j.paused = false →
      (64 < d.strings.length → exec (.digestClose slot d) s = .next s) ∧
      (d.strings.length ≤ 64 → ∃ t, exec (.digestClose slot d) s = .next t ∧
        (t.hosted ⟨6, slot⟩).map (·.seq) = some (s.jobSeq j 0x34 a + 1) ∧ (t.hosted ⟨6, slot⟩).map (·.rerun) = some false ∧ t.pins = s.pins)) ∧
    (∀ (slot : Fin 32) (charge : Int) (rests : List RestIn),
      (nth s.plc.goals slot.val none = none → exec (.jobRecordInterval slot charge rests) s = .next s) ∧
      (∀ g, nth s.plc.goals slot.val none = some g → s.up = true → s.fab.valid = true →
        (g.kind = 5 → ∃ t, exec (.jobRecordInterval slot charge rests) s = .next t ∧ t.plc.sred.length = s.plc.sred.length ∧
          ∀ x, x ∈ t.plc.sred → x.slot = slot → x.count = 0 ∧ x.part = false ∧ x.cells = []) ∧
        (∀ j, g.kind = 4 → s.hosted ⟨2, slot⟩ = some j → j.paused = false → ∃ t, exec (.jobRecordInterval slot charge rests) s = .next t ∧
          (t.hosted ⟨2, slot⟩).map (·.rerun) = some false ∧ t.pins = s.pins ∧
          (∃ y, y ∈ t.plc.soc ∧ y.slot = slot ∧
            y.charge = charge + (match s.plc.soc.find? fun x => x.slot == slot with | some x => x.charge | none => 0)))))

/-! ## The safety monitor, the output pair, the inputs and the twin frames -/

/-- SAFETY_TICK (R351, R354, R355, R374 to R376): every tick counts and takes the samples that waited; it never raises a lead; a function that
trips turns the outputs off with LATCH set and PERMIT cleared; the inputs are shown, their disagreement counted, and DEMAND set while one is open. -/
def Obligations.SafetyTicks : Prop :=
  ∀ s : State,
    (s.up = false → exec .safetyTick s = .next s) ∧
    (s.up = true → s.Stored → ∃ t, exec .safetyTick s = .next t ∧ t.safe.ticks = s.safe.ticks + 1 ∧ t.safe.now = [] ∧
      (t.pins.safeH = true → s.pins.safeH = true) ∧ (t.pins.safeL = true → s.pins.safeL = true) ∧
      t.pins.tmpOut = s.pins.tmpOut ∧ t.seq = s.seq ∧ t.tmr = s.tmr ∧
      (t.safe.ov &&& ~~~ s.safe.ov ≠ 0 ∨ t.safe.uv &&& ~~~ s.safe.uv ≠ 0 ∨ t.safe.ot &&& ~~~ s.safe.ot ≠ 0 ∨ t.safe.oc &&& ~~~ s.safe.oc ≠ 0 →
        t.pins.safeH = false ∧ t.pins.safeL = false ∧ t.safe.phase = 0 ∧ t.bit 0x3100 5 = true ∧ t.bit 0x3100 4 = false ∧
        (s.pwr.mode = .watch → s.pwr.hatbox = .none → t.pwr.request = some .run)) ∧
      (let a := s.safe.inA.on
       let b := s.safe.inB.on
       t.bit 0x3126 0 = a ∧ t.bit 0x3126 1 = b ∧
       t.fld 0x3126 16 16 = (if a = b then 0 else min 65535 (s.fld 0x3126 16 16 + 1)) ∧
       (a = false ∨ b = false → t.bit 0x3126 2 = true) ∧
       (a = true → b = true → s.bit 0x3126 6 = false → t.bit 0x3126 2 = false)))

/-- SAFE_ACK and SAFE_STOP (R353, R355, R356): SAFE_ACK sets PERMIT and clears LATCH unless a refusing condition holds; SAFE_STOP on a contactor
node turns the outputs off at once, or starts a ramp, and answers which of the three it found. -/
def Obligations.SafeCommands : Prop :=
  ∀ (s : State) (src : Src) (r : Req), s.Requests src r →
    (r.code = 0x51 →
      let named : Prop := r.a0 = 0xA5C3 ∧ r.a1 = 0 ∧ r.a2 = 0 ∧ r.a3 = 0
      let refusing : Prop := s.activeBits &&& 0x0F ≠ 0 ∨ s.bit 0x3126 2 = true ∨ s.bit 0x3100 7 = true ∨ s.ramping = true ∨
        ¬ (s.pwr.mode = .run ∨ s.pwr.mode = .watch) ∨ s.pwr.roundDue = true ∨ sealSet s.seal = false ∨
        s.fitted = true ∧ (s.fld 0x3104 0 16 = 0 ∨ s.fld 0x3105 0 16 = 0)
      (¬ named → exec (.safeAck src) s = .next (s.complete src 0x03 [])) ∧
      (named → refusing → exec (.safeAck src) s = .next (s.complete src 0x06 [])) ∧
      (named → ¬ refusing → ∃ t : State, exec (.safeAck src) s = .next (t.complete src 0x00 []) ∧
        t = { s with par := t.par, safe := { s.safe with latched := 0, failures := 0 } } ∧
        (s.Stored → t.rd 0x3100 = (s.rd 0x3100 &&& ~~~ 0x20) ||| 0x10 ∧ ∀ id, id ≠ 0x3100 → t.rd id = s.rd id))) ∧
    (r.code = 0x50 →
      let named : Prop := (r.a0 = 0 ∨ r.a0 = 1) ∧ r.a1 = 0 ∧ r.a2 = 0 ∧ r.a3 = 0
      (¬ named → exec (.safeStop src) s = .next (s.complete src 0x03 [])) ∧
      (named → s.fitted = false → exec (.safeStop src) s = .next (s.complete src 0x06 [])) ∧
      (named → s.fitted = true → s.outputsOn = false → ∃ t : State, exec (.safeStop src) s = .next (t.complete src 0x00 [0]) ∧ t.outputsOn = false ∧
        t.safe.phase = 0 ∧ (s.Stored → t.bit 0x3100 5 = true ∧ t.bit 0x3100 4 = false)) ∧
      (named → s.fitted = true → s.outputsOn = true →
        (r.a0 = 1 ∨ s.rd 0x1002 = 0 → ∃ t : State, exec (.safeStop src) s = .next (t.complete src 0x00 [2]) ∧ t.outputsOn = false ∧ t.safe.ramp = none ∧
          (s.Stored → t.bit 0x3100 5 = true ∧ t.bit 0x3100 4 = false ∧ t.fld 0x3100 8 4 = 5)) ∧
        (r.a0 = 0 → s.rd 0x1002 ≠ 0 → s.ramping = false → ∃ (t : State) (n : Int) (d : Nat), exec (.safeStop src) s = .next (t.complete src 0x00 [1]) ∧ t.pins = s.pins ∧
          t.safe.ramp = some (0, n, d, 5) ∧ (s.Stored → t.bit 0x3100 6 = true))))

/-- CLOSE_SEQUENCE, CLOSE_SEQUENCE_RETRY, FEEDBACK_CHANGE, FEEDBACK_TIMEOUT, OFFTEST_PULSE_END and OFFTEST_RETRY (R366 to R369): the low switch
closes first and the high one after its feedback; a failing step opens both, once to be tried again, twice for good; an off-test gives its lead
back. -/
def Obligations.ClosingAndFeedback : Prop :=
  ∀ s : State,
    (s.mayClose = true → (s.pwr.mode = .run ∨ s.pwr.mode = .watch) ∧ s.fitted = true ∧ s.bit 0x3100 4 = true ∧ s.bit 0x3100 5 = false ∧
      s.bit 0x3100 7 = false ∧ s.ramping = false ∧ s.activeBits &&& 0x1FF = 0 ∧ (∀ p, p ∈ s.safe.peers → p.fresh = true) ∧ s.pwr.roundDue = false) ∧
    (s.mayClose = false → exec .closeSequence s = .next s) ∧
    (s.mayClose = true → s.safe.phase = 0 → s.pathHeld = false →
      (s.pins.fbH = false → s.pins.fbL = false → exec .closeSequence s = .next { s with
        pins := { s.pins with safeL := true }, safe := { s.safe with phase := 1, retryDue := false, feedFail := 0 } }.outShow) ∧
      (s.pins.fbH = true → s.safe.failures = 0 → ∃ t, exec .closeSequence s = .next t ∧ t.pins.safeH = false ∧ t.pins.safeL = false ∧
        t.safe.phase = 4 ∧ t.safe.retryDue = true ∧ t.safe.failures = 1) ∧
      (s.pins.fbH = true → 1 ≤ s.safe.failures → ∃ t, exec .closeSequence s = .next t ∧ t.pins.safeH = false ∧ t.pins.safeL = false ∧
        t.safe.phase = 0 ∧ t.safe.failures = 0 ∧ (s.Stored → t.bit 0x3100 5 = true ∧ t.bit 0x3100 4 = false))) ∧
    (s.safe.retryDue = false → exec .closeSequenceRetry s = .next s) ∧
    (s.safe.retryDue = true → s.pathHeld = false →
      (s.mayClose = true → s.pins.fbH = false → s.pins.fbL = false → ∃ t, exec .closeSequenceRetry s = .next t ∧ t.pins = { s.pins with safeL := true } ∧
        t.safe.phase = 1 ∧ t.safe.retryDue = false) ∧
      (s.mayClose = false → ∃ t, exec .closeSequenceRetry s = .next t ∧ t.pins = s.pins ∧ t.safe.phase = 0 ∧ t.safe.retryDue = false)) ∧
    (∀ low level : Bool,
      (s.awake = false → exec (.feedbackChange low level) s = .next s) ∧
      (s.awake = true → s.Stored → s.fitted = false → ∃ t, exec (.feedbackChange low level) s = .next t ∧ t.safe = s.safe ∧
        t.pins = if low then { s.pins with fbL := level } else { s.pins with fbH := level })) ∧
    (s.awake = true → s.Stored → s.fitted = true →
      (s.safe.phase = 1 → ∃ t, exec (.feedbackChange true true) s = .next t ∧ t.pins = { s.pins with fbL := true, safeH := true } ∧ t.safe.phase = 2) ∧
      (s.safe.phase = 2 → ∃ t, exec (.feedbackChange false true) s = .next t ∧ t.pins = { s.pins with fbH := true } ∧ t.safe.phase = 3 ∧
        t.safe.failures = 0)) ∧
    (∀ low : Bool,
      let lead := if low then s.pins.safeL else s.pins.safeH
      let fb := if low then s.pins.fbL else s.pins.fbH
      let testing := if low then s.safe.testL.busy else s.safe.testH.busy
      (s.up = false ∨ s.fitted = false ∨ lead = fb ∨ testing = true → exec (.feedbackTimeout low) s = .next s) ∧
      let waits : Prop := (low = true ∧ s.safe.phase = 1) ∨ (low = false ∧ s.safe.phase = 2)
      (s.up = true → s.fitted = true → lead ≠ fb → testing = false → ¬ waits →
        (s.safe.feedFail.getLsbD (if low then 1 else 0) = false → exec (.feedbackTimeout low) s = .next { s with
          safe := { s.safe with feedFail := setBitV s.safe.feedFail (if low then 1 else 0) true } }) ∧
        (s.safe.feedFail.getLsbD (if low then 1 else 0) = true → ∃ t, exec (.feedbackTimeout low) s = .next t ∧ t.pins.safeH = false ∧
          t.pins.safeL = false ∧ (s.Stored → t.bit 0x3100 5 = true ∧ t.bit 0x3100 4 = false))) ∧
      (s.up = true → s.fitted = true → lead ≠ fb → testing = false → waits → ∃ t,
        exec (.feedbackTimeout low) s = .next t ∧ t.pins.safeH = false ∧ t.pins.safeL = false)) ∧
    (s.safe.testH.busy = false → s.safe.testL.busy = false → ∀ d, exec (.offtestPulseEnd d) s = .next s) ∧
    (s.safe.testL.busy = false → s.safe.testH = ⟨true, false⟩ →
      (∀ d : Nat, ∃ t, exec (.offtestPulseEnd (some d)) s = .next t ∧ t.pins = { s.pins with safeH := true } ∧ t.safe.testH = ⟨false, false⟩ ∧
        (s.Stored → t.fld 0x3124 0 16 = min 0xFFFE d)) ∧
      (∃ t, exec (.offtestPulseEnd none) s = .next t ∧ t.pins = { s.pins with safeH := true } ∧ t.safe.testDue.getLsbD 0 = true ∧
        (s.Stored → t.fld 0x3124 0 16 = 0xFFFF))) ∧
    (s.safe.testL = ⟨true, true⟩ → ∃ t, exec (.offtestPulseEnd none) s = .next t ∧ t.pins.safeH = false ∧ t.pins.safeL = false ∧
      (s.Stored → t.bit 0x3100 5 = true ∧ t.bit 0x3100 4 = false)) ∧
    (s.safe.testDue = 0 ∨ s.safe.phase ≠ 3 ∨ s.ramping = true → exec .offtestRetry s = .next s) ∧
    (s.safe.phase = 3 → s.ramping = false → s.safe.testH.busy = false → s.safe.testL.busy = false → s.pathHeld = false →
      s.safe.testDue.getLsbD 0 = true → ∃ t, exec .offtestRetry s = .next t ∧ t.pins = { s.pins with safeH := false } ∧ t.safe.testH = ⟨true, true⟩)

/-- TP_PULSE, TP_PULSE_END and INPUT_CHANGE (R371 to R373): a pulse blanks its channel, which keeps its state until the pulse ends and then takes
its accepted level; a check that fails twice in a row declares the channel shorted, and a shorted channel demands. -/
def Obligations.InputsAndPulses : Prop :=
  ∀ (s : State) (b : Bool),
    (∀ level : Bool, s.awake = false → exec (.inputChange b level) s = .next s) ∧
    (∀ level : Bool, s.awake = true → ∃ t, exec (.inputChange b level) s = .next t ∧ t.channel (!b) = s.channel (!b) ∧ t.pins = s.pins ∧ t.par = s.par ∧
      t.channel b = { s.channel b with level := level, closed := if (s.channel b).blanked then (s.channel b).closed else level }) ∧
    (s.up = false → exec (.tpPulse b) s = .next s) ∧
    (s.up = true → ∃ t, exec (.tpPulse b) s = .next t ∧ t.channel b = { s.channel b with blanked := true } ∧ t.channel (!b) = s.channel (!b) ∧
      t.par = s.par ∧ t.pins = if b then { s.pins with tpB := false } else { s.pins with tpA := false }) ∧
    (∀ own other around : Bool,
      (s.up = false ∨ (s.channel b).blanked = false → exec (.tpPulseEnd b own other around) s = .next s) ∧
      (s.up = true → (s.channel b).blanked = true → ∃ t, exec (.tpPulseEnd b own other around) s = .next t ∧
        (if b then t.pins.tpB else t.pins.tpA) = true ∧ (t.channel b).blanked = false ∧ (t.channel b).closed = (s.channel b).level ∧
        ((s.channel b).closed = true → own = false → (t.channel b).fail1 = true ∧ ((s.channel b).fail1 = true → (t.channel b).short = true)) ∧
        ((s.channel b).closed = false ∨ own = true → (t.channel b).fail1 = false) ∧
        (other = true → around = false → (t.channel (!b)).fail2 = true ∧ ((s.channel (!b)).fail2 = true → (t.channel (!b)).short = true)) ∧
        (s.Stored → t.bit 0x3126 4 = t.safe.inA.short ∧ t.bit 0x3126 5 = t.safe.inB.short)))

/-- TWIN_FRAME_SEND, TWIN_FRAME_RECEIVE, TWIN_COPY_TIMEOUT and SAFEWDOG (R379 to R384, R386): a copy carries its 26 bytes and both CRCs; each pair
takes the next SEQ; a trip that passes every check turns the outputs off; a copy that fails is counted; so is a missing one; silence is a
demand. What a sender that is not expected brings is the model's choice (log 115). -/
def Obligations.TwinFrames : Prop :=
  (∀ (kind : Byte) (down single isLocal : Bool) (src dst : FAddr) (seq : Word) (time : DWord) (st : Half) (cause : BitVec 4),
    let head := twinHead kind down single isLocal src dst seq time st cause
    head.length = 26 ∧ (twinBytes head).length = 32 ∧ (twinBytes head).take 26 = head ∧ ((twinBytes head).drop 26).take 4 = bytesBE 4 (crc32c head).toNat ∧
      (twinBytes head).drop 30 = bytesBE 2 (crc16 (head.map fun b => ~~~ b)).toNat) ∧
  ∀ s : State,
    (s.up = false ∨ s.fab.valid = false → exec .twinFrameSend s = .next s) ∧
    (s.up = true → s.fab.valid = true → ∃ t, exec .twinFrameSend s = .next t ∧ t.safe = { s.safe with twinDue := none } ∧ t.pins = s.pins ∧
      (s.Stored → t.rd 0x312B = s.rd 0x312B + BitVec.ofNat 32 s.contactors.length)) ∧
    (s.up = false → ∀ p bs, exec (.twinFrameReceive p bs) s = .next s) ∧
    (s.up = true → s.fitted = true → ∀ (port : Fin 4) (src : FAddr) (p : Peer), src ≠ 0xFFE →
      s.safe.peers.find? (fun x => x.addr == src) = some p →
      (∀ (down single : Bool) (seq : Word) (time : DWord) (st : Half) (cause : BitVec 4), p.missed = none → p.first = none →
        p.anySeq = true ∨ (p.upSeq ≠ some seq ∧ p.downSeq ≠ some seq ∧ (seq - p.seq).toNat < 2 ^ 31) → ∃ t,
        exec (.twinFrameReceive port (twinBytes (twinHead 0x02 down single true src s.fab.addr seq time st cause))) s = .next t ∧
          t.pins.safeH = false ∧ t.pins.safeL = false ∧ (s.Stored → t.bit 0x3100 5 = true ∧ t.bit 0x3100 4 = false)) ∧
      (∀ bs : List Byte, BitVec.ofNat 12 (numBE [nth bs 2 0, nth bs 3 0]) = src →
        (bs.drop 26).take 4 ≠ bytesBE 4 (crc32c (bs.take 26)).toNat → p.upBad = false → p.downBad = false → ∃ t,
        exec (.twinFrameReceive port bs) s = .next t ∧ t.pins = s.pins ∧
          (s.Stored → t.fld 0x312A 16 16 = min 65535 (s.fld 0x312A 16 16 + 1)))) ∧
    (s.up = true → s.fitted = true → ∀ (port : Fin 4) (src : FAddr) (bs : List Byte),
      (src = 0xFFE ∨ s.safe.peers.find? (fun x => x.addr == src) = none) → BitVec.ofNat 12 (numBE [nth bs 2 0, nth bs 3 0]) = src →
      (bs.drop 26).take 4 ≠ bytesBE 4 (crc32c (bs.take 26)).toNat →
      let copy := (src, (nth bs 1 0).getLsbD 0)
      (copy ∉ s.safe.strangers → ∃ t, exec (.twinFrameReceive port bs) s = .next t ∧ t.pins = s.pins ∧
        t.safe.strangers = s.safe.strangers ++ [copy] ∧ (s.Stored → t.fld 0x312A 16 16 = min 65535 (s.fld 0x312A 16 16 + 1))) ∧
      (copy ∈ s.safe.strangers → ∃ t, exec (.twinFrameReceive port bs) s = .next t ∧ t.pins.safeH = false ∧ t.pins.safeL = false)) ∧
    (∀ a : FAddr,
      (a = 0xFFE → exec (.twinCopyTimeout a) s = .next s) ∧
      (s.safe.peers.find? (fun x => x.addr == a) = none → exec (.twinCopyTimeout a) s = .next s ∧ ∀ down, exec (.safewdog a down) s = .next s) ∧
      ((∀ q, q ∈ s.safe.peers → q.addr = a → q.upSaid = true) → exec (.safewdog a false) s = .next s) ∧
      ((∀ q, q ∈ s.safe.peers → q.addr = a → q.downSaid = true) → exec (.safewdog a true) s = .next s) ∧
      (∀ p : Peer, s.safe.peers.find? (fun x => x.addr == a) = some p →
        (p.first = none → exec (.twinCopyTimeout a) s = .next s) ∧
        (∀ (d : Bool) (f : List Byte), a ≠ 0xFFE → p.first = some (d, f) → ∃ t, exec (.twinCopyTimeout a) s = .next t ∧ t.pins = s.pins ∧
          (s.Stored → t.fld 0x312A 0 16 = min 65535 (s.fld 0x312A 0 16 + 1)) ∧
          t.safe.peers.find? (fun x => x.addr == a) =
            some { p with first := none, missed := some (!d, BitVec.ofNat 32 (numBE ((f.drop 6).take 4))) }) ∧
        (s.up = true → s.fitted = true → p.watchUp = true → p.watchDown = true → p.upSaid = false → ∃ t, exec (.safewdog a false) s = .next t ∧
          t.pins.safeH = false ∧ t.pins.safeL = false ∧ (s.Stored → t.bit 0x3100 5 = true ∧ t.bit 0x3100 4 = false) ∧
          t.safe.peers.find? (fun x => x.addr == a) = some { p with upOk := false, upSaid := true })))

/-! ## Chisel, memories and identity -/

/-- CHISEL_SLICE_START and CHISEL_SLICE_END (R389 to R396): the next slice runs at its time, a retired one is passed over; a good attempt passes it and the
round moves on; a first failure is repeated at once with no reaction; an aborted attempt is not run; a lasting failure of the converter checks
opens the outputs and takes the node to Guard. -/
def Obligations.SlicesRun : Prop :=
  ∀ s : State,
    (s.up = false ∨ s.chis.busy = true → exec .chiselSliceStart s = .next s) ∧
    (s.chis.next ≠ 0 → s.clk.ref.toNat < s.sliceDue s.chis.next → exec .chiselSliceStart s = .next s) ∧
    (s.up = true → s.chis.busy = false → s.chis.next ≠ 0 → s.sliceDue s.chis.next ≤ s.clk.ref.toNat → s.shortsWait s.chis.next = false →
      ((s.slice s.chis.next).retired = false → ∃ t, exec .chiselSliceStart s = .next t ∧ t.chis.busy = true ∧ t.chis.next = s.chis.next ∧
        t.chis.slices = s.chis.slices ∧ t.chis.repeat_ = false ∧ t.chis.found = [] ∧ t.pins = s.pins) ∧
      ((s.slice s.chis.next).retired = true → ∃ t, exec .chiselSliceStart s = .next t ∧ t.chis.busy = false ∧ t.chis.slices = s.chis.slices ∧
        t.chis.next = (if s.chis.next < 47 then s.chis.next + 1 else 0))) ∧
    (∀ r : SliceIn, (s.up = false ∨ s.chis.busy = false → exec (.chiselSliceEnd r) s = .next s.settle) ∧
      (s.up = true → s.chis.busy = true → s.chis.slices.length = 48 → s.chis.next < 47 →
        let i := s.chis.next
        (s.chis.aborted = false → r.outcomes = copies (s.sliceSteps i) 0 → s.sliceFinds i r = [] → ∃ t : State, exec (.chiselSliceEnd r) s = .next t.settle ∧
          (t.slice i).result = 0 ∧ (t.slice i).lasting = false ∧ (t.slice i).notruns = 0 ∧ (t.slice i).count = s.sliceSteps i ∧
          t.chis.next = i + 1 ∧ t.chis.busy = false) ∧
        (s.chis.aborted = false → s.chis.repeat_ = false → r.outcomes.length < s.sliceSteps i → ∃ t : State, exec (.chiselSliceEnd r) s = .next t.settle ∧
          (t.slice i).result = 2 ∧ t.chis.repeat_ = true ∧ t.chis.busy = true ∧ t.chis.next = i ∧ t.chis.found = s.sliceFinds i r ∧
          t.pins.safeH = s.pins.safeH ∧ t.pins.safeL = s.pins.safeL ∧ t.pwr = s.pwr) ∧
        (s.chis.aborted = true → (s.slice i).notruns < 3 → ∃ t : State, exec (.chiselSliceEnd r) s = .next t.settle ∧ (t.slice i).result = 3 ∧
          (t.slice i).notruns = (s.slice i).notruns + 1 ∧ t.chis.next = i + 1 ∧ t.chis.busy = false ∧ t.chis.aborted = false) ∧
        (s.chis.aborted = false → s.chis.repeat_ = true → r.outcomes.length < s.sliceSteps i → (s.slice i).lasting = false → (6 ≤ i ∧ i ≤ 9) →
          (s.pwr.mode = .run ∨ s.pwr.mode = .watch) → ∃ t : State, exec (.chiselSliceEnd r) s = .next t.settle ∧ (t.slice i).lasting = true ∧
          t.pins.safeH = false ∧ t.pins.safeL = false ∧ t.pwr.mode = .guard ∧ t.pwr.gcause = 4)))

/-- LANE_REPAIR and MEMORY_REPAIR_DONE (R118, R169, R401, R402): the spare lane takes the number of the failed one and convergence is re-armed; an
address range switches to a spare of its bank, which has one fewer. EDRAM_REFRESH, EDRAM_REFRESH_LATE and HATBOX_REFRESH_COMPARATOR_READ (R413,
R415, R416): refresh walks the 512 row groups, one at a time or four in a warm Hatbox; a late refresh loses every eDRAM region and is counted; one
comparator that trips selects the short interval, three clean readings the long one. -/
def Obligations.RepairsAndRefresh : Prop :=
  (∀ s : State,
    (s.conv.repair = none → exec .laneRepair s = .next s.settle) ∧
    (∀ l : Fin 5, s.conv.repair = some l → s.Stored → s.chis.slices.length = 48 → ∃ t : State, exec .laneRepair s = .next t.settle ∧ t.conv.repair = none ∧
      t.fld 0x1100 8 3 = l.val ∧ t.bit 0x1100 l.val = false ∧ t.bit 0x1301 0 = false ∧ t.fld 0x1301 8 8 = 0 ∧ t.bit 0x1301 1 = true ∧
      (t.slice 5).retired = true ∧ t.pat.quiet = 0 ∧ t.pins = s.pins) ∧
    (s.chis.repairs = [] → exec .memoryRepairDone s = .next s) ∧
    (∀ (ed : Bool) (bank : Nat) (rest : List (Bool × Nat)), s.chis.repairs = (ed, bank) :: rest → ∃ t, exec .memoryRepairDone s = .next t ∧
      t.chis.repairs = rest ∧
      nth t.chis.spares (bankIndex ed bank) 0 = nth s.chis.spares (bankIndex ed bank) 0 - 1 ∧
      (∀ k, k ≠ bankIndex ed bank → nth t.chis.spares k 0 = nth s.chis.spares k 0) ∧ t.pins = s.pins ∧
      (s.Stored → ∀ a, a < 0x5F000 ∨ 0x60000 ≤ a → t.ldByte a = s.ldByte a))) ∧
  (∀ s : State,
    (exec .edramRefresh s = .next { s with therm := { s.therm with row := (s.therm.row +
      (if s.pwr.mode = .off then 0 else if s.pwr.mode = .hatbox ∧ s.bit 0x4000 1 = true then 4 else 1)) % 512 } }) ∧
    (∀ groups : Nat,
      (s.awake = false → s.pwr.mode ≠ .hatbox → exec (.edramRefreshLate groups) s = .next s) ∧
      (s.awake = true ∨ s.pwr.mode = .hatbox → s.Stored → ∃ t, exec (.edramRefreshLate groups) s = .next t ∧ t.bit 0x4000 2 = true ∧
        t.fld 0x4002 16 16 = min 65535 (s.fld 0x4002 16 16 + 1) ∧ t.fld 0x4002 0 16 = min 65535 (s.fld 0x4002 0 16 + groups) ∧
        t.sweep.held = [] ∧ t.plc.recs = [] ∧ t.plc.ckpts = [] ∧ t.pins = s.pins ∧
        (s.pwr.mode = .hatbox → t.therm.lateGroups.isSome = true ∧ t.host.head = s.host.head))) ∧
    (∀ tripped : BitVec 6,
      let live := tripped &&& ~~~ (BitVec.ofNat 6 (s.fld 0x3000 8 6))
      (s.pwr.mode ≠ .hatbox → exec (.hatboxRefreshComparatorRead tripped) s = .next s) ∧
      (s.pwr.mode = .hatbox → s.Stored → ∃ t, exec (.hatboxRefreshComparatorRead tripped) s = .next t ∧
        (live ≠ 0 → t.bit 0x4000 1 = true ∧ t.fld 0x4001 0 16 = 4000 ∧ t.therm.released = 0) ∧
        (live = 0 → t.therm.released = s.therm.released + 1) ∧
        (live = 0 → 2 ≤ s.therm.released → t.bit 0x4000 1 = false ∧ t.fld 0x4001 0 16 = 16000) ∧
        (live = 0 → s.therm.released < 2 → t.par = s.par) ∧ t = { s with par := t.par, therm := t.therm })))

/-- KEY_CHECK, ATTEST, OWNER_ACCEPT and LOG_READ (R423, R427, R428, R432): the key is checked once; without a good key nothing is signed; part 0
signs and the others return what was signed, the key and the certificate; an owner accepts a pending newcomer by its serial number; the log
answers a number it keeps. -/
def Obligations.IdentityAndLog : Prop :=
  ∀ s : State,
    (∀ (chk : Check) (cause : Fin 3),
      (s.up = false ∨ s.bit 0x4000 4 = true → exec (.keyCheck chk cause) s = .next s) ∧
      (s.up = true → s.bit 0x4000 4 = false → s.Stored → ∃ t, exec (.keyCheck chk cause) s = .next t ∧ t.bit 0x4000 4 = true ∧
        t.bit 0x4000 3 = (chk != .lasting) ∧ t.pins = s.pins ∧ (chk = .pass → t = { s with par := t.par }))) ∧
    (∀ (src : Src) (q : Req), s.Requests src q →
      (q.code = 0x60 → ∀ x y : BitVec 256,
        let part := bitsOf q.a3 0 3
        let named : Prop := bitsOf q.a3 3 29 = 0 ∧ (part = 0 ∨ (q.a0 = 0 ∧ q.a1 = 0 ∧ q.a2 = 0))
        (¬ named → exec (.attest src x y) s = .next (s.complete src 0x03 [])) ∧
        (named → s.bit 0x4000 3 = false → exec (.attest src x y) s = .next (s.complete src 0x06 [])) ∧
        (named → s.bit 0x4000 3 = true →
          (part = 0 → exec (.attest src x y) s = .next ({ s with nv := { s.nv with
            attest := some (s.statement q, bytesBE 32 x.toNat, bytesBE 32 y.toNat) } }.complete src 0x00 (wordsOf32 (bytesBE 32 x.toNat)))) ∧
          (1 ≤ part → part ≤ 3 → s.nv.attest = none → exec (.attest src x y) s = .next (s.complete src 0x06 [])) ∧
          (∀ st u v, s.nv.attest = some (st, u, v) →
            (part = 1 → exec (.attest src x y) s = .next (s.complete src 0x00 (wordsOf32 v))) ∧
            (part = 2 → exec (.attest src x y) s = .next (s.complete src 0x00 (wordsOf32 (st.take 32)))) ∧
            (part = 3 → exec (.attest src x y) s = .next (s.complete src 0x00 (wordsOf32 ((st.drop 32).take 32))))) ∧
          (4 ≤ part → exec (.attest src x y) s = .next (s.complete src 0x00
            (wordsOf32 (((Config.factory s.serial).drop (32 * (part - 4))).take 32)))))) ∧
      (q.code = 0x61 →
        let a : FAddr := BitVec.ofNat 12 (bitsOf q.a0 0 12)
        let serial : DWord := q.a2 ++ q.a1
        let named : Prop := bitsOf q.a0 12 20 = 0 ∧ q.a3 = 0
        (¬ named → exec (.ownerAccept src) s = .next (s.complete src 0x03 [])) ∧
        (named → nodeAt s.fab.nodes a = none → exec (.ownerAccept src) s = .next (s.complete src 0x08 [])) ∧
        (∀ n, named → nodeAt s.fab.nodes a = some n →
          (n.pending = false → exec (.ownerAccept src) s = .next (s.complete src 0x06 [])) ∧
          (n.pending = true → n.topo.serial ≠ serial → exec (.ownerAccept src) s = .next (s.complete src 0x03 [])) ∧
          (n.pending = true → n.topo.serial = serial → exec (.ownerAccept src) s =
            .next (((s.floodTopo (.accept a serial)).takeAccept a serial).complete src 0x00 [])))) ∧
      (q.code = 0x62 →
        let newest := s.rd 0x4008
        let oldest := s.rd 0x4009
        let n := if q.a0 = 0 then oldest else if q.a0 = 0xFFFFFFFF then newest else q.a0
        let named : Prop := q.a1 = 0 ∧ q.a2 = 0 ∧ q.a3 = 0
        ∀ chk : Check,
        (¬ named ∨ n = 0 ∨ n < oldest ∨ newest < n → exec (.logRead src chk) s = .next (s.complete src 0x03 [])) ∧
        (named → n ≠ 0 → oldest ≤ n → n ≤ newest → ∃ (u : State) (r0 r1 r2 r3 r5 : Word), exec (.logRead src chk) s =
          .next (u.complete src 0x00 [r0, r1, r2, r3, n, r5, oldest, newest]) ∧
          (chk ≠ .transient → u = s) ∧ (chk = .transient → u = s ∨ u = s.transient 2 1) ∧
          (let bs := s.ldSoon (logBase + 32 * ((n.toNat - 1) % 2048)) 32
           sealedOk bs = false ∨ chk = .lasting → r0 = 0 ∧ r1 = 0 ∧ r2 = 0 ∧ r3 = 0 ∧ r5 = 0x10000))))

/-! ## Events -/

/-- R87 to R89, R420: an enabled event enters the ring, or before Ready the holding list; one that finds no room is discarded and counted; one
that is not enabled goes nowhere; what the log keeps is logged whatever is enabled; raising an event changes no lead, no sequence and no memory
but the ring. -/
def Obligations.EventsPlaced : Prop :=
  ∀ (s : State) (n : Nat) (data : Word) (t : State), n < 96 → t = s.raise n data →
    let enabled : Bool := s.bit (0x0208 + n / 32) (n % 32)
    (t.pins = s.pins ∧ t.pwr = s.pwr ∧ t.seq = s.seq ∧ t.bal = s.bal ∧ t.tmr = s.tmr ∧ t.safe = s.safe ∧ t.host.req = s.host.req) ∧
    (s.Stored → ∀ a, a < 0x5F000 ∨ 0x60000 ≤ a → t.ldByte a = s.ldByte a) ∧
    (s.up = false → t.host.head = s.host.head ∧
      (enabled = false → t.ev.holding = s.ev.holding ∧ t.ev.discarded = s.ev.discarded) ∧
      (enabled = true → s.ev.holding.length < 32 → t.ev.holding = s.ev.holding ++ [s.entryNow n data false]) ∧
      (enabled = true → 32 ≤ s.ev.holding.length → t.ev.holding = s.ev.holding ∧ t.ev.discarded = s.ev.discarded + 1 ∧ t.ev.holdLost = true ∧
        (s.Stored → t.fld 0x020E 0 16 = min 65535 (s.fld 0x020E 0 16 + 1)))) ∧
    (s.up = true → loggable n = false →
      (enabled = false → t.host = s.host ∧ t.mem = s.mem ∧ t.ev = s.ev) ∧
      (enabled = true → s.ev.ringLost = true ∨ s.ringFill = 256 → t.host = s.host ∧ t.mem = s.mem ∧ t.ev.discarded = s.ev.discarded + 1 ∧
        t.ev.ringLost = true) ∧
      (enabled = true → s.ev.ringLost = false → s.ringFill ≠ 256 → t.host.head = s.host.head + 1 ∧
        t.host.intSafe = (s.host.intSafe || (decide (71 ≤ n) && decide (n ≤ 84))) ∧
        (s.Stored → ∀ k, k < 4 → t.ldWord (0x5F000 + 16 * (s.host.head.toNat % 256) + 4 * k) = nth ((s.entryNow n data false).words false) k 0))) ∧
    (s.up = true → loggable n = true → (s.ev.logTimes.filter s.recent).length < 100 → s.Stored → t.rd 0x4008 = s.rd 0x4008 + 1)
end

