-- ==== Sys2Proof/Laws/State.lean ====
section
/-! SUPPORT. What the named writes of one parameter, one field or one run of bytes leave as it is: every other part of the state. -/
namespace Sys2Proof.Machine

@[simp] theorem State.wr_clk (s : State) (id : Nat) (v : Word) : (s.wr id v).clk = s.clk := rfl
@[simp] theorem State.wr_pwr (s : State) (id : Nat) (v : Word) : (s.wr id v).pwr = s.pwr := rfl
@[simp] theorem State.wr_mem (s : State) (id : Nat) (v : Word) : (s.wr id v).mem = s.mem := rfl
@[simp] theorem State.wr_host (s : State) (id : Nat) (v : Word) : (s.wr id v).host = s.host := rfl
@[simp] theorem State.wr_ev (s : State) (id : Nat) (v : Word) : (s.wr id v).ev = s.ev := rfl
@[simp] theorem State.wr_nv (s : State) (id : Nat) (v : Word) : (s.wr id v).nv = s.nv := rfl
@[simp] theorem State.wr_sense (s : State) (id : Nat) (v : Word) : (s.wr id v).sense = s.sense := rfl
@[simp] theorem State.wr_conv (s : State) (id : Nat) (v : Word) : (s.wr id v).conv = s.conv := rfl
@[simp] theorem State.wr_seq (s : State) (id : Nat) (v : Word) : (s.wr id v).seq = s.seq := rfl
@[simp] theorem State.wr_pat (s : State) (id : Nat) (v : Word) : (s.wr id v).pat = s.pat := rfl
@[simp] theorem State.wr_imp (s : State) (id : Nat) (v : Word) : (s.wr id v).imp = s.imp := rfl
@[simp] theorem State.wr_bal (s : State) (id : Nat) (v : Word) : (s.wr id v).bal = s.bal := rfl
@[simp] theorem State.wr_tmr (s : State) (id : Nat) (v : Word) : (s.wr id v).tmr = s.tmr := rfl
@[simp] theorem State.wr_ports (s : State) (id : Nat) (v : Word) : (s.wr id v).ports = s.ports := rfl
@[simp] theorem State.wr_fab (s : State) (id : Nat) (v : Word) : (s.wr id v).fab = s.fab := rfl
@[simp] theorem State.wr_sweep (s : State) (id : Nat) (v : Word) : (s.wr id v).sweep = s.sweep := rfl
@[simp] theorem State.wr_snap (s : State) (id : Nat) (v : Word) : (s.wr id v).snap = s.snap := rfl
@[simp] theorem State.wr_plc (s : State) (id : Nat) (v : Word) : (s.wr id v).plc = s.plc := rfl
@[simp] theorem State.wr_therm (s : State) (id : Nat) (v : Word) : (s.wr id v).therm = s.therm := rfl
@[simp] theorem State.wr_safe (s : State) (id : Nat) (v : Word) : (s.wr id v).safe = s.safe := rfl
@[simp] theorem State.wr_chis (s : State) (id : Nat) (v : Word) : (s.wr id v).chis = s.chis := rfl
@[simp] theorem State.wr_pins (s : State) (id : Nat) (v : Word) : (s.wr id v).pins = s.pins := rfl
@[simp] theorem State.wr_serial (s : State) (id : Nat) (v : Word) : (s.wr id v).serial = s.serial := rfl
@[simp] theorem State.wr_free (s : State) (id : Nat) (v : Word) : (s.wr id v).free = s.free := rfl
@[simp] theorem State.wr_pending (s : State) (id : Nat) (v : Word) : (s.wr id v).pending = s.pending := rfl

@[simp] theorem State.setFld_clk (s : State) (id lo width v : Nat) : (s.setFld id lo width v).clk = s.clk := rfl
@[simp] theorem State.setFld_pwr (s : State) (id lo width v : Nat) : (s.setFld id lo width v).pwr = s.pwr := rfl
@[simp] theorem State.setFld_mem (s : State) (id lo width v : Nat) : (s.setFld id lo width v).mem = s.mem := rfl
@[simp] theorem State.setFld_host (s : State) (id lo width v : Nat) : (s.setFld id lo width v).host = s.host := rfl
@[simp] theorem State.setFld_ev (s : State) (id lo width v : Nat) : (s.setFld id lo width v).ev = s.ev := rfl
@[simp] theorem State.setFld_nv (s : State) (id lo width v : Nat) : (s.setFld id lo width v).nv = s.nv := rfl
@[simp] theorem State.setFld_sense (s : State) (id lo width v : Nat) : (s.setFld id lo width v).sense = s.sense := rfl
@[simp] theorem State.setFld_conv (s : State) (id lo width v : Nat) : (s.setFld id lo width v).conv = s.conv := rfl
@[simp] theorem State.setFld_seq (s : State) (id lo width v : Nat) : (s.setFld id lo width v).seq = s.seq := rfl
@[simp] theorem State.setFld_pat (s : State) (id lo width v : Nat) : (s.setFld id lo width v).pat = s.pat := rfl
@[simp] theorem State.setFld_imp (s : State) (id lo width v : Nat) : (s.setFld id lo width v).imp = s.imp := rfl
@[simp] theorem State.setFld_bal (s : State) (id lo width v : Nat) : (s.setFld id lo width v).bal = s.bal := rfl
@[simp] theorem State.setFld_tmr (s : State) (id lo width v : Nat) : (s.setFld id lo width v).tmr = s.tmr := rfl
@[simp] theorem State.setFld_ports (s : State) (id lo width v : Nat) : (s.setFld id lo width v).ports = s.ports := rfl
@[simp] theorem State.setFld_fab (s : State) (id lo width v : Nat) : (s.setFld id lo width v).fab = s.fab := rfl
@[simp] theorem State.setFld_sweep (s : State) (id lo width v : Nat) : (s.setFld id lo width v).sweep = s.sweep := rfl
@[simp] theorem State.setFld_snap (s : State) (id lo width v : Nat) : (s.setFld id lo width v).snap = s.snap := rfl
@[simp] theorem State.setFld_plc (s : State) (id lo width v : Nat) : (s.setFld id lo width v).plc = s.plc := rfl
@[simp] theorem State.setFld_therm (s : State) (id lo width v : Nat) : (s.setFld id lo width v).therm = s.therm := rfl
@[simp] theorem State.setFld_safe (s : State) (id lo width v : Nat) : (s.setFld id lo width v).safe = s.safe := rfl
@[simp] theorem State.setFld_chis (s : State) (id lo width v : Nat) : (s.setFld id lo width v).chis = s.chis := rfl
@[simp] theorem State.setFld_pins (s : State) (id lo width v : Nat) : (s.setFld id lo width v).pins = s.pins := rfl
@[simp] theorem State.setFld_serial (s : State) (id lo width v : Nat) : (s.setFld id lo width v).serial = s.serial := rfl
@[simp] theorem State.setFld_free (s : State) (id lo width v : Nat) : (s.setFld id lo width v).free = s.free := rfl
@[simp] theorem State.setFld_pending (s : State) (id lo width v : Nat) : (s.setFld id lo width v).pending = s.pending := rfl

@[simp] theorem State.setBit_clk (s : State) (id n : Nat) (b : Bool) : (s.setBit id n b).clk = s.clk := rfl
@[simp] theorem State.setBit_pwr (s : State) (id n : Nat) (b : Bool) : (s.setBit id n b).pwr = s.pwr := rfl
@[simp] theorem State.setBit_mem (s : State) (id n : Nat) (b : Bool) : (s.setBit id n b).mem = s.mem := rfl
@[simp] theorem State.setBit_host (s : State) (id n : Nat) (b : Bool) : (s.setBit id n b).host = s.host := rfl
@[simp] theorem State.setBit_ev (s : State) (id n : Nat) (b : Bool) : (s.setBit id n b).ev = s.ev := rfl
@[simp] theorem State.setBit_nv (s : State) (id n : Nat) (b : Bool) : (s.setBit id n b).nv = s.nv := rfl
@[simp] theorem State.setBit_sense (s : State) (id n : Nat) (b : Bool) : (s.setBit id n b).sense = s.sense := rfl
@[simp] theorem State.setBit_conv (s : State) (id n : Nat) (b : Bool) : (s.setBit id n b).conv = s.conv := rfl
@[simp] theorem State.setBit_seq (s : State) (id n : Nat) (b : Bool) : (s.setBit id n b).seq = s.seq := rfl
@[simp] theorem State.setBit_pat (s : State) (id n : Nat) (b : Bool) : (s.setBit id n b).pat = s.pat := rfl
@[simp] theorem State.setBit_imp (s : State) (id n : Nat) (b : Bool) : (s.setBit id n b).imp = s.imp := rfl
@[simp] theorem State.setBit_bal (s : State) (id n : Nat) (b : Bool) : (s.setBit id n b).bal = s.bal := rfl
@[simp] theorem State.setBit_tmr (s : State) (id n : Nat) (b : Bool) : (s.setBit id n b).tmr = s.tmr := rfl
@[simp] theorem State.setBit_ports (s : State) (id n : Nat) (b : Bool) : (s.setBit id n b).ports = s.ports := rfl
@[simp] theorem State.setBit_fab (s : State) (id n : Nat) (b : Bool) : (s.setBit id n b).fab = s.fab := rfl
@[simp] theorem State.setBit_sweep (s : State) (id n : Nat) (b : Bool) : (s.setBit id n b).sweep = s.sweep := rfl
@[simp] theorem State.setBit_snap (s : State) (id n : Nat) (b : Bool) : (s.setBit id n b).snap = s.snap := rfl
@[simp] theorem State.setBit_plc (s : State) (id n : Nat) (b : Bool) : (s.setBit id n b).plc = s.plc := rfl
@[simp] theorem State.setBit_therm (s : State) (id n : Nat) (b : Bool) : (s.setBit id n b).therm = s.therm := rfl
@[simp] theorem State.setBit_safe (s : State) (id n : Nat) (b : Bool) : (s.setBit id n b).safe = s.safe := rfl
@[simp] theorem State.setBit_chis (s : State) (id n : Nat) (b : Bool) : (s.setBit id n b).chis = s.chis := rfl
@[simp] theorem State.setBit_pins (s : State) (id n : Nat) (b : Bool) : (s.setBit id n b).pins = s.pins := rfl
@[simp] theorem State.setBit_serial (s : State) (id n : Nat) (b : Bool) : (s.setBit id n b).serial = s.serial := rfl
@[simp] theorem State.setBit_free (s : State) (id n : Nat) (b : Bool) : (s.setBit id n b).free = s.free := rfl
@[simp] theorem State.setBit_pending (s : State) (id n : Nat) (b : Bool) : (s.setBit id n b).pending = s.pending := rfl

@[simp] theorem State.addSat_clk (s : State) (id lo width n : Nat) : (s.addSat id lo width n).clk = s.clk := rfl
@[simp] theorem State.addSat_pwr (s : State) (id lo width n : Nat) : (s.addSat id lo width n).pwr = s.pwr := rfl
@[simp] theorem State.addSat_mem (s : State) (id lo width n : Nat) : (s.addSat id lo width n).mem = s.mem := rfl
@[simp] theorem State.addSat_host (s : State) (id lo width n : Nat) : (s.addSat id lo width n).host = s.host := rfl
@[simp] theorem State.addSat_ev (s : State) (id lo width n : Nat) : (s.addSat id lo width n).ev = s.ev := rfl
@[simp] theorem State.addSat_nv (s : State) (id lo width n : Nat) : (s.addSat id lo width n).nv = s.nv := rfl
@[simp] theorem State.addSat_sense (s : State) (id lo width n : Nat) : (s.addSat id lo width n).sense = s.sense := rfl
@[simp] theorem State.addSat_conv (s : State) (id lo width n : Nat) : (s.addSat id lo width n).conv = s.conv := rfl
@[simp] theorem State.addSat_seq (s : State) (id lo width n : Nat) : (s.addSat id lo width n).seq = s.seq := rfl
@[simp] theorem State.addSat_pat (s : State) (id lo width n : Nat) : (s.addSat id lo width n).pat = s.pat := rfl
@[simp] theorem State.addSat_imp (s : State) (id lo width n : Nat) : (s.addSat id lo width n).imp = s.imp := rfl
@[simp] theorem State.addSat_bal (s : State) (id lo width n : Nat) : (s.addSat id lo width n).bal = s.bal := rfl
@[simp] theorem State.addSat_tmr (s : State) (id lo width n : Nat) : (s.addSat id lo width n).tmr = s.tmr := rfl
@[simp] theorem State.addSat_ports (s : State) (id lo width n : Nat) : (s.addSat id lo width n).ports = s.ports := rfl
@[simp] theorem State.addSat_fab (s : State) (id lo width n : Nat) : (s.addSat id lo width n).fab = s.fab := rfl
@[simp] theorem State.addSat_sweep (s : State) (id lo width n : Nat) : (s.addSat id lo width n).sweep = s.sweep := rfl
@[simp] theorem State.addSat_snap (s : State) (id lo width n : Nat) : (s.addSat id lo width n).snap = s.snap := rfl
@[simp] theorem State.addSat_plc (s : State) (id lo width n : Nat) : (s.addSat id lo width n).plc = s.plc := rfl
@[simp] theorem State.addSat_therm (s : State) (id lo width n : Nat) : (s.addSat id lo width n).therm = s.therm := rfl
@[simp] theorem State.addSat_safe (s : State) (id lo width n : Nat) : (s.addSat id lo width n).safe = s.safe := rfl
@[simp] theorem State.addSat_chis (s : State) (id lo width n : Nat) : (s.addSat id lo width n).chis = s.chis := rfl
@[simp] theorem State.addSat_pins (s : State) (id lo width n : Nat) : (s.addSat id lo width n).pins = s.pins := rfl
@[simp] theorem State.addSat_serial (s : State) (id lo width n : Nat) : (s.addSat id lo width n).serial = s.serial := rfl
@[simp] theorem State.addSat_free (s : State) (id lo width n : Nat) : (s.addSat id lo width n).free = s.free := rfl
@[simp] theorem State.addSat_pending (s : State) (id lo width n : Nat) : (s.addSat id lo width n).pending = s.pending := rfl

@[simp] theorem State.addWord_clk (s : State) (id n : Nat) : (s.addWord id n).clk = s.clk := rfl
@[simp] theorem State.addWord_pwr (s : State) (id n : Nat) : (s.addWord id n).pwr = s.pwr := rfl
@[simp] theorem State.addWord_mem (s : State) (id n : Nat) : (s.addWord id n).mem = s.mem := rfl
@[simp] theorem State.addWord_host (s : State) (id n : Nat) : (s.addWord id n).host = s.host := rfl
@[simp] theorem State.addWord_ev (s : State) (id n : Nat) : (s.addWord id n).ev = s.ev := rfl
@[simp] theorem State.addWord_nv (s : State) (id n : Nat) : (s.addWord id n).nv = s.nv := rfl
@[simp] theorem State.addWord_sense (s : State) (id n : Nat) : (s.addWord id n).sense = s.sense := rfl
@[simp] theorem State.addWord_conv (s : State) (id n : Nat) : (s.addWord id n).conv = s.conv := rfl
@[simp] theorem State.addWord_seq (s : State) (id n : Nat) : (s.addWord id n).seq = s.seq := rfl
@[simp] theorem State.addWord_pat (s : State) (id n : Nat) : (s.addWord id n).pat = s.pat := rfl
@[simp] theorem State.addWord_imp (s : State) (id n : Nat) : (s.addWord id n).imp = s.imp := rfl
@[simp] theorem State.addWord_bal (s : State) (id n : Nat) : (s.addWord id n).bal = s.bal := rfl
@[simp] theorem State.addWord_tmr (s : State) (id n : Nat) : (s.addWord id n).tmr = s.tmr := rfl
@[simp] theorem State.addWord_ports (s : State) (id n : Nat) : (s.addWord id n).ports = s.ports := rfl
@[simp] theorem State.addWord_fab (s : State) (id n : Nat) : (s.addWord id n).fab = s.fab := rfl
@[simp] theorem State.addWord_sweep (s : State) (id n : Nat) : (s.addWord id n).sweep = s.sweep := rfl
@[simp] theorem State.addWord_snap (s : State) (id n : Nat) : (s.addWord id n).snap = s.snap := rfl
@[simp] theorem State.addWord_plc (s : State) (id n : Nat) : (s.addWord id n).plc = s.plc := rfl
@[simp] theorem State.addWord_therm (s : State) (id n : Nat) : (s.addWord id n).therm = s.therm := rfl
@[simp] theorem State.addWord_safe (s : State) (id n : Nat) : (s.addWord id n).safe = s.safe := rfl
@[simp] theorem State.addWord_chis (s : State) (id n : Nat) : (s.addWord id n).chis = s.chis := rfl
@[simp] theorem State.addWord_pins (s : State) (id n : Nat) : (s.addWord id n).pins = s.pins := rfl
@[simp] theorem State.addWord_serial (s : State) (id n : Nat) : (s.addWord id n).serial = s.serial := rfl
@[simp] theorem State.addWord_free (s : State) (id n : Nat) : (s.addWord id n).free = s.free := rfl
@[simp] theorem State.addWord_pending (s : State) (id n : Nat) : (s.addWord id n).pending = s.pending := rfl

@[simp] theorem State.stByte_clk (s : State) (a : Nat) (b : Byte) : (s.stByte a b).clk = s.clk := rfl
@[simp] theorem State.stByte_pwr (s : State) (a : Nat) (b : Byte) : (s.stByte a b).pwr = s.pwr := rfl
@[simp] theorem State.stByte_par (s : State) (a : Nat) (b : Byte) : (s.stByte a b).par = s.par := rfl
@[simp] theorem State.stByte_host (s : State) (a : Nat) (b : Byte) : (s.stByte a b).host = s.host := rfl
@[simp] theorem State.stByte_ev (s : State) (a : Nat) (b : Byte) : (s.stByte a b).ev = s.ev := rfl
@[simp] theorem State.stByte_nv (s : State) (a : Nat) (b : Byte) : (s.stByte a b).nv = s.nv := rfl
@[simp] theorem State.stByte_sense (s : State) (a : Nat) (b : Byte) : (s.stByte a b).sense = s.sense := rfl
@[simp] theorem State.stByte_conv (s : State) (a : Nat) (b : Byte) : (s.stByte a b).conv = s.conv := rfl
@[simp] theorem State.stByte_seq (s : State) (a : Nat) (b : Byte) : (s.stByte a b).seq = s.seq := rfl
@[simp] theorem State.stByte_pat (s : State) (a : Nat) (b : Byte) : (s.stByte a b).pat = s.pat := rfl
@[simp] theorem State.stByte_imp (s : State) (a : Nat) (b : Byte) : (s.stByte a b).imp = s.imp := rfl
@[simp] theorem State.stByte_bal (s : State) (a : Nat) (b : Byte) : (s.stByte a b).bal = s.bal := rfl
@[simp] theorem State.stByte_tmr (s : State) (a : Nat) (b : Byte) : (s.stByte a b).tmr = s.tmr := rfl
@[simp] theorem State.stByte_ports (s : State) (a : Nat) (b : Byte) : (s.stByte a b).ports = s.ports := rfl
@[simp] theorem State.stByte_fab (s : State) (a : Nat) (b : Byte) : (s.stByte a b).fab = s.fab := rfl
@[simp] theorem State.stByte_sweep (s : State) (a : Nat) (b : Byte) : (s.stByte a b).sweep = s.sweep := rfl
@[simp] theorem State.stByte_snap (s : State) (a : Nat) (b : Byte) : (s.stByte a b).snap = s.snap := rfl
@[simp] theorem State.stByte_plc (s : State) (a : Nat) (b : Byte) : (s.stByte a b).plc = s.plc := rfl
@[simp] theorem State.stByte_therm (s : State) (a : Nat) (b : Byte) : (s.stByte a b).therm = s.therm := rfl
@[simp] theorem State.stByte_safe (s : State) (a : Nat) (b : Byte) : (s.stByte a b).safe = s.safe := rfl
@[simp] theorem State.stByte_chis (s : State) (a : Nat) (b : Byte) : (s.stByte a b).chis = s.chis := rfl
@[simp] theorem State.stByte_pins (s : State) (a : Nat) (b : Byte) : (s.stByte a b).pins = s.pins := rfl
@[simp] theorem State.stByte_serial (s : State) (a : Nat) (b : Byte) : (s.stByte a b).serial = s.serial := rfl
@[simp] theorem State.stByte_free (s : State) (a : Nat) (b : Byte) : (s.stByte a b).free = s.free := rfl
@[simp] theorem State.stByte_pending (s : State) (a : Nat) (b : Byte) : (s.stByte a b).pending = s.pending := rfl

@[simp] theorem State.stBytes_clk (s : State) (a : Nat) (bs : List Byte) : (s.stBytes a bs).clk = s.clk := by
  induction bs generalizing s a with
  | nil => rfl
  | cons b t ih => simp [State.stBytes, ih]
@[simp] theorem State.stWord_clk (s : State) (a : Nat) (w : Word) : (s.stWord a w).clk = s.clk := State.stBytes_clk s a _
@[simp] theorem State.stWords_clk (s : State) (a : Nat) (ws : List Word) : (s.stWords a ws).clk = s.clk := by
  induction ws generalizing s a with
  | nil => rfl
  | cons w t ih => simp [State.stWords, ih]
@[simp] theorem State.stBytes_pwr (s : State) (a : Nat) (bs : List Byte) : (s.stBytes a bs).pwr = s.pwr := by
  induction bs generalizing s a with
  | nil => rfl
  | cons b t ih => simp [State.stBytes, ih]
@[simp] theorem State.stWord_pwr (s : State) (a : Nat) (w : Word) : (s.stWord a w).pwr = s.pwr := State.stBytes_pwr s a _
@[simp] theorem State.stWords_pwr (s : State) (a : Nat) (ws : List Word) : (s.stWords a ws).pwr = s.pwr := by
  induction ws generalizing s a with
  | nil => rfl
  | cons w t ih => simp [State.stWords, ih]
@[simp] theorem State.stBytes_par (s : State) (a : Nat) (bs : List Byte) : (s.stBytes a bs).par = s.par := by
  induction bs generalizing s a with
  | nil => rfl
  | cons b t ih => simp [State.stBytes, ih]
@[simp] theorem State.stWord_par (s : State) (a : Nat) (w : Word) : (s.stWord a w).par = s.par := State.stBytes_par s a _
@[simp] theorem State.stWords_par (s : State) (a : Nat) (ws : List Word) : (s.stWords a ws).par = s.par := by
  induction ws generalizing s a with
  | nil => rfl
  | cons w t ih => simp [State.stWords, ih]
@[simp] theorem State.stBytes_host (s : State) (a : Nat) (bs : List Byte) : (s.stBytes a bs).host = s.host := by
  induction bs generalizing s a with
  | nil => rfl
  | cons b t ih => simp [State.stBytes, ih]
@[simp] theorem State.stWord_host (s : State) (a : Nat) (w : Word) : (s.stWord a w).host = s.host := State.stBytes_host s a _
@[simp] theorem State.stWords_host (s : State) (a : Nat) (ws : List Word) : (s.stWords a ws).host = s.host := by
  induction ws generalizing s a with
  | nil => rfl
  | cons w t ih => simp [State.stWords, ih]
@[simp] theorem State.stBytes_ev (s : State) (a : Nat) (bs : List Byte) : (s.stBytes a bs).ev = s.ev := by
  induction bs generalizing s a with
  | nil => rfl
  | cons b t ih => simp [State.stBytes, ih]
@[simp] theorem State.stWord_ev (s : State) (a : Nat) (w : Word) : (s.stWord a w).ev = s.ev := State.stBytes_ev s a _
@[simp] theorem State.stWords_ev (s : State) (a : Nat) (ws : List Word) : (s.stWords a ws).ev = s.ev := by
  induction ws generalizing s a with
  | nil => rfl
  | cons w t ih => simp [State.stWords, ih]
@[simp] theorem State.stBytes_nv (s : State) (a : Nat) (bs : List Byte) : (s.stBytes a bs).nv = s.nv := by
  induction bs generalizing s a with
  | nil => rfl
  | cons b t ih => simp [State.stBytes, ih]
@[simp] theorem State.stWord_nv (s : State) (a : Nat) (w : Word) : (s.stWord a w).nv = s.nv := State.stBytes_nv s a _
@[simp] theorem State.stWords_nv (s : State) (a : Nat) (ws : List Word) : (s.stWords a ws).nv = s.nv := by
  induction ws generalizing s a with
  | nil => rfl
  | cons w t ih => simp [State.stWords, ih]
@[simp] theorem State.stBytes_sense (s : State) (a : Nat) (bs : List Byte) : (s.stBytes a bs).sense = s.sense := by
  induction bs generalizing s a with
  | nil => rfl
  | cons b t ih => simp [State.stBytes, ih]
@[simp] theorem State.stWord_sense (s : State) (a : Nat) (w : Word) : (s.stWord a w).sense = s.sense := State.stBytes_sense s a _
@[simp] theorem State.stWords_sense (s : State) (a : Nat) (ws : List Word) : (s.stWords a ws).sense = s.sense := by
  induction ws generalizing s a with
  | nil => rfl
  | cons w t ih => simp [State.stWords, ih]
@[simp] theorem State.stBytes_conv (s : State) (a : Nat) (bs : List Byte) : (s.stBytes a bs).conv = s.conv := by
  induction bs generalizing s a with
  | nil => rfl
  | cons b t ih => simp [State.stBytes, ih]
@[simp] theorem State.stWord_conv (s : State) (a : Nat) (w : Word) : (s.stWord a w).conv = s.conv := State.stBytes_conv s a _
@[simp] theorem State.stWords_conv (s : State) (a : Nat) (ws : List Word) : (s.stWords a ws).conv = s.conv := by
  induction ws generalizing s a with
  | nil => rfl
  | cons w t ih => simp [State.stWords, ih]
@[simp] theorem State.stBytes_seq (s : State) (a : Nat) (bs : List Byte) : (s.stBytes a bs).seq = s.seq := by
  induction bs generalizing s a with
  | nil => rfl
  | cons b t ih => simp [State.stBytes, ih]
@[simp] theorem State.stWord_seq (s : State) (a : Nat) (w : Word) : (s.stWord a w).seq = s.seq := State.stBytes_seq s a _
@[simp] theorem State.stWords_seq (s : State) (a : Nat) (ws : List Word) : (s.stWords a ws).seq = s.seq := by
  induction ws generalizing s a with
  | nil => rfl
  | cons w t ih => simp [State.stWords, ih]
@[simp] theorem State.stBytes_pat (s : State) (a : Nat) (bs : List Byte) : (s.stBytes a bs).pat = s.pat := by
  induction bs generalizing s a with
  | nil => rfl
  | cons b t ih => simp [State.stBytes, ih]
@[simp] theorem State.stWord_pat (s : State) (a : Nat) (w : Word) : (s.stWord a w).pat = s.pat := State.stBytes_pat s a _
@[simp] theorem State.stWords_pat (s : State) (a : Nat) (ws : List Word) : (s.stWords a ws).pat = s.pat := by
  induction ws generalizing s a with
  | nil => rfl
  | cons w t ih => simp [State.stWords, ih]
@[simp] theorem State.stBytes_imp (s : State) (a : Nat) (bs : List Byte) : (s.stBytes a bs).imp = s.imp := by
  induction bs generalizing s a with
  | nil => rfl
  | cons b t ih => simp [State.stBytes, ih]
@[simp] theorem State.stWord_imp (s : State) (a : Nat) (w : Word) : (s.stWord a w).imp = s.imp := State.stBytes_imp s a _
@[simp] theorem State.stWords_imp (s : State) (a : Nat) (ws : List Word) : (s.stWords a ws).imp = s.imp := by
  induction ws generalizing s a with
  | nil => rfl
  | cons w t ih => simp [State.stWords, ih]
@[simp] theorem State.stBytes_bal (s : State) (a : Nat) (bs : List Byte) : (s.stBytes a bs).bal = s.bal := by
  induction bs generalizing s a with
  | nil => rfl
  | cons b t ih => simp [State.stBytes, ih]
@[simp] theorem State.stWord_bal (s : State) (a : Nat) (w : Word) : (s.stWord a w).bal = s.bal := State.stBytes_bal s a _
@[simp] theorem State.stWords_bal (s : State) (a : Nat) (ws : List Word) : (s.stWords a ws).bal = s.bal := by
  induction ws generalizing s a with
  | nil => rfl
  | cons w t ih => simp [State.stWords, ih]
@[simp] theorem State.stBytes_tmr (s : State) (a : Nat) (bs : List Byte) : (s.stBytes a bs).tmr = s.tmr := by
  induction bs generalizing s a with
  | nil => rfl
  | cons b t ih => simp [State.stBytes, ih]
@[simp] theorem State.stWord_tmr (s : State) (a : Nat) (w : Word) : (s.stWord a w).tmr = s.tmr := State.stBytes_tmr s a _
@[simp] theorem State.stWords_tmr (s : State) (a : Nat) (ws : List Word) : (s.stWords a ws).tmr = s.tmr := by
  induction ws generalizing s a with
  | nil => rfl
  | cons w t ih => simp [State.stWords, ih]
@[simp] theorem State.stBytes_ports (s : State) (a : Nat) (bs : List Byte) : (s.stBytes a bs).ports = s.ports := by
  induction bs generalizing s a with
  | nil => rfl
  | cons b t ih => simp [State.stBytes, ih]
@[simp] theorem State.stWord_ports (s : State) (a : Nat) (w : Word) : (s.stWord a w).ports = s.ports := State.stBytes_ports s a _
@[simp] theorem State.stWords_ports (s : State) (a : Nat) (ws : List Word) : (s.stWords a ws).ports = s.ports := by
  induction ws generalizing s a with
  | nil => rfl
  | cons w t ih => simp [State.stWords, ih]
@[simp] theorem State.stBytes_fab (s : State) (a : Nat) (bs : List Byte) : (s.stBytes a bs).fab = s.fab := by
  induction bs generalizing s a with
  | nil => rfl
  | cons b t ih => simp [State.stBytes, ih]
@[simp] theorem State.stWord_fab (s : State) (a : Nat) (w : Word) : (s.stWord a w).fab = s.fab := State.stBytes_fab s a _
@[simp] theorem State.stWords_fab (s : State) (a : Nat) (ws : List Word) : (s.stWords a ws).fab = s.fab := by
  induction ws generalizing s a with
  | nil => rfl
  | cons w t ih => simp [State.stWords, ih]
@[simp] theorem State.stBytes_sweep (s : State) (a : Nat) (bs : List Byte) : (s.stBytes a bs).sweep = s.sweep := by
  induction bs generalizing s a with
  | nil => rfl
  | cons b t ih => simp [State.stBytes, ih]
@[simp] theorem State.stWord_sweep (s : State) (a : Nat) (w : Word) : (s.stWord a w).sweep = s.sweep := State.stBytes_sweep s a _
@[simp] theorem State.stWords_sweep (s : State) (a : Nat) (ws : List Word) : (s.stWords a ws).sweep = s.sweep := by
  induction ws generalizing s a with
  | nil => rfl
  | cons w t ih => simp [State.stWords, ih]
@[simp] theorem State.stBytes_snap (s : State) (a : Nat) (bs : List Byte) : (s.stBytes a bs).snap = s.snap := by
  induction bs generalizing s a with
  | nil => rfl
  | cons b t ih => simp [State.stBytes, ih]
@[simp] theorem State.stWord_snap (s : State) (a : Nat) (w : Word) : (s.stWord a w).snap = s.snap := State.stBytes_snap s a _
@[simp] theorem State.stWords_snap (s : State) (a : Nat) (ws : List Word) : (s.stWords a ws).snap = s.snap := by
  induction ws generalizing s a with
  | nil => rfl
  | cons w t ih => simp [State.stWords, ih]
@[simp] theorem State.stBytes_plc (s : State) (a : Nat) (bs : List Byte) : (s.stBytes a bs).plc = s.plc := by
  induction bs generalizing s a with
  | nil => rfl
  | cons b t ih => simp [State.stBytes, ih]
@[simp] theorem State.stWord_plc (s : State) (a : Nat) (w : Word) : (s.stWord a w).plc = s.plc := State.stBytes_plc s a _
@[simp] theorem State.stWords_plc (s : State) (a : Nat) (ws : List Word) : (s.stWords a ws).plc = s.plc := by
  induction ws generalizing s a with
  | nil => rfl
  | cons w t ih => simp [State.stWords, ih]
@[simp] theorem State.stBytes_therm (s : State) (a : Nat) (bs : List Byte) : (s.stBytes a bs).therm = s.therm := by
  induction bs generalizing s a with
  | nil => rfl
  | cons b t ih => simp [State.stBytes, ih]
@[simp] theorem State.stWord_therm (s : State) (a : Nat) (w : Word) : (s.stWord a w).therm = s.therm := State.stBytes_therm s a _
@[simp] theorem State.stWords_therm (s : State) (a : Nat) (ws : List Word) : (s.stWords a ws).therm = s.therm := by
  induction ws generalizing s a with
  | nil => rfl
  | cons w t ih => simp [State.stWords, ih]
@[simp] theorem State.stBytes_safe (s : State) (a : Nat) (bs : List Byte) : (s.stBytes a bs).safe = s.safe := by
  induction bs generalizing s a with
  | nil => rfl
  | cons b t ih => simp [State.stBytes, ih]
@[simp] theorem State.stWord_safe (s : State) (a : Nat) (w : Word) : (s.stWord a w).safe = s.safe := State.stBytes_safe s a _
@[simp] theorem State.stWords_safe (s : State) (a : Nat) (ws : List Word) : (s.stWords a ws).safe = s.safe := by
  induction ws generalizing s a with
  | nil => rfl
  | cons w t ih => simp [State.stWords, ih]
@[simp] theorem State.stBytes_chis (s : State) (a : Nat) (bs : List Byte) : (s.stBytes a bs).chis = s.chis := by
  induction bs generalizing s a with
  | nil => rfl
  | cons b t ih => simp [State.stBytes, ih]
@[simp] theorem State.stWord_chis (s : State) (a : Nat) (w : Word) : (s.stWord a w).chis = s.chis := State.stBytes_chis s a _
@[simp] theorem State.stWords_chis (s : State) (a : Nat) (ws : List Word) : (s.stWords a ws).chis = s.chis := by
  induction ws generalizing s a with
  | nil => rfl
  | cons w t ih => simp [State.stWords, ih]
@[simp] theorem State.stBytes_pins (s : State) (a : Nat) (bs : List Byte) : (s.stBytes a bs).pins = s.pins := by
  induction bs generalizing s a with
  | nil => rfl
  | cons b t ih => simp [State.stBytes, ih]
@[simp] theorem State.stWord_pins (s : State) (a : Nat) (w : Word) : (s.stWord a w).pins = s.pins := State.stBytes_pins s a _
@[simp] theorem State.stWords_pins (s : State) (a : Nat) (ws : List Word) : (s.stWords a ws).pins = s.pins := by
  induction ws generalizing s a with
  | nil => rfl
  | cons w t ih => simp [State.stWords, ih]
@[simp] theorem State.stBytes_serial (s : State) (a : Nat) (bs : List Byte) : (s.stBytes a bs).serial = s.serial := by
  induction bs generalizing s a with
  | nil => rfl
  | cons b t ih => simp [State.stBytes, ih]
@[simp] theorem State.stWord_serial (s : State) (a : Nat) (w : Word) : (s.stWord a w).serial = s.serial := State.stBytes_serial s a _
@[simp] theorem State.stWords_serial (s : State) (a : Nat) (ws : List Word) : (s.stWords a ws).serial = s.serial := by
  induction ws generalizing s a with
  | nil => rfl
  | cons w t ih => simp [State.stWords, ih]
@[simp] theorem State.stBytes_free (s : State) (a : Nat) (bs : List Byte) : (s.stBytes a bs).free = s.free := by
  induction bs generalizing s a with
  | nil => rfl
  | cons b t ih => simp [State.stBytes, ih]
@[simp] theorem State.stWord_free (s : State) (a : Nat) (w : Word) : (s.stWord a w).free = s.free := State.stBytes_free s a _
@[simp] theorem State.stWords_free (s : State) (a : Nat) (ws : List Word) : (s.stWords a ws).free = s.free := by
  induction ws generalizing s a with
  | nil => rfl
  | cons w t ih => simp [State.stWords, ih]
@[simp] theorem State.stBytes_pending (s : State) (a : Nat) (bs : List Byte) : (s.stBytes a bs).pending = s.pending := by
  induction bs generalizing s a with
  | nil => rfl
  | cons b t ih => simp [State.stBytes, ih]
@[simp] theorem State.stWord_pending (s : State) (a : Nat) (w : Word) : (s.stWord a w).pending = s.pending := State.stBytes_pending s a _
@[simp] theorem State.stWords_pending (s : State) (a : Nat) (ws : List Word) : (s.stWords a ws).pending = s.pending := by
  induction ws generalizing s a with
  | nil => rfl
  | cons w t ih => simp [State.stWords, ih]

end Sys2Proof.Machine
end

