-- ==== Sys2Proof/Laws/Ops.lean ====
section
/-! SUPPORT. What sending a frame, raising an event, and completing a request leave as it is. -/
namespace Sys2Proof.Machine

/-- What every step of a fold leaves as it is, the fold leaves as it is. -/
theorem foldl_keeps {β γ : Type} (g : State → γ) (f : State → β → State) (h : ∀ s x, g (f s x) = g s) (l : List β) (s : State) :
    g (l.foldl f s) = g s := by
  induction l generalizing s with
  | nil => rfl
  | cons x t ih => rw [List.foldl_cons, ih, h]

@[simp] theorem State.setPort_clk (s : State) (p : Fin 4) (f : Port → Port) : (s.setPort p f).clk = s.clk := rfl
@[simp] theorem State.setPort_pwr (s : State) (p : Fin 4) (f : Port → Port) : (s.setPort p f).pwr = s.pwr := rfl
@[simp] theorem State.setPort_par (s : State) (p : Fin 4) (f : Port → Port) : (s.setPort p f).par = s.par := rfl
@[simp] theorem State.setPort_mem (s : State) (p : Fin 4) (f : Port → Port) : (s.setPort p f).mem = s.mem := rfl
@[simp] theorem State.setPort_host (s : State) (p : Fin 4) (f : Port → Port) : (s.setPort p f).host = s.host := rfl
@[simp] theorem State.setPort_ev (s : State) (p : Fin 4) (f : Port → Port) : (s.setPort p f).ev = s.ev := rfl
@[simp] theorem State.setPort_nv (s : State) (p : Fin 4) (f : Port → Port) : (s.setPort p f).nv = s.nv := rfl
@[simp] theorem State.setPort_sense (s : State) (p : Fin 4) (f : Port → Port) : (s.setPort p f).sense = s.sense := rfl
@[simp] theorem State.setPort_conv (s : State) (p : Fin 4) (f : Port → Port) : (s.setPort p f).conv = s.conv := rfl
@[simp] theorem State.setPort_seq (s : State) (p : Fin 4) (f : Port → Port) : (s.setPort p f).seq = s.seq := rfl
@[simp] theorem State.setPort_pat (s : State) (p : Fin 4) (f : Port → Port) : (s.setPort p f).pat = s.pat := rfl
@[simp] theorem State.setPort_imp (s : State) (p : Fin 4) (f : Port → Port) : (s.setPort p f).imp = s.imp := rfl
@[simp] theorem State.setPort_bal (s : State) (p : Fin 4) (f : Port → Port) : (s.setPort p f).bal = s.bal := rfl
@[simp] theorem State.setPort_tmr (s : State) (p : Fin 4) (f : Port → Port) : (s.setPort p f).tmr = s.tmr := rfl
@[simp] theorem State.setPort_fab (s : State) (p : Fin 4) (f : Port → Port) : (s.setPort p f).fab = s.fab := rfl
@[simp] theorem State.setPort_sweep (s : State) (p : Fin 4) (f : Port → Port) : (s.setPort p f).sweep = s.sweep := rfl
@[simp] theorem State.setPort_snap (s : State) (p : Fin 4) (f : Port → Port) : (s.setPort p f).snap = s.snap := rfl
@[simp] theorem State.setPort_plc (s : State) (p : Fin 4) (f : Port → Port) : (s.setPort p f).plc = s.plc := rfl
@[simp] theorem State.setPort_therm (s : State) (p : Fin 4) (f : Port → Port) : (s.setPort p f).therm = s.therm := rfl
@[simp] theorem State.setPort_safe (s : State) (p : Fin 4) (f : Port → Port) : (s.setPort p f).safe = s.safe := rfl
@[simp] theorem State.setPort_chis (s : State) (p : Fin 4) (f : Port → Port) : (s.setPort p f).chis = s.chis := rfl
@[simp] theorem State.setPort_pins (s : State) (p : Fin 4) (f : Port → Port) : (s.setPort p f).pins = s.pins := rfl
@[simp] theorem State.setPort_serial (s : State) (p : Fin 4) (f : Port → Port) : (s.setPort p f).serial = s.serial := rfl
@[simp] theorem State.setPort_free (s : State) (p : Fin 4) (f : Port → Port) : (s.setPort p f).free = s.free := rfl
@[simp] theorem State.setPort_pending (s : State) (p : Fin 4) (f : Port → Port) : (s.setPort p f).pending = s.pending := rfl

@[simp] theorem State.enqueue_clk (s : State) (p : Fin 4) (f : Frame) : (s.enqueue p f).clk = s.clk := rfl
@[simp] theorem State.enqueue_pwr (s : State) (p : Fin 4) (f : Frame) : (s.enqueue p f).pwr = s.pwr := rfl
@[simp] theorem State.enqueue_par (s : State) (p : Fin 4) (f : Frame) : (s.enqueue p f).par = s.par := rfl
@[simp] theorem State.enqueue_mem (s : State) (p : Fin 4) (f : Frame) : (s.enqueue p f).mem = s.mem := rfl
@[simp] theorem State.enqueue_host (s : State) (p : Fin 4) (f : Frame) : (s.enqueue p f).host = s.host := rfl
@[simp] theorem State.enqueue_ev (s : State) (p : Fin 4) (f : Frame) : (s.enqueue p f).ev = s.ev := rfl
@[simp] theorem State.enqueue_nv (s : State) (p : Fin 4) (f : Frame) : (s.enqueue p f).nv = s.nv := rfl
@[simp] theorem State.enqueue_sense (s : State) (p : Fin 4) (f : Frame) : (s.enqueue p f).sense = s.sense := rfl
@[simp] theorem State.enqueue_conv (s : State) (p : Fin 4) (f : Frame) : (s.enqueue p f).conv = s.conv := rfl
@[simp] theorem State.enqueue_seq (s : State) (p : Fin 4) (f : Frame) : (s.enqueue p f).seq = s.seq := rfl
@[simp] theorem State.enqueue_pat (s : State) (p : Fin 4) (f : Frame) : (s.enqueue p f).pat = s.pat := rfl
@[simp] theorem State.enqueue_imp (s : State) (p : Fin 4) (f : Frame) : (s.enqueue p f).imp = s.imp := rfl
@[simp] theorem State.enqueue_bal (s : State) (p : Fin 4) (f : Frame) : (s.enqueue p f).bal = s.bal := rfl
@[simp] theorem State.enqueue_tmr (s : State) (p : Fin 4) (f : Frame) : (s.enqueue p f).tmr = s.tmr := rfl
@[simp] theorem State.enqueue_fab (s : State) (p : Fin 4) (f : Frame) : (s.enqueue p f).fab = s.fab := rfl
@[simp] theorem State.enqueue_sweep (s : State) (p : Fin 4) (f : Frame) : (s.enqueue p f).sweep = s.sweep := rfl
@[simp] theorem State.enqueue_snap (s : State) (p : Fin 4) (f : Frame) : (s.enqueue p f).snap = s.snap := rfl
@[simp] theorem State.enqueue_plc (s : State) (p : Fin 4) (f : Frame) : (s.enqueue p f).plc = s.plc := rfl
@[simp] theorem State.enqueue_therm (s : State) (p : Fin 4) (f : Frame) : (s.enqueue p f).therm = s.therm := rfl
@[simp] theorem State.enqueue_safe (s : State) (p : Fin 4) (f : Frame) : (s.enqueue p f).safe = s.safe := rfl
@[simp] theorem State.enqueue_chis (s : State) (p : Fin 4) (f : Frame) : (s.enqueue p f).chis = s.chis := rfl
@[simp] theorem State.enqueue_pins (s : State) (p : Fin 4) (f : Frame) : (s.enqueue p f).pins = s.pins := rfl
@[simp] theorem State.enqueue_serial (s : State) (p : Fin 4) (f : Frame) : (s.enqueue p f).serial = s.serial := rfl
@[simp] theorem State.enqueue_free (s : State) (p : Fin 4) (f : Frame) : (s.enqueue p f).free = s.free := rfl
@[simp] theorem State.enqueue_pending (s : State) (p : Fin 4) (f : Frame) : (s.enqueue p f).pending = s.pending := rfl

@[simp] theorem State.control_clk (s : State) (p : Fin 4) (c a b : Byte) : (s.control p c a b).clk = s.clk := rfl
@[simp] theorem State.control_pwr (s : State) (p : Fin 4) (c a b : Byte) : (s.control p c a b).pwr = s.pwr := rfl
@[simp] theorem State.control_par (s : State) (p : Fin 4) (c a b : Byte) : (s.control p c a b).par = s.par := rfl
@[simp] theorem State.control_mem (s : State) (p : Fin 4) (c a b : Byte) : (s.control p c a b).mem = s.mem := rfl
@[simp] theorem State.control_host (s : State) (p : Fin 4) (c a b : Byte) : (s.control p c a b).host = s.host := rfl
@[simp] theorem State.control_ev (s : State) (p : Fin 4) (c a b : Byte) : (s.control p c a b).ev = s.ev := rfl
@[simp] theorem State.control_nv (s : State) (p : Fin 4) (c a b : Byte) : (s.control p c a b).nv = s.nv := rfl
@[simp] theorem State.control_sense (s : State) (p : Fin 4) (c a b : Byte) : (s.control p c a b).sense = s.sense := rfl
@[simp] theorem State.control_conv (s : State) (p : Fin 4) (c a b : Byte) : (s.control p c a b).conv = s.conv := rfl
@[simp] theorem State.control_seq (s : State) (p : Fin 4) (c a b : Byte) : (s.control p c a b).seq = s.seq := rfl
@[simp] theorem State.control_pat (s : State) (p : Fin 4) (c a b : Byte) : (s.control p c a b).pat = s.pat := rfl
@[simp] theorem State.control_imp (s : State) (p : Fin 4) (c a b : Byte) : (s.control p c a b).imp = s.imp := rfl
@[simp] theorem State.control_bal (s : State) (p : Fin 4) (c a b : Byte) : (s.control p c a b).bal = s.bal := rfl
@[simp] theorem State.control_tmr (s : State) (p : Fin 4) (c a b : Byte) : (s.control p c a b).tmr = s.tmr := rfl
@[simp] theorem State.control_fab (s : State) (p : Fin 4) (c a b : Byte) : (s.control p c a b).fab = s.fab := rfl
@[simp] theorem State.control_sweep (s : State) (p : Fin 4) (c a b : Byte) : (s.control p c a b).sweep = s.sweep := rfl
@[simp] theorem State.control_snap (s : State) (p : Fin 4) (c a b : Byte) : (s.control p c a b).snap = s.snap := rfl
@[simp] theorem State.control_plc (s : State) (p : Fin 4) (c a b : Byte) : (s.control p c a b).plc = s.plc := rfl
@[simp] theorem State.control_therm (s : State) (p : Fin 4) (c a b : Byte) : (s.control p c a b).therm = s.therm := rfl
@[simp] theorem State.control_safe (s : State) (p : Fin 4) (c a b : Byte) : (s.control p c a b).safe = s.safe := rfl
@[simp] theorem State.control_chis (s : State) (p : Fin 4) (c a b : Byte) : (s.control p c a b).chis = s.chis := rfl
@[simp] theorem State.control_pins (s : State) (p : Fin 4) (c a b : Byte) : (s.control p c a b).pins = s.pins := rfl
@[simp] theorem State.control_serial (s : State) (p : Fin 4) (c a b : Byte) : (s.control p c a b).serial = s.serial := rfl
@[simp] theorem State.control_free (s : State) (p : Fin 4) (c a b : Byte) : (s.control p c a b).free = s.free := rfl
@[simp] theorem State.control_pending (s : State) (p : Fin 4) (c a b : Byte) : (s.control p c a b).pending = s.pending := rfl

@[simp] theorem State.noRoute_clk (s : State) : (s.noRoute).clk = s.clk := rfl
@[simp] theorem State.noRoute_pwr (s : State) : (s.noRoute).pwr = s.pwr := rfl
@[simp] theorem State.noRoute_mem (s : State) : (s.noRoute).mem = s.mem := rfl
@[simp] theorem State.noRoute_host (s : State) : (s.noRoute).host = s.host := rfl
@[simp] theorem State.noRoute_ev (s : State) : (s.noRoute).ev = s.ev := rfl
@[simp] theorem State.noRoute_nv (s : State) : (s.noRoute).nv = s.nv := rfl
@[simp] theorem State.noRoute_sense (s : State) : (s.noRoute).sense = s.sense := rfl
@[simp] theorem State.noRoute_conv (s : State) : (s.noRoute).conv = s.conv := rfl
@[simp] theorem State.noRoute_seq (s : State) : (s.noRoute).seq = s.seq := rfl
@[simp] theorem State.noRoute_pat (s : State) : (s.noRoute).pat = s.pat := rfl
@[simp] theorem State.noRoute_imp (s : State) : (s.noRoute).imp = s.imp := rfl
@[simp] theorem State.noRoute_bal (s : State) : (s.noRoute).bal = s.bal := rfl
@[simp] theorem State.noRoute_tmr (s : State) : (s.noRoute).tmr = s.tmr := rfl
@[simp] theorem State.noRoute_ports (s : State) : (s.noRoute).ports = s.ports := rfl
@[simp] theorem State.noRoute_fab (s : State) : (s.noRoute).fab = s.fab := rfl
@[simp] theorem State.noRoute_sweep (s : State) : (s.noRoute).sweep = s.sweep := rfl
@[simp] theorem State.noRoute_snap (s : State) : (s.noRoute).snap = s.snap := rfl
@[simp] theorem State.noRoute_plc (s : State) : (s.noRoute).plc = s.plc := rfl
@[simp] theorem State.noRoute_therm (s : State) : (s.noRoute).therm = s.therm := rfl
@[simp] theorem State.noRoute_safe (s : State) : (s.noRoute).safe = s.safe := rfl
@[simp] theorem State.noRoute_chis (s : State) : (s.noRoute).chis = s.chis := rfl
@[simp] theorem State.noRoute_pins (s : State) : (s.noRoute).pins = s.pins := rfl
@[simp] theorem State.noRoute_serial (s : State) : (s.noRoute).serial = s.serial := rfl
@[simp] theorem State.noRoute_free (s : State) : (s.noRoute).free = s.free := rfl
@[simp] theorem State.noRoute_pending (s : State) : (s.noRoute).pending = s.pending := rfl

@[simp] theorem State.forward_clk (s : State) (f : Frame) : (s.forward f).clk = s.clk := by
  unfold State.forward; split <;> simp
@[simp] theorem State.forward_pwr (s : State) (f : Frame) : (s.forward f).pwr = s.pwr := by
  unfold State.forward; split <;> simp
@[simp] theorem State.forward_mem (s : State) (f : Frame) : (s.forward f).mem = s.mem := by
  unfold State.forward; split <;> simp
@[simp] theorem State.forward_host (s : State) (f : Frame) : (s.forward f).host = s.host := by
  unfold State.forward; split <;> simp
@[simp] theorem State.forward_ev (s : State) (f : Frame) : (s.forward f).ev = s.ev := by
  unfold State.forward; split <;> simp
@[simp] theorem State.forward_nv (s : State) (f : Frame) : (s.forward f).nv = s.nv := by
  unfold State.forward; split <;> simp
@[simp] theorem State.forward_sense (s : State) (f : Frame) : (s.forward f).sense = s.sense := by
  unfold State.forward; split <;> simp
@[simp] theorem State.forward_conv (s : State) (f : Frame) : (s.forward f).conv = s.conv := by
  unfold State.forward; split <;> simp
@[simp] theorem State.forward_seq (s : State) (f : Frame) : (s.forward f).seq = s.seq := by
  unfold State.forward; split <;> simp
@[simp] theorem State.forward_pat (s : State) (f : Frame) : (s.forward f).pat = s.pat := by
  unfold State.forward; split <;> simp
@[simp] theorem State.forward_imp (s : State) (f : Frame) : (s.forward f).imp = s.imp := by
  unfold State.forward; split <;> simp
@[simp] theorem State.forward_bal (s : State) (f : Frame) : (s.forward f).bal = s.bal := by
  unfold State.forward; split <;> simp
@[simp] theorem State.forward_tmr (s : State) (f : Frame) : (s.forward f).tmr = s.tmr := by
  unfold State.forward; split <;> simp
@[simp] theorem State.forward_fab (s : State) (f : Frame) : (s.forward f).fab = s.fab := by
  unfold State.forward; split <;> simp
@[simp] theorem State.forward_sweep (s : State) (f : Frame) : (s.forward f).sweep = s.sweep := by
  unfold State.forward; split <;> simp
@[simp] theorem State.forward_snap (s : State) (f : Frame) : (s.forward f).snap = s.snap := by
  unfold State.forward; split <;> simp
@[simp] theorem State.forward_plc (s : State) (f : Frame) : (s.forward f).plc = s.plc := by
  unfold State.forward; split <;> simp
@[simp] theorem State.forward_therm (s : State) (f : Frame) : (s.forward f).therm = s.therm := by
  unfold State.forward; split <;> simp
@[simp] theorem State.forward_safe (s : State) (f : Frame) : (s.forward f).safe = s.safe := by
  unfold State.forward; split <;> simp
@[simp] theorem State.forward_chis (s : State) (f : Frame) : (s.forward f).chis = s.chis := by
  unfold State.forward; split <;> simp
@[simp] theorem State.forward_pins (s : State) (f : Frame) : (s.forward f).pins = s.pins := by
  unfold State.forward; split <;> simp
@[simp] theorem State.forward_serial (s : State) (f : Frame) : (s.forward f).serial = s.serial := by
  unfold State.forward; split <;> simp
@[simp] theorem State.forward_free (s : State) (f : Frame) : (s.forward f).free = s.free := by
  unfold State.forward; split <;> simp
@[simp] theorem State.forward_pending (s : State) (f : Frame) : (s.forward f).pending = s.pending := by
  unfold State.forward; split <;> simp

@[simp] theorem State.flood_clk (s : State) (f : Frame) (i : Option (Fin 4)) : (s.flood f i).clk = s.clk := by
  apply foldl_keeps State.clk
  intro s x
  repeat' split
  all_goals rfl
@[simp] theorem State.flood_pwr (s : State) (f : Frame) (i : Option (Fin 4)) : (s.flood f i).pwr = s.pwr := by
  apply foldl_keeps State.pwr
  intro s x
  repeat' split
  all_goals rfl
@[simp] theorem State.flood_par (s : State) (f : Frame) (i : Option (Fin 4)) : (s.flood f i).par = s.par := by
  apply foldl_keeps State.par
  intro s x
  repeat' split
  all_goals rfl
@[simp] theorem State.flood_mem (s : State) (f : Frame) (i : Option (Fin 4)) : (s.flood f i).mem = s.mem := by
  apply foldl_keeps State.mem
  intro s x
  repeat' split
  all_goals rfl
@[simp] theorem State.flood_host (s : State) (f : Frame) (i : Option (Fin 4)) : (s.flood f i).host = s.host := by
  apply foldl_keeps State.host
  intro s x
  repeat' split
  all_goals rfl
@[simp] theorem State.flood_ev (s : State) (f : Frame) (i : Option (Fin 4)) : (s.flood f i).ev = s.ev := by
  apply foldl_keeps State.ev
  intro s x
  repeat' split
  all_goals rfl
@[simp] theorem State.flood_nv (s : State) (f : Frame) (i : Option (Fin 4)) : (s.flood f i).nv = s.nv := by
  apply foldl_keeps State.nv
  intro s x
  repeat' split
  all_goals rfl
@[simp] theorem State.flood_sense (s : State) (f : Frame) (i : Option (Fin 4)) : (s.flood f i).sense = s.sense := by
  apply foldl_keeps State.sense
  intro s x
  repeat' split
  all_goals rfl
@[simp] theorem State.flood_conv (s : State) (f : Frame) (i : Option (Fin 4)) : (s.flood f i).conv = s.conv := by
  apply foldl_keeps State.conv
  intro s x
  repeat' split
  all_goals rfl
@[simp] theorem State.flood_seq (s : State) (f : Frame) (i : Option (Fin 4)) : (s.flood f i).seq = s.seq := by
  apply foldl_keeps State.seq
  intro s x
  repeat' split
  all_goals rfl
@[simp] theorem State.flood_pat (s : State) (f : Frame) (i : Option (Fin 4)) : (s.flood f i).pat = s.pat := by
  apply foldl_keeps State.pat
  intro s x
  repeat' split
  all_goals rfl
@[simp] theorem State.flood_imp (s : State) (f : Frame) (i : Option (Fin 4)) : (s.flood f i).imp = s.imp := by
  apply foldl_keeps State.imp
  intro s x
  repeat' split
  all_goals rfl
@[simp] theorem State.flood_bal (s : State) (f : Frame) (i : Option (Fin 4)) : (s.flood f i).bal = s.bal := by
  apply foldl_keeps State.bal
  intro s x
  repeat' split
  all_goals rfl
@[simp] theorem State.flood_tmr (s : State) (f : Frame) (i : Option (Fin 4)) : (s.flood f i).tmr = s.tmr := by
  apply foldl_keeps State.tmr
  intro s x
  repeat' split
  all_goals rfl
@[simp] theorem State.flood_fab (s : State) (f : Frame) (i : Option (Fin 4)) : (s.flood f i).fab = s.fab := by
  apply foldl_keeps State.fab
  intro s x
  repeat' split
  all_goals rfl
@[simp] theorem State.flood_sweep (s : State) (f : Frame) (i : Option (Fin 4)) : (s.flood f i).sweep = s.sweep := by
  apply foldl_keeps State.sweep
  intro s x
  repeat' split
  all_goals rfl
@[simp] theorem State.flood_snap (s : State) (f : Frame) (i : Option (Fin 4)) : (s.flood f i).snap = s.snap := by
  apply foldl_keeps State.snap
  intro s x
  repeat' split
  all_goals rfl
@[simp] theorem State.flood_plc (s : State) (f : Frame) (i : Option (Fin 4)) : (s.flood f i).plc = s.plc := by
  apply foldl_keeps State.plc
  intro s x
  repeat' split
  all_goals rfl
@[simp] theorem State.flood_therm (s : State) (f : Frame) (i : Option (Fin 4)) : (s.flood f i).therm = s.therm := by
  apply foldl_keeps State.therm
  intro s x
  repeat' split
  all_goals rfl
@[simp] theorem State.flood_safe (s : State) (f : Frame) (i : Option (Fin 4)) : (s.flood f i).safe = s.safe := by
  apply foldl_keeps State.safe
  intro s x
  repeat' split
  all_goals rfl
@[simp] theorem State.flood_chis (s : State) (f : Frame) (i : Option (Fin 4)) : (s.flood f i).chis = s.chis := by
  apply foldl_keeps State.chis
  intro s x
  repeat' split
  all_goals rfl
@[simp] theorem State.flood_pins (s : State) (f : Frame) (i : Option (Fin 4)) : (s.flood f i).pins = s.pins := by
  apply foldl_keeps State.pins
  intro s x
  repeat' split
  all_goals rfl
@[simp] theorem State.flood_serial (s : State) (f : Frame) (i : Option (Fin 4)) : (s.flood f i).serial = s.serial := by
  apply foldl_keeps State.serial
  intro s x
  repeat' split
  all_goals rfl
@[simp] theorem State.flood_free (s : State) (f : Frame) (i : Option (Fin 4)) : (s.flood f i).free = s.free := by
  apply foldl_keeps State.free
  intro s x
  repeat' split
  all_goals rfl
@[simp] theorem State.flood_pending (s : State) (f : Frame) (i : Option (Fin 4)) : (s.flood f i).pending = s.pending := by
  apply foldl_keeps State.pending
  intro s x
  repeat' split
  all_goals rfl

@[simp] theorem State.sendTo_clk (s : State) (ty : Byte) (d : FAddr) (bs : List Byte) : (s.sendTo ty d bs).clk = s.clk := by
  simp [State.sendTo]
@[simp] theorem State.sendTo_pwr (s : State) (ty : Byte) (d : FAddr) (bs : List Byte) : (s.sendTo ty d bs).pwr = s.pwr := by
  simp [State.sendTo]
@[simp] theorem State.sendTo_mem (s : State) (ty : Byte) (d : FAddr) (bs : List Byte) : (s.sendTo ty d bs).mem = s.mem := by
  simp [State.sendTo]
@[simp] theorem State.sendTo_host (s : State) (ty : Byte) (d : FAddr) (bs : List Byte) : (s.sendTo ty d bs).host = s.host := by
  simp [State.sendTo]
@[simp] theorem State.sendTo_ev (s : State) (ty : Byte) (d : FAddr) (bs : List Byte) : (s.sendTo ty d bs).ev = s.ev := by
  simp [State.sendTo]
@[simp] theorem State.sendTo_nv (s : State) (ty : Byte) (d : FAddr) (bs : List Byte) : (s.sendTo ty d bs).nv = s.nv := by
  simp [State.sendTo]
@[simp] theorem State.sendTo_sense (s : State) (ty : Byte) (d : FAddr) (bs : List Byte) : (s.sendTo ty d bs).sense = s.sense := by
  simp [State.sendTo]
@[simp] theorem State.sendTo_conv (s : State) (ty : Byte) (d : FAddr) (bs : List Byte) : (s.sendTo ty d bs).conv = s.conv := by
  simp [State.sendTo]
@[simp] theorem State.sendTo_seq (s : State) (ty : Byte) (d : FAddr) (bs : List Byte) : (s.sendTo ty d bs).seq = s.seq := by
  simp [State.sendTo]
@[simp] theorem State.sendTo_pat (s : State) (ty : Byte) (d : FAddr) (bs : List Byte) : (s.sendTo ty d bs).pat = s.pat := by
  simp [State.sendTo]
@[simp] theorem State.sendTo_imp (s : State) (ty : Byte) (d : FAddr) (bs : List Byte) : (s.sendTo ty d bs).imp = s.imp := by
  simp [State.sendTo]
@[simp] theorem State.sendTo_bal (s : State) (ty : Byte) (d : FAddr) (bs : List Byte) : (s.sendTo ty d bs).bal = s.bal := by
  simp [State.sendTo]
@[simp] theorem State.sendTo_tmr (s : State) (ty : Byte) (d : FAddr) (bs : List Byte) : (s.sendTo ty d bs).tmr = s.tmr := by
  simp [State.sendTo]
@[simp] theorem State.sendTo_sweep (s : State) (ty : Byte) (d : FAddr) (bs : List Byte) : (s.sendTo ty d bs).sweep = s.sweep := by
  simp [State.sendTo]
@[simp] theorem State.sendTo_snap (s : State) (ty : Byte) (d : FAddr) (bs : List Byte) : (s.sendTo ty d bs).snap = s.snap := by
  simp [State.sendTo]
@[simp] theorem State.sendTo_plc (s : State) (ty : Byte) (d : FAddr) (bs : List Byte) : (s.sendTo ty d bs).plc = s.plc := by
  simp [State.sendTo]
@[simp] theorem State.sendTo_therm (s : State) (ty : Byte) (d : FAddr) (bs : List Byte) : (s.sendTo ty d bs).therm = s.therm := by
  simp [State.sendTo]
@[simp] theorem State.sendTo_safe (s : State) (ty : Byte) (d : FAddr) (bs : List Byte) : (s.sendTo ty d bs).safe = s.safe := by
  simp [State.sendTo]
@[simp] theorem State.sendTo_chis (s : State) (ty : Byte) (d : FAddr) (bs : List Byte) : (s.sendTo ty d bs).chis = s.chis := by
  simp [State.sendTo]
@[simp] theorem State.sendTo_pins (s : State) (ty : Byte) (d : FAddr) (bs : List Byte) : (s.sendTo ty d bs).pins = s.pins := by
  simp [State.sendTo]
@[simp] theorem State.sendTo_serial (s : State) (ty : Byte) (d : FAddr) (bs : List Byte) : (s.sendTo ty d bs).serial = s.serial := by
  simp [State.sendTo]
@[simp] theorem State.sendTo_free (s : State) (ty : Byte) (d : FAddr) (bs : List Byte) : (s.sendTo ty d bs).free = s.free := by
  simp [State.sendTo]
@[simp] theorem State.sendTo_pending (s : State) (ty : Byte) (d : FAddr) (bs : List Byte) : (s.sendTo ty d bs).pending = s.pending := by
  simp [State.sendTo]

@[simp] theorem State.sendAll_clk (s : State) (ty : Byte) (bs : List Byte) : (s.sendAll ty bs).clk = s.clk := by
  simp [State.sendAll]
@[simp] theorem State.sendAll_pwr (s : State) (ty : Byte) (bs : List Byte) : (s.sendAll ty bs).pwr = s.pwr := by
  simp [State.sendAll]
@[simp] theorem State.sendAll_par (s : State) (ty : Byte) (bs : List Byte) : (s.sendAll ty bs).par = s.par := by
  simp [State.sendAll]
@[simp] theorem State.sendAll_mem (s : State) (ty : Byte) (bs : List Byte) : (s.sendAll ty bs).mem = s.mem := by
  simp [State.sendAll]
@[simp] theorem State.sendAll_host (s : State) (ty : Byte) (bs : List Byte) : (s.sendAll ty bs).host = s.host := by
  simp [State.sendAll]
@[simp] theorem State.sendAll_ev (s : State) (ty : Byte) (bs : List Byte) : (s.sendAll ty bs).ev = s.ev := by
  simp [State.sendAll]
@[simp] theorem State.sendAll_nv (s : State) (ty : Byte) (bs : List Byte) : (s.sendAll ty bs).nv = s.nv := by
  simp [State.sendAll]
@[simp] theorem State.sendAll_sense (s : State) (ty : Byte) (bs : List Byte) : (s.sendAll ty bs).sense = s.sense := by
  simp [State.sendAll]
@[simp] theorem State.sendAll_conv (s : State) (ty : Byte) (bs : List Byte) : (s.sendAll ty bs).conv = s.conv := by
  simp [State.sendAll]
@[simp] theorem State.sendAll_seq (s : State) (ty : Byte) (bs : List Byte) : (s.sendAll ty bs).seq = s.seq := by
  simp [State.sendAll]
@[simp] theorem State.sendAll_pat (s : State) (ty : Byte) (bs : List Byte) : (s.sendAll ty bs).pat = s.pat := by
  simp [State.sendAll]
@[simp] theorem State.sendAll_imp (s : State) (ty : Byte) (bs : List Byte) : (s.sendAll ty bs).imp = s.imp := by
  simp [State.sendAll]
@[simp] theorem State.sendAll_bal (s : State) (ty : Byte) (bs : List Byte) : (s.sendAll ty bs).bal = s.bal := by
  simp [State.sendAll]
@[simp] theorem State.sendAll_tmr (s : State) (ty : Byte) (bs : List Byte) : (s.sendAll ty bs).tmr = s.tmr := by
  simp [State.sendAll]
@[simp] theorem State.sendAll_sweep (s : State) (ty : Byte) (bs : List Byte) : (s.sendAll ty bs).sweep = s.sweep := by
  simp [State.sendAll]
@[simp] theorem State.sendAll_snap (s : State) (ty : Byte) (bs : List Byte) : (s.sendAll ty bs).snap = s.snap := by
  simp [State.sendAll]
@[simp] theorem State.sendAll_plc (s : State) (ty : Byte) (bs : List Byte) : (s.sendAll ty bs).plc = s.plc := by
  simp [State.sendAll]
@[simp] theorem State.sendAll_therm (s : State) (ty : Byte) (bs : List Byte) : (s.sendAll ty bs).therm = s.therm := by
  simp [State.sendAll]
@[simp] theorem State.sendAll_safe (s : State) (ty : Byte) (bs : List Byte) : (s.sendAll ty bs).safe = s.safe := by
  simp [State.sendAll]
@[simp] theorem State.sendAll_chis (s : State) (ty : Byte) (bs : List Byte) : (s.sendAll ty bs).chis = s.chis := by
  simp [State.sendAll]
@[simp] theorem State.sendAll_pins (s : State) (ty : Byte) (bs : List Byte) : (s.sendAll ty bs).pins = s.pins := by
  simp [State.sendAll]
@[simp] theorem State.sendAll_serial (s : State) (ty : Byte) (bs : List Byte) : (s.sendAll ty bs).serial = s.serial := by
  simp [State.sendAll]
@[simp] theorem State.sendAll_free (s : State) (ty : Byte) (bs : List Byte) : (s.sendAll ty bs).free = s.free := by
  simp [State.sendAll]
@[simp] theorem State.sendAll_pending (s : State) (ty : Byte) (bs : List Byte) : (s.sendAll ty bs).pending = s.pending := by
  simp [State.sendAll]

@[simp] theorem State.canSend_clk (s : State) (n : Nat) (bs : List Byte) : (s.canSend n bs).clk = s.clk := by
  unfold State.canSend; split <;> rfl
@[simp] theorem State.canSend_pwr (s : State) (n : Nat) (bs : List Byte) : (s.canSend n bs).pwr = s.pwr := by
  unfold State.canSend; split <;> rfl
@[simp] theorem State.canSend_par (s : State) (n : Nat) (bs : List Byte) : (s.canSend n bs).par = s.par := by
  unfold State.canSend; split <;> rfl
@[simp] theorem State.canSend_mem (s : State) (n : Nat) (bs : List Byte) : (s.canSend n bs).mem = s.mem := by
  unfold State.canSend; split <;> rfl
@[simp] theorem State.canSend_ev (s : State) (n : Nat) (bs : List Byte) : (s.canSend n bs).ev = s.ev := by
  unfold State.canSend; split <;> rfl
@[simp] theorem State.canSend_nv (s : State) (n : Nat) (bs : List Byte) : (s.canSend n bs).nv = s.nv := by
  unfold State.canSend; split <;> rfl
@[simp] theorem State.canSend_sense (s : State) (n : Nat) (bs : List Byte) : (s.canSend n bs).sense = s.sense := by
  unfold State.canSend; split <;> rfl
@[simp] theorem State.canSend_conv (s : State) (n : Nat) (bs : List Byte) : (s.canSend n bs).conv = s.conv := by
  unfold State.canSend; split <;> rfl
@[simp] theorem State.canSend_seq (s : State) (n : Nat) (bs : List Byte) : (s.canSend n bs).seq = s.seq := by
  unfold State.canSend; split <;> rfl
@[simp] theorem State.canSend_pat (s : State) (n : Nat) (bs : List Byte) : (s.canSend n bs).pat = s.pat := by
  unfold State.canSend; split <;> rfl
@[simp] theorem State.canSend_imp (s : State) (n : Nat) (bs : List Byte) : (s.canSend n bs).imp = s.imp := by
  unfold State.canSend; split <;> rfl
@[simp] theorem State.canSend_bal (s : State) (n : Nat) (bs : List Byte) : (s.canSend n bs).bal = s.bal := by
  unfold State.canSend; split <;> rfl
@[simp] theorem State.canSend_tmr (s : State) (n : Nat) (bs : List Byte) : (s.canSend n bs).tmr = s.tmr := by
  unfold State.canSend; split <;> rfl
@[simp] theorem State.canSend_ports (s : State) (n : Nat) (bs : List Byte) : (s.canSend n bs).ports = s.ports := by
  unfold State.canSend; split <;> rfl
@[simp] theorem State.canSend_fab (s : State) (n : Nat) (bs : List Byte) : (s.canSend n bs).fab = s.fab := by
  unfold State.canSend; split <;> rfl
@[simp] theorem State.canSend_sweep (s : State) (n : Nat) (bs : List Byte) : (s.canSend n bs).sweep = s.sweep := by
  unfold State.canSend; split <;> rfl
@[simp] theorem State.canSend_snap (s : State) (n : Nat) (bs : List Byte) : (s.canSend n bs).snap = s.snap := by
  unfold State.canSend; split <;> rfl
@[simp] theorem State.canSend_plc (s : State) (n : Nat) (bs : List Byte) : (s.canSend n bs).plc = s.plc := by
  unfold State.canSend; split <;> rfl
@[simp] theorem State.canSend_therm (s : State) (n : Nat) (bs : List Byte) : (s.canSend n bs).therm = s.therm := by
  unfold State.canSend; split <;> rfl
@[simp] theorem State.canSend_safe (s : State) (n : Nat) (bs : List Byte) : (s.canSend n bs).safe = s.safe := by
  unfold State.canSend; split <;> rfl
@[simp] theorem State.canSend_chis (s : State) (n : Nat) (bs : List Byte) : (s.canSend n bs).chis = s.chis := by
  unfold State.canSend; split <;> rfl
@[simp] theorem State.canSend_pins (s : State) (n : Nat) (bs : List Byte) : (s.canSend n bs).pins = s.pins := by
  unfold State.canSend; split <;> rfl
@[simp] theorem State.canSend_serial (s : State) (n : Nat) (bs : List Byte) : (s.canSend n bs).serial = s.serial := by
  unfold State.canSend; split <;> rfl
@[simp] theorem State.canSend_free (s : State) (n : Nat) (bs : List Byte) : (s.canSend n bs).free = s.free := by
  unfold State.canSend; split <;> rfl
@[simp] theorem State.canSend_pending (s : State) (n : Nat) (bs : List Byte) : (s.canSend n bs).pending = s.pending := by
  unfold State.canSend; split <;> rfl

@[simp] theorem State.uartSend_clk (s : State) (bs : List Byte) : (s.uartSend bs).clk = s.clk := by
  unfold State.uartSend; split <;> rfl
@[simp] theorem State.uartSend_pwr (s : State) (bs : List Byte) : (s.uartSend bs).pwr = s.pwr := by
  unfold State.uartSend; split <;> rfl
@[simp] theorem State.uartSend_par (s : State) (bs : List Byte) : (s.uartSend bs).par = s.par := by
  unfold State.uartSend; split <;> rfl
@[simp] theorem State.uartSend_mem (s : State) (bs : List Byte) : (s.uartSend bs).mem = s.mem := by
  unfold State.uartSend; split <;> rfl
@[simp] theorem State.uartSend_ev (s : State) (bs : List Byte) : (s.uartSend bs).ev = s.ev := by
  unfold State.uartSend; split <;> rfl
@[simp] theorem State.uartSend_nv (s : State) (bs : List Byte) : (s.uartSend bs).nv = s.nv := by
  unfold State.uartSend; split <;> rfl
@[simp] theorem State.uartSend_sense (s : State) (bs : List Byte) : (s.uartSend bs).sense = s.sense := by
  unfold State.uartSend; split <;> rfl
@[simp] theorem State.uartSend_conv (s : State) (bs : List Byte) : (s.uartSend bs).conv = s.conv := by
  unfold State.uartSend; split <;> rfl
@[simp] theorem State.uartSend_seq (s : State) (bs : List Byte) : (s.uartSend bs).seq = s.seq := by
  unfold State.uartSend; split <;> rfl
@[simp] theorem State.uartSend_pat (s : State) (bs : List Byte) : (s.uartSend bs).pat = s.pat := by
  unfold State.uartSend; split <;> rfl
@[simp] theorem State.uartSend_imp (s : State) (bs : List Byte) : (s.uartSend bs).imp = s.imp := by
  unfold State.uartSend; split <;> rfl
@[simp] theorem State.uartSend_bal (s : State) (bs : List Byte) : (s.uartSend bs).bal = s.bal := by
  unfold State.uartSend; split <;> rfl
@[simp] theorem State.uartSend_tmr (s : State) (bs : List Byte) : (s.uartSend bs).tmr = s.tmr := by
  unfold State.uartSend; split <;> rfl
@[simp] theorem State.uartSend_ports (s : State) (bs : List Byte) : (s.uartSend bs).ports = s.ports := by
  unfold State.uartSend; split <;> rfl
@[simp] theorem State.uartSend_fab (s : State) (bs : List Byte) : (s.uartSend bs).fab = s.fab := by
  unfold State.uartSend; split <;> rfl
@[simp] theorem State.uartSend_sweep (s : State) (bs : List Byte) : (s.uartSend bs).sweep = s.sweep := by
  unfold State.uartSend; split <;> rfl
@[simp] theorem State.uartSend_snap (s : State) (bs : List Byte) : (s.uartSend bs).snap = s.snap := by
  unfold State.uartSend; split <;> rfl
@[simp] theorem State.uartSend_plc (s : State) (bs : List Byte) : (s.uartSend bs).plc = s.plc := by
  unfold State.uartSend; split <;> rfl
@[simp] theorem State.uartSend_therm (s : State) (bs : List Byte) : (s.uartSend bs).therm = s.therm := by
  unfold State.uartSend; split <;> rfl
@[simp] theorem State.uartSend_safe (s : State) (bs : List Byte) : (s.uartSend bs).safe = s.safe := by
  unfold State.uartSend; split <;> rfl
@[simp] theorem State.uartSend_chis (s : State) (bs : List Byte) : (s.uartSend bs).chis = s.chis := by
  unfold State.uartSend; split <;> rfl
@[simp] theorem State.uartSend_pins (s : State) (bs : List Byte) : (s.uartSend bs).pins = s.pins := by
  unfold State.uartSend; split <;> rfl
@[simp] theorem State.uartSend_serial (s : State) (bs : List Byte) : (s.uartSend bs).serial = s.serial := by
  unfold State.uartSend; split <;> rfl
@[simp] theorem State.uartSend_free (s : State) (bs : List Byte) : (s.uartSend bs).free = s.free := by
  unfold State.uartSend; split <;> rfl
@[simp] theorem State.uartSend_pending (s : State) (bs : List Byte) : (s.uartSend bs).pending = s.pending := by
  unfold State.uartSend; split <;> rfl

@[simp] theorem State.sendNotice_clk (s : State) : (s.sendNotice).clk = s.clk := by
  simp [State.sendNotice]
@[simp] theorem State.sendNotice_pwr (s : State) : (s.sendNotice).pwr = s.pwr := by
  simp [State.sendNotice]
@[simp] theorem State.sendNotice_par (s : State) : (s.sendNotice).par = s.par := by
  simp [State.sendNotice]
@[simp] theorem State.sendNotice_mem (s : State) : (s.sendNotice).mem = s.mem := by
  simp [State.sendNotice]
@[simp] theorem State.sendNotice_ev (s : State) : (s.sendNotice).ev = s.ev := by
  simp [State.sendNotice]
@[simp] theorem State.sendNotice_nv (s : State) : (s.sendNotice).nv = s.nv := by
  simp [State.sendNotice]
@[simp] theorem State.sendNotice_sense (s : State) : (s.sendNotice).sense = s.sense := by
  simp [State.sendNotice]
@[simp] theorem State.sendNotice_conv (s : State) : (s.sendNotice).conv = s.conv := by
  simp [State.sendNotice]
@[simp] theorem State.sendNotice_seq (s : State) : (s.sendNotice).seq = s.seq := by
  simp [State.sendNotice]
@[simp] theorem State.sendNotice_pat (s : State) : (s.sendNotice).pat = s.pat := by
  simp [State.sendNotice]
@[simp] theorem State.sendNotice_imp (s : State) : (s.sendNotice).imp = s.imp := by
  simp [State.sendNotice]
@[simp] theorem State.sendNotice_bal (s : State) : (s.sendNotice).bal = s.bal := by
  simp [State.sendNotice]
@[simp] theorem State.sendNotice_tmr (s : State) : (s.sendNotice).tmr = s.tmr := by
  simp [State.sendNotice]
@[simp] theorem State.sendNotice_ports (s : State) : (s.sendNotice).ports = s.ports := by
  simp [State.sendNotice]
@[simp] theorem State.sendNotice_fab (s : State) : (s.sendNotice).fab = s.fab := by
  simp [State.sendNotice]
@[simp] theorem State.sendNotice_sweep (s : State) : (s.sendNotice).sweep = s.sweep := by
  simp [State.sendNotice]
@[simp] theorem State.sendNotice_snap (s : State) : (s.sendNotice).snap = s.snap := by
  simp [State.sendNotice]
@[simp] theorem State.sendNotice_plc (s : State) : (s.sendNotice).plc = s.plc := by
  simp [State.sendNotice]
@[simp] theorem State.sendNotice_therm (s : State) : (s.sendNotice).therm = s.therm := by
  simp [State.sendNotice]
@[simp] theorem State.sendNotice_safe (s : State) : (s.sendNotice).safe = s.safe := by
  simp [State.sendNotice]
@[simp] theorem State.sendNotice_chis (s : State) : (s.sendNotice).chis = s.chis := by
  simp [State.sendNotice]
@[simp] theorem State.sendNotice_pins (s : State) : (s.sendNotice).pins = s.pins := by
  simp [State.sendNotice]
@[simp] theorem State.sendNotice_serial (s : State) : (s.sendNotice).serial = s.serial := by
  simp [State.sendNotice]
@[simp] theorem State.sendNotice_free (s : State) : (s.sendNotice).free = s.free := by
  simp [State.sendNotice]
@[simp] theorem State.sendNotice_pending (s : State) : (s.sendNotice).pending = s.pending := by
  simp [State.sendNotice]

@[simp] theorem State.notifyFrom_clk (o s : State) : (o.notifyFrom s).clk = s.clk := by
  unfold State.notifyFrom
  repeat' split
  all_goals first | rfl | simp
@[simp] theorem State.notifyFrom_pwr (o s : State) : (o.notifyFrom s).pwr = s.pwr := by
  unfold State.notifyFrom
  repeat' split
  all_goals first | rfl | simp
@[simp] theorem State.notifyFrom_par (o s : State) : (o.notifyFrom s).par = s.par := by
  unfold State.notifyFrom
  repeat' split
  all_goals first | rfl | simp
@[simp] theorem State.notifyFrom_mem (o s : State) : (o.notifyFrom s).mem = s.mem := by
  unfold State.notifyFrom
  repeat' split
  all_goals first | rfl | simp
@[simp] theorem State.notifyFrom_ev (o s : State) : (o.notifyFrom s).ev = s.ev := by
  unfold State.notifyFrom
  repeat' split
  all_goals first | rfl | simp
@[simp] theorem State.notifyFrom_nv (o s : State) : (o.notifyFrom s).nv = s.nv := by
  unfold State.notifyFrom
  repeat' split
  all_goals first | rfl | simp
@[simp] theorem State.notifyFrom_sense (o s : State) : (o.notifyFrom s).sense = s.sense := by
  unfold State.notifyFrom
  repeat' split
  all_goals first | rfl | simp
@[simp] theorem State.notifyFrom_conv (o s : State) : (o.notifyFrom s).conv = s.conv := by
  unfold State.notifyFrom
  repeat' split
  all_goals first | rfl | simp
@[simp] theorem State.notifyFrom_seq (o s : State) : (o.notifyFrom s).seq = s.seq := by
  unfold State.notifyFrom
  repeat' split
  all_goals first | rfl | simp
@[simp] theorem State.notifyFrom_pat (o s : State) : (o.notifyFrom s).pat = s.pat := by
  unfold State.notifyFrom
  repeat' split
  all_goals first | rfl | simp
@[simp] theorem State.notifyFrom_imp (o s : State) : (o.notifyFrom s).imp = s.imp := by
  unfold State.notifyFrom
  repeat' split
  all_goals first | rfl | simp
@[simp] theorem State.notifyFrom_bal (o s : State) : (o.notifyFrom s).bal = s.bal := by
  unfold State.notifyFrom
  repeat' split
  all_goals first | rfl | simp
@[simp] theorem State.notifyFrom_tmr (o s : State) : (o.notifyFrom s).tmr = s.tmr := by
  unfold State.notifyFrom
  repeat' split
  all_goals first | rfl | simp
@[simp] theorem State.notifyFrom_ports (o s : State) : (o.notifyFrom s).ports = s.ports := by
  unfold State.notifyFrom
  repeat' split
  all_goals first | rfl | simp
@[simp] theorem State.notifyFrom_fab (o s : State) : (o.notifyFrom s).fab = s.fab := by
  unfold State.notifyFrom
  repeat' split
  all_goals first | rfl | simp
@[simp] theorem State.notifyFrom_sweep (o s : State) : (o.notifyFrom s).sweep = s.sweep := by
  unfold State.notifyFrom
  repeat' split
  all_goals first | rfl | simp
@[simp] theorem State.notifyFrom_snap (o s : State) : (o.notifyFrom s).snap = s.snap := by
  unfold State.notifyFrom
  repeat' split
  all_goals first | rfl | simp
@[simp] theorem State.notifyFrom_plc (o s : State) : (o.notifyFrom s).plc = s.plc := by
  unfold State.notifyFrom
  repeat' split
  all_goals first | rfl | simp
@[simp] theorem State.notifyFrom_therm (o s : State) : (o.notifyFrom s).therm = s.therm := by
  unfold State.notifyFrom
  repeat' split
  all_goals first | rfl | simp
@[simp] theorem State.notifyFrom_safe (o s : State) : (o.notifyFrom s).safe = s.safe := by
  unfold State.notifyFrom
  repeat' split
  all_goals first | rfl | simp
@[simp] theorem State.notifyFrom_chis (o s : State) : (o.notifyFrom s).chis = s.chis := by
  unfold State.notifyFrom
  repeat' split
  all_goals first | rfl | simp
@[simp] theorem State.notifyFrom_pins (o s : State) : (o.notifyFrom s).pins = s.pins := by
  unfold State.notifyFrom
  repeat' split
  all_goals first | rfl | simp
@[simp] theorem State.notifyFrom_serial (o s : State) : (o.notifyFrom s).serial = s.serial := by
  unfold State.notifyFrom
  repeat' split
  all_goals first | rfl | simp
@[simp] theorem State.notifyFrom_free (o s : State) : (o.notifyFrom s).free = s.free := by
  unfold State.notifyFrom
  repeat' split
  all_goals first | rfl | simp
@[simp] theorem State.notifyFrom_pending (o s : State) : (o.notifyFrom s).pending = s.pending := by
  unfold State.notifyFrom
  repeat' split
  all_goals first | rfl | simp

@[simp] theorem State.nvPut_clk (s : State) (j : NvJob) (a : Nat) (bs : List Byte) : (s.nvPut j a bs).clk = s.clk := rfl
@[simp] theorem State.nvPut_pwr (s : State) (j : NvJob) (a : Nat) (bs : List Byte) : (s.nvPut j a bs).pwr = s.pwr := rfl
@[simp] theorem State.nvPut_par (s : State) (j : NvJob) (a : Nat) (bs : List Byte) : (s.nvPut j a bs).par = s.par := rfl
@[simp] theorem State.nvPut_mem (s : State) (j : NvJob) (a : Nat) (bs : List Byte) : (s.nvPut j a bs).mem = s.mem := rfl
@[simp] theorem State.nvPut_host (s : State) (j : NvJob) (a : Nat) (bs : List Byte) : (s.nvPut j a bs).host = s.host := rfl
@[simp] theorem State.nvPut_ev (s : State) (j : NvJob) (a : Nat) (bs : List Byte) : (s.nvPut j a bs).ev = s.ev := rfl
@[simp] theorem State.nvPut_sense (s : State) (j : NvJob) (a : Nat) (bs : List Byte) : (s.nvPut j a bs).sense = s.sense := rfl
@[simp] theorem State.nvPut_conv (s : State) (j : NvJob) (a : Nat) (bs : List Byte) : (s.nvPut j a bs).conv = s.conv := rfl
@[simp] theorem State.nvPut_seq (s : State) (j : NvJob) (a : Nat) (bs : List Byte) : (s.nvPut j a bs).seq = s.seq := rfl
@[simp] theorem State.nvPut_pat (s : State) (j : NvJob) (a : Nat) (bs : List Byte) : (s.nvPut j a bs).pat = s.pat := rfl
@[simp] theorem State.nvPut_imp (s : State) (j : NvJob) (a : Nat) (bs : List Byte) : (s.nvPut j a bs).imp = s.imp := rfl
@[simp] theorem State.nvPut_bal (s : State) (j : NvJob) (a : Nat) (bs : List Byte) : (s.nvPut j a bs).bal = s.bal := rfl
@[simp] theorem State.nvPut_tmr (s : State) (j : NvJob) (a : Nat) (bs : List Byte) : (s.nvPut j a bs).tmr = s.tmr := rfl
@[simp] theorem State.nvPut_ports (s : State) (j : NvJob) (a : Nat) (bs : List Byte) : (s.nvPut j a bs).ports = s.ports := rfl
@[simp] theorem State.nvPut_fab (s : State) (j : NvJob) (a : Nat) (bs : List Byte) : (s.nvPut j a bs).fab = s.fab := rfl
@[simp] theorem State.nvPut_sweep (s : State) (j : NvJob) (a : Nat) (bs : List Byte) : (s.nvPut j a bs).sweep = s.sweep := rfl
@[simp] theorem State.nvPut_snap (s : State) (j : NvJob) (a : Nat) (bs : List Byte) : (s.nvPut j a bs).snap = s.snap := rfl
@[simp] theorem State.nvPut_plc (s : State) (j : NvJob) (a : Nat) (bs : List Byte) : (s.nvPut j a bs).plc = s.plc := rfl
@[simp] theorem State.nvPut_therm (s : State) (j : NvJob) (a : Nat) (bs : List Byte) : (s.nvPut j a bs).therm = s.therm := rfl
@[simp] theorem State.nvPut_safe (s : State) (j : NvJob) (a : Nat) (bs : List Byte) : (s.nvPut j a bs).safe = s.safe := rfl
@[simp] theorem State.nvPut_chis (s : State) (j : NvJob) (a : Nat) (bs : List Byte) : (s.nvPut j a bs).chis = s.chis := rfl
@[simp] theorem State.nvPut_pins (s : State) (j : NvJob) (a : Nat) (bs : List Byte) : (s.nvPut j a bs).pins = s.pins := rfl
@[simp] theorem State.nvPut_serial (s : State) (j : NvJob) (a : Nat) (bs : List Byte) : (s.nvPut j a bs).serial = s.serial := rfl
@[simp] theorem State.nvPut_free (s : State) (j : NvJob) (a : Nat) (bs : List Byte) : (s.nvPut j a bs).free = s.free := rfl
@[simp] theorem State.nvPut_pending (s : State) (j : NvJob) (a : Nat) (bs : List Byte) : (s.nvPut j a bs).pending = s.pending := rfl

@[simp] theorem State.ringPut_clk (s : State) (ws : List Word) (n : Nat) : (s.ringPut ws n).clk = s.clk := by
  simp [State.ringPut]
@[simp] theorem State.ringPut_pwr (s : State) (ws : List Word) (n : Nat) : (s.ringPut ws n).pwr = s.pwr := by
  simp [State.ringPut]
@[simp] theorem State.ringPut_par (s : State) (ws : List Word) (n : Nat) : (s.ringPut ws n).par = s.par := by
  simp [State.ringPut]
@[simp] theorem State.ringPut_ev (s : State) (ws : List Word) (n : Nat) : (s.ringPut ws n).ev = s.ev := by
  simp [State.ringPut]
@[simp] theorem State.ringPut_nv (s : State) (ws : List Word) (n : Nat) : (s.ringPut ws n).nv = s.nv := by
  simp [State.ringPut]
@[simp] theorem State.ringPut_sense (s : State) (ws : List Word) (n : Nat) : (s.ringPut ws n).sense = s.sense := by
  simp [State.ringPut]
@[simp] theorem State.ringPut_conv (s : State) (ws : List Word) (n : Nat) : (s.ringPut ws n).conv = s.conv := by
  simp [State.ringPut]
@[simp] theorem State.ringPut_seq (s : State) (ws : List Word) (n : Nat) : (s.ringPut ws n).seq = s.seq := by
  simp [State.ringPut]
@[simp] theorem State.ringPut_pat (s : State) (ws : List Word) (n : Nat) : (s.ringPut ws n).pat = s.pat := by
  simp [State.ringPut]
@[simp] theorem State.ringPut_imp (s : State) (ws : List Word) (n : Nat) : (s.ringPut ws n).imp = s.imp := by
  simp [State.ringPut]
@[simp] theorem State.ringPut_bal (s : State) (ws : List Word) (n : Nat) : (s.ringPut ws n).bal = s.bal := by
  simp [State.ringPut]
@[simp] theorem State.ringPut_tmr (s : State) (ws : List Word) (n : Nat) : (s.ringPut ws n).tmr = s.tmr := by
  simp [State.ringPut]
@[simp] theorem State.ringPut_ports (s : State) (ws : List Word) (n : Nat) : (s.ringPut ws n).ports = s.ports := by
  simp [State.ringPut]
@[simp] theorem State.ringPut_fab (s : State) (ws : List Word) (n : Nat) : (s.ringPut ws n).fab = s.fab := by
  simp [State.ringPut]
@[simp] theorem State.ringPut_sweep (s : State) (ws : List Word) (n : Nat) : (s.ringPut ws n).sweep = s.sweep := by
  simp [State.ringPut]
@[simp] theorem State.ringPut_snap (s : State) (ws : List Word) (n : Nat) : (s.ringPut ws n).snap = s.snap := by
  simp [State.ringPut]
@[simp] theorem State.ringPut_plc (s : State) (ws : List Word) (n : Nat) : (s.ringPut ws n).plc = s.plc := by
  simp [State.ringPut]
@[simp] theorem State.ringPut_therm (s : State) (ws : List Word) (n : Nat) : (s.ringPut ws n).therm = s.therm := by
  simp [State.ringPut]
@[simp] theorem State.ringPut_safe (s : State) (ws : List Word) (n : Nat) : (s.ringPut ws n).safe = s.safe := by
  simp [State.ringPut]
@[simp] theorem State.ringPut_chis (s : State) (ws : List Word) (n : Nat) : (s.ringPut ws n).chis = s.chis := by
  simp [State.ringPut]
@[simp] theorem State.ringPut_pins (s : State) (ws : List Word) (n : Nat) : (s.ringPut ws n).pins = s.pins := by
  simp [State.ringPut]
@[simp] theorem State.ringPut_serial (s : State) (ws : List Word) (n : Nat) : (s.ringPut ws n).serial = s.serial := by
  simp [State.ringPut]
@[simp] theorem State.ringPut_free (s : State) (ws : List Word) (n : Nat) : (s.ringPut ws n).free = s.free := by
  simp [State.ringPut]
@[simp] theorem State.ringPut_pending (s : State) (ws : List Word) (n : Nat) : (s.ringPut ws n).pending = s.pending := by
  simp [State.ringPut]

@[simp] theorem State.evDiscard_clk (s : State) (b : Bool) : (s.evDiscard b).clk = s.clk := by
  simp [State.evDiscard]
@[simp] theorem State.evDiscard_pwr (s : State) (b : Bool) : (s.evDiscard b).pwr = s.pwr := by
  simp [State.evDiscard]
@[simp] theorem State.evDiscard_mem (s : State) (b : Bool) : (s.evDiscard b).mem = s.mem := by
  simp [State.evDiscard]
@[simp] theorem State.evDiscard_host (s : State) (b : Bool) : (s.evDiscard b).host = s.host := by
  simp [State.evDiscard]
@[simp] theorem State.evDiscard_nv (s : State) (b : Bool) : (s.evDiscard b).nv = s.nv := by
  simp [State.evDiscard]
@[simp] theorem State.evDiscard_sense (s : State) (b : Bool) : (s.evDiscard b).sense = s.sense := by
  simp [State.evDiscard]
@[simp] theorem State.evDiscard_conv (s : State) (b : Bool) : (s.evDiscard b).conv = s.conv := by
  simp [State.evDiscard]
@[simp] theorem State.evDiscard_seq (s : State) (b : Bool) : (s.evDiscard b).seq = s.seq := by
  simp [State.evDiscard]
@[simp] theorem State.evDiscard_pat (s : State) (b : Bool) : (s.evDiscard b).pat = s.pat := by
  simp [State.evDiscard]
@[simp] theorem State.evDiscard_imp (s : State) (b : Bool) : (s.evDiscard b).imp = s.imp := by
  simp [State.evDiscard]
@[simp] theorem State.evDiscard_bal (s : State) (b : Bool) : (s.evDiscard b).bal = s.bal := by
  simp [State.evDiscard]
@[simp] theorem State.evDiscard_tmr (s : State) (b : Bool) : (s.evDiscard b).tmr = s.tmr := by
  simp [State.evDiscard]
@[simp] theorem State.evDiscard_ports (s : State) (b : Bool) : (s.evDiscard b).ports = s.ports := by
  simp [State.evDiscard]
@[simp] theorem State.evDiscard_fab (s : State) (b : Bool) : (s.evDiscard b).fab = s.fab := by
  simp [State.evDiscard]
@[simp] theorem State.evDiscard_sweep (s : State) (b : Bool) : (s.evDiscard b).sweep = s.sweep := by
  simp [State.evDiscard]
@[simp] theorem State.evDiscard_snap (s : State) (b : Bool) : (s.evDiscard b).snap = s.snap := by
  simp [State.evDiscard]
@[simp] theorem State.evDiscard_plc (s : State) (b : Bool) : (s.evDiscard b).plc = s.plc := by
  simp [State.evDiscard]
@[simp] theorem State.evDiscard_therm (s : State) (b : Bool) : (s.evDiscard b).therm = s.therm := by
  simp [State.evDiscard]
@[simp] theorem State.evDiscard_safe (s : State) (b : Bool) : (s.evDiscard b).safe = s.safe := by
  simp [State.evDiscard]
@[simp] theorem State.evDiscard_chis (s : State) (b : Bool) : (s.evDiscard b).chis = s.chis := by
  simp [State.evDiscard]
@[simp] theorem State.evDiscard_pins (s : State) (b : Bool) : (s.evDiscard b).pins = s.pins := by
  simp [State.evDiscard]
@[simp] theorem State.evDiscard_serial (s : State) (b : Bool) : (s.evDiscard b).serial = s.serial := by
  simp [State.evDiscard]
@[simp] theorem State.evDiscard_free (s : State) (b : Bool) : (s.evDiscard b).free = s.free := by
  simp [State.evDiscard]
@[simp] theorem State.evDiscard_pending (s : State) (b : Bool) : (s.evDiscard b).pending = s.pending := by
  simp [State.evDiscard]

@[simp] theorem State.ringAdd_clk (s : State) (ws : List Word) (n : Nat) : (s.ringAdd ws n).clk = s.clk := by
  unfold State.ringAdd; split <;> simp
@[simp] theorem State.ringAdd_pwr (s : State) (ws : List Word) (n : Nat) : (s.ringAdd ws n).pwr = s.pwr := by
  unfold State.ringAdd; split <;> simp
@[simp] theorem State.ringAdd_nv (s : State) (ws : List Word) (n : Nat) : (s.ringAdd ws n).nv = s.nv := by
  unfold State.ringAdd; split <;> simp
@[simp] theorem State.ringAdd_sense (s : State) (ws : List Word) (n : Nat) : (s.ringAdd ws n).sense = s.sense := by
  unfold State.ringAdd; split <;> simp
@[simp] theorem State.ringAdd_conv (s : State) (ws : List Word) (n : Nat) : (s.ringAdd ws n).conv = s.conv := by
  unfold State.ringAdd; split <;> simp
@[simp] theorem State.ringAdd_seq (s : State) (ws : List Word) (n : Nat) : (s.ringAdd ws n).seq = s.seq := by
  unfold State.ringAdd; split <;> simp
@[simp] theorem State.ringAdd_pat (s : State) (ws : List Word) (n : Nat) : (s.ringAdd ws n).pat = s.pat := by
  unfold State.ringAdd; split <;> simp
@[simp] theorem State.ringAdd_imp (s : State) (ws : List Word) (n : Nat) : (s.ringAdd ws n).imp = s.imp := by
  unfold State.ringAdd; split <;> simp
@[simp] theorem State.ringAdd_bal (s : State) (ws : List Word) (n : Nat) : (s.ringAdd ws n).bal = s.bal := by
  unfold State.ringAdd; split <;> simp
@[simp] theorem State.ringAdd_tmr (s : State) (ws : List Word) (n : Nat) : (s.ringAdd ws n).tmr = s.tmr := by
  unfold State.ringAdd; split <;> simp
@[simp] theorem State.ringAdd_ports (s : State) (ws : List Word) (n : Nat) : (s.ringAdd ws n).ports = s.ports := by
  unfold State.ringAdd; split <;> simp
@[simp] theorem State.ringAdd_fab (s : State) (ws : List Word) (n : Nat) : (s.ringAdd ws n).fab = s.fab := by
  unfold State.ringAdd; split <;> simp
@[simp] theorem State.ringAdd_sweep (s : State) (ws : List Word) (n : Nat) : (s.ringAdd ws n).sweep = s.sweep := by
  unfold State.ringAdd; split <;> simp
@[simp] theorem State.ringAdd_snap (s : State) (ws : List Word) (n : Nat) : (s.ringAdd ws n).snap = s.snap := by
  unfold State.ringAdd; split <;> simp
@[simp] theorem State.ringAdd_plc (s : State) (ws : List Word) (n : Nat) : (s.ringAdd ws n).plc = s.plc := by
  unfold State.ringAdd; split <;> simp
@[simp] theorem State.ringAdd_therm (s : State) (ws : List Word) (n : Nat) : (s.ringAdd ws n).therm = s.therm := by
  unfold State.ringAdd; split <;> simp
@[simp] theorem State.ringAdd_safe (s : State) (ws : List Word) (n : Nat) : (s.ringAdd ws n).safe = s.safe := by
  unfold State.ringAdd; split <;> simp
@[simp] theorem State.ringAdd_chis (s : State) (ws : List Word) (n : Nat) : (s.ringAdd ws n).chis = s.chis := by
  unfold State.ringAdd; split <;> simp
@[simp] theorem State.ringAdd_pins (s : State) (ws : List Word) (n : Nat) : (s.ringAdd ws n).pins = s.pins := by
  unfold State.ringAdd; split <;> simp
@[simp] theorem State.ringAdd_serial (s : State) (ws : List Word) (n : Nat) : (s.ringAdd ws n).serial = s.serial := by
  unfold State.ringAdd; split <;> simp
@[simp] theorem State.ringAdd_free (s : State) (ws : List Word) (n : Nat) : (s.ringAdd ws n).free = s.free := by
  unfold State.ringAdd; split <;> simp
@[simp] theorem State.ringAdd_pending (s : State) (ws : List Word) (n : Nat) : (s.ringAdd ws n).pending = s.pending := by
  unfold State.ringAdd; split <;> simp

@[simp] theorem State.evForward_clk (s : State) (e : EvEntry) : (s.evForward e).clk = s.clk := by
  unfold State.evForward; split
  · apply foldl_keeps State.clk
    intro s x
    simp
  · rfl
@[simp] theorem State.evForward_pwr (s : State) (e : EvEntry) : (s.evForward e).pwr = s.pwr := by
  unfold State.evForward; split
  · apply foldl_keeps State.pwr
    intro s x
    simp
  · rfl
@[simp] theorem State.evForward_mem (s : State) (e : EvEntry) : (s.evForward e).mem = s.mem := by
  unfold State.evForward; split
  · apply foldl_keeps State.mem
    intro s x
    simp
  · rfl
@[simp] theorem State.evForward_host (s : State) (e : EvEntry) : (s.evForward e).host = s.host := by
  unfold State.evForward; split
  · apply foldl_keeps State.host
    intro s x
    simp
  · rfl
@[simp] theorem State.evForward_ev (s : State) (e : EvEntry) : (s.evForward e).ev = s.ev := by
  unfold State.evForward; split
  · apply foldl_keeps State.ev
    intro s x
    simp
  · rfl
@[simp] theorem State.evForward_nv (s : State) (e : EvEntry) : (s.evForward e).nv = s.nv := by
  unfold State.evForward; split
  · apply foldl_keeps State.nv
    intro s x
    simp
  · rfl
@[simp] theorem State.evForward_sense (s : State) (e : EvEntry) : (s.evForward e).sense = s.sense := by
  unfold State.evForward; split
  · apply foldl_keeps State.sense
    intro s x
    simp
  · rfl
@[simp] theorem State.evForward_conv (s : State) (e : EvEntry) : (s.evForward e).conv = s.conv := by
  unfold State.evForward; split
  · apply foldl_keeps State.conv
    intro s x
    simp
  · rfl
@[simp] theorem State.evForward_seq (s : State) (e : EvEntry) : (s.evForward e).seq = s.seq := by
  unfold State.evForward; split
  · apply foldl_keeps State.seq
    intro s x
    simp
  · rfl
@[simp] theorem State.evForward_pat (s : State) (e : EvEntry) : (s.evForward e).pat = s.pat := by
  unfold State.evForward; split
  · apply foldl_keeps State.pat
    intro s x
    simp
  · rfl
@[simp] theorem State.evForward_imp (s : State) (e : EvEntry) : (s.evForward e).imp = s.imp := by
  unfold State.evForward; split
  · apply foldl_keeps State.imp
    intro s x
    simp
  · rfl
@[simp] theorem State.evForward_bal (s : State) (e : EvEntry) : (s.evForward e).bal = s.bal := by
  unfold State.evForward; split
  · apply foldl_keeps State.bal
    intro s x
    simp
  · rfl
@[simp] theorem State.evForward_tmr (s : State) (e : EvEntry) : (s.evForward e).tmr = s.tmr := by
  unfold State.evForward; split
  · apply foldl_keeps State.tmr
    intro s x
    simp
  · rfl
@[simp] theorem State.evForward_sweep (s : State) (e : EvEntry) : (s.evForward e).sweep = s.sweep := by
  unfold State.evForward; split
  · apply foldl_keeps State.sweep
    intro s x
    simp
  · rfl
@[simp] theorem State.evForward_snap (s : State) (e : EvEntry) : (s.evForward e).snap = s.snap := by
  unfold State.evForward; split
  · apply foldl_keeps State.snap
    intro s x
    simp
  · rfl
@[simp] theorem State.evForward_plc (s : State) (e : EvEntry) : (s.evForward e).plc = s.plc := by
  unfold State.evForward; split
  · apply foldl_keeps State.plc
    intro s x
    simp
  · rfl
@[simp] theorem State.evForward_therm (s : State) (e : EvEntry) : (s.evForward e).therm = s.therm := by
  unfold State.evForward; split
  · apply foldl_keeps State.therm
    intro s x
    simp
  · rfl
@[simp] theorem State.evForward_safe (s : State) (e : EvEntry) : (s.evForward e).safe = s.safe := by
  unfold State.evForward; split
  · apply foldl_keeps State.safe
    intro s x
    simp
  · rfl
@[simp] theorem State.evForward_chis (s : State) (e : EvEntry) : (s.evForward e).chis = s.chis := by
  unfold State.evForward; split
  · apply foldl_keeps State.chis
    intro s x
    simp
  · rfl
@[simp] theorem State.evForward_pins (s : State) (e : EvEntry) : (s.evForward e).pins = s.pins := by
  unfold State.evForward; split
  · apply foldl_keeps State.pins
    intro s x
    simp
  · rfl
@[simp] theorem State.evForward_serial (s : State) (e : EvEntry) : (s.evForward e).serial = s.serial := by
  unfold State.evForward; split
  · apply foldl_keeps State.serial
    intro s x
    simp
  · rfl
@[simp] theorem State.evForward_free (s : State) (e : EvEntry) : (s.evForward e).free = s.free := by
  unfold State.evForward; split
  · apply foldl_keeps State.free
    intro s x
    simp
  · rfl
@[simp] theorem State.evForward_pending (s : State) (e : EvEntry) : (s.evForward e).pending = s.pending := by
  unfold State.evForward; split
  · apply foldl_keeps State.pending
    intro s x
    simp
  · rfl

@[simp] theorem State.evPlace_clk (s : State) (e : EvEntry) : (s.evPlace e).clk = s.clk := by
  unfold State.evPlace; split <;> simp
@[simp] theorem State.evPlace_pwr (s : State) (e : EvEntry) : (s.evPlace e).pwr = s.pwr := by
  unfold State.evPlace; split <;> simp
@[simp] theorem State.evPlace_nv (s : State) (e : EvEntry) : (s.evPlace e).nv = s.nv := by
  unfold State.evPlace; split <;> simp
@[simp] theorem State.evPlace_sense (s : State) (e : EvEntry) : (s.evPlace e).sense = s.sense := by
  unfold State.evPlace; split <;> simp
@[simp] theorem State.evPlace_conv (s : State) (e : EvEntry) : (s.evPlace e).conv = s.conv := by
  unfold State.evPlace; split <;> simp
@[simp] theorem State.evPlace_seq (s : State) (e : EvEntry) : (s.evPlace e).seq = s.seq := by
  unfold State.evPlace; split <;> simp
@[simp] theorem State.evPlace_pat (s : State) (e : EvEntry) : (s.evPlace e).pat = s.pat := by
  unfold State.evPlace; split <;> simp
@[simp] theorem State.evPlace_imp (s : State) (e : EvEntry) : (s.evPlace e).imp = s.imp := by
  unfold State.evPlace; split <;> simp
@[simp] theorem State.evPlace_bal (s : State) (e : EvEntry) : (s.evPlace e).bal = s.bal := by
  unfold State.evPlace; split <;> simp
@[simp] theorem State.evPlace_tmr (s : State) (e : EvEntry) : (s.evPlace e).tmr = s.tmr := by
  unfold State.evPlace; split <;> simp
@[simp] theorem State.evPlace_sweep (s : State) (e : EvEntry) : (s.evPlace e).sweep = s.sweep := by
  unfold State.evPlace; split <;> simp
@[simp] theorem State.evPlace_snap (s : State) (e : EvEntry) : (s.evPlace e).snap = s.snap := by
  unfold State.evPlace; split <;> simp
@[simp] theorem State.evPlace_plc (s : State) (e : EvEntry) : (s.evPlace e).plc = s.plc := by
  unfold State.evPlace; split <;> simp
@[simp] theorem State.evPlace_therm (s : State) (e : EvEntry) : (s.evPlace e).therm = s.therm := by
  unfold State.evPlace; split <;> simp
@[simp] theorem State.evPlace_safe (s : State) (e : EvEntry) : (s.evPlace e).safe = s.safe := by
  unfold State.evPlace; split <;> simp
@[simp] theorem State.evPlace_chis (s : State) (e : EvEntry) : (s.evPlace e).chis = s.chis := by
  unfold State.evPlace; split <;> simp
@[simp] theorem State.evPlace_pins (s : State) (e : EvEntry) : (s.evPlace e).pins = s.pins := by
  unfold State.evPlace; split <;> simp
@[simp] theorem State.evPlace_serial (s : State) (e : EvEntry) : (s.evPlace e).serial = s.serial := by
  unfold State.evPlace; split <;> simp
@[simp] theorem State.evPlace_free (s : State) (e : EvEntry) : (s.evPlace e).free = s.free := by
  unfold State.evPlace; split <;> simp
@[simp] theorem State.evPlace_pending (s : State) (e : EvEntry) : (s.evPlace e).pending = s.pending := by
  unfold State.evPlace; split <;> simp

@[simp] theorem State.logPut_clk (s : State) (e : EvEntry) : (s.logPut e).clk = s.clk := by
  unfold State.logPut; dsimp only; repeat' split
  all_goals simp
@[simp] theorem State.logPut_pwr (s : State) (e : EvEntry) : (s.logPut e).pwr = s.pwr := by
  unfold State.logPut; dsimp only; repeat' split
  all_goals simp
@[simp] theorem State.logPut_sense (s : State) (e : EvEntry) : (s.logPut e).sense = s.sense := by
  unfold State.logPut; dsimp only; repeat' split
  all_goals simp
@[simp] theorem State.logPut_conv (s : State) (e : EvEntry) : (s.logPut e).conv = s.conv := by
  unfold State.logPut; dsimp only; repeat' split
  all_goals simp
@[simp] theorem State.logPut_seq (s : State) (e : EvEntry) : (s.logPut e).seq = s.seq := by
  unfold State.logPut; dsimp only; repeat' split
  all_goals simp
@[simp] theorem State.logPut_pat (s : State) (e : EvEntry) : (s.logPut e).pat = s.pat := by
  unfold State.logPut; dsimp only; repeat' split
  all_goals simp
@[simp] theorem State.logPut_imp (s : State) (e : EvEntry) : (s.logPut e).imp = s.imp := by
  unfold State.logPut; dsimp only; repeat' split
  all_goals simp
@[simp] theorem State.logPut_bal (s : State) (e : EvEntry) : (s.logPut e).bal = s.bal := by
  unfold State.logPut; dsimp only; repeat' split
  all_goals simp
@[simp] theorem State.logPut_tmr (s : State) (e : EvEntry) : (s.logPut e).tmr = s.tmr := by
  unfold State.logPut; dsimp only; repeat' split
  all_goals simp
@[simp] theorem State.logPut_sweep (s : State) (e : EvEntry) : (s.logPut e).sweep = s.sweep := by
  unfold State.logPut; dsimp only; repeat' split
  all_goals simp
@[simp] theorem State.logPut_snap (s : State) (e : EvEntry) : (s.logPut e).snap = s.snap := by
  unfold State.logPut; dsimp only; repeat' split
  all_goals simp
@[simp] theorem State.logPut_plc (s : State) (e : EvEntry) : (s.logPut e).plc = s.plc := by
  unfold State.logPut; dsimp only; repeat' split
  all_goals simp
@[simp] theorem State.logPut_therm (s : State) (e : EvEntry) : (s.logPut e).therm = s.therm := by
  unfold State.logPut; dsimp only; repeat' split
  all_goals simp
@[simp] theorem State.logPut_safe (s : State) (e : EvEntry) : (s.logPut e).safe = s.safe := by
  unfold State.logPut; dsimp only; repeat' split
  all_goals simp
@[simp] theorem State.logPut_chis (s : State) (e : EvEntry) : (s.logPut e).chis = s.chis := by
  unfold State.logPut; dsimp only; repeat' split
  all_goals simp
@[simp] theorem State.logPut_pins (s : State) (e : EvEntry) : (s.logPut e).pins = s.pins := by
  unfold State.logPut; dsimp only; repeat' split
  all_goals simp
@[simp] theorem State.logPut_serial (s : State) (e : EvEntry) : (s.logPut e).serial = s.serial := by
  unfold State.logPut; dsimp only; repeat' split
  all_goals simp
@[simp] theorem State.logPut_free (s : State) (e : EvEntry) : (s.logPut e).free = s.free := by
  unfold State.logPut; dsimp only; repeat' split
  all_goals simp
@[simp] theorem State.logPut_pending (s : State) (e : EvEntry) : (s.logPut e).pending = s.pending := by
  unfold State.logPut; dsimp only; repeat' split
  all_goals simp

@[simp] theorem State.triggers_clk (s : State) (n : Nat) : (s.triggers n).clk = s.clk := by
  unfold State.triggers; dsimp only; repeat' split
  all_goals rfl
@[simp] theorem State.triggers_pwr (s : State) (n : Nat) : (s.triggers n).pwr = s.pwr := by
  unfold State.triggers; dsimp only; repeat' split
  all_goals rfl
@[simp] theorem State.triggers_par (s : State) (n : Nat) : (s.triggers n).par = s.par := by
  unfold State.triggers; dsimp only; repeat' split
  all_goals rfl
@[simp] theorem State.triggers_mem (s : State) (n : Nat) : (s.triggers n).mem = s.mem := by
  unfold State.triggers; dsimp only; repeat' split
  all_goals rfl
@[simp] theorem State.triggers_host (s : State) (n : Nat) : (s.triggers n).host = s.host := by
  unfold State.triggers; dsimp only; repeat' split
  all_goals rfl
@[simp] theorem State.triggers_ev (s : State) (n : Nat) : (s.triggers n).ev = s.ev := by
  unfold State.triggers; dsimp only; repeat' split
  all_goals rfl
@[simp] theorem State.triggers_nv (s : State) (n : Nat) : (s.triggers n).nv = s.nv := by
  unfold State.triggers; dsimp only; repeat' split
  all_goals rfl
@[simp] theorem State.triggers_sense (s : State) (n : Nat) : (s.triggers n).sense = s.sense := by
  unfold State.triggers; dsimp only; repeat' split
  all_goals rfl
@[simp] theorem State.triggers_conv (s : State) (n : Nat) : (s.triggers n).conv = s.conv := by
  unfold State.triggers; dsimp only; repeat' split
  all_goals rfl
@[simp] theorem State.triggers_seq (s : State) (n : Nat) : (s.triggers n).seq = s.seq := by
  unfold State.triggers; dsimp only; repeat' split
  all_goals rfl
@[simp] theorem State.triggers_pat (s : State) (n : Nat) : (s.triggers n).pat = s.pat := by
  unfold State.triggers; dsimp only; repeat' split
  all_goals rfl
@[simp] theorem State.triggers_imp (s : State) (n : Nat) : (s.triggers n).imp = s.imp := by
  unfold State.triggers; dsimp only; repeat' split
  all_goals rfl
@[simp] theorem State.triggers_bal (s : State) (n : Nat) : (s.triggers n).bal = s.bal := by
  unfold State.triggers; dsimp only; repeat' split
  all_goals rfl
@[simp] theorem State.triggers_tmr (s : State) (n : Nat) : (s.triggers n).tmr = s.tmr := by
  unfold State.triggers; dsimp only; repeat' split
  all_goals rfl
@[simp] theorem State.triggers_ports (s : State) (n : Nat) : (s.triggers n).ports = s.ports := by
  unfold State.triggers; dsimp only; repeat' split
  all_goals rfl
@[simp] theorem State.triggers_fab (s : State) (n : Nat) : (s.triggers n).fab = s.fab := by
  unfold State.triggers; dsimp only; repeat' split
  all_goals rfl
@[simp] theorem State.triggers_sweep (s : State) (n : Nat) : (s.triggers n).sweep = s.sweep := by
  unfold State.triggers; dsimp only; repeat' split
  all_goals rfl
@[simp] theorem State.triggers_plc (s : State) (n : Nat) : (s.triggers n).plc = s.plc := by
  unfold State.triggers; dsimp only; repeat' split
  all_goals rfl
@[simp] theorem State.triggers_therm (s : State) (n : Nat) : (s.triggers n).therm = s.therm := by
  unfold State.triggers; dsimp only; repeat' split
  all_goals rfl
@[simp] theorem State.triggers_safe (s : State) (n : Nat) : (s.triggers n).safe = s.safe := by
  unfold State.triggers; dsimp only; repeat' split
  all_goals rfl
@[simp] theorem State.triggers_chis (s : State) (n : Nat) : (s.triggers n).chis = s.chis := by
  unfold State.triggers; dsimp only; repeat' split
  all_goals rfl
@[simp] theorem State.triggers_pins (s : State) (n : Nat) : (s.triggers n).pins = s.pins := by
  unfold State.triggers; dsimp only; repeat' split
  all_goals rfl
@[simp] theorem State.triggers_serial (s : State) (n : Nat) : (s.triggers n).serial = s.serial := by
  unfold State.triggers; dsimp only; repeat' split
  all_goals rfl
@[simp] theorem State.triggers_free (s : State) (n : Nat) : (s.triggers n).free = s.free := by
  unfold State.triggers; dsimp only; repeat' split
  all_goals rfl
@[simp] theorem State.triggers_pending (s : State) (n : Nat) : (s.triggers n).pending = s.pending := by
  unfold State.triggers; dsimp only; repeat' split
  all_goals rfl

@[simp] theorem State.raiseC_clk (s : State) (n : Nat) (d : Word) (c : Bool) : (s.raiseC n d c).clk = s.clk := by
  unfold State.raiseC; dsimp only; repeat' split
  all_goals simp
@[simp] theorem State.raiseC_pwr (s : State) (n : Nat) (d : Word) (c : Bool) : (s.raiseC n d c).pwr = s.pwr := by
  unfold State.raiseC; dsimp only; repeat' split
  all_goals simp
@[simp] theorem State.raiseC_sense (s : State) (n : Nat) (d : Word) (c : Bool) : (s.raiseC n d c).sense = s.sense := by
  unfold State.raiseC; dsimp only; repeat' split
  all_goals simp
@[simp] theorem State.raiseC_conv (s : State) (n : Nat) (d : Word) (c : Bool) : (s.raiseC n d c).conv = s.conv := by
  unfold State.raiseC; dsimp only; repeat' split
  all_goals simp
@[simp] theorem State.raiseC_seq (s : State) (n : Nat) (d : Word) (c : Bool) : (s.raiseC n d c).seq = s.seq := by
  unfold State.raiseC; dsimp only; repeat' split
  all_goals simp
@[simp] theorem State.raiseC_pat (s : State) (n : Nat) (d : Word) (c : Bool) : (s.raiseC n d c).pat = s.pat := by
  unfold State.raiseC; dsimp only; repeat' split
  all_goals simp
@[simp] theorem State.raiseC_imp (s : State) (n : Nat) (d : Word) (c : Bool) : (s.raiseC n d c).imp = s.imp := by
  unfold State.raiseC; dsimp only; repeat' split
  all_goals simp
@[simp] theorem State.raiseC_bal (s : State) (n : Nat) (d : Word) (c : Bool) : (s.raiseC n d c).bal = s.bal := by
  unfold State.raiseC; dsimp only; repeat' split
  all_goals simp
@[simp] theorem State.raiseC_tmr (s : State) (n : Nat) (d : Word) (c : Bool) : (s.raiseC n d c).tmr = s.tmr := by
  unfold State.raiseC; dsimp only; repeat' split
  all_goals simp
@[simp] theorem State.raiseC_sweep (s : State) (n : Nat) (d : Word) (c : Bool) : (s.raiseC n d c).sweep = s.sweep := by
  unfold State.raiseC; dsimp only; repeat' split
  all_goals simp
@[simp] theorem State.raiseC_plc (s : State) (n : Nat) (d : Word) (c : Bool) : (s.raiseC n d c).plc = s.plc := by
  unfold State.raiseC; dsimp only; repeat' split
  all_goals simp
@[simp] theorem State.raiseC_therm (s : State) (n : Nat) (d : Word) (c : Bool) : (s.raiseC n d c).therm = s.therm := by
  unfold State.raiseC; dsimp only; repeat' split
  all_goals simp
@[simp] theorem State.raiseC_safe (s : State) (n : Nat) (d : Word) (c : Bool) : (s.raiseC n d c).safe = s.safe := by
  unfold State.raiseC; dsimp only; repeat' split
  all_goals simp
@[simp] theorem State.raiseC_chis (s : State) (n : Nat) (d : Word) (c : Bool) : (s.raiseC n d c).chis = s.chis := by
  unfold State.raiseC; dsimp only; repeat' split
  all_goals simp
@[simp] theorem State.raiseC_pins (s : State) (n : Nat) (d : Word) (c : Bool) : (s.raiseC n d c).pins = s.pins := by
  unfold State.raiseC; dsimp only; repeat' split
  all_goals simp
@[simp] theorem State.raiseC_serial (s : State) (n : Nat) (d : Word) (c : Bool) : (s.raiseC n d c).serial = s.serial := by
  unfold State.raiseC; dsimp only; repeat' split
  all_goals simp
@[simp] theorem State.raiseC_free (s : State) (n : Nat) (d : Word) (c : Bool) : (s.raiseC n d c).free = s.free := by
  unfold State.raiseC; dsimp only; repeat' split
  all_goals simp
@[simp] theorem State.raiseC_pending (s : State) (n : Nat) (d : Word) (c : Bool) : (s.raiseC n d c).pending = s.pending := by
  unfold State.raiseC; dsimp only; repeat' split
  all_goals simp

@[simp] theorem State.raise_clk (s : State) (n : Nat) (d : Word) : (s.raise n d).clk = s.clk := by simp [State.raise]
@[simp] theorem State.raise_pwr (s : State) (n : Nat) (d : Word) : (s.raise n d).pwr = s.pwr := by simp [State.raise]
@[simp] theorem State.raise_sense (s : State) (n : Nat) (d : Word) : (s.raise n d).sense = s.sense := by simp [State.raise]
@[simp] theorem State.raise_conv (s : State) (n : Nat) (d : Word) : (s.raise n d).conv = s.conv := by simp [State.raise]
@[simp] theorem State.raise_seq (s : State) (n : Nat) (d : Word) : (s.raise n d).seq = s.seq := by simp [State.raise]
@[simp] theorem State.raise_pat (s : State) (n : Nat) (d : Word) : (s.raise n d).pat = s.pat := by simp [State.raise]
@[simp] theorem State.raise_imp (s : State) (n : Nat) (d : Word) : (s.raise n d).imp = s.imp := by simp [State.raise]
@[simp] theorem State.raise_bal (s : State) (n : Nat) (d : Word) : (s.raise n d).bal = s.bal := by simp [State.raise]
@[simp] theorem State.raise_tmr (s : State) (n : Nat) (d : Word) : (s.raise n d).tmr = s.tmr := by simp [State.raise]
@[simp] theorem State.raise_sweep (s : State) (n : Nat) (d : Word) : (s.raise n d).sweep = s.sweep := by simp [State.raise]
@[simp] theorem State.raise_plc (s : State) (n : Nat) (d : Word) : (s.raise n d).plc = s.plc := by simp [State.raise]
@[simp] theorem State.raise_therm (s : State) (n : Nat) (d : Word) : (s.raise n d).therm = s.therm := by simp [State.raise]
@[simp] theorem State.raise_safe (s : State) (n : Nat) (d : Word) : (s.raise n d).safe = s.safe := by simp [State.raise]
@[simp] theorem State.raise_chis (s : State) (n : Nat) (d : Word) : (s.raise n d).chis = s.chis := by simp [State.raise]
@[simp] theorem State.raise_pins (s : State) (n : Nat) (d : Word) : (s.raise n d).pins = s.pins := by simp [State.raise]
@[simp] theorem State.raise_serial (s : State) (n : Nat) (d : Word) : (s.raise n d).serial = s.serial := by simp [State.raise]
@[simp] theorem State.raise_free (s : State) (n : Nat) (d : Word) : (s.raise n d).free = s.free := by simp [State.raise]
@[simp] theorem State.raise_pending (s : State) (n : Nat) (d : Word) : (s.raise n d).pending = s.pending := by simp [State.raise]

@[simp] theorem State.ringOverflow_clk (s : State) : (s.ringOverflow).clk = s.clk := by simp [State.ringOverflow]
@[simp] theorem State.ringOverflow_pwr (s : State) : (s.ringOverflow).pwr = s.pwr := by simp [State.ringOverflow]
@[simp] theorem State.ringOverflow_nv (s : State) : (s.ringOverflow).nv = s.nv := by simp [State.ringOverflow]
@[simp] theorem State.ringOverflow_sense (s : State) : (s.ringOverflow).sense = s.sense := by simp [State.ringOverflow]
@[simp] theorem State.ringOverflow_conv (s : State) : (s.ringOverflow).conv = s.conv := by simp [State.ringOverflow]
@[simp] theorem State.ringOverflow_seq (s : State) : (s.ringOverflow).seq = s.seq := by simp [State.ringOverflow]
@[simp] theorem State.ringOverflow_pat (s : State) : (s.ringOverflow).pat = s.pat := by simp [State.ringOverflow]
@[simp] theorem State.ringOverflow_imp (s : State) : (s.ringOverflow).imp = s.imp := by simp [State.ringOverflow]
@[simp] theorem State.ringOverflow_bal (s : State) : (s.ringOverflow).bal = s.bal := by simp [State.ringOverflow]
@[simp] theorem State.ringOverflow_tmr (s : State) : (s.ringOverflow).tmr = s.tmr := by simp [State.ringOverflow]
@[simp] theorem State.ringOverflow_sweep (s : State) : (s.ringOverflow).sweep = s.sweep := by simp [State.ringOverflow]
@[simp] theorem State.ringOverflow_snap (s : State) : (s.ringOverflow).snap = s.snap := by simp [State.ringOverflow]
@[simp] theorem State.ringOverflow_plc (s : State) : (s.ringOverflow).plc = s.plc := by simp [State.ringOverflow]
@[simp] theorem State.ringOverflow_therm (s : State) : (s.ringOverflow).therm = s.therm := by simp [State.ringOverflow]
@[simp] theorem State.ringOverflow_safe (s : State) : (s.ringOverflow).safe = s.safe := by simp [State.ringOverflow]
@[simp] theorem State.ringOverflow_chis (s : State) : (s.ringOverflow).chis = s.chis := by simp [State.ringOverflow]
@[simp] theorem State.ringOverflow_pins (s : State) : (s.ringOverflow).pins = s.pins := by simp [State.ringOverflow]
@[simp] theorem State.ringOverflow_serial (s : State) : (s.ringOverflow).serial = s.serial := by simp [State.ringOverflow]
@[simp] theorem State.ringOverflow_free (s : State) : (s.ringOverflow).free = s.free := by simp [State.ringOverflow]
@[simp] theorem State.ringOverflow_pending (s : State) : (s.ringOverflow).pending = s.pending := by simp [State.ringOverflow]

@[simp] theorem State.raiseSlow_clk (s : State) (n u : Nat) (d : Word) : (s.raiseSlow n u d).clk = s.clk := by
  unfold State.raiseSlow; split <;> simp
@[simp] theorem State.raiseSlow_pwr (s : State) (n u : Nat) (d : Word) : (s.raiseSlow n u d).pwr = s.pwr := by
  unfold State.raiseSlow; split <;> simp
@[simp] theorem State.raiseSlow_sense (s : State) (n u : Nat) (d : Word) : (s.raiseSlow n u d).sense = s.sense := by
  unfold State.raiseSlow; split <;> simp
@[simp] theorem State.raiseSlow_conv (s : State) (n u : Nat) (d : Word) : (s.raiseSlow n u d).conv = s.conv := by
  unfold State.raiseSlow; split <;> simp
@[simp] theorem State.raiseSlow_seq (s : State) (n u : Nat) (d : Word) : (s.raiseSlow n u d).seq = s.seq := by
  unfold State.raiseSlow; split <;> simp
@[simp] theorem State.raiseSlow_pat (s : State) (n u : Nat) (d : Word) : (s.raiseSlow n u d).pat = s.pat := by
  unfold State.raiseSlow; split <;> simp
@[simp] theorem State.raiseSlow_imp (s : State) (n u : Nat) (d : Word) : (s.raiseSlow n u d).imp = s.imp := by
  unfold State.raiseSlow; split <;> simp
@[simp] theorem State.raiseSlow_bal (s : State) (n u : Nat) (d : Word) : (s.raiseSlow n u d).bal = s.bal := by
  unfold State.raiseSlow; split <;> simp
@[simp] theorem State.raiseSlow_tmr (s : State) (n u : Nat) (d : Word) : (s.raiseSlow n u d).tmr = s.tmr := by
  unfold State.raiseSlow; split <;> simp
@[simp] theorem State.raiseSlow_sweep (s : State) (n u : Nat) (d : Word) : (s.raiseSlow n u d).sweep = s.sweep := by
  unfold State.raiseSlow; split <;> simp
@[simp] theorem State.raiseSlow_plc (s : State) (n u : Nat) (d : Word) : (s.raiseSlow n u d).plc = s.plc := by
  unfold State.raiseSlow; split <;> simp
@[simp] theorem State.raiseSlow_therm (s : State) (n u : Nat) (d : Word) : (s.raiseSlow n u d).therm = s.therm := by
  unfold State.raiseSlow; split <;> simp
@[simp] theorem State.raiseSlow_safe (s : State) (n u : Nat) (d : Word) : (s.raiseSlow n u d).safe = s.safe := by
  unfold State.raiseSlow; split <;> simp
@[simp] theorem State.raiseSlow_chis (s : State) (n u : Nat) (d : Word) : (s.raiseSlow n u d).chis = s.chis := by
  unfold State.raiseSlow; split <;> simp
@[simp] theorem State.raiseSlow_pins (s : State) (n u : Nat) (d : Word) : (s.raiseSlow n u d).pins = s.pins := by
  unfold State.raiseSlow; split <;> simp
@[simp] theorem State.raiseSlow_serial (s : State) (n u : Nat) (d : Word) : (s.raiseSlow n u d).serial = s.serial := by
  unfold State.raiseSlow; split <;> simp
@[simp] theorem State.raiseSlow_free (s : State) (n u : Nat) (d : Word) : (s.raiseSlow n u d).free = s.free := by
  unfold State.raiseSlow; split <;> simp
@[simp] theorem State.raiseSlow_pending (s : State) (n u : Nat) (d : Word) : (s.raiseSlow n u d).pending = s.pending := by
  unfold State.raiseSlow; split <;> simp

@[simp] theorem State.transient_clk (s : State) (k n : Nat) : (s.transient k n).clk = s.clk := by
  unfold State.transient; dsimp only; split <;> simp
@[simp] theorem State.transient_pwr (s : State) (k n : Nat) : (s.transient k n).pwr = s.pwr := by
  unfold State.transient; dsimp only; split <;> simp
@[simp] theorem State.transient_sense (s : State) (k n : Nat) : (s.transient k n).sense = s.sense := by
  unfold State.transient; dsimp only; split <;> simp
@[simp] theorem State.transient_conv (s : State) (k n : Nat) : (s.transient k n).conv = s.conv := by
  unfold State.transient; dsimp only; split <;> simp
@[simp] theorem State.transient_seq (s : State) (k n : Nat) : (s.transient k n).seq = s.seq := by
  unfold State.transient; dsimp only; split <;> simp
@[simp] theorem State.transient_pat (s : State) (k n : Nat) : (s.transient k n).pat = s.pat := by
  unfold State.transient; dsimp only; split <;> simp
@[simp] theorem State.transient_imp (s : State) (k n : Nat) : (s.transient k n).imp = s.imp := by
  unfold State.transient; dsimp only; split <;> simp
@[simp] theorem State.transient_bal (s : State) (k n : Nat) : (s.transient k n).bal = s.bal := by
  unfold State.transient; dsimp only; split <;> simp
@[simp] theorem State.transient_tmr (s : State) (k n : Nat) : (s.transient k n).tmr = s.tmr := by
  unfold State.transient; dsimp only; split <;> simp
@[simp] theorem State.transient_sweep (s : State) (k n : Nat) : (s.transient k n).sweep = s.sweep := by
  unfold State.transient; dsimp only; split <;> simp
@[simp] theorem State.transient_plc (s : State) (k n : Nat) : (s.transient k n).plc = s.plc := by
  unfold State.transient; dsimp only; split <;> simp
@[simp] theorem State.transient_therm (s : State) (k n : Nat) : (s.transient k n).therm = s.therm := by
  unfold State.transient; dsimp only; split <;> simp
@[simp] theorem State.transient_safe (s : State) (k n : Nat) : (s.transient k n).safe = s.safe := by
  unfold State.transient; dsimp only; split <;> simp
@[simp] theorem State.transient_chis (s : State) (k n : Nat) : (s.transient k n).chis = s.chis := by
  unfold State.transient; dsimp only; split <;> simp
@[simp] theorem State.transient_pins (s : State) (k n : Nat) : (s.transient k n).pins = s.pins := by
  unfold State.transient; dsimp only; split <;> simp
@[simp] theorem State.transient_serial (s : State) (k n : Nat) : (s.transient k n).serial = s.serial := by
  unfold State.transient; dsimp only; split <;> simp
@[simp] theorem State.transient_free (s : State) (k n : Nat) : (s.transient k n).free = s.free := by
  unfold State.transient; dsimp only; split <;> simp
@[simp] theorem State.transient_pending (s : State) (k n : Nat) : (s.transient k n).pending = s.pending := by
  unfold State.transient; dsimp only; split <;> simp

@[simp] theorem State.mbxDone_clk (s : State) (t st : Byte) (r : List Word) : (s.mbxDone t st r).clk = s.clk := by simp [State.mbxDone]
@[simp] theorem State.mbxDone_pwr (s : State) (t st : Byte) (r : List Word) : (s.mbxDone t st r).pwr = s.pwr := by simp [State.mbxDone]
@[simp] theorem State.mbxDone_par (s : State) (t st : Byte) (r : List Word) : (s.mbxDone t st r).par = s.par := by simp [State.mbxDone]
@[simp] theorem State.mbxDone_mem (s : State) (t st : Byte) (r : List Word) : (s.mbxDone t st r).mem = s.mem := by simp [State.mbxDone]
@[simp] theorem State.mbxDone_ev (s : State) (t st : Byte) (r : List Word) : (s.mbxDone t st r).ev = s.ev := by simp [State.mbxDone]
@[simp] theorem State.mbxDone_nv (s : State) (t st : Byte) (r : List Word) : (s.mbxDone t st r).nv = s.nv := by simp [State.mbxDone]
@[simp] theorem State.mbxDone_sense (s : State) (t st : Byte) (r : List Word) : (s.mbxDone t st r).sense = s.sense := by simp [State.mbxDone]
@[simp] theorem State.mbxDone_conv (s : State) (t st : Byte) (r : List Word) : (s.mbxDone t st r).conv = s.conv := by simp [State.mbxDone]
@[simp] theorem State.mbxDone_seq (s : State) (t st : Byte) (r : List Word) : (s.mbxDone t st r).seq = s.seq := by simp [State.mbxDone]
@[simp] theorem State.mbxDone_pat (s : State) (t st : Byte) (r : List Word) : (s.mbxDone t st r).pat = s.pat := by simp [State.mbxDone]
@[simp] theorem State.mbxDone_imp (s : State) (t st : Byte) (r : List Word) : (s.mbxDone t st r).imp = s.imp := by simp [State.mbxDone]
@[simp] theorem State.mbxDone_bal (s : State) (t st : Byte) (r : List Word) : (s.mbxDone t st r).bal = s.bal := by simp [State.mbxDone]
@[simp] theorem State.mbxDone_tmr (s : State) (t st : Byte) (r : List Word) : (s.mbxDone t st r).tmr = s.tmr := by simp [State.mbxDone]
@[simp] theorem State.mbxDone_ports (s : State) (t st : Byte) (r : List Word) : (s.mbxDone t st r).ports = s.ports := by simp [State.mbxDone]
@[simp] theorem State.mbxDone_fab (s : State) (t st : Byte) (r : List Word) : (s.mbxDone t st r).fab = s.fab := by simp [State.mbxDone]
@[simp] theorem State.mbxDone_sweep (s : State) (t st : Byte) (r : List Word) : (s.mbxDone t st r).sweep = s.sweep := by simp [State.mbxDone]
@[simp] theorem State.mbxDone_snap (s : State) (t st : Byte) (r : List Word) : (s.mbxDone t st r).snap = s.snap := by simp [State.mbxDone]
@[simp] theorem State.mbxDone_plc (s : State) (t st : Byte) (r : List Word) : (s.mbxDone t st r).plc = s.plc := by simp [State.mbxDone]
@[simp] theorem State.mbxDone_therm (s : State) (t st : Byte) (r : List Word) : (s.mbxDone t st r).therm = s.therm := by simp [State.mbxDone]
@[simp] theorem State.mbxDone_safe (s : State) (t st : Byte) (r : List Word) : (s.mbxDone t st r).safe = s.safe := by simp [State.mbxDone]
@[simp] theorem State.mbxDone_chis (s : State) (t st : Byte) (r : List Word) : (s.mbxDone t st r).chis = s.chis := by simp [State.mbxDone]
@[simp] theorem State.mbxDone_pins (s : State) (t st : Byte) (r : List Word) : (s.mbxDone t st r).pins = s.pins := by simp [State.mbxDone]
@[simp] theorem State.mbxDone_serial (s : State) (t st : Byte) (r : List Word) : (s.mbxDone t st r).serial = s.serial := by simp [State.mbxDone]
@[simp] theorem State.mbxDone_free (s : State) (t st : Byte) (r : List Word) : (s.mbxDone t st r).free = s.free := by simp [State.mbxDone]
@[simp] theorem State.mbxDone_pending (s : State) (t st : Byte) (r : List Word) : (s.mbxDone t st r).pending = s.pending := by simp [State.mbxDone]

@[simp] theorem State.complete_clk (s : State) (src : Src) (st : Byte) (r : List Word) : (s.complete src st r).clk = s.clk := by
  unfold State.complete; repeat' split
  all_goals simp
@[simp] theorem State.complete_pwr (s : State) (src : Src) (st : Byte) (r : List Word) : (s.complete src st r).pwr = s.pwr := by
  unfold State.complete; repeat' split
  all_goals simp
@[simp] theorem State.complete_mem (s : State) (src : Src) (st : Byte) (r : List Word) : (s.complete src st r).mem = s.mem := by
  unfold State.complete; repeat' split
  all_goals simp
@[simp] theorem State.complete_ev (s : State) (src : Src) (st : Byte) (r : List Word) : (s.complete src st r).ev = s.ev := by
  unfold State.complete; repeat' split
  all_goals simp
@[simp] theorem State.complete_nv (s : State) (src : Src) (st : Byte) (r : List Word) : (s.complete src st r).nv = s.nv := by
  unfold State.complete; repeat' split
  all_goals simp
@[simp] theorem State.complete_sense (s : State) (src : Src) (st : Byte) (r : List Word) : (s.complete src st r).sense = s.sense := by
  unfold State.complete; repeat' split
  all_goals simp
@[simp] theorem State.complete_conv (s : State) (src : Src) (st : Byte) (r : List Word) : (s.complete src st r).conv = s.conv := by
  unfold State.complete; repeat' split
  all_goals simp
@[simp] theorem State.complete_seq (s : State) (src : Src) (st : Byte) (r : List Word) : (s.complete src st r).seq = s.seq := by
  unfold State.complete; repeat' split
  all_goals simp
@[simp] theorem State.complete_pat (s : State) (src : Src) (st : Byte) (r : List Word) : (s.complete src st r).pat = s.pat := by
  unfold State.complete; repeat' split
  all_goals simp
@[simp] theorem State.complete_imp (s : State) (src : Src) (st : Byte) (r : List Word) : (s.complete src st r).imp = s.imp := by
  unfold State.complete; repeat' split
  all_goals simp
@[simp] theorem State.complete_bal (s : State) (src : Src) (st : Byte) (r : List Word) : (s.complete src st r).bal = s.bal := by
  unfold State.complete; repeat' split
  all_goals simp
@[simp] theorem State.complete_tmr (s : State) (src : Src) (st : Byte) (r : List Word) : (s.complete src st r).tmr = s.tmr := by
  unfold State.complete; repeat' split
  all_goals simp
@[simp] theorem State.complete_sweep (s : State) (src : Src) (st : Byte) (r : List Word) : (s.complete src st r).sweep = s.sweep := by
  unfold State.complete; repeat' split
  all_goals simp
@[simp] theorem State.complete_snap (s : State) (src : Src) (st : Byte) (r : List Word) : (s.complete src st r).snap = s.snap := by
  unfold State.complete; repeat' split
  all_goals simp
@[simp] theorem State.complete_plc (s : State) (src : Src) (st : Byte) (r : List Word) : (s.complete src st r).plc = s.plc := by
  unfold State.complete; repeat' split
  all_goals simp
@[simp] theorem State.complete_therm (s : State) (src : Src) (st : Byte) (r : List Word) : (s.complete src st r).therm = s.therm := by
  unfold State.complete; repeat' split
  all_goals simp
@[simp] theorem State.complete_safe (s : State) (src : Src) (st : Byte) (r : List Word) : (s.complete src st r).safe = s.safe := by
  unfold State.complete; repeat' split
  all_goals simp
@[simp] theorem State.complete_chis (s : State) (src : Src) (st : Byte) (r : List Word) : (s.complete src st r).chis = s.chis := by
  unfold State.complete; repeat' split
  all_goals simp
@[simp] theorem State.complete_pins (s : State) (src : Src) (st : Byte) (r : List Word) : (s.complete src st r).pins = s.pins := by
  unfold State.complete; repeat' split
  all_goals simp
@[simp] theorem State.complete_serial (s : State) (src : Src) (st : Byte) (r : List Word) : (s.complete src st r).serial = s.serial := by
  unfold State.complete; repeat' split
  all_goals simp
@[simp] theorem State.complete_free (s : State) (src : Src) (st : Byte) (r : List Word) : (s.complete src st r).free = s.free := by
  unfold State.complete; repeat' split
  all_goals simp
@[simp] theorem State.complete_pending (s : State) (src : Src) (st : Byte) (r : List Word) : (s.complete src st r).pending = s.pending := by
  unfold State.complete; repeat' split
  all_goals simp

@[simp] theorem State.markStarted_clk (s : State) (src : Src) : (s.markStarted src).clk = s.clk := by
  unfold State.markStarted; split <;> rfl
@[simp] theorem State.markStarted_pwr (s : State) (src : Src) : (s.markStarted src).pwr = s.pwr := by
  unfold State.markStarted; split <;> rfl
@[simp] theorem State.markStarted_par (s : State) (src : Src) : (s.markStarted src).par = s.par := by
  unfold State.markStarted; split <;> rfl
@[simp] theorem State.markStarted_mem (s : State) (src : Src) : (s.markStarted src).mem = s.mem := by
  unfold State.markStarted; split <;> rfl
@[simp] theorem State.markStarted_ev (s : State) (src : Src) : (s.markStarted src).ev = s.ev := by
  unfold State.markStarted; split <;> rfl
@[simp] theorem State.markStarted_nv (s : State) (src : Src) : (s.markStarted src).nv = s.nv := by
  unfold State.markStarted; split <;> rfl
@[simp] theorem State.markStarted_sense (s : State) (src : Src) : (s.markStarted src).sense = s.sense := by
  unfold State.markStarted; split <;> rfl
@[simp] theorem State.markStarted_conv (s : State) (src : Src) : (s.markStarted src).conv = s.conv := by
  unfold State.markStarted; split <;> rfl
@[simp] theorem State.markStarted_seq (s : State) (src : Src) : (s.markStarted src).seq = s.seq := by
  unfold State.markStarted; split <;> rfl
@[simp] theorem State.markStarted_pat (s : State) (src : Src) : (s.markStarted src).pat = s.pat := by
  unfold State.markStarted; split <;> rfl
@[simp] theorem State.markStarted_imp (s : State) (src : Src) : (s.markStarted src).imp = s.imp := by
  unfold State.markStarted; split <;> rfl
@[simp] theorem State.markStarted_bal (s : State) (src : Src) : (s.markStarted src).bal = s.bal := by
  unfold State.markStarted; split <;> rfl
@[simp] theorem State.markStarted_tmr (s : State) (src : Src) : (s.markStarted src).tmr = s.tmr := by
  unfold State.markStarted; split <;> rfl
@[simp] theorem State.markStarted_ports (s : State) (src : Src) : (s.markStarted src).ports = s.ports := by
  unfold State.markStarted; split <;> rfl
@[simp] theorem State.markStarted_fab (s : State) (src : Src) : (s.markStarted src).fab = s.fab := by
  unfold State.markStarted; split <;> rfl
@[simp] theorem State.markStarted_sweep (s : State) (src : Src) : (s.markStarted src).sweep = s.sweep := by
  unfold State.markStarted; split <;> rfl
@[simp] theorem State.markStarted_snap (s : State) (src : Src) : (s.markStarted src).snap = s.snap := by
  unfold State.markStarted; split <;> rfl
@[simp] theorem State.markStarted_plc (s : State) (src : Src) : (s.markStarted src).plc = s.plc := by
  unfold State.markStarted; split <;> rfl
@[simp] theorem State.markStarted_therm (s : State) (src : Src) : (s.markStarted src).therm = s.therm := by
  unfold State.markStarted; split <;> rfl
@[simp] theorem State.markStarted_safe (s : State) (src : Src) : (s.markStarted src).safe = s.safe := by
  unfold State.markStarted; split <;> rfl
@[simp] theorem State.markStarted_chis (s : State) (src : Src) : (s.markStarted src).chis = s.chis := by
  unfold State.markStarted; split <;> rfl
@[simp] theorem State.markStarted_pins (s : State) (src : Src) : (s.markStarted src).pins = s.pins := by
  unfold State.markStarted; split <;> rfl
@[simp] theorem State.markStarted_serial (s : State) (src : Src) : (s.markStarted src).serial = s.serial := by
  unfold State.markStarted; split <;> rfl
@[simp] theorem State.markStarted_free (s : State) (src : Src) : (s.markStarted src).free = s.free := by
  unfold State.markStarted; split <;> rfl
@[simp] theorem State.markStarted_pending (s : State) (src : Src) : (s.markStarted src).pending = s.pending := by
  unfold State.markStarted; split <;> rfl

end Sys2Proof.Machine
end

