-- ==== Sys2Proof/Laws/Store.lean ====
section
/-! SUPPORT. The sparse stores: a read after a write, and the canonical form, which every write keeps. -/
namespace Sys2Proof.Machine

/-! ## Sparse lists -/

theorem sparseWfFrom_mono {α : Type} [DecidableEq α] (d : Nat → α) {lo lo' : Nat} (h : lo' ≤ lo) (l : List (Nat × α))
    (hl : sparseWfFrom d lo l = true) : sparseWfFrom d lo' l = true := by
  cases l with
  | nil => rfl
  | cons x t =>
    obtain ⟨k, v⟩ := x
    simp only [sparseWfFrom, Bool.and_eq_true, decide_eq_true_eq] at hl ⊢
    exact ⟨⟨by omega, hl.1.2⟩, hl.2⟩

/-- Nothing below the bound is listed. -/
theorem sparseFind_below {α : Type} [DecidableEq α] (d : Nat → α) (l : List (Nat × α)) :
    ∀ {lo i : Nat}, sparseWfFrom d lo l = true → i < lo → sparseFind l i = none := by
  induction l with
  | nil => intros; rfl
  | cons x t ih =>
    obtain ⟨k, v⟩ := x
    intro lo i hl hi
    simp only [sparseWfFrom, Bool.and_eq_true, decide_eq_true_eq] at hl
    have : i ≠ k := by omega
    simp only [sparseFind, this, if_false]
    exact ih hl.2 (by omega)

/-- Setting one key keeps the canonical form. -/
theorem sparseWfFrom_set {α : Type} [DecidableEq α] (d : Nat → α) (i : Nat) (v : α) (l : List (Nat × α)) :
    ∀ {lo : Nat}, sparseWfFrom d lo l = true → lo ≤ i → sparseWfFrom d lo (sparseSet (d i) l i v) = true := by
  induction l with
  | nil =>
    intro lo _ hi
    by_cases h : v = d i <;> simp [sparseSet, sparseWfFrom, h, hi]
  | cons x t ih =>
    obtain ⟨k, w⟩ := x
    intro lo hl hi
    have hl' := hl
    simp only [sparseWfFrom, Bool.and_eq_true, decide_eq_true_eq] at hl'
    obtain ⟨⟨hk, hw⟩, ht⟩ := hl'
    rcases Nat.lt_trichotomy i k with h | h | h
    · by_cases hv : v = d i
      · simpa [sparseSet, h, hv] using hl
      · simp only [sparseSet, h, hv, if_true, if_false, sparseWfFrom, Bool.and_eq_true, decide_eq_true_eq]
        exact ⟨⟨hi, fun e => hv e⟩, ⟨by omega, hw⟩, ht⟩
    · subst h
      by_cases hv : v = d i
      · simp only [sparseSet, hv, Nat.lt_irrefl, if_false, if_true]
        exact sparseWfFrom_mono d (by omega) t ht
      · simp only [sparseSet, hv, Nat.lt_irrefl, if_false, if_true, sparseWfFrom, Bool.and_eq_true, decide_eq_true_eq]
        exact ⟨⟨hi, fun e => hv e⟩, ht⟩
    · have h1 : ¬ i < k := by omega
      have h2 : i ≠ k := by omega
      simp only [sparseSet, h1, h2, if_false, sparseWfFrom, Bool.and_eq_true, decide_eq_true_eq]
      exact ⟨⟨hk, hw⟩, ih ht (by omega)⟩

/-- What a key reads as after one key has been set. -/
theorem sparseFind_set {α : Type} [DecidableEq α] (d : Nat → α) (i : Nat) (v : α) (l : List (Nat × α)) :
    ∀ {lo : Nat}, sparseWfFrom d lo l = true → ∀ j, (sparseFind (sparseSet (d i) l i v) j).getD (d j) =
      if j = i then v else (sparseFind l j).getD (d j) := by
  induction l with
  | nil =>
    intro lo _ j
    by_cases h : v = d i <;> by_cases hj : j = i <;> simp [sparseSet, sparseFind, h, hj]
  | cons x t ih =>
    obtain ⟨k, w⟩ := x
    intro lo hl j
    have hl' := hl
    simp only [sparseWfFrom, Bool.and_eq_true, decide_eq_true_eq] at hl'
    obtain ⟨⟨hk, hw⟩, ht⟩ := hl'
    rcases Nat.lt_trichotomy i k with h | h | h
    · by_cases hv : v = d i
      · simp only [sparseSet, h, hv, if_true]
        by_cases hj : j = i
        · simp [hj, sparseFind, show i ≠ k by omega, sparseFind_below d t ht (i := i) (by omega)]
        · simp [hj]
      · by_cases hj : j = i <;> simp [sparseSet, sparseFind, h, hv, hj]
    · subst h
      by_cases hv : v = d i
      · by_cases hj : j = i
        · simp [sparseSet, hv, hj, sparseFind_below d t ht (i := i) (by omega)]
        · simp [sparseSet, sparseFind, hv, hj]
      · by_cases hj : j = i <;> simp [sparseSet, sparseFind, hv, hj]
    · have h1 : ¬ i < k := by omega
      have h2 : i ≠ k := by omega
      simp only [sparseSet, h1, h2, if_false, sparseFind]
      by_cases hj : j = k
      · simp [hj, show k ≠ i by omega]
      · simpa [hj] using ih ht j

/-- Keeping the entries of some keys keeps the canonical form. -/
theorem sparseWfFrom_filter {α : Type} [DecidableEq α] (d : Nat → α) (p : Nat × α → Bool) (l : List (Nat × α)) :
    ∀ {lo : Nat}, sparseWfFrom d lo l = true → sparseWfFrom d lo (l.filter p) = true := by
  induction l with
  | nil => intros; rfl
  | cons x t ih =>
    obtain ⟨k, v⟩ := x
    intro lo hl
    simp only [sparseWfFrom, Bool.and_eq_true, decide_eq_true_eq] at hl
    by_cases h : p (k, v) = true
    · simp only [List.filter_cons, h, if_true, sparseWfFrom, Bool.and_eq_true, decide_eq_true_eq]
      exact ⟨hl.1, ih hl.2⟩
    · simp only [List.filter_cons, h]
      exact sparseWfFrom_mono d (by omega) _ (ih hl.2)

/-- What a key reads as when the entries of some keys alone are kept. -/
theorem sparseFind_filter {α : Type} (p : Nat → Bool) (l : List (Nat × α)) (j : Nat) :
    sparseFind (l.filter fun c => p c.1) j = if p j then sparseFind l j else none := by
  induction l with
  | nil => simp [sparseFind]
  | cons x t ih =>
    obtain ⟨k, v⟩ := x
    by_cases h : p k = true <;> by_cases hj : j = k
    · subst hj; simp [sparseFind, h]
    · simp [sparseFind, h, hj, ih]
    · subst hj; simp [h, ih]
    · simp [sparseFind, h, hj, ih]

/-! ## The canonical form is kept -/

theorem Memory.wf_set {m : List Host.Cell} (h : Memory.wf m = true) (a : Nat) (b : Byte) :
    Memory.wf (sparseSet memDefault m a b) = true := sparseWfFrom_set (fun _ => (0 : Byte)) a b m h (Nat.zero_le a)

theorem Memory.wf_memPart {m : List Host.Cell} (h : Memory.wf m = true) (lo hi : Nat) : Memory.wf (memPart m lo hi) = true :=
  sparseWfFrom_filter _ _ m h

theorem Params.wf_set {p : List (Nat × Word)} (h : Params.wf p = true) (id : Nat) (v : Word) :
    Params.wf (sparseSet (resetParam id) p id v) = true := sparseWfFrom_set resetParam id v p h (Nat.zero_le id)

theorem State.Stored.wr {s : State} (h : s.Stored) (id : Nat) (v : Word) : (s.wr id v).Stored := ⟨h.1, Params.wf_set h.2 id v⟩
theorem State.Stored.setFld {s : State} (h : s.Stored) (id lo width v : Nat) : (s.setFld id lo width v).Stored := h.wr _ _
theorem State.Stored.setBit {s : State} (h : s.Stored) (id n : Nat) (b : Bool) : (s.setBit id n b).Stored := h.wr _ _
theorem State.Stored.addSat {s : State} (h : s.Stored) (id lo width n : Nat) : (s.addSat id lo width n).Stored := h.wr _ _
theorem State.Stored.addWord {s : State} (h : s.Stored) (id n : Nat) : (s.addWord id n).Stored := h.wr _ _
theorem State.Stored.stByte {s : State} (h : s.Stored) (a : Nat) (b : Byte) : (s.stByte a b).Stored := ⟨Memory.wf_set h.1 a b, h.2⟩

theorem State.Stored.stBytes {s : State} (h : s.Stored) (a : Nat) (bs : List Byte) : (s.stBytes a bs).Stored := by
  induction bs generalizing s a with
  | nil => exact h
  | cons b t ih => exact ih (h.stByte a b) (a + 1)

theorem State.Stored.stWord {s : State} (h : s.Stored) (a : Nat) (w : Word) : (s.stWord a w).Stored := h.stBytes a _

theorem State.Stored.stWords {s : State} (h : s.Stored) (a : Nat) (ws : List Word) : (s.stWords a ws).Stored := by
  induction ws generalizing s a with
  | nil => exact h
  | cons w t ih => exact ih (h.stWord a w) (a + 4)

/-! ## Reads after writes -/

/-- A parameter after one parameter has been given a word. -/
theorem State.rd_wr {s : State} (h : s.Stored) (id j : Nat) (v : Word) : (s.wr id v).rd j = if j = id then v else s.rd j :=
  sparseFind_set resetParam id v s.par h.2 j

/-- A byte after one byte has been written. -/
theorem State.ldByte_stByte {s : State} (h : s.Stored) (a x : Nat) (b : Byte) :
    (s.stByte a b).ldByte x = if x = a then b else s.ldByte x :=
  sparseFind_set (fun _ => (0 : Byte)) a b s.mem h.1 x

/-- A run of bytes leaves every byte outside it as it was. -/
theorem State.ldByte_stBytes {s : State} (h : s.Stored) (a x : Nat) (bs : List Byte) (hx : x < a ∨ a + bs.length ≤ x) :
    (s.stBytes a bs).ldByte x = s.ldByte x := by
  induction bs generalizing s a with
  | nil => rfl
  | cons b t ih =>
    have hx' : x < a ∨ a + (t.length + 1) ≤ x := hx
    rw [State.stBytes, ih (h.stByte a b) (a + 1) (by omega), State.ldByte_stByte h, if_neg (by omega)]

/-- A run of words leaves every byte outside it as it was. -/
theorem State.ldByte_stWords {s : State} (h : s.Stored) (a x : Nat) (ws : List Word) (hx : x < a ∨ a + 4 * ws.length ≤ x) :
    (s.stWords a ws).ldByte x = s.ldByte x := by
  induction ws generalizing s a with
  | nil => rfl
  | cons w t ih =>
    have hx' : x < a ∨ a + 4 * (t.length + 1) ≤ x := hx
    rw [State.stWords, ih (h.stWord a w) (a + 4) (by omega), State.stWord,
      State.ldByte_stBytes h a x _ (by simp [bytesBE]; omega)]

/-! ## Fields of a word -/

/-- A bit of a word whose bits from `lo` were replaced. -/
theorem getLsbD_putBits (w : Word) (lo width v i : Nat) :
    (putBits w lo width v).getLsbD i =
      if lo ≤ i ∧ i < lo + width then decide (i < 32) && v.testBit (i - lo) else w.getLsbD i := by
  have hmask : ((2 ^ width - 1) * 2 ^ lo).testBit i = (decide (lo ≤ i) && decide (i - lo < width)) := by
    rw [Nat.testBit_mul_two_pow, Nat.testBit_two_pow_sub_one]
  have hval : (v % 2 ^ width * 2 ^ lo).testBit i = (decide (lo ≤ i) && (decide (i - lo < width) && v.testBit (i - lo))) := by
    rw [Nat.testBit_mul_two_pow, Nat.testBit_mod_two_pow]
  simp only [putBits, BitVec.getLsbD_or, BitVec.getLsbD_and, BitVec.getLsbD_not, BitVec.getLsbD_ofNat, hmask, hval]
  by_cases h1 : lo ≤ i
  · by_cases h2 : i < lo + width
    · have h3 : i - lo < width := by omega
      simp [h1, h2, h3]
    · have h3 : ¬ i - lo < width := by omega
      by_cases h4 : i < 32
      · simp [h2, h3, h4]
      · simp [h2, h3, h4, BitVec.getLsbD_of_ge w i (by omega)]
  · by_cases h4 : i < 32
    · simp [h1, h4]
    · simp [h1, h4, BitVec.getLsbD_of_ge w i (by omega)]

/-- A bit of a field of a word. -/
theorem testBit_bitsOf (w : Word) (lo width i : Nat) : (bitsOf w lo width).testBit i = (decide (i < width) && w.getLsbD (i + lo)) := by
  rw [bitsOf, Nat.testBit_mod_two_pow, Nat.testBit_div_two_pow, BitVec.getLsbD]

theorem bitsOf_putBits_same (w : Word) (lo width v : Nat) (h : lo + width ≤ 32) : bitsOf (putBits w lo width v) lo width = v % 2 ^ width := by
  apply Nat.eq_of_testBit_eq
  intro i
  rw [testBit_bitsOf, getLsbD_putBits, Nat.testBit_mod_two_pow]
  by_cases hi : i < width
  · simp [hi, show lo ≤ i + lo ∧ i + lo < lo + width by omega, show i + lo < 32 by omega]
  · simp [hi]

theorem bitsOf_putBits_other (w : Word) (lo width v lo' width' : Nat) (hd : lo' + width' ≤ lo ∨ lo + width ≤ lo') :
    bitsOf (putBits w lo width v) lo' width' = bitsOf w lo' width' := by
  apply Nat.eq_of_testBit_eq
  intro i
  rw [testBit_bitsOf, testBit_bitsOf, getLsbD_putBits]
  by_cases hi : i < width'
  · rw [if_neg (by omega)]
  · simp [hi]

/-- A field of a parameter after one field has been replaced. -/
theorem State.fld_setFld_same {s : State} (h : s.Stored) (id lo width v : Nat) (hw : lo + width ≤ 32) :
    (s.setFld id lo width v).fld id lo width = v % 2 ^ width := by
  rw [State.fld, State.setFld, State.rd_wr h, if_pos rfl, bitsOf_putBits_same _ _ _ _ hw]

/-- Another parameter keeps its word when a field is replaced. -/
theorem State.rd_setFld_ne {s : State} (h : s.Stored) (id j lo width v : Nat) (hj : j ≠ id) : (s.setFld id lo width v).rd j = s.rd j := by
  rw [State.setFld, State.rd_wr h, if_neg hj]

/-- Another field of the same parameter keeps its value. -/
theorem State.fld_setFld_other {s : State} (h : s.Stored) (id lo width v lo' width' : Nat)
    (hd : lo' + width' ≤ lo ∨ lo + width ≤ lo') : (s.setFld id lo width v).fld id lo' width' = s.fld id lo' width' := by
  rw [State.fld, State.setFld, State.rd_wr h, if_pos rfl, bitsOf_putBits_other _ _ _ _ _ _ hd, State.fld]

/-- A bit of a word as a field of one bit. -/
theorem getLsbD_eq_bitsOf (w : Word) (n : Nat) : w.getLsbD n = (bitsOf w n 1 == 1) := by
  rw [bitsOf, BitVec.getLsbD, Nat.testBit_eq_decide_div_mod_eq]
  simp [BEq.beq]

/-- A bit of a parameter after one bit has been given a value. -/
theorem State.bit_setBit_same {s : State} (h : s.Stored) (id n : Nat) (b : Bool) (hn : n < 32) : (s.setBit id n b).bit id n = b := by
  have := State.fld_setFld_same h id n 1 (if b then 1 else 0) (by omega)
  rw [State.bit, getLsbD_eq_bitsOf]
  rw [State.fld] at this
  rw [State.setBit, this]
  cases b <;> rfl

end Sys2Proof.Machine
end

