-- ==== Sys2Proof/WellFormed.lean ====
section
/-! DEFINITION. What a well-formed command is: its operands have the lengths and bounds the rules give what they carry. -/
namespace Sys2Proof

/-- The checks, one arm per command. -/
def Instr.wf : Instr → Bool
  | .powerOn _ => true
  | .startUp i => i.addr1.length == 16 && i.addr2.length == 16 && i.seal1.length == 16 && i.seal2.length == 16 && i.digest.length == 16
  | .ready _ _ => true
  | .brownOut => true
  | .nrstAccepted => true
  | .nrstRelease _ => true
  | .stuckreset _ => true
  | .nrstRearm => true
  | .reffail => true
  | .reflock _ => true
  | .housekeepingRound r => r.codes.length == 12
  | .guardEntryAfterStop => true
  | .thermalHwCut _ => true
  | .thermalCutRelease _ => true
  | .stateReqRun _ => true
  | .stateReqWatch _ => true
  | .stateReqHatbox _ => true
  | .hatboxEntryComplete => true
  | .nwake => true
  | .linkActivityWake _ => true
  | .hatboxAlarm => true
  | .safetyComparatorWake => true
  | .hatboxWake _ => true
  | .spiFrame cycles bits => decide (56 ≤ cycles) || decide (bits.toNat < 2 ^ cycles)
  | .canFdRequest _ bytes => decide (bytes.length ≤ 64)
  | .uartFrame bytes => !bytes.contains 0x7E
  | .uartFrameTimeout => true
  | .hosterr => true
  | .hostPortReconfig => true
  | .registerWrite _ _ _ => true
  | .readClear _ _ => true
  | .streamWinRead _ _ => true
  | .evtTailWrite _ _ => true
  | .doorbellGo _ => true
  | .doorbellAbort _ => true
  | .nop _ => true
  | .identify _ => true
  | .sysReset _ => true
  | .paramGet _ _ => true
  | .paramSet _ => true
  | .paramStage _ => true
  | .paramApply _ => true
  | .paramDiscard _ => true
  | .cfgSave _ => true
  | .cfgDefaults _ => true
  | .nvPageWriteDone _ => true
  | .remoteRequest _ _ bytes => bytes.length == 20
  | .remoteResponse _ bytes => bytes.length == 36
  | .remoteTimeout => true
  | .eventFrame _ _ _ _ => true
  | .fwBegin _ => true
  | .fwData _ => true
  | .fwEnd _ _ _ => true
  | .fwActivate _ => true
  | .fwCommit _ => true
  | .fwAbort _ => true
  | .seqPassStart => true
  | .seqTrigger => true
  | .trigmiss => true
  | .blankedSpanEnd => true
  | .seqLoad _ => true
  | .tableCheckDone => true
  | .seqRunWrite _ => true
  | .conversionResult _ _ => true
  | .streamBurstWrite _ => true
  | .streamEnable _ => true
  | .streamTailWrite _ => true
  | .hostInjectionRequest _ => true
  | .injectionStart _ => true
  | .wintrackTimeout => true
  | .patinaRotationMark => true
  | .patinaUpdate gains => gains.length == 55
  | .patinaSet _ => true
  | .patinaSetStart => true
  | .patinaSetGroup => true
  | .patinaSetApply => true
  | .calCommit _ => true
  | .calReload _ _ => true
  | .patHoldRelease _ => true
  | .impMeasurementStart _ plan => plan.length == 64
  | .impAnnounceReceived _ _ plan => plan.length == 64
  | .impPassStart => true
  | .impSegmentEnd _ => true
  | .impPhasorReceived p => decide (p.cells.length ≤ 24)
  | .impPhasorTimeout _ => true
  | .impFitDone => true
  | .balPlanEvaluate _ reports => reports.all fun r => decide (r.blank.length ≤ 24) && decide (r.sweep.length ≤ 24) && decide (r.soc.length ≤ 24)
  | .balReport _ => true
  | .balAssignmentReceived _ => true
  | .balAssignmentApply => true
  | .balLeaseLapse => true
  | .balOvercurrentTrip _ => true
  | .balReclose _ => true
  | .shuttleFrameSend _ _ => true
  | .probenow _ => true
  | .probeStart _ => true
  | .probeCycleEnd off on => decide (off.length ≤ 24) && decide (on.length ≤ 24)
  | .timerWrap _ => true
  | .timerMatch _ _ => true
  | .timerCapture _ _ => true
  | .timerStartStop _ => true
  | .timerAtStart => true
  | .timerCountWrite _ => true
  | .linkControlReceived _ _ _ _ => true
  | .linkTrainBlock _ block => block.length == 12
  | .linkDown _ _ => true
  | .linkRetrainDelay _ => true
  | .keepaliveSend _ => true
  | .frameReceive _ bytes _ => decide (16 ≤ bytes.length) && decide (bytes.length ≤ 528)
  | .linkAckTimeout _ _ _ => true
  | .discover _ => true
  | .topoFrame _ m => match m with | .node n _ => n.ports.length == 4 | .armCrc _ _ | .number _ _ _ | .accept _ _ | .offer _ _ => true
  | .discdone => true
  | .stringAssign _ _ => true
  | .fabWake _ => true
  | .wakeFrame _ => true
  | .timeSyncSend => true
  | .timeFrame _ _ _ => true
  | .sweepStart _ => true
  | .sweepStop _ => true
  | .sweepAnnounce bytes => bytes.length == 28
  | .snapshotTime => true
  | .sweepRecordSend => true
  | .sweepRecordReceive _ _ _ _ => true
  | .snapshotCloseTimeout => true
  | .sweepIsolated => true
  | .sweepHoldExpiry => true
  | .heldRecordSend => true
  | .snapshotTrigger _ => true
  | .snapshotFrozen => true
  | .fabricTriggerReceived _ _ _ => true
  | .snapFree _ => true
  | .goalSet _ => true
  | .goalClear _ => true
  | .goalTableFrame _ _ slots => slots.length == 32
  | .checkpoint _ _ => true
  | .jobFrame _ => true
  | .jobMoveAck _ _ => true
  | .jobMoveTimeout _ => true
  | .recordCopy _ => true
  | .recordRead _ _ => true
  | .digestClose _ _ => true
  | .digestRead _ _ => true
  | .safetyTick => true
  | .safeAck _ => true
  | .safeStop _ => true
  | .feedbackChange _ _ => true
  | .closeSequence => true
  | .feedbackTimeout _ => true
  | .closeSequenceRetry => true
  | .offtestPulseEnd _ => true
  | .offtestRetry => true
  | .tpPulse _ => true
  | .tpPulseEnd _ _ _ _ => true
  | .inputChange _ _ => true
  | .twinFrameSend => true
  | .twinFrameReceive _ bytes => bytes.length == 32
  | .twinCopyTimeout _ => true
  | .safewdog _ _ => true
  | .chiselSliceStart => true
  | .chiselSliceEnd _ => true
  | .laneRepair => true
  | .memoryRepairDone => true
  | .chiselStatus _ => true
  | .scanUnlockFrame cycles bits => decide (56 ≤ cycles) || decide (bits.toNat < 2 ^ cycles)
  | .scanUnlockTimeout => true
  | .edramRefresh => true
  | .edramRefreshLate _ => true
  | .keyCheck _ _ => true
  | .attest _ _ _ => true
  | .ownerAccept _ => true
  | .logRead _ _ => true
  | .timerGatePinChange _ _ => true
  | .chopPassBudgetTimeout => true
  | .sweepAnnounceRepeat => true
  | .jobRecordInterval _ _ rests => rests.all fun r => decide (r.cells.length ≤ 24)
  | .hatboxRefreshComparatorRead _ => true
  | .intNoticeHoldoffEnd => true

end Sys2Proof
end

