-- ==== Sys2Proof/Tests/Slice0.lean ====
section
/-! SUPPORT. Small tests: an ill-formed term for each check of WellFormed, and for each statement a concrete state and operands that meet its
hypotheses, clause by clause, with what the rules say follows there. Expected values come from the statement's rules. -/
namespace Sys2Proof.Tests
open Sys2Proof.Machine
set_option Elab.async false

/-! ## Helpers -/

/-- The next state of a command. -/
def nx (c : Instr) (s : State) : State := match exec c s with | .next t => t | .fault _ => s | .refused _ => s
/-- The command answers exactly this next state. -/
def yields (c : Instr) (s t : State) : Bool := match exec c s with | .next u => u == t | .fault _ => false | .refused _ => false
/-- Reset, in another state of R46 or another place of start-up. -/
def inMode (m : Mode) : State := { State.reset with pwr := { State.reset.pwr with mode := m, phase := .ready } }
def inPhase (p : Phase) : State := { State.reset with pwr := { State.reset.pwr with phase := p } }
/-- A node in Run, in Off, in Hatbox. -/
def run : State := inMode .run
def off : State := inMode .off
def hat : State := inMode .hatbox
/-- A request, and a state whose mailbox holds it. -/
def rq (code : Byte) (a0 a1 a2 a3 : Word) : Req := ⟨code, 7, 0, a0, a1, a2, a3, false⟩
def ask (s : State) (r : Req) : State := { s with host := { s.host with busy := true, req := some r } }
/-- A fabric request of another node at the head of the queue. -/
def askF (s : State) (r : Req) : State := { s with host := { s.host with queue := [⟨2, 9, 1, r⟩] } }
/-- Both outputs on. -/
def closed (s : State) : State := { s with pins := { s.pins with safeH := true, safeL := true, fbH := true, fbL := true },
                                           safe := { s.safe with phase := 3 } }
/-- A node as the Armature lists it. -/
def nodeRec (serial : DWord) (a : FAddr) (str : Nat) (ports : List TopoPort) : Node :=
  { topo := ⟨serial, true, 1, true, false, BitVec.ofNat 6 str, true, true, ports⟩, addr := some a, str := str, quar := false, sleep := false,
    lost := false, pending := false, units := 0, rebal := 0, shunt := false, fitted := true, cells := 0, state := 2, copies := 2, demod := 0, runs := 0,
    others := false }
/-- Two nodes of one string that know each other: this one at address 1, the other, serial 5, at address 2. -/
def pair : State := { run with fab := { run.fab with valid := true, addr := 1, hasTime := true,
                                                      nodes := [nodeRec 0 1 0 [], nodeRec 5 2 0 []] } }
/-- A node alone in its Armature: its own anchor. -/
def alone : State := { run with fab := { run.fab with valid := true, addr := 1, hasTime := true, nodes := [nodeRec 0 1 0 []] } }

/-! ## The checks of WellFormed -/

/-- Start-up's input: good leads, no failing read or slice, and the signatures of the two slots. -/
def startIn (a b : Bool) : StartUpIn :=
  ⟨true, List.replicate 16 1, List.replicate 16 1, List.replicate 16 0x49, List.replicate 16 0x49, [], a, b, [], List.replicate 16 0⟩
theorem test_wf_refuses_start_up :
    (Instr.startUp { startIn true true with addr1 := List.replicate 15 1 }).wf = false ∧
    (Instr.startUp { startIn true true with addr2 := List.replicate 15 1 }).wf = false ∧
    (Instr.startUp { startIn true true with seal1 := List.replicate 17 9 }).wf = false ∧
    (Instr.startUp { startIn true true with seal2 := [] }).wf = false ∧
    (Instr.startUp { startIn true true with digest := [] }).wf = false ∧ (Instr.startUp (startIn true true)).wf = true := by decide
theorem test_wf_refuses_round : (Instr.housekeepingRound ⟨1, List.replicate 11 0⟩).wf = false ∧
    (Instr.housekeepingRound ⟨1, List.replicate 12 0⟩).wf = true := by decide
theorem test_wf_refuses_spi_frame : (Instr.spiFrame 8 256).wf = false ∧ (Instr.spiFrame 8 255).wf = true := by decide
theorem test_wf_refuses_unlock_frame : (Instr.scanUnlockFrame 8 256).wf = false := by decide
theorem test_wf_refuses_can : (Instr.canFdRequest 0 (List.replicate 65 0)).wf = false := by decide
theorem test_wf_refuses_uart : (Instr.uartFrame [0x01, 0x7E]).wf = false := by decide
theorem test_wf_refuses_remote : (Instr.remoteRequest 1 0 (List.replicate 21 0)).wf = false ∧ (Instr.remoteResponse 1 (List.replicate 35 0)).wf = false := by decide
theorem test_wf_refuses_patina : (Instr.patinaUpdate (List.replicate 54 0)).wf = false ∧ (Instr.patinaUpdate (List.replicate 55 0)).wf = true := by decide
theorem test_wf_refuses_measurement : (Instr.impMeasurementStart 0 (List.replicate 63 0)).wf = false ∧
    (Instr.impAnnounceReceived 0 1 (List.replicate 65 0)).wf = false ∧
    (Instr.impPhasorReceived ⟨1, 0, 0, 0, false, false, List.replicate 25 none, none, 0⟩).wf = false := by decide
/-- A report of node `a` with the eligible switches and shuttles `sw` and `sht`. -/
def report (a : FAddr) (blank : List (Option (Int × Nat))) (sw : BitVec 24) (sht : BitVec 23) : BalReport := ⟨a, blank, [], [], 0, sw, sht, 0, 0, none⟩
theorem test_wf_refuses_reports : (Instr.balPlanEvaluate 0 [report 1 (List.replicate 25 none) 0 0]).wf = false ∧
    (Instr.balPlanEvaluate 0 [{ report 1 [] 0 0 with sweep := List.replicate 25 none }]).wf = false ∧
    (Instr.balPlanEvaluate 0 [{ report 1 [] 0 0 with soc := List.replicate 25 none }]).wf = false := by decide
theorem test_wf_refuses_rests : (Instr.jobRecordInterval 0 0 [⟨1, List.replicate 25 none⟩]).wf = false := by decide
theorem test_wf_refuses_probe : (Instr.probeCycleEnd (List.replicate 25 0) []).wf = false ∧ (Instr.probeCycleEnd [] (List.replicate 25 0)).wf = false := by decide
theorem test_wf_refuses_block : (Instr.linkTrainBlock 0 (List.replicate 11 0)).wf = false := by decide
theorem test_wf_refuses_frame : (Instr.frameReceive 0 (List.replicate 15 0) false).wf = false ∧ (Instr.frameReceive 0 (List.replicate 529 0) false).wf = false := by decide +kernel
theorem test_wf_refuses_topo : (Instr.topoFrame 0 (.node ⟨1, true, 1, true, false, 0, true, true, []⟩ false)).wf = false := by decide
theorem test_wf_refuses_announce : (Instr.sweepAnnounce (List.replicate 27 0)).wf = false := by decide
theorem test_wf_refuses_goal_table : (Instr.goalTableFrame 1 1 (List.replicate 31 none)).wf = false := by decide
theorem test_wf_refuses_twin : (Instr.twinFrameReceive 0 (List.replicate 31 0)).wf = false := by decide

/-! ## The machine as a whole -/

theorem test_front_command : step { run with pending := [.nop .mbx, .safetyTick] } = exec (.nop .mbx) { run with pending := [.safetyTick] } := by rfl
theorem witness_StepTakesFrontCommand : ({ run with pending := [.nop .mbx] } : State).pending = Instr.nop .mbx :: [] := by rfl
theorem witness_EmptyQueueIsATick : run.pending = [] ∧ (State.reset.pwr.resetDue = none ∧ State.reset.pwr.mode = .start) ∧
    (hat.pwr.resetDue = none ∧ hat.pwr.mode = .hatbox) ∧ off.pwr.resetDue = none ∧ off.pwr.mode = .off := by decide
/-- R182: the factory calibration record, and R92: the image of slot A, stand in memory at reset. -/
theorem test_factory_memory : Memory.wf State.reset.mem = true ∧ State.reset.mem ≠ [] := by decide +kernel
theorem test_tick : run.tick.clk.ref = 1 := by decide +kernel
theorem witness_StepKeepsStored : State.reset.Stored ∧ step State.reset = .next State.reset.tick := ⟨by decide, rfl⟩
theorem witness_StepKeepsOutputsHeld : State.reset.OutputsHeld ∧ (closed run).OutputsHeld ∧ step (closed run) = .next (closed run).tick :=
  ⟨by decide, by decide, rfl⟩
theorem witness_CommandsKeepQueueAndSerial : exec (.safetyComparatorWake) hat = .next (nx .safetyComparatorWake hat) := by rfl
theorem test_no_table_word : decodeTableWord 32 0x1234 = none := by rfl

/-! ## Power, reset and start-up -/

theorem witness_ResetRowsReachStart : off.nv.queue = [] ∧ off.pwr.mode = .off ∧ (nx (.powerOn true) off).rd 0x0102 = 2 ∧
    (run.pwr.mode ≠ .off ∧ run.pwr.stuck = false ∧ (nx .nrstAccepted (closed run)).pins.safeH = false) ∧
    (run.pwr.phase ≠ .cut ∧ 2 ≤ ((List.range 6).filter fun i => (3 : BitVec 6).getLsbD i && !(run.rd 0x3000).getLsbD (8 + i)).length ∧
      (nx (.thermalHwCut 3) run).pwr.phase = .cut ∧ (nx (.thermalHwCut 1) run).pwr.phase = .ready) := by decide +kernel
theorem witness_ResetEndsAndWindow :
    ((inPhase .held).pwr.mode = .start ∧ (inPhase .held).pwr.phase = .held ∧ (nx (.nrstRelease true) (inPhase .held)).pwr.phase = .scanWindow ∧
      (nx (.stuckreset false) (inPhase .held)).rd 0x0102 = 9) ∧
    ((inPhase .cut).pwr.phase = .cut ∧ (nx (.thermalCutRelease 4) (inPhase .cut)).pwr.phase = .begin) ∧
    ((inPhase .scanWindow).pwr.phase = .scanWindow ∧ (nx .scanUnlockTimeout (inPhase .scanWindow)).pwr.phase = .begin ∧
      (nx (.scanUnlockFrame 55 0) (inPhase .scanWindow)).pwr.phase = .begin ∧ (inPhase .scanWindow).Stored ∧ (inPhase .scanWindow).nv.queue = []) ∧
    (run.pwr.mode ≠ .off ∧ (nx .brownOut (closed run)).pwr.mode = .off) := by decide +kernel
/-- A good first, second and third unlock frame of serial number 0 (R406). -/
def unlockFrame (op : Byte) (w : Word) : BitVec 56 :=
  let bs : List Byte := [op, 0x1F] ++ bytesBE 4 w.toNat
  BitVec.ofNat 56 (numBE (bs ++ [crc8 bs]))
theorem test_unlock_frames :
    let w := inPhase .scanWindow
    let a := nx (.scanUnlockFrame 56 (unlockFrame 0xC1 0)) w
    let b := nx (.scanUnlockFrame 56 (unlockFrame 0xC2 0)) a
    let c := nx (.scanUnlockFrame 56 (unlockFrame 0xC3 0x5A5A5A5A)) b
    a.pwr.unlock = 1 ∧ b.pwr.unlock = 2 ∧ c.pwr.phase = .scan ∧ (nx (.scanUnlockFrame 56 (unlockFrame 0xC3 0)) b).pwr.phase = .begin := by decide +kernel
/-- Reset with an image of SECVER `v` in slot B too (R93). -/
def bothSlots (v : Byte) : State := (State.reset.stBytes 0x20060000 [0x45, 0x56, 0x52, 0x53, 0, 0, 0x10, 0]).stBytes 0x2006000C [0, v]
theorem witness_StartUpRuns :
    let s := State.reset
    (s.Stored ∧ s.pwr.mode = .start ∧ s.pwr.phase = .begin ∧ (startIn true true).slices = [] ∧ (startIn true true).mram = [] ∧ s.OutputsOff) ∧
    ((startIn false true).signA = false ∧ s.slotField true 0 4 ≠ 0x45565253 ∧ (s.bootImage (startIn false true)).pwr.phase = .bootOnly) ∧
    ((startIn true false).signA = true ∧ s.nv.marked.getLsbD 0 = false ∧ s.slotField false 0 4 = 0x45565253 ∧ s.slotField false 4 4 = 4096 ∧
      s.idBoot [] 0 % 65536 ≤ s.slotSec false ∧ s.idBoot [] 1 % 4 ≠ 1 ∧ (s.bootImage (startIn true false)).host.fw = 0x030200) ∧
    (s.slotField true 4 4 ≠ 4096 ∧ (bothSlots 2).slotField true 4 4 = 4096 ∧ (bothSlots 2).slotSec true = 2 ∧ (bothSlots 2).Stored ∧
      ((bothSlots 2).bootImage (startIn false true)).bit 0x0108 8 = true ∧ ((bothSlots 2).bootImage (startIn false true)).bit 0x0108 9 = true) := by decide +kernel
theorem witness_ReadyEntersRunOrGuard :
    let a := inPhase .discovery
    let g := { a with pwr := { a.pwr with guardDue := some 3 } }
    a.pwr.mode = .start ∧ a.pwr.phase = .discovery ∧ a.fab.disc = none ∧ (nx (.ready 0 []) a).pwr.mode = .run ∧ (nx (.ready 0 []) a).host.intReady = true ∧
    (nx (.ready 0 []) a).pins.tpA = true ∧ (nx (.ready 0 []) g).pwr.mode = .guard ∧ (nx (.ready 0 []) g).pwr.gcause = 3 := by decide +kernel
theorem witness_HatboxAndWakes :
    let a := { run with pwr := { run.pwr with hatbox := .stopping } }
    (a.pwr.mode = .run ∧ a.pwr.hatbox = .stopping ∧ (nx .hatboxEntryComplete a).pwr.mode = .hatbox) ∧
    ((hat.wr 0x0104 1).rd 0x0104 ≠ 0 ∧ (nx (.hatboxWake 1) (hat.wr 0x0104 1)).pwr.mode = .run ∧ (nx (.hatboxWake 1) (hat.wr 0x0104 1)).pwr.roundDue = true) ∧
    (hat.pwr.mode = .hatbox ∧ hat.rd 0x0104 = 0 ∧ yields .nwake (hat.wr 0x0105 1) ((hat.wr 0x0105 1).wr 0x0104 1) = true ∧
      yields .nwake (hat.wr 0x0105 0) (hat.wr 0x0105 0) = true ∧
      yields .hatboxAlarm ((hat.wr 0x0105 4).wr 0x0106 1) (((hat.wr 0x0105 4).wr 0x0106 1).wr 0x0104 4) = true ∧
      yields .safetyComparatorWake (hat.wr 0x3101 1) ((hat.wr 0x3101 1).wr 0x0104 8) = true ∧
      yields (.linkActivityWake 3) (hat.wr 0x0105 0x80) ((hat.wr 0x0105 0x80).wr 0x0104 (if (hat.rd 0x2003).getLsbD 3 then 0x82 else 0)) = true) := by decide +kernel
theorem witness_ReferenceAndHousekeeping :
    let timed (w : Word) : State := { (run.wr 0x0110 w) with fab := { run.fab with hasTime := true } }
    (run.Stored ∧ run.awake = true ∧ (run.wr 0x0110 0).fld 0x0110 0 2 = 0 ∧ (nx .reffail (run.wr 0x0110 0)).fld 0x0110 0 2 = 2 ∧
      (nx .reffail (run.wr 0x0110 4)).fld 0x0110 0 2 = 1) ∧
    ((timed 2).fld 0x0110 0 2 ≠ 0 ∧ (timed 2).fab.hasTime = true ∧ ((timed 2).rd 0x0110).getLsbD 2 = false ∧ (nx (.reflock true) (timed 2)).fld 0x0110 0 2 = 1) ∧
    (((timed 5).rd 0x0110).getLsbD 2 = true ∧ ((nx (.reflock false) (timed 5)).rd 0x0110).getLsbD 2 = false) ∧
    (run.sense.last.length = 58 ∧ run.up = true) ∧
    (let a := { closed run with pwr := { run.pwr with stopping := true } }
     a.pwr.stopping = true ∧ a.ramping = false ∧ (nx .guardEntryAfterStop a).pwr.gcause = 1 ∧ (nx .guardEntryAfterStop a).pins.safeH = false) := by decide +kernel

/-! ## Host ports, registers and the mailbox -/

/-- An SPI request with its CRC (R64, R65). -/
def spi (op a : Byte) (w : Word) : BitVec 56 :=
  let bs : List Byte := [op, a] ++ bytesBE 4 w.toNat
  BitVec.ofNat 56 (numBE (bs ++ [crc8 bs]))
/-- A host is attached on every port (`host.attached`). -/
def host : State := run.wr 0x0205 7
def busy : State := ask host (rq 0x00 0 0 0 0)
def cmdIs (s : State) (w : Word) : State := { s with host := { s.host with cmd := w } }

theorem test_crc8_known : crc8 [0x31, 0x32, 0x33, 0x34, 0x35, 0x36, 0x37, 0x38, 0x39] = 0xF4 := by decide +kernel
theorem witness_SpiFrames : host.awake = true ∧ host.host.portsOn.getLsbD 0 = true ∧ (host.rd 0x0205).getLsbD 0 = true ∧
    (nx (.spiFrame 55 0) host).host.frameCnt = 1 ∧
    (let b := spi 1 0 0 ^^^ 1
     crc8 ((bytesBE 7 b.toNat).take 6) ≠ nth (bytesBE 7 b.toNat) 6 0 ∧ (nx (.spiFrame 56 b) host).host.crcCnt = 1) ∧
    (let b := spi 1 0 0
     crc8 ((bytesBE 7 b.toNat).take 6) = nth (bytesBE 7 b.toNat) 6 0 ∧ numBE (((bytesBE 7 (nx (.spiFrame 56 b) host).host.spiResp.toNat).drop 2).take 4) = 0x0DA52440) ∧
    (nx (.spiFrame 56 (spi 2 0x1F 0x12345678)) host).host.scratch = 0x12345678 ∧
    (nx (.spiFrame 56 (spi 3 0 0)) host).host.scratch = 0 ∧ (nx (.spiFrame 56 (spi 0 0x20 0)) host).host.crcCnt = 0 := by decide +kernel
theorem witness_CanAndUartFrames : (0x1C : Byte) ≤ 0x1C ∧ host.host.portsOn.getLsbD 1 = true ∧ host.host.portsOn.getLsbD 2 = true ∧
    (host.rd 0x0205).getLsbD 1 = true ∧ (host.rd 0x0205).getLsbD 2 = true ∧
    (nx (.canFdRequest 0x300 [0x01, 9, 1, 1, 0, 0, 0, 0, 0, 0, 0, 0]) host).host.canTx.map (·.1) = [0x301] ∧
    (nx (.uartFrame (uartEscape ([0x01, 9, 1, 1, 0, 0, 0, 0, 0] ++ [crc8 [0x01, 9, 1, 1, 0, 0, 0, 0, 0]]))) host).host.uartTx.length = 1 ∧
    (nx (.uartFrame (uartEscape ([0x01, 9, 1, 1, 0, 0, 0, 0, 0] ++ [crc8 [0x01, 9, 1, 1, 0, 0, 0, 0, 0] + 1]))) host).host.crcCnt = 1 ∧
    (nx .uartFrameTimeout host).host.frameCnt = 1 := by decide +kernel
theorem witness_RegisterWrites : host.awake = true ∧ host.host.portsOn.getLsbD (portCode .spi) = true ∧
    (busy.host.busy = true ∧ (nx (.registerWrite .spi 0x05 1) busy).host.rej = true ∧ (nx (.registerWrite .spi 0x09 1) busy).host.args = busy.host.args) ∧
    (host.host.busy = false ∧ (nx (.registerWrite .spi 0x05 0xFFFFFFFF) host).host.cmd = 0x1FFFFFFF ∧ (nx (.registerWrite .spi 0x09 3) host).host.args = [0, 0, 0, 3]) ∧
    (nx (.registerWrite .spi 0x1B 0xFF) host).host.intMask = 0x3F ∧
    (host.fld 0x1112 0 19 ≤ bitsOf 0 0 18 ∧ (nx (.registerWrite .spi 0x1C 0) host).host.sel = 0 ∨ bitsOf 0 0 18 < host.fld 0x1112 0 19) ∧
    (bitsOf 0x80000003 0 18 < (host.wr 0x1112 4).fld 0x1112 0 19 ∧ (nx (.registerWrite .spi 0x1C 0x80000003) (host.wr 0x1112 4)).host.sel = 0x80000003 ∧
      (nx (.registerWrite .spi 0x1C 4) (host.wr 0x1112 4)).host.sel = 0) ∧
    yields (.registerWrite .spi 0x04 5) host { host with host := { host.host with lastPort := 0 } } = true := by decide +kernel
theorem witness_PortReadsAndHousekeeping :
    let ring : State := { host with host := { host.host with head := 3, tail := 0xFFFF } }
    let sel : State := { host.wr 0x1112 4 with host := { host.host with sel := 0x80000003 } }
    let notice : State := { host with host := { host.host with holdoff := true, noticeDue := true } }
    let errs : State := { host with host := { host.host with errPorts := 1, crcCnt := 2 } }
    (ring.awake = true ∧ (ring.host.head - ring.host.tail).toNat < ((4 : Half) - ring.host.tail).toNat ∧ (nx (.evtTailWrite .spi 4) ring).host.badTail = true) ∧
    (((3 : Half) - ring.host.tail).toNat ≤ (ring.host.head - ring.host.tail).toNat ∧ ring.ev.ringLost = false ∧ (nx (.evtTailWrite .spi 3) ring).host.tail = 3) ∧
    (sel.host.sel.getLsbD 31 = true ∧ bitsOf (nx (.streamWinRead .spi .pass) sel).host.sel 0 18 = 0) ∧
    (errs.up = true ∧ errs.host.errPorts ≠ 0 ∧ (nx .hosterr errs).host.errPorts = 0 ∧ (nx .hosterr errs).host.crcCnt = 2) ∧
    (nx .hostPortReconfig (host.wr 0x0200 5)).host.portsOn = 5 ∧
    (notice.host.noticeDue = true ∧ (nx .intNoticeHoldoffEnd notice).host.holdoff = true ∧ (nx .intNoticeHoldoffEnd notice).host.noticeSeq = 1 ∧
      (nx .intNoticeHoldoffEnd notice).host.uartTx.length = 1) ∧
    (host.host.noticeDue = false ∧ (nx .intNoticeHoldoffEnd host).host.holdoff = false) := by decide +kernel
/-- A REQUEST payload for address 1 (R451). -/
def request (code : Byte) : List Byte := [code, 7, 0, 1, 0, 0, 0, 0, 0, 0, 0, 0, 0, 0, 0, 0, 0, 0, 0, 0]
theorem witness_GoStartsOrIsRefused :
    (busy.host.busy = true ∧ (nx (.doorbellGo .spi) busy).host.rej = true) ∧
    (host.host.busy = false ∧ host.host.done = false ∧ host.host.cmd.getLsbD 28 = false ∧ host.pwr.mode ≠ .start ∧
      knownCode (BitVec.ofNat 8 (bitsOf host.host.cmd 0 8)) = true ∧ (nx (.doorbellGo .spi) host).host.busy = true) ∧
    (knownCode (BitVec.ofNat 8 (bitsOf (cmdIs host 0x03).host.cmd 0 8)) = false ∧ (nx (.doorbellGo .spi) (cmdIs host 0x03)).host.status = 0x01) ∧
    (pair.up = true ∧ pair.fab.valid = true ∧ (request 0x03).length = 20 ∧ numBE (((request 0x03).drop 2).take 2) % 4096 = pair.fab.addr.toNat ∧
      knownCode (nth (request 0x03) 0 0) = false) := by decide +kernel
theorem witness_CommandsBeforeReady :
    let s := inPhase .discovery
    let b := inPhase .bootOnly
    (s.awake = true ∧ s.host.portsOn.getLsbD (portCode .spi) = true ∧ s.pwr.mode = .start ∧ s.host.busy = false ∧ s.host.done = false ∧
      (nx (.doorbellGo .spi) (cmdIs s 0x10)).host.status = 0x09 ∧ (nx (.doorbellGo .spi) (cmdIs b 0x10)).host.status = 0x0A) ∧
    ((cmdIs s 0x70).host.cmd.getLsbD 28 = false ∧ (nx (.doorbellGo .spi) (cmdIs s 0x70)).host.busy = true ∧ (nx (.doorbellGo .spi) (cmdIs b 0x01)).host.busy = true) ∧
    (let f := { s with fab := { s.fab with valid := true, addr := 1 } }
     f.pwr.phase = .discovery ∧ f.fab.valid = true ∧ numBE (((request 0x10).drop 2).take 2) % 4096 = f.fab.addr.toNat) := by decide +kernel
theorem witness_AbortEndsCommands :
    let away : State := { busy with host := { busy.host with remote := some (1, 2) } }
    let save : State := { host with host := { host.host with busy := true, req := some { rq 0x15 0 0 0 0 with started := true } },
                                    nv := { host.nv with queue := [⟨.cfg false .mbx, 0x200C2000, [1], true⟩] } }
    (away.awake = true ∧ away.host.busy = true ∧ away.host.req = some (rq 0x00 0 0 0 0) ∧ away.host.remote.isSome = true ∧
      (nx (.doorbellAbort .spi) away).host.status = 0x0F ∧ (nx (.doorbellAbort .spi) away).host.remote = none) ∧
    (save.host.remote = none ∧ (nx (.doorbellAbort .spi) save).host.status = 0x0F ∧ (nx (.doorbellAbort .spi) save).nv.queue = []) ∧
    (busy.host.remote = none ∧ (nx (.doorbellAbort .spi) busy).host.busy = true) := by decide +kernel
theorem witness_CompletionShowsResult : busy.host.req = some (rq 0x00 0 0 0 0) ∧ (busy.complete .mbx 5 [1]).host.status = 5 ∧
    (askF pair (rq 0x00 0 0 0 0)).host.queue = (⟨2, 9, 1, rq 0x00 0 0 0 0⟩ : FabricReq) :: [] := by decide +kernel
theorem witness_PlainCommands : busy.Requests .mbx (rq 0x00 0 0 0 0) ∧ (askF pair (rq 0x00 0 0 0 0)).Requests .fabric (rq 0x00 0 0 0 0) ∧
    (nx (.nop .mbx) busy).host.status = 0x00 ∧ (nx (.nop .mbx) (ask host (rq 0x00 0 0 0 1))).host.status = 0x03 ∧
    nth (nx (.identify .mbx) (ask host (rq 0x01 0 0 0 0))).host.rsp 0 0 = 0x0DA52440 ∧ (nx (.identify .mbx) (ask host (rq 0x01 1 0 0 0))).host.status = 0x03 ∧
    (nx (.sysReset .mbx) (ask host (rq 0x02 0xA5C3 0 0 0))).pwr.resetDue = some 4 ∧ (nx (.sysReset .mbx) (ask host (rq 0x02 0xA5C2 0 0 0))).pwr.resetDue = none ∧
    (nx (.chiselStatus .mbx) (ask host (rq 0x58 0 0 0 0))).host.status = 0x00 ∧ (nx (.chiselStatus .mbx) (ask host (rq 0x58 0 0 1 0))).host.status = 0x03 := by decide +kernel

/-! ## Parameters, configuration and firmware -/

def wrote (id value mask : Word) : Req := rq 0x11 id value mask 0
def set (s : State) (id value mask : Word) : State := ask s (wrote id value mask)
/-- A firmware update under way: staging at NEXT 0, or staged. -/
def staging (st next : Nat) : State := { run.wr 0x020F (pack [(20, 3, st), (0, 20, next)]) with nv := { run.nv with fwLength := 4096 } }

theorem witness_ParamGetReads :
    (let r := rq 0x10 0x00000101 0 0 0
     (ask run r).Requests .mbx r ∧ r.code = 0x10 ∧ bitsOf r.a0 19 13 = 0 ∧ (fieldsOf 0x0101).isSome = true ∧
       (nx (.paramGet .mbx .pass) (ask run r)).host.status = 0x00 ∧ (nx (.paramGet .mbx .lasting) (ask run r)).host.status = 0x11) ∧
    (fieldsOf 0xFFFF = none ∧ (nx (.paramGet .mbx .pass) (ask run (rq 0x10 0xFFFF 0 0 0))).host.status = 0x02) ∧
    (bitsOf (0x00080101 : Word) 19 13 ≠ 0 ∧ (nx (.paramGet .mbx .pass) (ask run (rq 0x10 0x00080101 0 0 0))).host.status = 0x03) ∧
    (run.Stored ∧ timerPlace 0x0102 = none) := by decide +kernel
theorem witness_ParamSetWrites :
    (let r := wrote 0x0203 1 3
     (ask run r).Requests .mbx r ∧ bitsOf r.a0 16 16 = 0 ∧ run.writeCheck .mbx 0x0203 1 3 = 0x00 ∧ (nx (.paramSet .mbx) (ask run r)).host.status = 0x00 ∧
       (nx (.paramSet .mbx) (ask run r)).fld 0x0203 0 2 = 1) ∧
    ((nx (.paramSet .mbx) (ask run (rq 0x11 0x10203 1 3 0))).host.status = 0x03) ∧
    ((set run 0x0102 1 1).writeCheck .mbx 0x0102 1 1 ≠ 0x00 ∨ (fieldsOf 0xFFFF = none ∧ (nx (.paramSet .mbx) (set run 0xFFFF 1 1)).host.status = 0x02)) ∧
    (let t : State := { run with host := { run.host with tickIds := [(0x0203, .node 2)] } }
     (0x0203, Requester.node 2) ∈ t.host.tickIds ∧ (wrote 0x0203 1 3).at_ = t.host.tickAt ∧ Requester.node 2 ≠ (set t 0x0203 1 3).requester .mbx ∧ (nx (.paramSet .mbx) (set t 0x0203 1 3)).host.status = 0x06) ∧
    (∃ fs, fieldsOf 0x0104 = some fs ∧ (fs.any fun f => f.acc == .rw || f.acc == .wo || f.acc == .w1c) = false ∧ run.writeCheck .mbx 0x0104 1 1 = 0x04) := by
  decide +kernel

theorem witness_MaskedWriteIsReadModifyWrite : run.Stored ∧ (fieldsOf 0x0203).isSome = true ∧ streamPlace 0x0203 = none ∧ timerPlace 0x0203 = none ∧
    isCal 0x0203 = false ∧ ¬ (0x1690 ≤ 0x0203 ∧ 0x0203 < 0x1698) ∧
    0x0203 ∉ [0x0101, 0x1000, 0x1002, 0x2102, 0x3120, 0x3128, 0x1109, 0x1300, 0x1400, 0x1500, 0x150A, 0x151D, 0x151E, 0x1600, 0x1601, 0x2003, 0x2025,
      0x2040, 0x2100, 0x1200, 0x1211, 0x1212, 0x1213, 0x1214] ∧
    (run.writeParam none 0x0203 0xFFFFFFFF 1).rd 0x0203 = run.rd 0x0203 ||| 1 := by decide +kernel

theorem witness_NamedWritesComplete :
    let ok (c : Instr) (s : State) (id value mask : Word) : Bool := s.writeCheck .mbx id.toNat value mask == 0x00 &&
      decide ((set s id value mask).Requests .mbx (wrote id value mask)) && (nx c (set s id value mask)).host.status == 0x00 &&
      (nx c (set s id value mask)).host.done
    ok (.stateReqRun .mbx) run 0x0101 0 3 = true ∧ ok (.stateReqWatch .mbx) run 0x0101 1 3 = true ∧ ok (.stateReqHatbox .mbx) run 0x0101 2 3 = true ∧
    ok (.seqLoad .mbx) run 0x1200 2 2 = true ∧ ok (.seqRunWrite .mbx) run 0x1200 1 1 = true ∧
    ok (.timerCountWrite .mbx) run 0x1683 1 1 = true ∧ ok (.patHoldRelease .mbx) run 0x1300 0 2 = true ∧ ok (.probenow .mbx) run 0x1500 2 2 = true ∧
    ok (.timerStartStop .mbx) run 0x1600 0x8001 0xFFFF = true ∧ ok (.snapFree .mbx) run 0x2040 0x200 0x300 = true ∧
    ok (.fabWake .mbx) { pair with fab := { pair.fab with nodes := [nodeRec 0 1 0 [], { nodeRec 5 2 0 [] with sleep := true }] } } 0x2025 2 0xFFF = true ∧
    run.writeCheck .mbx 0x1109 57 0x3F = 0x00 ∧ ((nx (.hostInjectionRequest .mbx) (set run 0x1109 57 0x3F)).host.req.map (·.started)) = some true := by decide +kernel

theorem witness_NamedWriteEffects :
    let watch := inMode .watch
    (run.Stored ∧ run.pwr.hatbox ≠ .stopping ∧ (run.writeParam none 0x0101 1 3).pwr.request = some .watch ∧
      (run.writeParam none 0x0101 2 3).pwr.hatbox = .accepted) ∧
    (watch.pwr.mode = .watch ∧ (watch.writeParam none 0x0101 0 3).pwr.request = some .run) ∧
    (run.writeParam none 0x1200 2 2).bit 0x1200 1 = true ∧
    ((run.rd 0x1148).getLsbD 0 = false ∧ ((run.writeParam none 0x1148 1 1).rd 0x1148).getLsbD 0 = true ∧ (run.writeParam none 0x1148 1 1).rd 0x114C = 0) ∧
    (run.writeParam none 0x114C 0xFFFFFFFF 0xFFFFFFFF).rd 0x114C = 0xFFFFFFFF ∧
    ((57 : Word).toNat < 58 ∧ run.conv.inject.length < 8 ∧ (run.writeParam (some .mbx) 0x1109 57 0x3F).conv.inject = [⟨57, .host (some .mbx)⟩]) ∧
    (let h := { run.wr 0x1300 3 with pat := { run.pat with held := [(0x1320, 5)] } }
     (h.rd 0x1300).getLsbD 1 = true ∧ (h.writeParam none 0x1300 0 2).pat.held = [] ∧ (h.writeParam none 0x1300 0 2).pat.due.map (·.1) = [0x1320]) ∧
    ((run.wr 0x1000 3).writeParam none 0x1500 2 2).bal.toProbe = 7 ∧
    (run.tmr.length = 8 ∧ ((run.writeParam none 0x1600 0x80 0xFFFF).unit 7).running = true ∧
      ((run.writeParam none 0x1600 0x8000 0xFFFF).unit 7).running = false ∧ run.unitRuns 7 = false ∧ (run.writeParam none 0x1683 9 0xFFFFFFFF).rd 0x1683 = 9) ∧
    (let r := run.writeParam none 0x1600 0x80 0xFFFF
     r.unitRuns 7 = true ∧ ((r.writeParam none 0x1683 9 0xFFFFFFFF).unit 7).loaded = some 9) ∧
    (run.writeParam none 0x2040 0x200 0x300).snap.slots = [.free, .free] := by decide +kernel

theorem witness_StagingSet :
    let r := rq 0x12 0x0203 1 3 0
    let held : State := { run with host := { run.host with staged := [⟨0x0203, 1, 3⟩], stageOwner := some (run.requester .mbx) } }
    let full : State := { run with host := { run.host with staged := List.replicate 32 ⟨0x0203, 1, 3⟩, stageOwner := some (run.requester .mbx) } }
    let other : State := { run with host := { run.host with staged := [⟨0x0203, 1, 3⟩], stageOwner := none } }
    let shut : State := { inMode .guard with host := { held.host with staged := [⟨0x0101, 1, 3⟩] } }
    ((ask run r).Requests .mbx r ∧ (ask run r).host.staged = [] ∧ (ask run r).project.writeCheck .mbx 0x0203 1 3 = 0x00 ∧
      (nx (.paramStage .mbx) (ask run r)).host.staged.length = 1 ∧ nth (nx (.paramStage .mbx) (ask run r)).host.rsp 0 0 = 1) ∧
    (let late : State := { held with host := { held.host with tickIds := [(0x0203, .node 2)] } }
     ((ask late (rq 0x13 0 0 0 0)).tickClash .mbx (rq 0x13 0 0 0 0)).map (·.id) = some 0x0203 ∧ (nx (.paramApply .mbx) (ask late (rq 0x13 0 0 0 0))).host.status = 0x06 ∧
       nth (nx (.paramApply .mbx) (ask late (rq 0x13 0 0 0 0))).host.rsp 0 0 = 0x0203) ∧
    ((ask run (rq 0x13 1 0 0 0)).host.staged = [] ∧ (nx (.paramApply .mbx) (ask run (rq 0x13 1 0 0 0))).host.status = 0x00) ∧
    ((ask full r).host.staged.length = 32 ∧ (ask full r).project.writeCheck .mbx 0x0203 1 3 = 0x00 ∧ (nx (.paramStage .mbx) (ask full r)).host.status = 0x0B) ∧
    (¬ ((ask other r).host.staged = [] ∨ (ask other r).host.stageOwner = some ((ask other r).requester .mbx)) ∧
      (nx (.paramStage .mbx) (ask other r)).host.status = 0x06 ∧ (nx (.paramDiscard .mbx) (ask other (rq 0x14 0 0 0 0))).host.status = 0x06) ∧
    ((nx (.paramStage .mbx) (ask run (rq 0x12 0xFFFF 1 3 0))).host.status = 0x02) ∧
    ((nx (.paramApply .mbx) (ask held (rq 0x13 1 0 0 0))).host.applyWait = some .mbx) ∧
    (firstRefused .mbx held.host.staged held = none ∧ (nx (.paramApply .mbx) (ask held (rq 0x13 0 0 0 0))).fld 0x0203 0 2 = 1) ∧
    (shut.refuses .mbx 0x0101 1 3 (shut.merged 0x0101 ((fieldsOf 0x0101).getD []) 1 3) = true ∧
      (nx (.paramApply .mbx) (ask shut (rq 0x13 0 0 0 0))).host.status = 0x06 ∧ (nx (.paramApply .mbx) (ask shut (rq 0x13 0 0 0 0))).host.staged = []) ∧
    (nx (.paramDiscard .mbx) (ask held (rq 0x14 0 0 0 0))).host.staged = [] ∧ (nx (.paramDiscard .mbx) (ask held (rq 0x14 0 0 0 0))).host.rsp.head? = some 1 := by
  decide +kernel

theorem witness_ConfigurationSaved :
    (let r := rq 0x15 0 0 0 0
     (ask run r).Requests .mbx r) ∧
    (let r := rq 0x16 0xA5C3 0 0 0
     (ask run r).Requests .mbx r ∧ (ask run r).pins.safeH = false ∧ (ask run r).pins.safeL = false) ∧
    (nx (.cfgDefaults .mbx) (ask run (rq 0x16 0xA5C2 0 0 0))).host.status = 0x03 ∧
    (nx (.cfgDefaults .mbx) (ask (closed run) (rq 0x16 0xA5C3 0 0 0))).host.status = 0x06 := by decide +kernel

theorem witness_PageWrites :
    let page (job : NvJob) : State := { run with nv := { run.nv with queue := [⟨job, 0x200E2FFF, [0xAB], true⟩], fwTarget := true } }
    (run.Stored ∧ run.awake = true ∧ run.nv.hold = false ∧ run.nv.queue = [] ∧ yields (.nvPageWriteDone .pass) run run = true) ∧
    ((page .goals).nv.queue = (⟨.goals, 0x200E2FFF, [0xAB], true⟩ : NvWrite) :: [] ∧ (nx (.nvPageWriteDone .pass) (page .goals)).ldByte 0x200E2FFF = 0xAB ∧
      (nx (.nvPageWriteDone .pass) (page .goals)).rd 0x4003 = 1 ∧ (nx (.nvPageWriteDone .lasting) (page .goals)).ldByte 0x200E2FFF = 0) ∧
    (nx (.nvPageWriteDone .pass) (page (.cfg true .mbx))).nv.queue = [] ∧
    (nx (.nvPageWriteDone .pass) (page (.boot .mbx))).pwr.resetDue = some 5 ∧ (nx (.nvPageWriteDone .pass) (page (.boot .mbx))).fld 0x0108 0 2 = 1 := by decide +kernel

theorem witness_FirmwareUpdate :
    let fw (n : Word) := rq 0x70 n 1 0 0
    let z (c : Byte) := rq c 0 0 0 0
    ((ask run (fw 4096)).Stored ∧ (ask run (fw 4096)).Requests .mbx (fw 4096) ∧ (nx (.fwBegin .mbx) (ask run (fw 4096))).rd 0x020F = 0x00100000 ∧
      (nx (.fwBegin .mbx) (ask run (fw 393216))).nv.fwLength = 393216 ∧ (nx (.fwBegin .mbx) (ask run (fw 4092))).host.status = 0x03 ∧
      (nx (.fwBegin .mbx) (ask run (fw 4098))).host.status = 0x03 ∧ (nx (.fwBegin .mbx) (ask run (fw 393220))).host.status = 0x03) ∧
    (run.fld 0x020F 20 3 ≠ 1 ∧ (nx (.fwData .mbx) (ask run (z 0x71))).host.status = 0x06) ∧
    ((staging 1 4092).fld 0x020F 20 3 = 1 ∧ (staging 1 4092).nv.fwLength.toNat - 4092 = 4 ∧
      (nx (.fwData .mbx) (ask (staging 1 4092) (rq 0x71 4092 0x01020304 0 0))).nv.queue.map (·.data) = [[1, 2, 3, 4]] ∧
      (nx (.fwData .mbx) (ask (staging 1 4092) (rq 0x71 4092 0x01020304 1 0))).host.status = 0x03 ∧
      (nx (.fwData .mbx) (ask (staging 1 4092) (rq 0x71 4080 0 0 0))).host.status = 0x03) ∧
    ((nx (.fwEnd .mbx true .pass) (ask (staging 1 4092) (z 0x72))).host.status = 0x06 ∧ (staging 1 4096).nv.fwLength.toNat ≤ (staging 1 4096).fld 0x020F 0 20 ∧
      (staging 1 4096).slotField false 0 4 = 0x45565253 ∧ (staging 1 4096).slotField false 4 4 = (staging 1 4096).nv.fwLength.toNat ∧
      (nx (.fwEnd .mbx true .pass) (ask (staging 1 4096) (z 0x72))).host.status = 0x00 ∧
      (nx (.fwEnd .mbx false .pass) (ask (staging 1 4096) (z 0x72))).host.status = 0x0D ∧
      (nx (.fwEnd .mbx true .pass) (ask ((staging 1 4096).wr 0x4010 1) (z 0x72))).host.status = 0x0E ∧
      (nx (.fwEnd .mbx true .lasting) (ask (staging 1 4096) (z 0x72))).host.status = 0x0C) ∧
    (let r := rq 0x73 0xA5C3 0 0 0
     (staging 2 4096).fld 0x020F 20 3 = 2 ∧ (nx (.fwActivate .mbx) (ask (staging 2 4096) r)).host.busy = true ∧
       (nx (.fwActivate .mbx) (ask (closed (staging 2 4096)) r)).host.status = 0x06 ∧ (nx (.fwActivate .mbx) (ask run r)).host.status = 0x06) ∧
    ((run.nv.noImage = false ∧ (run.rd 0x0108).getLsbD 9 = false ∧ (run.wr 0x4011 0).secRunning ≤ (run.wr 0x4011 0).fld 0x4010 0 16 ∧
        (nx (.fwCommit .mbx) (ask (run.wr 0x4011 0) (z 0x74))).host.done = true) ∧
      (let n := run.wr 0x4011 0x00010001
       n.fld 0x4010 0 16 < n.secRunning ∧ (nx (.fwCommit .mbx) (ask n (z 0x74))).host.busy = true) ∧
      (nx (.fwCommit .mbx) (ask (run.wr 0x0108 0x200) (z 0x74))).host.status = 0x06) ∧
    ((nx (.fwAbort .mbx) (ask run (z 0x75))).host.status = 0x00 ∧ (staging 2 4096).fld 0x020F 20 3 ≠ 0 ∧
      (nx (.fwAbort .mbx) (ask (staging 2 4096) (z 0x75))).nv.marked = 1) := by decide +kernel

theorem witness_RemoteCommands :
    let full : State := { pair with host := { pair.host with queue := List.replicate 8 ⟨2, 9, 1, rq 0x00 0 0 0 0⟩ } }
    let away : State := { ask pair (rq 0x00 0 0 0 0) with host := { (ask pair (rq 0x00 0 0 0 0)).host with remote := some (3, 2) } }
    let relayed : State := { askF pair (rq 0x40 0 0 0 0) with host := { (askF pair (rq 0x40 0 0 0 0)).host with relay := some (3, 2) } }
    let answer : List Byte := [0x00, 7, 0, 3] ++ List.replicate 31 0 ++ [5]
    (pair.up = true ∧ pair.fab.valid = true ∧ knownCode (nth (request 0x10) 0 0) = true ∧ pair.host.queue.length < 8 ∧
      (nx (.remoteRequest 2 9 (request 0x10)) pair).host.queue.length = 1) ∧
    (8 ≤ full.host.queue.length ∧ (nx (.remoteRequest 2 9 (request 0x10)) full).host.queue.length = 8) ∧
    (answer.length = 36 ∧ away.host.remote = some (BitVec.ofNat 16 (numBE ((answer.drop 2).take 2)), 2) ∧ (nx (.remoteResponse 2 answer) away).host.rsp = [0, 0, 0, 0, 0, 0, 0, 5]) ∧
    (relayed.host.remote = none ∧ relayed.host.relay = some (BitVec.ofNat 16 (numBE ((answer.drop 2).take 2)), 2) ∧ (nx (.remoteResponse 2 answer) relayed).host.queue = []) ∧
    yields (.remoteResponse 3 answer) away away = true ∧ (nx .remoteTimeout away).host.status = 0x07 ∧ (nx .remoteTimeout relayed).host.queue = [] ∧
    yields .remoteTimeout pair pair = true ∧
    (host.fld 0x0205 0 3 ≠ 0 ∧ host.ev.ringLost = false ∧ host.ringFill ≠ 256 ∧ (nx (.eventFrame 1 2 3 4) host).host.head = 1 ∧
      (nx (.eventFrame 1 2 3 4) host).ldWord 0x5F000 = 0x10000001) ∧
    (run.fld 0x0205 0 3 = 0 ∧ yields (.eventFrame 1 2 3 4) run run = true) := by decide +kernel

/-! ## Sequencer, conversion and calibration -/

/-- The sequencer running over one active table, at an entry and a pass. -/
def seqAt (e : Entry) (ph : SeqPhase) (p : Nat) : State :=
  { run.wr 0x1200 1 with seq := { run.seq with phase := ph, pass := p, active := e :: List.replicate 63 ⟨0, 0, 0, 0⟩ } }
def entryW : Entry := ⟨1, 0, 0xA0000001, 100⟩
def entryB : Entry := ⟨1, 0, 0x90000001, 100⟩
def entryC : Entry := ⟨1, 0, 0x80000002, 100⟩
def convK (dest : Dest) : Conversion := ⟨0, 0, 43, 1, 0, false, 0, 0, 0, 1, false, false, false, false, false, false, false, 0, dest⟩

theorem test_entry_bits : entryW.wait = true ∧ entryB.blank = true ∧ entryC.wait = false ∧ entryC.blank = false ∧ entryC.count = 2 := by decide +kernel
theorem witness_SequencerPasses :
    let a := seqAt entryW .running 0
    let b := seqAt entryB .running 0
    let c := seqAt entryC .running 0
    let d := seqAt entryC .running 1
    yields .seqPassStart (seqAt entryC .stopped 0) (seqAt entryC .stopped 0).settle = true ∧
    (a.seq.phase = .running ∧ a.pwr.request = none ∧ a.seq.checked = none ∧ a.host.applyWait = none ∧ (a.rd 0x1200).getLsbD 0 = true ∧ a.seq.wrap = false ∧
      a.sweep.align = false ∧ (nx .seqPassStart a).seq.phase = .waiting) ∧
    ((nx .seqPassStart b).seq.phase = .leadIn ∧ b.Stored) ∧
    ((nx .seqPassStart c).seq.pass = 1 ∧ (nx .seqPassStart c).conv.passNo = 2) ∧ (nx .seqPassStart d).seq.pass = 0 := by decide +kernel
theorem witness_ConversionResults :
    let s : State := { run with conv := { run.conv with plan := [convK (.host none)] } }
    (∀ k, k ∈ run.conv.plan → k.lane ≠ 4) ∧ s.conv.plan.find? (fun k => k.lane == 0) = some (convK (.host none)) ∧ s.sense.last.length = 58 ∧
    (convK (.host none)).chan < 58 ∧ s.Stored := by decide +kernel
/-- Stream 7 on, four words at 0x1000, one word staged. -/
def staged7 : List Stream := run.conv.streams.set 7 ⟨[⟨1, 0, .valid, 5, 1, 0, false, true⟩], true, 0, none, 0, false, false, false, false, 0⟩
def st : State := { ((run.wr 0x1148 1).wr 0x1149 0x1000).wr 0x114A 4 with conv := { run.conv with streams := staged7 } }
theorem witness_TriggersStreamsAndBanks :
    let fired (s : State) : State := { s with seq := { s.seq with fired := some 5 } }
    let w := fired (seqAt entryW .waiting 0)
    let c : State := { run.wr 0x1200 2 with seq := { run.seq with pending := List.replicate 64 ⟨0, 0, 0, 0⟩ } }
    let g : State := { c with seq := { c.seq with pending := run.seq.active.take 1 ++ List.replicate 63 ⟨0, 0, 0, 0⟩ } }
    let inj : State := { run with conv := { run.conv with inject := [⟨3, .safety⟩] } }
    let saf : State := { run with conv := { run.conv with safetyInj := [3, 4] } }
    let full : State := { set run 0x1109 57 0x3F with conv := { run.conv with inject := List.replicate 8 ⟨3, .safety⟩ } }
    (w.seq.phase = .waiting ∧ w.seq.fired = some 5 ∧ w.pwr.request = none ∧ w.seq.checked = none ∧ w.host.applyWait = none ∧ (w.rd 0x1200).getLsbD 0 = true ∧
      (nx .seqTrigger w).clk.ref = 8 ∧ (nx .seqTrigger w).seq.phase = .running) ∧
    (nx .seqTrigger (fired (seqAt { entryW with ctrl := 0xB0000001 } .waiting 0))).seq.phase = .leadIn ∧
    yields .seqTrigger run run = true ∧
    (let m := (seqAt entryW .waiting 0).wr 0x1208 5
     m.fld 0x1208 0 16 ≠ 0 ∧ m.seq.fired = none ∧ (nx .trigmiss m).seq.phase = .running) ∧
    (let z := (seqAt entryW .waiting 0).wr 0x1208 0
     z.fld 0x1208 0 16 = 0 ∧ yields .trigmiss z z = true) ∧
    (let e : State := { run.wr 0x1501 2 with seq := { run.seq with spanEnd := some 3 } }
     e.seq.spanEnd = some 3 ∧ (nx .blankedSpanEnd e).bit 0x1501 1 = false ∧ (nx .blankedSpanEnd e).seq.spanEnd = none) ∧ yields .blankedSpanEnd run run = true ∧
    (c.up = true ∧ (c.rd 0x1200).getLsbD 1 = true ∧ c.seq.checked = none ∧ (nx .tableCheckDone c).rd 0x1203 = 0x13F) ∧
    (g.bankFailure g.seq.pending = none ∧ (nx .tableCheckDone g).seq.checked = some false) ∧
    (st.fill 7 + 1 ≤ (st.rd 0x114A).toNat ∧ (nx (.streamBurstWrite 7) st).rd 0x114B = 1) ∧ yields (.streamBurstWrite 7) run run = true ∧
    yields (.injectionStart 4) run run = true ∧ (inj.chis.busy = false ∧ (nx (.injectionStart 4) inj).conv.plan.map (·.chan) = [3]) ∧
    ((nx (.injectionStart 4) saf).conv.safetyInj = [4]) ∧
    (full.Requests .mbx (wrote 0x1109 57 0x3F) ∧ 8 ≤ full.conv.inject.length ∧ (nx (.hostInjectionRequest .mbx) full).host.status = 0x06) ∧
    yields .wintrackTimeout (run.wr 0x1107 0) (run.wr 0x1107 0) = true ∧
    (let x := run.wr 0x1107 5
     x.rd 0x1107 ≠ 0 ∧ x.conv.lost = false ∧ (nx .wintrackTimeout x).conv.lost = true ∧ (nx .wintrackTimeout (nx .wintrackTimeout x)).conv.captures = 0) := by
  decide +kernel

def patSet (started : Bool) (group : Nat) (n : Nat) : State :=
  { run.wr 0x1000 (BitVec.ofNat 32 n) with pat := { run.pat with set := some ⟨.mbx, started, 0, group, false, List.replicate 24 (100, 1, false)⟩ } }
theorem witness_PatinaCalibrates :
    let on := run.wr 0x1300 1
    let z (c : Byte) := rq c 0 0 0 0
    let hold := run.wr 0x1300 2
    let due : State := { run with pat := { run.pat with due := [(0x1320, 5)] } }
    (on.pwr.mode = .run ∧ (on.rd 0x1300).getLsbD 0 = true ∧ (nx .patinaRotationMark on).pat.mark = true) ∧
    ((List.replicate 55 (7 : Word)).length = 55 ∧ on.fld 0x1301 8 8 < 7 ∧ on.Stored ∧
      ((nx (.patinaUpdate (List.replicate 55 7)) on).pat.update.take 55).map (·.1) = (List.range 55).map (0x1320 + ·) ∧
      (nx (.patinaUpdate (List.replicate 55 7)) on).fld 0x1301 8 8 = 1) ∧
    ((off.rd 0x1300).getLsbD 0 = false ∨ off.pwr.mode ≠ .run) ∧ yields .patinaRotationMark off off = true ∧
    ((ask run (z 0x21)).Requests .mbx (z 0x21) ∧ (nx (.calCommit .mbx) (ask (run.wr 0x1300 0) (z 0x21))).pat.commit = some (.mbx, false) ∧
      (nx (.calCommit .mbx) (ask hold (z 0x21))).host.status = 0x06) ∧
    ((nx (.calReload .mbx .pass) (ask run (z 0x22))).pat.reload = some (.mbx, .pass) ∧ (nx (.calReload .mbx .pass) (ask (patSet false 0 3) (z 0x22))).host.status = 0x06) ∧
    (isCal 0x1320 = true ∧ due.Stored ∧ due.calBoundary.rd 0x1320 = 5 ∧ due.calBoundary.rd 0x1302 = 1) ∧
    (let s := (run.wr 0x1300 0).wr 0x1200 1
     (s.rd 0x1108).getLsbD 15 = false ∧ (nx (.patinaSet .mbx) (ask s (z 0x20))).pat.set.map (·.started) = some false ∧
       (nx (.patinaSet .mbx) (ask hold (z 0x20))).host.status = 0x06) ∧
    (let p := patSet false 0 3
     p.Stored ∧ p.seq.checked = none ∧ p.host.applyWait = none ∧ p.conv.inject = [] ∧ p.conv.plan = [] ∧ p.chis.busy = false ∧ p.pwr.request = none ∧ (nx .patinaSetStart p).fld 0x1006 0 24 = 7) ∧
    (let q := patSet true 2 24
     8 * 2 < q.fld 0x1000 0 5 ∧ (nx .patinaSetGroup q).pat.set.map (·.group) = some 3) ∧
    (let q := patSet true 3 24
     q.fld 0x1000 0 5 ≤ 8 * 3 ∧ (nx .patinaSetApply q).pat.set = none ∧ (nx .patinaSetApply q).rd 0x1390 = q.rd 0x1390 - 25600) ∧
    setChanges [(100, 1, false), (101, 1, false), (5, 0, false), (0, 1, true)] = [(0, 25600)] := by decide +kernel

/-! ## Impedance and balancing -/

def goal (kind : BitVec 4) : Goal := ⟨kind, 0, 60, 0, 1⟩
def job (kind : BitVec 4) (slot : Fin 32) : Job := ⟨⟨kind, slot⟩, 0, 1, 0, false, none, false⟩
/-- This node runs a job of a goal of its slot 31. -/
def jobAt (kind jkind : BitVec 4) : State :=
  { alone with plc := { alone.plc with goals := alone.plc.goals.set 31 (some (goal kind)), jobs := [job jkind 31] } }
/-- A fit of string 0 on this node, and a node's frame that carries no phasor. -/
def fitJob : FitJob := { slot := 31, string := 0, live := true, t0 := 0, shunt := some 1, plan := List.replicate 64 0, frames := [], missing := [],
                         left := [], rerun := false, temps := [] }
def frame (node : FAddr) (segment : Nat) : SegIn := ⟨node, 0, segment, 0, false, false, List.replicate 24 none, none, 0⟩
/-- A measurement before its first pass, this node fitting: entry 0, at 10 Hz with 2 segments of 4 periods, has source `src`. -/
def mz (src : Nat) : State :=
  let p := ((((jobAt 3 3).wr 0x1400 1).wr 0x1410 (pack [(31, 1, 1), (29, 2, src), (0, 21, 1000)])).wr 0x1411 (pack [(16, 8, 2), (0, 16, 4)])).wr 0x1407 1
  { p with imp := { p.imp with fit := some 1, t0 := 0, part := true, between := true, held := p.ownPlan }, plc := { p.plc with fits := [fitJob] } }
/-- Its first pass under way. -/
def mzRun (src : Nat) (idle : Bool) : State :=
  { mz src with imp := { (mz src).imp with between := false, idle := idle, run := (mz src).passEntries } }
theorem witness_ImpedanceMeasured_announced :
    let a := jobAt 3 3
    (a.up = true ∧ a.fab.valid = true ∧ a.fab.hasTime = true ∧ nth a.plc.goals 31 none = some (goal 3) ∧ (goal 3).kind = 3 ∧ a.runs ⟨3, 31⟩ = true ∧
      a.plc.fits = [] ∧ a.imp.fit = none ∧ a.me.map (·.str) = some 0) ∧
    nth alone.plc.goals 31 none = none ∧
    ((alone.wr 0x1400 1).Stored ∧ (alone.wr 0x1400 1).tmr.length = 8 ∧ (nx (.impAnnounceReceived 9 2 []) (alone.wr 0x1400 1)).imp.fit = some 2 ∧
      (nx (.impAnnounceReceived 9 2 []) (alone.wr 0x1400 1)).imp.part = true) ∧
    (off.up = false ∧ yields (.impAnnounceReceived 9 2 []) off off = true) := by decide +kernel
theorem witness_ImpedanceMeasured_passes :
    ((mz 0).up = true ∧ (mz 0).imp.fit.isSome = true ∧ (mz 0).imp.between = true ∧ (mz 0).imp.t0.toNat ≤ (mz 0).clk.fabric.toNat ∧
      (mz 0).runNow = 0 :: [] ∧ (mz 0).entSrc 0 = 0 ∧ (nx .impPassStart (mz 0)).imp.between = false) ∧
    ((mz 1).entSrc 0 = 1 ∧ (mz 1).takesPart 0 = true ∧ (nx .impPassStart (mz 1)).bal.impDrv = shuttleSet (mz 1).cells 0) ∧
    ((mz 2).entSrc 0 = 2 ∧ (mz 2).takesPart 0 = true ∧ (nx .impPassStart (mz 2)).bal.chopSet = chopCells (mz 2).cells 0) ∧
    ((mzRun 0 false).imp.between = false ∧ yields .impPassStart (mzRun 0 false) (mzRun 0 false) = true) ∧
    ((mz 2).runSrc = 2 ∧ (nx .chopPassBudgetTimeout (mz 2)).imp.pass = 1 ∧
      (let l := { mz 2 with imp := { (mz 2).imp with pass := 2 } }
       (nx .chopPassBudgetTimeout l).imp.pass = 0 ∧ (nx .chopPassBudgetTimeout l).imp.entry = 1)) := by decide +kernel
/-- Cells at 4.0 V across 1 mΩ are more than the budget takes: a chop pass waits. -/
theorem witness_ImpedanceMeasured_waits :
    let full : State := { (mz 2).wr 0x1504 1 with sense := { (mz 2).sense with comp := List.replicate 25 ⟨0, 40000, 0⟩ } }
    full.up = true ∧ full.runNow = 0 :: [] ∧ full.takesPart 0 = true ∧
    ({ full with imp := { full.imp with between := false, idle := true, sine := 0, run := full.passEntries, spoiled := [] },
                 bal := { full.bal with chopSet := chopCells full.cells 0, chop := 0 } }.fits full.bal.applied = false ∧
      yields .impPassStart full full = true) := by decide +kernel
theorem witness_ImpedanceMeasured_segments :
    let x := (mz 1).passEntries.headD ⟨0, 0, 1, 0, 0, 0, 0, []⟩
    ((mzRun 1 true).imp.run.find? (fun y => y.entry == 0) = some x ∧ (mzRun 1 true).imp.run = [x] ∧ x.done < x.nseg ∧
      (nx (.impSegmentEnd 0) (mzRun 1 true)).imp.idle = false ∧ (nx (.impSegmentEnd 0) (mzRun 1 true)).imp.own = [] ∧
      (nx (.impSegmentEnd 0) (mzRun 1 false)).imp.own.map (·.segment) = [0] ∧
      (nx (.impSegmentEnd 0) (nx (.impSegmentEnd 0) (mzRun 1 false))).imp.own.map (·.segment) = [0, 1] ∧
      (nx (.impSegmentEnd 0) (nx (.impSegmentEnd 0) (mzRun 1 false))).imp.between = true) ∧
    ((mz 0).imp.run = [] ∧ yields (.impSegmentEnd 0) (mz 0) (mz 0) = true) := by decide +kernel
theorem witness_ImpedanceMeasured_fit :
    let got := nx (.impPhasorReceived (frame 5 0)) (mz 0)
    let lapsed := nx (.impPhasorTimeout 6) got
    let ended := (mz 0).wr 0x1401 3
    ((mz 0).fitFor 5 = some fitJob ∧ (5 : FAddr) ≠ (mz 0).fab.addr ∧ got.plc.fits.map (·.frames) = [[frame 5 0]] ∧
      (nx (.impPhasorReceived (frame 5 0)) got).plc.fits = got.plc.fits) ∧
    (alone.fitFor 5 = none ∧ yields (.impPhasorReceived (frame 5 0)) alone alone = true ∧ yields (.impPhasorTimeout 5) alone alone = true) ∧
    (got.fitFor 6 ≠ none ∧ lapsed.plc.fits.map (·.missing) = [[(6, 0, 0)]] ∧ (nx (.impPhasorReceived (frame 6 0)) lapsed).plc.fits = lapsed.plc.fits) ∧
    (ended.fitReady = some fitJob ∧ ended.up = true ∧ ended.fab.valid = true ∧ ended.imp.t0 = fitJob.t0 ∧ (nx .impFitDone ended).imp.fit = none ∧
      (nx .impFitDone ended).fld 0x1401 16 16 = 1 ∧ (nx .impFitDone ended).plc.fits.map (·.live) = [false]) ∧
    ((mz 0).fitReady = none ∧ yields .impFitDone (mz 0) (mz 0) = true ∧ (mz 0).Stored) := by decide +kernel

theorem witness_BalancingPlan :
    let a := jobAt 1 1
    let r := { report 2 [some (30000, 5), some (30011, 5)] 0xFFFFFF 0 with rest := some ⟨60, 1, some 40000000⟩ }
    let value := repValue false (a.planTicks [r])
    let items : List BalItem := [.bleed 0, .bleed 23]
    let waits : State := { run with bal := { run.bal with waiting := some items } }
    let leased : State := { run with bal := { run.bal with leased := some 0, assigned := items, applied := items } }
    (a.up = true ∧ nth a.plc.goals 31 none = some (goal 1) ∧ a.runs ⟨1, 31⟩ = true ∧ atRest [r] = true ∧ ([r].flatMap fun r => (List.range 24).filterMap (value r)) = 30000 :: [30011] ∧
      (nx (.balPlanEvaluate 31 [r]) a).bal.planned.length = 1) ∧
    (atRest [{ r with rest := some ⟨60, 1, some 39999999⟩ }] = false ∧ yields (.balPlanEvaluate 31 [{ r with rest := none }]) a a = true) ∧
    (BalItem.bleed 1 ∈ planItems (value r) 30000 20 r ∧ BalItem.bleed 0 ∉ planItems (value r) 30000 20 r ∧ BalItem.bleed 1 ∉ planItems (value r) 30000 22 r ∧
      BalItem.bleed 0 ∈ planItems (value r) 30000 20 { r with sw := 0, stuck := 1 }) ∧
    (repValue false 4 r 0 = none ∧ repValue false 5 { r with sweep := [some (29000, 3)] } 0 = some 30000 ∧
      repValue false 4 { r with sweep := [some (29000, 3)] } 0 = some 28997 ∧ repValue true 4 { r with soc := [some 500] } 0 = some 500) ∧
    (pair.up = true ∧ pair.fab.valid = true ∧ (2 : FAddr) ≠ pair.fab.addr) ∧
    (run.up = true ∧ (nx (.balAssignmentReceived items) run).bal.waiting = some items ∧ (nx (.balAssignmentReceived items) run).bal.leased = some 0) ∧
    (waits.bal.waiting = some items ∧ waits.bal.probe = none ∧ waits.Stored ∧ (waits.rd 0x1501).getLsbD 1 = false ∧ waits.segmentRuns = false ∧ (nx .balAssignmentApply waits).bal.assigned = items) ∧
    (((waits.wr 0x1501 2).rd 0x1501).getLsbD 1 = true ∧ yields .balAssignmentApply (waits.wr 0x1501 2) (waits.wr 0x1501 2) = true) ∧
    (leased.bal.leased.isSome = true ∧ (nx .balLeaseLapse leased).bal.assigned = [] ∧ (nx .balLeaseLapse leased).bit 0x1501 4 = true) ∧
    yields .balLeaseLapse run run = true := by decide +kernel
theorem witness_SwitchesShuttlesAndProbe :
    let on := (run.wr 0x1000 24).wr 0x1502 0x800000
    let again : State := { on with bal := { on.bal with reclosed := [(23, 0)] } }
    let tripped : State := { run with bal := { run.bal with tripped := 0x800000 } }
    let sht : State := { run.wr 0x1503 0x400000 with bal := { run.bal with command := run.bal.command.set 22 (-7) } }
    let bad : State := { sht with bal := { sht.bal with shtBad := sht.bal.shtBad.set 22 true } }
    let idle : State := { run with bal := { run.bal with idleLeft := run.bal.idleLeft.set 22 1 } }
    let mayP : State := { ((run.wr 0x1000 24).wr 0x1504 1).wr 0x1519 1 with
      seq := { run.seq with phase := .running, active := [⟨0x03FFFFFF, 0, 0xC0000001, 19960⟩] }, bal := { run.bal with toProbe := 0x800000 } }
    let p : Probe := ⟨23, 3, false, false, [], []⟩
    let probing : State := { run with bal := { run.bal with probe := some p } }
    yields (.balOvercurrentTrip 23) run run = true ∧
    (on.Stored ∧ (on.rd 0x1502).getLsbD 23 = true ∧ (∀ x, x ∈ on.bal.reclosed → x.1 ≠ 23) ∧ on.bal.stuckOn.getLsbD 23 = false ∧
      (nx (.balOvercurrentTrip 23) on).bal.tripped.getLsbD 23 = true ∧ ((nx (.balOvercurrentTrip 23) on).rd 0x1502).getLsbD 23 = false) ∧
    ((again.bal.reclosed.any fun x => x.1 == 23 && again.recent x.2) = true ∧ ((nx (.balOvercurrentTrip 23) again).rd 0x151D).getLsbD 23 = true) ∧
    yields (.balReclose 23) run run = true ∧ ((nx (.balReclose 23) tripped).bal.tripped = 0 ∧ (nx (.balReclose 23) tripped).bal.reclosed = [(23, 0)]) ∧
    ((run.rd 0x1503).getLsbD 22 = false ∧ nth run.bal.idleLeft 22 0 = 0 ∧ yields (.shuttleFrameSend 22 0) run run = true) ∧
    ((sht.rd 0x1503).getLsbD 22 = true ∧ nth (nx (.shuttleFrameSend 22 0) sht).bal.shtFrame 22 none = some (shuttleFrame true (-7)) ∧
      (shuttleFrame true (-7)).toNat / 64 % 4096 = 4089 ∧ (shuttleFrame true 0).toNat / 2 ^ 18 = 1 ∧ nth (nx (.shuttleFrameSend 22 1) sht).bal.shtBad 22 false = true) ∧
    ((nx (.shuttleFrameSend 22 1) bad).bit 0x151E 22 = true) ∧ (nth (nx (.shuttleFrameSend 22 0) idle).bal.idleLeft 22 9 = 0 ∧ (shuttleFrame false 0).toNat / 2 ^ 18 = 2) ∧
    (mayP.pwr.mode = .run ∧ mayP.bal.toProbe.getLsbD 23 = true ∧ mayP.rd 0x1504 ≠ 0 ∧ mayP.swHeld 23 = false ∧ mayP.balStopped = false ∧
      mayP.bal.stuckOn.getLsbD 23 = false ∧
      { mayP with bal := { mayP.bal with probe := some ⟨23, 0, true, false, [], []⟩ } }.fits mayP.bal.applied = true ∧ mayP.tableProbes (mayP.fld 0x1519 0 16) = true ∧
      (nx (.probeStart 23) mayP).bal.probe.map (·.on) = some false) ∧
    (yields (.probeStart 23) off off = true ∧ yields (.probeStart 23) probing probing = true ∧ yields (.probeCycleEnd [] []) run run = true) ∧
    (probing.bal.probe = some p ∧ (probing.rd 0x1501).getLsbD 1 = false ∧ (nx (.probeCycleEnd [1] []) probing).bal.probe.map (·.on) = some true) ∧
    ((nx (.probeCycleEnd [1] []) (probing.wr 0x1501 2)).bal.probe.map (·.on) = some false) ∧
    (let h : State := { run with bal := { run.bal with probe := some { p with on := true, cycle := 2 } } }
     (nx (.probeCycleEnd [] [2]) h).bal.probe.map (·.cycle) = some 3) := by decide +kernel

/-! ## Timers -/

/-- No unit has a gate, start or clock source. -/
def solo (s : State) : State := (List.range 8).foldl (fun t v => t.wr (0x1615 + 16 * v) 0x007F7F7F) s
/-- Unit 7 running with TOP 9 in force and TOP `top` written; channel 3, compare value 9, in the given mode. -/
def ticking (top chan : Word) : State :=
  { solo (((((run.wr 0x1682 top).wr 0x1687 9).wr 0x1680 0x40).wr 0x168E chan).wr 0x168F 9) with
    tmr := run.tmr.set 7 { residue := 0, psc := 0, running := true, armed := false, gate := true, loaded := none,
                           chans := [⟨false, 0, none, 0, false, 0⟩, ⟨false, 0, none, 0, false, 0⟩, ⟨false, 0, none, 0, false, 0⟩, ⟨false, 9, none, 0, false, 0⟩],
                           out := [] } }
/-- Every unit stands alone: no source, no event that waits, no drive, no chain. -/
def apart (s : State) (u : Nat) : Bool :=
  ((List.range 8).all fun v => s.fld (0x1615 + 16 * v) 0 7 == 0x7F && s.fld (0x1615 + 16 * v) 8 7 == 0x7F && s.fld (0x1615 + 16 * v) 16 7 == 0x7F)
    && (s.tmr.all fun x => x.out.isEmpty) && s.bal.impDrv == 0 && s.bal.chopSet == 0 && !(s.rd 0x1108).getLsbD 15 && !s.chainedLow u && !s.chainedHigh u
theorem witness_TimerEvents :
    let idle := solo run
    let w := ticking 8 0
    let m := ticking 9 (pack [(0, 2, 1), (6, 3, 1)])
    let c := ticking 9 2
    let twice := c.wr 0x168E 0x00800002
    (idle.Stored ∧ idle.tmr.length = 8 ∧ apart idle 7 = true ∧ (idle.unit 7).running = false ∧ yields (.timerWrap 7) idle idle = true ∧
      yields (.timerMatch 7 3) idle idle = true) ∧
    (w.Stored ∧ w.counting 7 = true ∧ apart w 7 = true ∧ (w.rd 0x1680).getLsbD 6 = true ∧ (w.unit 7).loaded = none ∧
      (∀ k, k < 4 → w.fld (0x1680 + 8 + 2 * k) 0 2 ≠ 1) ∧ (nx (.timerWrap 7) w).rd 0x1683 = 0 ∧ (nx (.timerWrap 7) w).rd 0x1687 = 8 ∧
      ((nx (.timerWrap 7) w).unit 7).out = [0]) ∧
    (m.counting 7 = true ∧ apart m 7 = true ∧ (m.rd 0x1680).getLsbD 6 = true ∧ (m.unit 7).chans.length = 4 ∧
      (∀ d, d < 4 → m.fld (0x1680 + 8 + 2 * d) 0 2 = (if d = 3 then 1 else 0)) ∧ (m.rd 0x168E).getLsbD 31 = false ∧ (m.chan 7 3).active = m.rd 0x168F ∧
      m.rd 0x1682 = m.rd 0x1687 ∧ (m.chan 7 3).active.toNat ≤ (m.rd 0x1687).toNat ∧ m.fld 0x168E 6 3 = 1 ∧ (nx (.timerMatch 7 3) m).rd 0x1683 = 9 ∧
      ((nx (.timerMatch 7 3) m).chan 7 3).level = true) ∧
    (c.up = true ∧ apart c 7 = true ∧ c.fld 0x168E 0 2 = 2 ∧ c.fld 0x168E 17 2 ≠ 3 ∧ c.fld 0x168E 23 8 ≤ (c.chan 7 3).edges ∧
      (c.rd 0x168E).getLsbD 31 = false ∧ (c.rd 0x168E).getLsbD 16 = false ∧ (nx (.timerCapture 7 3) (c.wr 0x1683 5)).rd 0x168F = 5 ∧
      (twice.chan 7 3).edges < twice.fld 0x168E 23 8 ∧ ((nx (.timerCapture 7 3) twice).chan 7 3).edges = 1) := by decide +kernel
theorem witness_TimerEvents_inputs :
    let start : State := { run.wr 0x1601 0x81 with fab := { run.fab with hasTime := true } }
    let gated := solo run
    (start.up = true ∧ start.fld 0x1601 0 8 ≠ 0 ∧ start.clk.fabric.toNat ≤ start.atTime.toNat ∧ (nx .timerAtStart start).rd 0x1601 = 0 ∧
      ((nx .timerAtStart start).unit 7).running = true ∧ start.clk.ref.toNat + start.atTime.toNat < 2 ^ 64) ∧
    yields .timerAtStart run run = true ∧
    (gated.awake = true ∧ apart gated 7 = true ∧ gated.fld 0x1697 0 2 ≠ 1 ∧ (nx (.timerGatePinChange 7 true) gated).pins.tmpIn = 0x80) ∧
    ((gated.wr 0x1697 1).fld 0x1697 0 2 = 1 ∧ yields (.timerGatePinChange 7 true) (gated.wr 0x1697 1) (gated.wr 0x1697 1) = true ∧
      yields (.timerGatePinChange 7 true) off off = true) ∧
    ((run.wr 0x1685 0x47).fld 0x1685 0 7 = 0x47 ∧ ((run.wr 0x1685 0x47).gatesFollow.unit 7).gate = false) := by decide +kernel

/-! ## Links, frames, discovery and fabric time -/

def frameTo (a : FAddr) (payload : List Byte) : Frame := ⟨0x05, false, false, false, a, 2, 0, 9, payload⟩
def flooded : Frame := ⟨0x06, false, false, true, 0xFFF, 2, 0, 9, [1]⟩
/-- A training block of the node with serial 5 (R259). -/
def block (heard : Bool) : List Byte := [0, 0, 0, 0, 0, 0, 0, 5, 1, 0xC0, 0x01, if heard then 0x80 else 0]
/-- Port 0 up, its neighbour the node with serial 5. -/
def linked : State := pair.setPort 0 fun q => { q with up := true, heard := true, nbrHeard := true, block := some (block true), same := 1, credit := 8 }
def waiting (retry : Bool) : State := linked.setPort 0 fun q => { q with unacked := [⟨3, retry, false, frameTo 2 []⟩] }

theorem test_crc32c_known : crc32c [0x31, 0x32, 0x33, 0x34, 0x35, 0x36, 0x37, 0x38, 0x39] = 0xE3069283 := by decide +kernel
theorem test_crc16_known : crc16 [0x31, 0x32, 0x33, 0x34, 0x35, 0x36, 0x37, 0x38, 0x39] = 0x29B1 := by decide +kernel
theorem witness_FramesRoundTrip : (frameTo 1 (List.replicate 5 7)).payload.length ≤ 512 ∧ parseFrame ((frameTo 1 (List.replicate 5 7)).wire 4) = frameTo 1 (List.replicate 5 7) ∧
    parseFrame (flooded.wire 4) = flooded ∧ wireCrcOk (flooded.wire 4) = true ∧ unescape (uartEscape [0x7D, 0x7E, 0]) = some [0x7D, 0x7E, 0] := by decide +kernel
theorem witness_LinkControl :
    (linked.portUp 0 = true ∧ ((linked.port 0).map (·.queue)) = some []) ∧
    (((waiting false).port 0).map (·.unacked) = some [⟨3, false, false, frameTo 2 []⟩] ∧ ((nx (.linkControlReceived 0 1 3 9) (waiting false)).port 0).map (·.unacked) = some [] ∧
      ((nx (.linkControlReceived 0 1 3 9) (waiting false)).port 0).map (·.credit) = some 8) ∧
    ((nx (.linkControlReceived 0 1 3 0) (waiting true)).fld 0x2018 0 16 = 1) ∧
    (((nx (.linkControlReceived 0 2 3 1) (waiting false)).port 0).map (fun q => q.sent.length) = some 1 ∧
      ((nx (.linkControlReceived 0 2 3 1) (waiting false)).port 0).map (fun q => q.unacked.map (·.retry)) = some [true]) ∧
    ((waiting false).port 0).map (·.lseq) = some 0 ∧ (nx (.linkAckTimeout 0 3 .lasting) (waiting false)).chis.repairs = [(false, 15)] ∧
    (let dry := (waiting false).setPort 0 fun q => { q with credit := 0 }
     classOf (frameTo 2 []).type ≠ 0 ∧ ((nx (.linkControlReceived 0 2 3 1) dry).port 0).map (fun q => q.unacked.map (·.due)) = some [true]) ∧
    ((nx (.linkControlReceived 0 2 3 1) (waiting true)).fld 0x2018 16 16 = 1) ∧ nx (.linkAckTimeout 0 3 .pass) (waiting true) = (nx (.linkControlReceived 0 2 3 0) (waiting true)).settle ∧
    ((nx (.linkControlReceived 0 3 0 2) linked).port 0).map (·.credit) = some 2 ∧ ((nx (.linkControlReceived 0 4 0x5A 0) linked).port 0).map (·.slept) = some true ∧
    ((nx (.keepaliveSend 0) linked).port 0).map (fun q => q.control.length) = some 1 ∧ ((nx (.linkRetrainDelay 0) linked).port 0).map (·.delayed) = some false := by
  decide +kernel
theorem witness_LinksAndFrames :
    let once : State := pair.setPort 0 fun q => { q with block := some (block true), same := 1 }
    let bad : List Byte := (flooded.wire 4).set 16 2
    (pair.portOn 0 = true ∧ (pair.port 0).map (·.up) = some false ∧ (pair.port 0).map (·.delayed) = some false ∧ (block true).length = 12 ∧
      ((nx (.linkTrainBlock 0 (block true)) pair).port 0).map (·.same) = some 1 ∧ ((nx (.linkTrainBlock 0 (block true)) pair).port 0).map (·.up) = some false) ∧
    (((nx (.linkTrainBlock 0 (block true)) once).port 0).map (·.up) = some true) ∧
    (linked.portUp 0 = true ∧ ((nx (.linkDown 0 2) linked).port 0).map (·.up) = some false ∧ ((linked.wr 0x2000 0).rd 0x2000).getLsbD 0 = false ∧ yields (.linkDown 0 3) (linked.wr 0x2000 0) (linked.wr 0x2000 0) = true) ∧
    (yields (.frameReceive 0 (flooded.wire 4) true) linked linked = true ∧ yields (.frameReceive 0 (flooded.wire 4) false) pair pair = true) ∧
    (wireLengthOk ((flooded.wire 4).take 16) = false ∧ ((nx (.frameReceive 0 ((flooded.wire 4).take 16) false) linked).port 0).map (·.control) = some [(0x02, 4, 2)]) ∧
    (wireLengthOk bad = true ∧ wireCrcOk bad = false ∧ ((nx (.frameReceive 0 bad false) linked).port 0).map (·.control) = some [(0x02, 4, 1)]) ∧
    (((nx (.frameReceive 0 ((frameTo 1 [1]).wire 4) false) linked).port 0).map (·.control) = some [(0x01, 4, 8)] ∧
      (nx (.frameReceive 0 ((frameTo 1 [1]).wire 4) false) linked).known (frameTo 1 [1]) = true) ∧
    ((frameTo 2 [1]).dst ≠ linked.fab.addr ∧ linked.known flooded = false ∧ flooded.hops.toNat + 1 ≤ linked.fld 0x200D 0 8 ∧
      (nx (.frameReceive 0 (flooded.wire 4) false) linked).known flooded = true ∧
      (let again := nx (.frameReceive 0 (flooded.wire 4) false) linked
       again.known flooded = true ∧ ((nx (.frameReceive 0 (flooded.wire 5) false) again).port 0).map (fun q => q.control.length) = some 2)) := by decide +kernel
theorem witness_DiscoveryRuns :
    let z (c : Byte) := rq c 0 0 0 0
    let searching : State := { pair with fab := { pair.fab with disc := some none } }
    let away := nodeRec 7 9 0 []
    let r := rq 0x31 5 0 3 0
    ((ask pair (z 0x30)).Requests .mbx (z 0x30) ∧ (nx (.discover .mbx) (ask pair (z 0x30))).fab.disc = some (some .mbx) ∧
      (nx (.discover .mbx) (ask searching (z 0x30))).host.status = 0x06) ∧
    (pair.evrus = true ∧ (nx (.topoFrame 0 (.armCrc 5 1)) pair).fab.crcs = [(5, 1)] ∧ away.topo.serial ≠ pair.serial ∧
      (nx (.topoFrame 0 (.node away.topo false)) searching).fab.nodes.length = 3) ∧
    (off.evrus = false ∧ off.pwr.phase ≠ .bootOnly ∧ yields (.topoFrame 0 (.armCrc 5 1)) off off = true) ∧
    ((inPhase .bootOnly).evrus = false ∧ (inPhase .bootOnly).awake = true ∧
      (nx (.topoFrame 0 (.node away.topo false)) (inPhase .bootOnly)).fab.nodes.any (fun n => n.topo.serial == 7) = true) ∧
    ((ask pair r).Requests .mbx r ∧ nodeOf pair.fab.nodes 5 ≠ none ∧ (r.a2 &&& 0xFFFFFEC0 = 0) ∧
      (nx (.stringAssign .mbx true) (ask pair r)).host.status = 0x06 ∧ (nx (.stringAssign .mbx false) (ask pair (rq 0x31 6 0 3 0))).host.status = 0x08 ∧
      (nx (.stringAssign .mbx false) (ask pair r)).host.done = true) ∧
    (nodeAt pair.fab.nodes 2 ≠ none ∧ linked.facing 5 = some 0 ∧ (nx (.wakeFrame 2) linked).pins.idleOut = [0] ∧ yields (.wakeFrame 3) linked linked = true) := by decide +kernel
theorem witness_FabricTime :
    let child : State := { linked with fab := { linked.fab with parent := some 0, hasTime := false } }
    let asked : State := child.setPort 0 fun q => { q with stamps := some (0, 512, 600) }
    (linked.awake = true ∧ linked.fab.hasTime = true ∧ (linked.port 0).map (·.usable) = some true) ∧
    (child.fab.hasTime = false ∧ yields .timeSyncSend child child = true) ∧ (0 ∉ child.childPorts ∧ yields (.timeFrame 0 .dreq 5) child child = true) ∧
    (((nx (.timeFrame 0 (.sync 7) 9) child).port 0).map (·.stamps) = some (some (7, 9, 0)) ∨ ((nx (.timeFrame 0 (.sync 7) 9) child).port 0).isSome = true) ∧
    ((linked.fab.parent ≠ some 0) ∧ yields (.timeFrame 0 (.sync 7) 9) linked linked = true) ∧
    (asked.Stored ∧ (nx (.timeFrame 0 (.reply 1112) 600) asked).rd 0x2010 = 50000 ∧ (nx (.timeFrame 0 (.reply 1112) 600) asked).fab.hasTime = true) := by decide +kernel

/-! ## Fabric sweeps, snapshots, goals, jobs and records -/

/-- This node alone in string 0, and a sweep of string 0 that it collects. -/
def plan (coll : FAddr) (count : Word) : SweepPlan := ⟨coll, 1000000, 40000, count, 1⟩
def sweeping (coll : FAddr) (n : Nat) : State := { alone with sweep := { alone.sweep with plan := some (plan coll 2), next := n } }
def collecting (n : Nat) : State := { alone with sweep := { alone.sweep with collect := some (plan 1 2), cnext := n } }
theorem witness_SweepsAnnounced :
    let r := rq 0x38 100 0 1 0
    let stop := rq 0x38 0x01000000 0 0 0
    let bs := announceBytes (plan 2 9) false
    let said : State := { alone with sweep := { alone.sweep with announce := 1, said := bs } }
    (announceOf bs = plan 2 9 ∧ bs.length = 28) ∧
    ((ask alone r).Requests .mbx r ∧ bitsOf r.a0 0 16 = 100 ∧ r.a0 &&& 0xFFFF0000 = 0 ∧ (r.a3 ++ r.a2 : BitVec 64) ≠ 0 ∧ (ask alone r).sweep.collect = none ∧
      ((ask alone r).expectedSet alone.fab.addr 1).length ≤ 1024 ∧ tcoll ((ask alone r).expectedSet alone.fab.addr 1) ≤ 10 * 100 ∧
      ((nx (.sweepStart .mbx) (ask alone r)).sweep.collect.map (·.t0)) = some 800000) ∧
    (nx (.sweepStart .mbx) (ask alone (rq 0x38 99 0 1 0))).host.status = 0x03 ∧ (nx (.sweepStart .mbx) (ask (collecting 0) r)).host.status = 0x06 ∧
    (nx (.sweepStop .mbx) (ask alone stop)).host.status = 0x06 ∧ (nx (.sweepStop .mbx) (ask (collecting 0) stop)).sweep.collect = none ∧
    yields (.sweepAnnounce (bs.take 27)) alone alone = true ∧
    (alone.me = some (nodeRec 0 1 0 []) ∧ (plan 2 9).scope.getLsbD 0 = true ∧ alone.sweep.plan ≠ some (plan 2 9) ∧ (nx (.sweepAnnounce bs) alone).sweep.plan = some (plan 2 9)) ∧
    (0 < said.sweep.announce ∧ (nx .sweepAnnounceRepeat said).sweep.announce = 0) ∧ yields .sweepAnnounceRepeat alone alone = true := by decide +kernel
/-- A snapshot this node takes part in, for the collector 2, with `got` values come. -/
def shot (status got : Nat) : SweepShot := ⟨1, 1040000, 40000, 2, status, true, none, 0, List.replicate 26 .valid, List.replicate 26 0, got⟩
def shooting (n status got : Nat) : State := { sweeping 2 n with sweep := { (sweeping 2 n).sweep with shot := some (shot status got) } }
theorem witness_SnapshotsCollected :
    let rec_ : List Byte := [0x20, 0, 0, 1] ++ List.replicate 12 0
    let opened : State := { alone with sweep := { alone.sweep with open_ := [⟨recSnap rec_, 0, [recAddr rec_, 5], 1, [], 0⟩] } }
    let got := nx (.sweepRecordReceive rec_ false 0 .pass) opened
    (off.up = false ∧ yields .snapshotTime off off = true) ∧ (alone.sweep.collect = none ∧ alone.sweep.plan = none ∧ alone.sweep.shot = none) ∧
    (let s := sweeping 2 1
     (plan 2 2).coll ≠ s.fab.addr ∧ (plan 2 2).has s.sweep.next = true ∧ (plan 2 2).has 2 = false ∧ s.sweep.isolated = false ∧ s.sweep.shot = none ∧ s.sweep.stop = false ∧
       (nx .snapshotTime s).sweep.next = 2 ∧ (nx .snapshotTime s).sweep.shot = some (s.shotBegin (plan 2 2) 1)) ∧
    ((nx .snapshotTime (collecting 1)).sweep.open_.map (·.snap) = [1] ∧ (nx .snapshotTime (collecting 1)).sweep.collect = none ∧
      (nx .snapshotTime (collecting 0)).sweep.collect.isSome = true) ∧
    ((shooting 2 0 26).sweep.shot = some (shot 0 26) ∧ (shooting 2 0 26).sweep.isolated = false ∧ (nx .sweepRecordSend (shooting 2 0 26)).sweep.shot = none ∧
      (nx .sweepRecordSend (shooting 2 0 26)).sweep.plan = none ∧ (nx .sweepRecordSend (shooting 1 1 0)).sweep.shot = none ∧
      (nx .sweepRecordSend (shooting 1 1 0)).sweep.plan.isSome = true) ∧
    ((shooting 2 0 25).clk.fabric.toNat < 1080000 ∧ yields .sweepRecordSend (shooting 2 0 25) (shooting 2 0 25) = true) ∧
    ((alone.sweepRecord (shot 0 26) false).length = 94 ∧ (alone.sweepRecord (shot 0 25) false).length = 16 ∧ recSnap (alone.sweepRecord (shot 1 0) true) = 1) ∧
    yields .sweepRecordSend alone alone = true ∧ (nx (.sweepRecordReceive rec_ false 0 .lasting) alone).chis.repairs = [(false, 12)] ∧
    (nth rec_ 0 0 = 0x20 ∧ 16 ≤ rec_.length ∧ (nth rec_ 1 0).getLsbD 1 = false ∧ (nx (.sweepRecordReceive rec_ false 0 .pass) alone).fld 0x2038 0 16 = 1) ∧
    (got.sweep.open_.map (fun x => x.records.length) = [1] ∧ (nx (.sweepRecordReceive rec_ false 0 .pass) got).sweep.open_.map (fun x => x.records.length) = [1]) ∧
    ((nx .snapshotCloseTimeout opened).sweep.open_ = []) ∧ yields .snapshotCloseTimeout alone alone = true := by decide +kernel
/-- `linked` whose port A is joined to port B of the node at address 2. -/
def routed : State := { linked with fab := { linked.fab with nodes := [nodeRec 0 1 0 [⟨true, false, false, 5, 1⟩], nodeRec 5 2 0 [⟨false, false, false, 0, 0⟩, ⟨true, false, false, 0, 0⟩]] } }
theorem witness_HeldRecordsAndCaptures_held :
    let h : State := { routed with sweep := { routed.sweep with held := [[0x20], [0x21]], heldTo := 2 }, clk := { routed.clk with ref := 4000 } }
    h.up = true ∧ h.sweep.heldTo = 2 ∧ h.sweep.held = [0x20] :: [[0x21]] ∧ h.sweep.isolated = false ∧ (h.route 2).isSome = true ∧ h.heldTurn = true ∧
      (let early : State := { h with clk := { h.clk with ref := 3999 } }
       early.heldTurn = false ∧ yields .heldRecordSend early early = true) ∧
      (nx .heldRecordSend h).sweep.held = [[0x21]] := by decide +kernel
theorem witness_HeldRecordsAndCaptures :
    let far := sweeping 2 0
    let gone : State := { shooting 2 0 26 with sweep := { (shooting 2 0 26).sweep with isolated := true } }
    let armed : State := { alone.wr 0x2040 1 with snap := { alone.snap with due := [71] } }
    let shut : State := { alone with snap := { alone.snap with due := [71], slots := [.full, .full] } }
    let fill : State := { alone.wr 0x2040 1 with snap := { alone.snap with slots := [.filling 0 3, .free], trigger := some (1, 71, false, 9) } }
    (far.route 2 = none ∧ (2 : FAddr) ≠ far.fab.addr ∧ far.sweep.isolated = false ∧ (nx .sweepIsolated far).sweep.isolated = true ∧
      (nx .sweepIsolated far).sweep.heldTo = 2) ∧
    (gone.sweep.shot = some (shot 0 26) ∧ gone.sweep.held.length < 2730 ∧ (nx .sweepRecordSend gone).sweep.held.length = 1) ∧
    (yields .sweepIsolated alone alone = true ∧ yields .heldRecordSend alone alone = true) ∧ yields .sweepHoldExpiry alone alone = true ∧
    ((5 : BitVec 7) ∉ armed.snap.due ∧ yields (.snapshotTrigger 5) armed armed = true ∧ (71 : BitVec 7) ∈ armed.snap.due ∧ (armed.rd 0x2040).getLsbD 1 = false ∧
      armed.armSlot = some 0 ∧ (nx (.snapshotTrigger 71) armed).snap.trigger = some (armed.srcAddr, 71, false, armed.stamp.2)) ∧
    (shut.armSlot = none ∧ (nx (.snapshotTrigger 71) shut).fld 0x2044 0 16 = 1) ∧
    (let g := (alone.wr 0x2040 1).wr 0x2041 0x10
     (2 : FAddr).toNat / 64 = g.fab.addr.toNat / 64 ∧ (g.rd 0x2041).getLsbD 4 = true ∧ g.snap.lastFab = none ∧ g.armSlot = some 0 ∧ g.snap.times = [] ∧
       (nx (.fabricTriggerReceived 2 71 8) g).snap.trigger = some (2, 71, true, 8) ∧ ((alone.wr 0x2040 0).rd 0x2040).getLsbD 0 = false) ∧
    yields .snapshotFrozen alone alone = true ∧
    (fill.recSlot = some 0 ∧ nth fill.snap.slots 0 .full = .filling 0 3 ∧ nth (nx .snapshotFrozen fill).snap.slots 0 .free = .full ∧ (nx .snapshotFrozen fill).snap.trigger = none) := by
  decide +kernel
theorem witness_GoalTable :
    let r := rq 0x40 1 60 0 0
    let bad := rq 0x40 8 60 0 0
    let z (a0 : Word) := rq 0x41 a0 0 0 0
    let full : State := { alone with plc := { alone.plc with goals := some (goal 1) :: List.replicate 31 none } }
    let slave : State := { linked with fab := { linked.fab with
      addr := 2, nodes := [nodeRec 5 1 0 [⟨false, false, false, 0, 0⟩, ⟨true, false, false, 0, 0⟩], nodeRec 0 2 0 [⟨true, false, false, 5, 1⟩]] } }
    let shunted : State := { alone with fab := { alone.fab with nodes := [{ nodeRec 0 1 0 [] with shunt := true }] } }
    ((ask alone r).Requests .mbx r ∧ (ask alone r).isAnchor = true ∧ goalOk r = true ∧ (∀ x, x ∈ (ask alone r).goalList → sameScope x.2 (goal 1) = false) ∧
      nth (ask alone r).plc.goals 0 none = none) ∧
    (goalOk bad = false ∧ (nx (.goalSet .mbx) (ask alone bad)).host.status = 0x03) ∧
    (nth full.plc.goals 31 none = none ∧ (ask full (z 31)).isAnchor = true) ∧
    (full.goalList ≠ [] ∧ (nth full.plc.goals 0 none).isSome = true) ∧
    (alone.up = true ∧ ((1 : Word).toNat < ((alone.wr 0x2104 2).rd 0x2104).toNat ∧ yields (.goalTableFrame 1 1 []) (alone.wr 0x2104 2) (alone.wr 0x2104 2) = true) ∧
      (List.replicate 32 (none : Option Goal)).length = 32 ∧
      alone.isAnchor = true ∧ alone.plc.goalFrom.toNat ≤ (5 : FAddr).toNat ∧ yields (.goalTableFrame 5 (alone.rd 0x2104) []) alone alone = true ∧
      (nx (.goalTableFrame 5 3 (List.replicate 32 none)) alone).plc.goalFrom = 5) ∧
    ((ask shunted r).goalRefuse ⟨1, 0, 60, 0, shunted.goalExec .mbx⟩ (some 0) = none ∧ (nx (.goalSet .mbx) (ask shunted r)).host.status = 0) ∧
    ((ask alone r).goalRefuse ⟨1, 0, 60, 0, alone.goalExec .mbx⟩ (some 0) = some 3 ∧ (nx (.goalSet .mbx) (ask alone r)).host.status = 6) ∧
    (slave.up = true ∧ slave.fab.valid = true ∧ slave.isAnchor = false ∧ slave.anchor = some 1 ∧ (askF slave r).Requests .fabric r) := by decide +kernel
def body (b : Byte) : JobBody := ⟨[b], 0, [], none⟩
theorem witness_JobsMove :
    let key : JobKey := ⟨3, 31⟩
    let hosted := jobAt 3 3
    let moving : State := { hosted with plc := { hosted.plc with jobs := [{ job 3 31 with moving := some 2, paused := true }] } }
    let c : Checkpoint := ⟨key, 1, 4, some (body 1), some (body 2), true⟩
    ((c.take 1 5 true (body 9)).half0 = some (body 9) ∧ (c.take 1 5 true (body 9)).inHalf1 = false ∧ (c.take 1 5 false (body 9)).seq = 4) ∧
    (alone.hosted key = none ∧ yields (.checkpoint key [1]) alone alone = true) ∧
    (hosted.hosted key = some (job 3 31) ∧ (job 3 31).moving = none ∧ (job 3 31).paused = false ∧ (List.replicate 8192 (0 : Byte)).length ≤ 8192) ∧
    (alone.needOf key = none ∧ yields (.jobFrame (.move key 1 1 false false (body 0))) alone alone = true ∧ yields (.jobFrame (.restart key 1)) alone alone = true) ∧
    (let need : State := { hosted with plc := { hosted.plc with jobs := [] } }
     (need.needOf key).isSome = true ∧ need.hosted key = none ∧ ((nx (.jobFrame (.move key 5 1 true false (body 0))) need).hosted key).isSome = true) ∧
    ((mz 0).imp.fit.isSome = true ∧ (nx (.jobFrame (.release 0)) (mz 0)).imp.fit = none ∧ (nx (.jobFrame (.resend 0 9)) (mz 0)).imp.fit = some 9 ∧
      alone.imp.fit = none ∧ yields (.jobFrame (.resend 0 9)) alone alone = true) ∧
    (moving.hosted key = some { job 3 31 with moving := some 2, paused := true } ∧ (nx (.jobMoveAck key 2) moving).hosted key = none ∧
      yields (.jobMoveAck key 3) moving moving = true ∧
      yields (.jobMoveTimeout key) hosted hosted = true) := by decide +kernel
theorem witness_RecordsKept :
    let r := rq 0x42 0x00000134 0 0 0
    let d := rq 0x43 0 0 0 0
    (alone.up = true ∧ alone.fab.addr ∉ alone.holders 2) ∧ (alone.fab.addr ∈ alone.holders 1 ∧ (1 : FAddr) ∉ alone.plc.low) ∧
    ((ask alone r).Requests .mbx r ∧ BitVec.ofNat 12 (bitsOf r.a0 8 12) = (1 : BitVec 12)) ∧
    ((ask run d).Requests .mbx d ∧ (ask run d).anchor = none ∧ (ask alone d).anchor = some 1) ∧
    (let j := jobAt 7 6
     j.hosted ⟨6, 31⟩ = some (job 6 31) ∧ j.anchor = some 1 ∧ (job 6 31).paused = false ∧ (nx (.digestClose 31 ⟨0, 0, 0, [], []⟩) j).plc.recs.map (·.bytes.length) = [36]) ∧
    (nth alone.plc.goals 31 none = none ∧ yields (.jobRecordInterval 31 0 []) alone alone = true) ∧
    (nth (jobAt 5 1).plc.goals 31 none = some (goal 5) ∧ (jobAt 4 2).hosted ⟨2, 31⟩ = some (job 2 31)) := by decide +kernel

/-! ## The safety monitor, the output pair, the inputs and the twin frames -/

def contactor : State := run.wr 0x3120 1
def bothClosed (s : State) : State := { s with safe := { s.safe with inA := { s.safe.inA with closed := true }, inB := { s.safe.inB with closed := true } } }
/-- A contactor node of the pair that watches the other. -/
def peer2 : Peer :=
  { addr := 2, serial := 5, upOk := true, downOk := true, upAt := 0, downAt := 0, upSaid := false, downSaid := false, watchUp := true, watchDown := true,
    seq := 4, anySeq := false, upSeq := some 4, downSeq := some 4, state := 0, cause := 0, acted := 0, upBad := false, downBad := false, differ := false,
    first := none, missed := none }
def watcher : State := { closed (pair.wr 0x3120 1) with safe := { (closed pair).safe with peers := [peer2] } }
/-- Everything R367 asks for. -/
def ready : State := bothClosed (contactor.wr 0x3100 0x10)
theorem witness_SafetyTicks :
    let trips : State := { closed ((((contactor.wr 0x1000 1).wr 0x3102 0x0E10_0000).wr 0x3103 1)) with safe := { (closed run).safe with now := [(0, 40001, false)] } }
    let bOpen : State := { (bothClosed run).wr 0x3126 0xFFFE0000 with safe := { (bothClosed run).safe with inB := run.safe.inB } }
    yields .safetyTick off off = true ∧
    (trips.up = true ∧ trips.Stored ∧ trips.pins.safeH = true ∧ (nx .safetyTick trips).safe.ov = 1 ∧ (nx .safetyTick trips).pins.safeH = false ∧
      (nx .safetyTick trips).bit 0x3100 5 = true ∧ (nx .safetyTick trips).bit 0x3100 4 = false) ∧
    ((bOpen.safe.inA.on = true ∧ bOpen.safe.inB.on = false) ∧ (nx .safetyTick bOpen).fld 0x3126 16 16 = 65535 ∧ (nx .safetyTick bOpen).bit 0x3126 2 = true) ∧
    ((bothClosed run).safe.inA.on = true ∧ (bothClosed run).bit 0x3126 6 = false ∧ (nx .safetyTick (bothClosed run)).bit 0x3126 2 = false) := by decide +kernel
theorem witness_SafeCommands :
    let ack := rq 0x51 0xA5C3 0 0 0
    let stop (n : Word) := rq 0x50 n 0 0 0
    let clean := (run.wr 0x3100 0x20).wr 0x3101 0x49
    let on := closed (contactor.wr 0x1002 1000)
    ((ask clean ack).Requests .mbx ack ∧ (clean.activeBits &&& 0x0F = 0) ∧ clean.bit 0x3126 2 = false ∧ clean.bit 0x3100 7 = false ∧ clean.ramping = false ∧
      clean.pwr.roundDue = false ∧ sealSet clean.seal = true ∧ clean.fitted = false ∧ (nx (.safeAck .mbx) (ask clean ack)).rd 0x3100 = 0x10) ∧
    (sealSet run.seal = false ∧ (nx (.safeAck .mbx) (ask run ack)).host.status = 0x06) ∧ (nx (.safeAck .mbx) (ask clean (rq 0x51 0xA5C2 0 0 0))).host.status = 0x03 ∧
    ((ask run (stop 1)).Requests .mbx (stop 1) ∧ run.fitted = false ∧ (nx (.safeStop .mbx) (ask run (stop 1))).host.status = 0x06 ∧
      (nx (.safeStop .mbx) (ask run (stop 2))).host.status = 0x03) ∧
    (contactor.fitted = true ∧ contactor.outputsOn = false ∧ (nx (.safeStop .mbx) (ask contactor (stop 0))).host.rsp.head? = some 0 ∧
      (nx (.safeStop .mbx) (ask contactor (stop 0))).bit 0x3100 5 = true) ∧
    (on.outputsOn = true ∧ (nx (.safeStop .mbx) (ask on (stop 1))).host.rsp.head? = some 2 ∧ (nx (.safeStop .mbx) (ask on (stop 1))).pins.safeH = false ∧
      (nx (.safeStop .mbx) (ask on (stop 1))).fld 0x3100 8 4 = 5) ∧
    (on.rd 0x1002 ≠ 0 ∧ on.ramping = false ∧ (nx (.safeStop .mbx) (ask on (stop 0))).host.rsp.head? = some 1 ∧ (nx (.safeStop .mbx) (ask on (stop 0))).pins.safeH = true ∧
      (nx (.safeStop .mbx) (ask on (stop 0))).bit 0x3100 6 = true) := by decide +kernel
theorem witness_ClosingAndFeedback :
    let stuck (n : Nat) : State := { ready with pins := { ready.pins with fbH := true }, safe := { ready.safe with failures := n } }
    let at_ (p : BitVec 3) : State := { ready with safe := { ready.safe with phase := p } }
    let retry : State := { ready with safe := { ready.safe with phase := 4, retryDue := true } }
    let open_ (f : BitVec 2) : State := { closed contactor with pins := { (closed contactor).pins with fbH := false }, safe := { (closed contactor).safe with feedFail := f } }
    let testH (again : Bool) : State := { closed contactor with pins := { (closed contactor).pins with safeH := false }, safe := { (closed contactor).safe with testH := ⟨true, again⟩ } }
    let testL : State := { closed contactor with pins := { (closed contactor).pins with safeL := false }, safe := { (closed contactor).safe with testL := ⟨true, true⟩ } }
    let due : State := { closed contactor with safe := { (closed contactor).safe with testDue := 1 } }
    (ready.mayClose = true ∧ ready.safe.phase = 0 ∧ ready.pathHeld = false ∧ (nx .closeSequence ready).pins.safeL = true ∧ (nx .closeSequence ready).pins.safeH = false ∧
      (nx .closeSequence ready).safe.phase = 1) ∧ (run.mayClose = false ∧ yields .closeSequence run run = true) ∧
    ((nx .closeSequence (stuck 0)).safe.failures = 1 ∧ (nx .closeSequence (stuck 0)).safe.phase = 4 ∧ (nx .closeSequence (stuck 1)).safe.failures = 0 ∧
      (nx .closeSequence (stuck 1)).bit 0x3100 5 = true) ∧
    yields .closeSequenceRetry run run = true ∧ (retry.safe.retryDue = true ∧ retry.mayClose = true ∧ (nx .closeSequenceRetry retry).safe.phase = 1) ∧
    (let r := retry.wr 0x3100 0
     r.mayClose = false ∧ (nx .closeSequenceRetry r).safe.phase = 0) ∧
    (off.awake = false ∧ yields (.feedbackChange true true) off off = true) ∧ (run.fitted = false ∧ (nx (.feedbackChange false true) run).pins.fbH = true) ∧
    (ready.Stored ∧ (nx (.feedbackChange true true) (at_ 1)).pins.safeH = true ∧ (nx (.feedbackChange true true) (at_ 1)).safe.phase = 2 ∧
      (nx (.feedbackChange false true) (at_ 2)).safe.phase = 3) ∧
    (yields (.feedbackTimeout false) run run = true ∧ (nx (.feedbackTimeout false) (open_ 0)).safe.feedFail = 1 ∧ (nx (.feedbackTimeout false) (open_ 0)).pins.safeH = true ∧
      (nx (.feedbackTimeout false) (open_ 1)).pins.safeH = false ∧ (nx (.feedbackTimeout false) (open_ 1)).bit 0x3100 5 = true) ∧
    (let c : State := { at_ 1 with pins := { ready.pins with safeL := true } }
     (nx (.feedbackTimeout true) c).pins.safeL = false ∧ (nx (.feedbackTimeout true) c).safe.phase = 4) ∧
    yields (.offtestPulseEnd none) run run = true ∧
    ((testH false).safe.testL.busy = false ∧ (nx (.offtestPulseEnd (some 70000)) (testH false)).fld 0x3124 0 16 = 0xFFFE ∧
      (nx (.offtestPulseEnd none) (testH false)).safe.testDue = 1 ∧ (nx (.offtestPulseEnd none) (testH false)).pins.safeH = true) ∧
    ((nx (.offtestPulseEnd none) testL).pins.safeH = false ∧ (nx (.offtestPulseEnd none) testL).bit 0x3100 5 = true) ∧
    yields .offtestRetry run run = true ∧ (due.safe.phase = 3 ∧ due.ramping = false ∧ due.pathHeld = false ∧ (nx .offtestRetry due).pins.safeH = false) := by decide +kernel
theorem witness_InputsAndPulses :
    let blanked (closed_ fail : Bool) : State := { run with safe := { run.safe with inB := { run.safe.inB with level := true, closed := closed_, blanked := true, fail1 := fail } } }
    (off.awake = false ∧ yields (.inputChange true true) off off = true) ∧ run.awake = true ∧
    ((nx (.inputChange true true) run).safe.inB.closed = true ∧ (nx (.inputChange true false) (blanked true false)).safe.inB.closed = true) ∧
    yields (.tpPulse true) off off = true ∧ ((nx (.tpPulse true) run).pins.tpB = false ∧ (nx (.tpPulse true) run).safe.inB.blanked = true) ∧
    yields (.tpPulseEnd true false false false) run run = true ∧
    ((blanked true false).up = true ∧ ((blanked true false).channel true).blanked = true ∧ ((nx (.tpPulseEnd true false false false) (blanked true false)).channel true).fail1 = true ∧
      (nx (.tpPulseEnd true false false false) (blanked true false)).pins.tpB = true) ∧
    (((nx (.tpPulseEnd true false false false) (blanked true true)).channel true).short = true ∧ (nx (.tpPulseEnd true false false false) (blanked true true)).bit 0x3126 5 = true) ∧
    (((nx (.tpPulseEnd true true true false) (blanked true true)).channel true).fail1 = false ∧ ((nx (.tpPulseEnd true true true false) (blanked true false)).channel false).fail2 = true) := by
  decide +kernel
theorem witness_TwinFrames :
    let trip := twinBytes (twinHead 0x02 true false true 2 1 5 0 0 12)
    let bad := trip.set 26 (nth trip 26 0 + 1)
    let half : State := { watcher with safe := { watcher.safe with peers := [{ peer2 with first := some (true, trip) }] } }
    let said : State := { watcher with safe := { watcher.safe with peers := [{ peer2 with upSaid := true, downSaid := true }] } }
    let alien := (twinBytes (twinHead 0x02 false false true 3 1 5 0 0 12)).set 26 0
    let known : State := { watcher with safe := { watcher.safe with strangers := [(3, false)] } }
    (trip.length = 32) ∧ yields .twinFrameSend run run = true ∧
    (pair.up = true ∧ pair.fab.valid = true ∧ pair.contactors = [2] ∧ (nx .twinFrameSend pair).rd 0x312B = 1) ∧
    yields (.twinFrameReceive 0 trip) off off = true ∧
    (watcher.up = true ∧ watcher.fitted = true ∧ watcher.safe.peers.find? (fun x => x.addr == 2) = some peer2 ∧ peer2.missed = none ∧ peer2.first = none ∧
      peer2.upSeq ≠ some 5 ∧ peer2.downSeq ≠ some 5 ∧ ((5 : Word) - peer2.seq).toNat < 2 ^ 31 ∧ watcher.Stored ∧ watcher.fab.addr = 1 ∧
      (nx (.twinFrameReceive 0 trip) watcher).pins.safeH = false ∧ (nx (.twinFrameReceive 0 trip) watcher).bit 0x3100 5 = true) ∧
    (BitVec.ofNat 12 (numBE [nth bad 2 0, nth bad 3 0]) = (2 : BitVec 12) ∧ (bad.drop 26).take 4 ≠ bytesBE 4 (crc32c (bad.take 26)).toNat ∧
      (nx (.twinFrameReceive 0 bad) watcher).pins.safeH = true ∧ peer2.upBad = false ∧ peer2.downBad = false ∧ (nx (.twinFrameReceive 0 bad) watcher).fld 0x312A 16 16 = 1) ∧
    (watcher.safe.peers.find? (fun x => x.addr == 3) = none ∧ BitVec.ofNat 12 (numBE [nth alien 2 0, nth alien 3 0]) = (3 : BitVec 12) ∧
      (alien.drop 26).take 4 ≠ bytesBE 4 (crc32c (alien.take 26)).toNat ∧ (nx (.twinFrameReceive 0 alien) watcher).safe.strangers = [(3, false)] ∧
      (nx (.twinFrameReceive 0 alien) watcher).pins.safeH = true ∧ (nx (.twinFrameReceive 0 alien) known).pins.safeH = false) ∧
    (yields (.twinCopyTimeout 3) watcher watcher = true ∧ yields (.safewdog 3 true) watcher watcher = true ∧ yields (.twinCopyTimeout 2) watcher watcher = true) ∧
    ((nx (.twinCopyTimeout 2) half).fld 0x312A 0 16 = 1 ∧ (nx (.twinCopyTimeout 2) half).safe.peers = [{ peer2 with missed := some (false, 5) }]) ∧
    ((nx (.safewdog 2 false) watcher).pins.safeH = false ∧ yields (.safewdog 2 false) said said = true ∧ yields (.safewdog 2 true) said said = true) := by decide +kernel

/-! ## Chisel, memories, identity and events -/

def slicing (i : Nat) (again aborted : Bool) : State :=
  { run with chis := { run.chis with next := i, busy := true, repeat_ := again, aborted := aborted } }
def sliceIn (out : List Word) : SliceIn := ⟨out, [], [], [], 0, [], 0, []⟩
theorem witness_SlicesRun :
    let idle (i : Nat) (retired : Bool) : State := { run with chis := { run.chis with next := i, slices := run.chis.slices.map fun x => { x with retired := retired } } }
    let done := nx (.chiselSliceEnd (sliceIn (copies 12 0))) (slicing 9 false false)
    let first := nx (.chiselSliceEnd (sliceIn [0])) (slicing 9 false false)
    let abort := nx (.chiselSliceEnd (sliceIn [0])) (slicing 9 false true)
    let lasts := nx (.chiselSliceEnd (sliceIn [0])) (closed (slicing 9 true false))
    (yields .chiselSliceStart off off = true ∧ yields .chiselSliceStart (slicing 9 false false) (slicing 9 false false) = true) ∧
    (let early : State := { idle 12 false with chis := { (idle 12 false).chis with period := 48 } }
     early.chis.next ≠ 0 ∧ early.clk.ref.toNat < early.sliceDue 12 ∧ yields .chiselSliceStart early early = true) ∧
    ((idle 47 false).sliceDue 47 ≤ (idle 47 false).clk.ref.toNat ∧ (idle 47 false).shortsWait 47 = false) ∧
    ((nx .chiselSliceStart (idle 47 false)).chis.busy = true ∧ (nx .chiselSliceStart (idle 47 true)).chis.next = 0 ∧ (nx .chiselSliceStart (idle 46 true)).chis.next = 47) ∧
    (run.chis.busy = false ∧ yields (.chiselSliceEnd (sliceIn [])) run run.settle = true) ∧
    ((slicing 9 false false).chis.slices.length = 48 ∧ (slicing 9 false false).sliceSteps 9 = 12 ∧ (slicing 9 false false).sliceFinds 9 (sliceIn (copies 12 0)) = [] ∧
      (done.slice 9).result = 0 ∧ (done.slice 9).count = 12 ∧ done.chis.next = 10) ∧
    ((first.slice 9).result = 2 ∧ first.chis.repeat_ = true ∧ first.chis.next = 9) ∧ ((abort.slice 9).result = 3 ∧ (abort.slice 9).notruns = 1 ∧ abort.chis.next = 10) ∧
    ((closed (slicing 9 true false)).pins.safeH = true ∧ (lasts.slice 9).lasting = true ∧ lasts.pins.safeH = false ∧ lasts.pwr.mode = .guard ∧ lasts.pwr.gcause = 4) := by
  decide +kernel
theorem witness_RepairsAndRefresh :
    let lane : State := { run with conv := { run.conv with repair := some 3 } }
    let mem : State := { run with chis := { run.chis with repairs := [(true, 7)] } }
    let hot : State := { hat with therm := { hat.therm with released := 2, row := 511 } }
    yields .laneRepair run run = true ∧ (lane.Stored ∧ lane.chis.slices.length = 48 ∧ (nx .laneRepair lane).fld 0x1100 8 3 = 3 ∧ (nx .laneRepair lane).bit 0x1301 1 = true) ∧
    yields .memoryRepairDone run run = true ∧ (nth (nx .memoryRepairDone mem).chis.spares 23 9 = 3 ∧ nth (nx .memoryRepairDone mem).chis.spares 22 9 = 4) ∧
    ((nx .edramRefresh hot).therm.row = 0 ∧ (nx .edramRefresh (hot.wr 0x4000 2)).therm.row = 3 ∧ yields .edramRefresh off off = true) ∧
    (yields (.edramRefreshLate 1) off off = true ∧ run.awake = true ∧ (nx (.edramRefreshLate 70000) run).fld 0x4002 0 16 = 65535 ∧
      (nx (.edramRefreshLate 1) hat).therm.lateGroups = some (1, true)) ∧
    (yields (.hatboxRefreshComparatorRead 1) run run = true ∧ (nx (.hatboxRefreshComparatorRead 0x20) hot).fld 0x4001 0 16 = 4000 ∧
      (nx (.hatboxRefreshComparatorRead 0) hot).fld 0x4001 0 16 = 16000 ∧ (nx (.hatboxRefreshComparatorRead 0x20) (hot.wr 0x3000 0x2000)).therm.released = 3) := by decide +kernel
theorem witness_IdentityAndLog :
    let keyed := run.wr 0x4000 8
    let log := (run.wr 0x4008 2050).wr 0x4009 3
    let newcomer : State := { pair with fab := { pair.fab with nodes := [nodeRec 0 1 0 [], { nodeRec 5 2 0 [] with pending := true }] } }
    let at_ (p : Word) := rq 0x60 0 0 0 p
    let own (a0 a1 : Word) := rq 0x61 a0 a1 0 0
    let read (n : Word) := rq 0x62 n 0 0 0
    yields (.keyCheck .pass 0) off off = true ∧ (run.up = true ∧ run.bit 0x4000 4 = false ∧ run.Stored ∧ (nx (.keyCheck .pass 0) run).rd 0x4000 = run.rd 0x4000 ||| 0x18 ∧
      (nx (.keyCheck .lasting 0) run).bit 0x4000 3 = false) ∧
    ((ask keyed (at_ 0)).Requests .mbx (at_ 0) ∧ (nx (.attest .mbx 1 2) (ask keyed (at_ 0))).host.rsp = [0, 0, 0, 0, 0, 0, 0, 1] ∧
      (nx (.attest .mbx 1 2) (ask run (at_ 0))).host.status = 0x06 ∧ (nx (.attest .mbx 1 2) (ask keyed (at_ 1))).host.status = 0x06 ∧
      (nx (.attest .mbx 1 2) (ask keyed (at_ 8))).host.status = 0x03 ∧
      (nx (.attest .mbx 3 4) (ask (nx (.attest .mbx 1 2) (ask keyed (at_ 0))) (at_ 1))).host.rsp = [0, 0, 0, 0, 0, 0, 0, 2] ∧
      nth (nx (.attest .mbx 3 4) (ask (nx (.attest .mbx 1 2) (ask keyed (at_ 0))) (at_ 2))).host.rsp 0 0 = 0x41545354) ∧
    ((ask newcomer (own 2 5)).Requests .mbx (own 2 5) ∧ (nx (.ownerAccept .mbx) (ask newcomer (own 0x1002 5))).host.status = 0x03 ∧
      (nx (.ownerAccept .mbx) (ask newcomer (own 3 5))).host.status = 0x08 ∧ (nx (.ownerAccept .mbx) (ask pair (own 2 5))).host.status = 0x06 ∧
      (nx (.ownerAccept .mbx) (ask newcomer (own 2 6))).host.status = 0x03 ∧ (nx (.ownerAccept .mbx) (ask newcomer (own 2 5))).fab.nodes.map (·.pending) = [false, false]) ∧
    ((ask log (read 3)).Requests .mbx (read 3) ∧ (nx (.logRead .mbx .pass) (ask log (read 2))).host.status = 0x03 ∧ (nx (.logRead .mbx .pass) (ask log (read 2051))).host.status = 0x03 ∧
      (nx (.logRead .mbx .pass) (ask log (read 0))).host.rsp = [0, 0, 0, 0, 3, 0x10000, 3, 2050] ∧
      (nx (.logRead .mbx .pass) (ask log (read 0xFFFFFFFF))).host.rsp = [0, 0, 0, 0, 2050, 0x10000, 3, 2050]) := by decide +kernel
theorem witness_EventsPlaced :
    let full : State := { run with host := { run.host with head := 256 } }
    let early : State := { State.reset with ev := { State.reset.ev with holding := List.replicate 32 (State.reset.entryNow 31 0 false) } }
    let mute := run.wr 0x0208 0
    (State.reset.up = false ∧ State.reset.bit 0x0208 31 = true ∧ (State.reset.raise 31 5).ev.holding = [State.reset.entryNow 31 5 false]) ∧
    (32 ≤ early.ev.holding.length ∧ (early.raise 31 5).ev.discarded = 1 ∧ (early.raise 31 5).fld 0x020E 0 16 = 1) ∧
    ((State.reset.wr 0x0208 0).bit 0x0208 31 = false ∧ ((State.reset.wr 0x0208 0).raise 31 5).ev.holding = []) ∧
    (loggable 31 = false ∧ mute.bit 0x0208 31 = false ∧ mute.raise 31 5 = mute) ∧
    (full.ringFill = 256 ∧ (full.raise 31 5).host.head = 256 ∧ (full.raise 31 5).ev.ringLost = true) ∧
    (run.ev.ringLost = false ∧ run.ringFill ≠ 256 ∧ (run.raise 31 5).host.head = 1 ∧ (run.raise 31 5).ldWord 0x5F00C = 5) ∧
    (loggable 71 = true ∧ (run.ev.logTimes.filter run.recent).length < 100 ∧ (run.raise 71 5).rd 0x4008 = run.rd 0x4008 + 1) := by decide +kernel

end Sys2Proof.Tests
end

section
/-! PROOFS. Every operation of the node keeps the canonical form of memory and of the parameter store (R16, R81). Only the named writes of
Machine/Store.lean and `memPart` touch the two stores; every other operation is put together from them by updates of other fields, branches and folds.
So there is one lemma per operation, in the order of the model's files, named `State.Stored.op` after the operation `op` (`op_fst`, `op_snd` where it
answers a pair), and its proof is the composition `op` is made of: `h.a.frame.b.ite h.c` is the state after `a`, an update of other fields and `b`, or,
on the other branch, after `c`. -/
namespace Sys2Proof.Machine

section
variable {s : State}

/-! ## The shapes operations are built from -/

/-- A record update that leaves memory and parameters as they are. -/
theorem State.Stored.frame {clk pwr host ev nv sense conv seq pat imp bal tmr ports fab sweep snap plc therm safe chis pins serial free pending}
    (h : s.Stored) :
    (State.mk clk pwr s.par s.mem host ev nv sense conv seq pat imp bal tmr ports fab sweep snap plc therm safe chis pins serial free
      pending).Stored := h

theorem State.Stored.fst {β : Type} {r : β} (h : s.Stored) : ((s, r) : State × β).1.Stored := h

theorem State.Stored.ite {c : Prop} {_ : Decidable c} {a b : State} (ha : a.Stored) (hb : b.Stored) : (if c then a else b).Stored := by
  split
  · exact ha
  · exact hb

theorem State.Stored.foldl {α : Type} {f : State → α → State} {l : List α} (h : s.Stored) (hf : ∀ t x, t.Stored → (f t x).Stored) :
    (l.foldl f s).Stored := by
  induction l generalizing s with
  | nil => exact h
  | cons x l ih => exact ih (hf s x h)

theorem State.Stored.foldl_fst {α β : Type} {f : State × β → α → State × β} {l : List α} {a : State × β} (h : a.1.Stored)
    (hf : ∀ a x, a.1.Stored → (f a x).1.Stored) : (l.foldl f a).1.Stored := by
  induction l generalizing a with
  | nil => exact h
  | cons x l ih => exact ih (hf a x h)

/-- A fold that carries a list beside the state. -/
theorem State.Stored.foldl_pair {α β : Type} {g : State × β → α → State} {k : State × β → α → β} {l : List α} {b : β} (h : s.Stored)
    (hg : ∀ a x, a.1.Stored → (g a x).Stored) : (l.foldl (fun a x => (g a x, k a x)) (s, b)).1.Stored := .foldl_fst h hg

theorem State.Stored.whenever {c : Bool} {f : State → State} (h : s.Stored) (hf : ∀ {t : State}, t.Stored → (f t).Stored) :
    (whenever c f s).Stored := by
  cases c
  · exact h
  · exact hf h

/-- What an operation that may answer no state leaves. -/
theorem State.Stored.getD {o : Option State} (h : s.Stored) (ho : ∀ t ∈ o, t.Stored) : (o.getD s).Stored := by
  cases o with
  | none => exact h
  | some t => exact ho t rfl

theorem State.Stored.reset : State.reset.Stored := by decide

/-! ## Links and frames (Machine/Net.lean) -/

theorem State.Stored.setPort {p : Fin 4} {f : Port → Port} (h : s.Stored) : (s.setPort p f).Stored := h.frame
theorem State.Stored.enqueue {p : Fin 4} {f : Frame} (h : s.Stored) : (s.enqueue p f).Stored := h.setPort
theorem State.Stored.noRoute (h : s.Stored) : s.noRoute.Stored := h.addSat _ _ _ _

theorem State.Stored.forward {f : Frame} (h : s.Stored) : (s.forward f).Stored := by
  unfold State.forward
  split
  · exact h.enqueue
  · exact h.noRoute

theorem State.Stored.flood {f : Frame} {from_ : Option (Fin 4)} (h : s.Stored) : (s.flood f from_).Stored := by
  unfold State.flood
  exact h.foldl fun _ _ ht => by
    split
    · exact ht.enqueue.ite ht
    · exact ht

theorem State.Stored.sendTo {ty : Byte} {dst : FAddr} {payload : List Byte} (h : s.Stored) : (s.sendTo ty dst payload).Stored := h.frame.forward
theorem State.Stored.sendAll {ty : Byte} {payload : List Byte} (h : s.Stored) : (s.sendAll ty payload).Stored := h.frame.flood
theorem State.Stored.control {p : Fin 4} {code a1 a2 : Byte} (h : s.Stored) : (s.control p code a1 a2).Stored := h.setPort

/-! ## Host notices, events, and how a command ends (Machine/Ops.lean) -/

theorem State.Stored.draw_snd (h : s.Stored) : s.draw.2.Stored := h.frame
theorem State.Stored.advanceTo {t : DWord} (h : s.Stored) : (s.advanceTo t).Stored := h.frame.ite h
theorem State.Stored.canSend {offset : Nat} {payload : List Byte} (h : s.Stored) : (s.canSend offset payload).Stored := h.frame.ite h
theorem State.Stored.uartSend {payload : List Byte} (h : s.Stored) : (s.uartSend payload).Stored := h.frame.ite h
theorem State.Stored.sendNotice (h : s.Stored) : s.sendNotice.Stored := h.canSend.uartSend.frame
theorem State.Stored.notifyFrom {old : State} (h : s.Stored) : (old.notifyFrom s).Stored := (h.frame.ite h.sendNotice).ite h
theorem State.Stored.nvPut {job : NvJob} {a : Nat} {bs : List Byte} (h : s.Stored) : (s.nvPut job a bs).Stored := h.frame
theorem State.Stored.ringPut {ws : List Word} {n : Nat} (h : s.Stored) : (s.ringPut ws n).Stored := (h.stWords _ _).frame.notifyFrom
theorem State.Stored.evDiscard {fromRing : Bool} (h : s.Stored) : (s.evDiscard fromRing).Stored := (h.addSat _ _ _ _).frame
theorem State.Stored.ringAdd {ws : List Word} {n : Nat} (h : s.Stored) : (s.ringAdd ws n).Stored := h.evDiscard.ite h.ringPut
theorem State.Stored.evForward {e : EvEntry} (h : s.Stored) : (s.evForward e).Stored := (h.foldl fun _ _ ht => ht.sendTo).ite h
theorem State.Stored.evPlace {e : EvEntry} (h : s.Stored) : (s.evPlace e).Stored := h.ringAdd.evForward.ite h

theorem State.Stored.logPut {e : EvEntry} (h : s.Stored) : (s.logPut e).Stored :=
  (((h.frame.wr _ _).wr _ _).nvPut.evPlace.ite ((h.frame.wr _ _).wr _ _).nvPut).ite (h.addSat _ _ _ _)

theorem State.Stored.triggers {n : Nat} (h : s.Stored) : (s.triggers n).Stored := by
  unfold State.triggers
  dsimp only
  split
  · exact h.frame.ite h
  · exact h

theorem State.Stored.raiseC {s0 : State} {n : Nat} {data : Word} {cleared : Bool} (h : s0.Stored) : (s0.raiseC n data cleared).Stored := by
  unfold State.raiseC
  extract_lets _ s _ s1
  have hs : s.Stored := h.ite h.triggers
  have hs1 : s1.Stored := hs.frame.ite hs
  exact (hs.logPut.ite hs).evPlace.ite ((hs1.frame.ite hs1.evDiscard).ite hs1)

theorem State.Stored.raise {n : Nat} {data : Word} (h : s.Stored) : (s.raise n data).Stored := h.raiseC
theorem State.Stored.ringOverflow (h : s.Stored) : s.ringOverflow.Stored := h.frame.ringPut.evForward
theorem State.Stored.raiseSlow {n unit : Nat} {data : Word} (h : s.Stored) : (s.raiseSlow n unit data).Stored := h.ite h.frame.raise
theorem State.Stored.transient {k n : Nat} (h : s.Stored) : (s.transient k n).Stored := (h.addSat _ _ _ _).frame.raise.ite (h.addSat _ _ _ _).frame
theorem State.Stored.mbxDone {tag status : Byte} {rsp : List Word} (h : s.Stored) : (s.mbxDone tag status rsp).Stored := h.frame.notifyFrom

theorem State.Stored.complete {src : Src} {status : Byte} {rsp : List Word} (h : s.Stored) : (s.complete src status rsp).Stored := by
  unfold State.complete
  extract_lets
  split
  · split
    · exact h.mbxDone
    · exact h
  · split
    · exact h.frame.sendTo
    · exact h

theorem State.Stored.markStarted {src : Src} (h : s.Stored) : (s.markStarted src).Stored := by
  unfold State.markStarted
  extract_lets
  split <;> exact h.frame

theorem State.Stored.serve {src : Src} {want : Req → Bool} {f : State → Req → State × Reply} (h : s.Stored)
    (hf : ∀ {t : State} {r : Req}, t.Stored → (f t r).1.Stored) : (s.serve src want f).Stored := by
  unfold State.serve
  split
  · split
    · dsimp only
      split
      · exact (hf h).complete
      · exact (hf h).markStarted
    · exact h
  · exact h

theorem State.Stored.serveCode {src : Src} {code : Byte} {f : State → Req → State × Reply} (h : s.Stored)
    (hf : ∀ {t : State} {r : Req}, t.Stored → (f t r).1.Stored) : (s.serveCode src code f).Stored := h.serve hf

theorem State.Stored.fail_fst {status : Byte} (h : s.Stored) : (s.fail status).1.Stored := h

/-! ## Balancing (Machine/Balance.lean) -/

theorem State.Stored.balRefresh (h : s.Stored) : s.balRefresh.Stored := ((h.setFld _ _ _ _).setFld _ _ _ _).frame
theorem State.Stored.applyBudget (h : s.Stored) : s.applyBudget.Stored := (h.frame.raise.ite h.frame).balRefresh

theorem State.Stored.budgetRound (h : s.Stored) : s.budgetRound.Stored :=
  ((h.setBit _ _ _).applyBudget.setFld _ _ _ _).frame.raiseC.ite ((h.setBit _ _ _).applyBudget.setFld _ _ _ _)

theorem State.Stored.swFault {k cause : Nat} (h : s.Stored) : (s.swFault k cause).Stored :=
  ((h.setBit _ _ _).raise.frame.ite (h.setBit _ _ _).raise).balRefresh

theorem State.Stored.shtFault {j cause : Nat} (h : s.Stored) : (s.shtFault j cause).Stored := (h.setBit _ _ _).raise.balRefresh.frame

theorem State.Stored.balOvercurrentTrip {cell : Fin 24} (h : s.Stored) : (balOvercurrentTrip cell s).Stored :=
  (h.frame.swFault.ite h.frame.balRefresh).ite h

theorem State.Stored.balReclose {cell : Fin 24} (h : s.Stored) : (balReclose cell s).Stored := h.frame.transient.balRefresh.ite h

theorem State.Stored.shuttleFrameSend {j : Fin 23} {sense : BitVec 2} (h : s.Stored) : (shuttleFrameSend j sense s).Stored :=
  h.ite ((h.frame.shtFault.ite h.frame).ite (h.frame.transient.ite h.frame))

theorem State.Stored.balAssignmentReceived {items : List BalItem} (h : s.Stored) : (balAssignmentReceived items s).Stored :=
  (h.frame.setBit _ _ _).ite h

theorem State.Stored.balAssignmentApply (h : s.Stored) : (balAssignmentApply s).Stored := by
  unfold Machine.balAssignmentApply
  extract_lets
  split
  · exact h.ite (h.frame.setBit _ _ _).applyBudget
  · exact h

theorem State.Stored.balLeaseLapse (h : s.Stored) : (balLeaseLapse s).Stored := ((h.frame.setBit _ _ _).setBit _ _ _).balRefresh.ite h
theorem State.Stored.balReport {plan : FAddr} (h : s.Stored) : (balReport plan s).Stored := h.sendTo.ite h
theorem State.Stored.probeAll (h : s.Stored) : s.probeAll.Stored := h.frame
theorem State.Stored.probeRound (h : s.Stored) : s.probeRound.Stored := (h.frame.probeAll.ite h).frame.probeAll.ite (h.frame.probeAll.ite h)
theorem State.Stored.probeStart {cell : Fin 24} (h : s.Stored) : (probeStart cell s).Stored := (h.frame.setBit _ _ _).balRefresh.ite h
theorem State.Stored.probeEnd (h : s.Stored) : s.probeEnd.Stored := (h.frame.setBit _ _ _).balRefresh
theorem State.Stored.lineCheck {line : Nat} {r : Rat} (h : s.Stored) : (s.lineCheck line r).Stored := h.frame.raise.ite h.frame

theorem State.Stored.probeJudge {p : Probe} (h : s.Stored) : (s.probeJudge p).Stored := by
  unfold State.probeJudge
  extract_lets _ _ _ _ _ _ _ _ s0 _ _ _ _ s2
  have hs0 : s0.Stored := h.transient.ite h
  have hs2 : s2.Stored := ((hs0.wr _ _).setBit _ _ _).setFld _ _ _ _
  exact (hs0.probeEnd.swFault.ite hs2.lineCheck.lineCheck.probeEnd).ite (h.probeEnd.ite h.frame.balRefresh)

theorem State.Stored.probeCycleEnd {off on : List Int} (h : s.Stored) : (probeCycleEnd off on s).Stored := by
  unfold Machine.probeCycleEnd
  extract_lets
  split
  · exact h
  · exact h.frame.balRefresh.ite ((h.frame.balRefresh.probeJudge.ite h.frame.balRefresh).ite h.frame.balRefresh)

theorem State.Stored.sendItems {a : FAddr} {items : List BalItem} (h : s.Stored) : (s.sendItems a items).Stored :=
  h.balAssignmentReceived.ite h.sendTo

theorem State.Stored.planSend {slot : Fin 32} {a : FAddr} {items : List BalItem} (h : s.Stored) : (s.planSend slot a items).Stored :=
  h.frame.sendItems

theorem State.Stored.goalCheck {slot : Fin 32} {g : Goal} {spread : Int} (h : s.Stored) : (s.goalCheck slot g spread).Stored :=
  (h.frame.raiseC.ite h).ite (h.frame.raise.ite h)

theorem State.Stored.balPlanEvaluate {slot : Fin 32} {reports : List BalReport} (h : s.Stored) : (balPlanEvaluate slot reports s).Stored := by
  unfold Machine.balPlanEvaluate
  split
  · exact h
  · extract_lets
    split
    · exact h
    · split
      · exact h.foldl fun _ _ ht => ht.sendItems
      · split
        · exact h
        · exact (h.foldl fun _ _ ht => ht.planSend).goalCheck

/-! ## Conversions, filters and streams (Machine/Lanes.lean) -/

theorem State.Stored.patinaPlan {lane : Fin 5} {clk : Nat} (h : s.Stored) : (s.patinaPlan lane clk).Stored := h.frame
theorem State.Stored.patinaSweep (h : s.Stored) : s.patinaSweep.Stored := (h.foldl fun _ _ ht => ht.patinaPlan).ite h
theorem State.Stored.takeGain (h : s.Stored) : s.takeGain.Stored := h.frame

theorem State.Stored.planPass {s0 : State} {e : Entry} {start : Nat} (h : s0.Stored) : (s0.planPass e start).Stored :=
  (h.takeGain.ite h).frame.patinaSweep.ite (h.takeGain.ite h).frame

theorem State.Stored.replan {c : Nat} (h : s.Stored) : (s.replan c).Stored := h.ite h.frame
theorem State.Stored.setStream {n : Nat} {f : Stream → Stream} (h : s.Stored) : (s.setStream n f).Stored := h.frame
theorem State.Stored.stageAll {w : StageWord} (h : s.Stored) : (s.stageAll w).Stored := h.foldl fun _ _ ht => ht.setStream.ite ht
theorem State.Stored.tailMoved {n : Nat} (h : s.Stored) : (s.tailMoved n).Stored := h.setStream.ite h
theorem State.Stored.watermark {n : Nat} (h : s.Stored) : (s.watermark n).Stored := (h.setStream.frame.notifyFrom.raise.ite h).ite h.setStream
theorem State.Stored.streamPut {n : Nat} {ws : List Word} (h : s.Stored) : (s.streamPut n ws).Stored := (h.foldl fun _ _ ht => ht.stWord _ _).wr _ _
theorem State.Stored.streamLose {n k : Nat} (h : s.Stored) : (s.streamLose n k).Stored := (h.addSat _ _ _ _).setStream
theorem State.Stored.convOvf {n : Nat} (h : s.Stored) : (s.convOvf n).Stored := h.setStream.raise
theorem State.Stored.convOvfSlow {n : Nat} (h : s.Stored) : (s.convOvfSlow n).Stored := h.ite h.frame.convOvf

theorem State.Stored.pieceWrite {n pass : Nat} {t : Stream} {words : List StageWord} (h : s.Stored) : (s.pieceWrite n pass t words).Stored := by
  unfold State.pieceWrite
  extract_lets _ _ _ _ _ _ _ _ _ _ s1'
  have hs1' : s1'.Stored := h.setStream.streamLose.setBit _ _ _
  split
  · exact h.setStream.streamPut.watermark
  · exact (h.setStream.wr _ _).tailMoved.streamLose.convOvfSlow.streamPut.watermark.ite hs1'.convOvf.raise.streamLose

theorem State.Stored.streamBurstWrite {st : Fin 8} (h : s.Stored) : (streamBurstWrite st s).Stored := by
  unfold Machine.streamBurstWrite
  extract_lets
  split
  · exact h
  · split
    · exact h
    · exact h.ite (h.setStream.ite (((h.setBit _ _ _).pieceWrite.ite h.setStream.streamLose).ite h.pieceWrite))

theorem State.Stored.auxRun {n i cause : Nat} {bad : Bool} {v : Int} (h : s.Stored) : (s.auxRun n i cause bad v).Stored := by
  unfold State.auxRun
  extract_lets
  split
  · exact h.frame
  · exact h.frame.raiseC

theorem State.Stored.auxSample {n : Nat} {v : Int} {gain : Nat} {clipped : Bool} (h : s.Stored) : (s.auxSample n v gain clipped).Stored :=
  ((h.setFld _ _ _ _).ite h).auxRun.auxRun

theorem State.Stored.cellSample {c : Nat} {v : Int} {settling : Bool} (h : s.Stored) : (s.cellSample c v settling).Stored := by
  unfold State.cellSample
  extract_lets
  split
  · exact h
  · split
    · exact h.frame
    · exact h.frame.raiseC

theorem State.Stored.clipSample {c : Nat} {clipped : Bool} (h : s.Stored) : (s.clipSample c clipped).Stored := by
  unfold State.clipSample
  extract_lets
  split
  · exact h.frame
  · exact ((h.frame.setBit _ _ _).ite (h.frame.setBit _ _ _)).raiseC

theorem State.Stored.safeSample {c : Nat} {v : Int} {bad : Bool} (h : s.Stored) : (s.safeSample c v bad).Stored := h.frame
theorem State.Stored.compPut {k pass : Nat} {v : Int} (h : s.Stored) : (s.compPut k pass v).Stored := h.frame

theorem State.Stored.emit {k : Conversion} {out : Tag × Int × Nat} (h : s.Stored) : (s.emit k out).Stored :=
  (h.stageAll.frame.ite h.stageAll.frame).ite h.stageAll

theorem State.Stored.filterSample {k : Conversion} {v : Int} {tag : Tag} (h : s.Stored) : (s.filterSample k v tag).Stored := by
  unfold State.filterSample
  dsimp only
  split
  · split
    · exact h.frame.raise.emit
    · exact h.frame.emit
  · split
    · exact h.frame.raise
    · exact h.frame

theorem State.Stored.prunePast (h : s.Stored) : s.prunePast.Stored := h.frame

theorem State.Stored.snapSweep {pass : Nat} {time : DWord} (h : s.Stored) : (s.snapSweep pass time).Stored := by
  unfold State.snapSweep
  extract_lets
  split
  · exact h.frame
  · exact h.frame.ite (h.frame.ite h.frame)

theorem State.Stored.snapSample {k : Conversion} {v : Int} {tag : Tag} (h : s.Stored) : (s.snapSample k v tag).Stored := by
  unfold State.snapSample
  extract_lets _ _ _ s2
  have hs2 : s2.Stored := (h.ite h.snapSweep).frame
  split
  · exact hs2.stWord _ _
  · exact hs2

theorem State.Stored.patinaTake {k : Conversion} {code v : Int} {tag : Tag} (h : s.Stored) : (s.patinaTake k code v tag).Stored := h.frame
theorem State.Stored.patinaSample {k : Conversion} {code : Int} (h : s.Stored) : (s.patinaSample k code).Stored := (h.frame.ite h).ite h.frame

theorem State.Stored.setSample {k : Conversion} {v : Int} {clipped : Bool} (h : s.Stored) : (s.setSample k v clipped).Stored := by
  unfold State.setSample
  extract_lets
  split
  · exact h.frame.ite h
  · exact h

theorem State.Stored.impTake {k : Conversion} {v : Int} {tag : Tag} (h : s.Stored) : (s.impTake k v tag).Stored := h.frame.ite h

theorem State.Stored.tableResult {k : Conversion} {code : BitVec 16} {v comp : Int} {clipped : Bool} {safe : Int × Bool} (h : s.Stored) :
    (s.tableResult k code v comp clipped safe).Stored := by
  unfold State.tableResult
  extract_lets _ _ s2 _ _ s3 s4
  have hs2 : s2.Stored := h.clipSample
  have hs3 : s3.Stored := hs2.cellSample.compPut.patinaTake.setSample.impTake.ite hs2
  have hs4 : s4.Stored := hs3.safeSample.ite hs3
  exact (hs4.snapSample.ite hs4).filterSample

theorem State.Stored.handOn {s0 : State} {k : Conversion} {code : BitVec 16} (h : s0.Stored) : (s0.handOn k code).Stored := by
  unfold State.handOn
  extract_lets _ _ _ _ _ _ _ _ s1 s2
  have hs1 : s1.Stored := h.frame.auxSample.ite h.frame
  have hs2 : s2.Stored := hs1.wr _ _
  split
  · exact h.patinaSample
  · exact h.ite h.safeSample
  · exact hs1.setStream.ite hs1
  · split
    · exact hs2.complete
    · exact hs2
  · exact hs1.tableResult

theorem State.Stored.unplan {k : Conversion} (h : s.Stored) : (s.unplan k).Stored := h.frame

theorem State.Stored.conversionResult {lane : Fin 5} {code : BitVec 16} (h : s.Stored) : (conversionResult lane code s).Stored := by
  unfold Machine.conversionResult
  extract_lets
  split
  · exact h.unplan.handOn.prunePast
  · exact h.frame.handOn.ite h

theorem State.Stored.inject_fst {i : Injection} {isHost : Bool} (h : s.Stored) : (s.inject i isHost).1.Stored := by
  unfold State.inject
  extract_lets
  split
  · exact h.frame.fst
  · exact (h.addSat _ _ _ _).raise.fst

theorem State.Stored.injectionStart {edge : Nat} (h : s.Stored) : (injectionStart edge s).Stored := by
  unfold Machine.injectionStart
  extract_lets
  split
  · exact h
  · extract_lets
    split
    · exact h
    · exact (((h.frame.ite h).addSat _ _ _ _).ite (h.frame.ite h)).frame

theorem State.Stored.trackLost (h : s.Stored) : s.trackLost.Stored := h.frame.raise.ite h.frame

theorem State.Stored.trackCapture {p : Nat} (h : s.Stored) : (s.trackCapture p).Stored :=
  ((h.frame.wr _ _).frame.raiseC.ite (h.frame.wr _ _)).ite h.trackLost

theorem State.Stored.wintrackTimeout (h : s.Stored) : (wintrackTimeout s).Stored := h.ite h.trackLost

/-! ## Modes and boundaries (Machine/Modes.lean) -/

theorem State.Stored.takeTc {es : List Entry} (h : s.Stored) : (s.takeTc es).Stored := h.frame
theorem State.Stored.seqShow {entry pass : Nat} (h : s.Stored) : (s.seqShow entry pass).Stored := h.wr _ _
theorem State.Stored.seqPhase {p : SeqPhase} (h : s.Stored) : (s.seqPhase p).Stored := h.frame.seqShow
theorem State.Stored.unblank (h : s.Stored) : s.unblank.Stored := (h.frame.setBit _ _ _).balRefresh.ite h.frame
theorem State.Stored.blankSpan (h : s.Stored) : s.blankSpan.Stored := (h.frame.setBit _ _ _).balRefresh
theorem State.Stored.seqStop (h : s.Stored) : s.seqStop.Stored := h.seqPhase.unblank
theorem State.Stored.tableStart {p : SeqPhase} {gap : Bool} (h : s.Stored) : (s.tableStart p gap).Stored := h.frame.unblank.seqShow
theorem State.Stored.refreshAll (h : s.Stored) : s.refreshAll.Stored := h.frame
theorem State.Stored.activeStart {gap : Bool} (h : s.Stored) : (s.activeStart gap).Stored := h.takeTc.tableStart.ite h.seqStop
theorem State.Stored.seqLoadEvent {when_ watch : Bool} (h : s.Stored) : (s.seqLoadEvent when_ watch).Stored := h.raise
theorem State.Stored.activeAgain (h : s.Stored) : s.activeAgain.Stored := h.activeStart.seqLoadEvent.ite h.activeStart

theorem State.Stored.gridCheck (h : s.Stored) : s.gridCheck.Stored := by
  unfold State.gridCheck
  extract_lets
  split
  · exact h.frame.setBit _ _ _
  · exact h

theorem State.Stored.swapBanks {when_ start : Bool} (h : s.Stored) : (s.swapBanks when_ start).Stored := by
  unfold State.swapBanks
  extract_lets _ _ _ u
  have hu : u.Stored := (h.frame.setBit _ _ _).setBit _ _ _
  exact (hu.takeTc.tableStart.ite hu).gridCheck.seqLoadEvent

theorem State.Stored.seqEvent {u ch : Nat} {capture : Bool} (h : s.Stored) : (s.seqEvent u ch capture).Stored := h.frame
theorem State.Stored.trigWait (h : s.Stored) : s.trigWait.Stored := h.frame
theorem State.Stored.shortNone (h : s.Stored) : s.shortNone.Stored := h.setFld _ _ _ _

theorem State.Stored.patinaAbort {status : Byte} (h : s.Stored) : (s.patinaAbort status).Stored := by
  unfold State.patinaAbort
  extract_lets _ t
  have ht : t.Stored := h.frame.shortNone.setBit _ _ _
  split
  · exact h
  · exact (ht.activeAgain.ite ht).raise.complete

theorem State.Stored.rearm (h : s.Stored) : s.rearm.Stored := ((h.setFld _ _ _ _).setBit _ _ _).frame
theorem State.Stored.patinaStop (h : s.Stored) : s.patinaStop.Stored := h.frame

theorem State.Stored.impStop (h : s.Stored) : s.impStop.Stored := by
  unfold State.impStop
  extract_lets _ stopped
  have hstopped : stopped.Stored := h.foldl fun _ _ ht => ht.frame.setFld _ _ _ _
  exact ((hstopped.foldl fun _ _ ht => (ht.setBit _ _ _).setBit _ _ _).frame.wr _ _).balRefresh

theorem State.Stored.impDrop (h : s.Stored) : s.impDrop.Stored := h.impStop.frame.setFld _ _ _ _
theorem State.Stored.thermRestart (h : s.Stored) : s.thermRestart.Stored := h.frame
theorem State.Stored.stateChg {old new : Mode} {gc : BitVec 4} (h : s.Stored) : (s.stateChg old new gc).Stored := h.raise
theorem State.Stored.reqRun (h : s.Stored) : s.reqRun.Stored := h.setFld _ _ _ _
theorem State.Stored.outShow (h : s.Stored) : s.outShow.Stored := h.wr _ _
theorem State.Stored.leadsOff (h : s.Stored) : s.leadsOff.Stored := h.frame.outShow
theorem State.Stored.askRun (h : s.Stored) : s.askRun.Stored := h.frame.ite h
theorem State.Stored.toRun {old : Mode} (h : s.Stored) : (s.toRun old).Stored := h.frame.reqRun.rearm.stateChg

theorem State.Stored.enterGuard {cause : BitVec 4} (h : s.Stored) : (s.enterGuard cause).Stored := by
  unfold State.enterGuard
  extract_lets u
  have hu : u.Stored := h.leadsOff.patinaAbort.patinaStop
  split
  · exact hu.frame.reqRun.seqStop.impStop.thermRestart.stateChg
  · exact hu.frame.reqRun.seqStop.impStop.thermRestart.stateChg
  · exact h.frame.ite h
  · exact h.frame
  · exact h
  · exact h

/-! ## The safety monitor and its outputs (Machine/SafetyMonitor.lean) -/

theorem State.Stored.latch {b : Bool} (h : s.Stored) : (s.latch b).Stored := h.setBit _ _ _
theorem State.Stored.permit {b : Bool} (h : s.Stored) : (s.permit b).Stored := h.setBit _ _ _

theorem State.Stored.doff {cause : BitVec 4} {immediate envelope reached : Bool} (h : s.Stored) : (s.doff cause immediate envelope reached).Stored :=
  (((h.leadsOff.latch.permit.setBit _ _ _).setFld _ _ _ _).frame.addSat _ _ _ _).raise

theorem State.Stored.sendTwinCopy {dst : FAddr} {head : List Byte} {down : Bool} (h : s.Stored) : (s.sendTwinCopy dst head down).Stored := by
  unfold State.sendTwinCopy
  extract_lets
  split
  · exact h.frame.enqueue.ite h.frame
  · exact h.frame

theorem State.Stored.sendTwin {dst : FAddr} {kind : Byte} {cause : BitVec 4} (h : s.Stored) : (s.sendTwin dst kind cause).Stored :=
  ((h.wr _ _).ite (h.wr _ _).sendTwinCopy).ite ((h.wr _ _).ite (h.wr _ _).sendTwinCopy).sendTwinCopy

theorem State.Stored.sendRampReq {dst : FAddr} {cause : BitVec 4} (h : s.Stored) : (s.sendRampReq dst cause).Stored :=
  h.sendTwin.ite (h.wr _ _).sendTo.sendTo

theorem State.Stored.rampStart {cause : BitVec 4} (h : s.Stored) : (s.rampStart cause).Stored :=
  (((h.setBit _ _ _).wr _ _).frame.raise.sendRampReq.ite ((h.setBit _ _ _).wr _ _).frame.raise).askRun

theorem State.Stored.demand {s0 : State} {cause : BitVec 4} {immediate : Bool} (h : s0.Stored) : (s0.demand cause immediate).Stored := by
  unfold State.demand
  extract_lets _ s
  have hs : s.Stored := h.frame.ite h
  exact (hs.doff.ite (hs.ite hs.rampStart)).ite hs.latch.permit.frame.outShow

theorem State.Stored.ownDemand {cause : BitVec 4} {immediate : Bool} {bits : Half} (h : s.Stored) : (s.ownDemand cause immediate bits).Stored :=
  h.frame.demand

theorem State.Stored.channelFault {row detail : Nat} (h : s.Stored) : (s.channelFault row detail).Stored := h.raise.ownDemand.enterGuard
theorem State.Stored.takeTick (h : s.Stored) : s.takeTick.Stored := h.frame

theorem State.Stored.judgeCell {c : Nat} (h : s.Stored) : (s.judgeCell c).Stored := by
  unfold State.judgeCell
  dsimp only
  split
  · split
    · exact h.frame.raiseC.frame.raiseC
    · exact h.frame.raiseC
  · split
    · exact h.frame.raiseC
    · exact h

theorem State.Stored.judgeAux {n : Nat} (h : s.Stored) : (s.judgeAux n).Stored := by
  unfold State.judgeAux
  dsimp only
  split
  · exact h.frame.raiseC
  · exact h.frame

theorem State.Stored.judgeCurrent {dir : Nat} (h : s.Stored) : (s.judgeCurrent dir).Stored := by
  unfold State.judgeCurrent
  dsimp only
  split
  · exact h.frame.raiseC
  · exact h

theorem State.Stored.inputTick_fst (h : s.Stored) : s.inputTick.1.Stored :=
  ((h.frame.wr _ _).raise.ite ((h.frame.wr _ _).raiseC.ite (h.frame.wr _ _))).fst

theorem State.Stored.rampTick (h : s.Stored) : s.rampTick.Stored := by
  unfold State.rampTick
  extract_lets
  split
  · exact h
  · exact (h.setFld _ _ _ _).doff.ite (h.setFld _ _ _ _).frame

theorem State.Stored.offTestTick (h : s.Stored) : s.offTestTick.Stored := h.frame.ite (h.frame.outShow.ite (h.frame.outShow.ite h))
theorem State.Stored.injectAfter {seen : List Nat} (h : s.Stored) : (s.injectAfter seen).Stored := h.frame

theorem State.Stored.restTick (h : s.Stored) : s.restTick.Stored := by
  unfold State.restTick
  extract_lets
  split
  · exact h.frame
  · split
    · exact h
    · exact h.frame

theorem State.Stored.safetyTick (h : s.Stored) : (safetyTick s).Stored := by
  unfold Machine.safetyTick
  extract_lets _ s0 _ s1 s2 s3 s4 i _ _ _ s5 s6 s7
  have hs2 : s2.Stored := h.takeTick.restTick.frame.foldl fun _ _ ht => ht.judgeCell
  have hs4 : s4.Stored := (hs2.foldl fun _ _ ht => ht.judgeAux).foldl fun _ _ ht => ht.judgeCurrent
  have hs5 : s5.Stored := (((hs4.inputTick_fst.setBit _ _ _).setBit _ _ _).setBit _ _ _).setBit _ _ _
  have hs6 : s6.Stored := by
    dsimp only [s6]
    split
    · exact hs5.ownDemand
    · exact hs5
  have hs7 : s7.Stored := hs6.rampTick.offTestTick.injectAfter
  exact h.ite (hs7.ite hs7.askRun)

theorem State.Stored.peersShow (h : s.Stored) : s.peersShow.Stored := (h.setBit _ _ _).wr _ _

theorem State.Stored.fbMismatch {low commanded level inSeq : Bool} (h : s.Stored) : (s.fbMismatch low commanded level inSeq).Stored :=
  h.raise.ownDemand

theorem State.Stored.closeFails {low commanded level : Bool} (h : s.Stored) : (s.closeFails low commanded level).Stored :=
  h.leadsOff.frame.outShow.ite h.leadsOff.frame.fbMismatch

theorem State.Stored.closeBegin (h : s.Stored) : s.closeBegin.Stored := h.closeFails.ite (h.closeFails.ite h.frame.outShow)
theorem State.Stored.closeSequence (h : s.Stored) : (closeSequence s).Stored := h.closeBegin.ite h
theorem State.Stored.closeSequenceRetry (h : s.Stored) : (closeSequenceRetry s).Stored := (h.ite (h.frame.closeBegin.ite h.frame.outShow)).ite h
theorem State.Stored.feedGood {low : Bool} (h : s.Stored) : (s.feedGood low).Stored := h.frame.transient.ite h

theorem State.Stored.feedbackChange {low level : Bool} (h : s.Stored) : (feedbackChange low level s).Stored := by
  unfold Machine.feedbackChange
  extract_lets _ t _ _ u
  have ht : t.Stored := h.frame.outShow
  have hu : u.Stored := ht.frame.outShow
  exact h.ite (ht.ite (ht.frame.outShow.ite ((hu.ite hu.transient).ite (ht.feedGood.ite ht))))

theorem State.Stored.feedbackTimeout {low : Bool} (h : s.Stored) : (feedbackTimeout low s).Stored :=
  h.ite (h.closeFails.ite (h.frame.fbMismatch.ite h.frame))

theorem State.Stored.offtestPulseEnd {delay : Option Nat} (h : s.Stored) : (offtestPulseEnd delay s).Stored := by
  unfold Machine.offtestPulseEnd
  extract_lets
  split
  · exact h
  · split
    · exact (h.frame.setFld _ _ _ _).outShow.transient.ite (h.frame.setFld _ _ _ _).outShow
    · exact (h.frame.setFld _ _ _ _).outShow.raise.ownDemand.ite (h.frame.setFld _ _ _ _).outShow.frame

theorem State.Stored.offtestRetry (h : s.Stored) : (offtestRetry s).Stored := (h.frame.outShow.ite (h.frame.outShow.ite h)).ite h
theorem State.Stored.setChannel {b : Bool} {f : Channel → Channel} (h : s.Stored) : (s.setChannel b f).Stored := h.frame.ite h.frame
theorem State.Stored.tpPulse {b : Bool} (h : s.Stored) : (tpPulse b s).Stored := h.setChannel.frame.ite h

theorem State.Stored.shortCheck {b first ok : Bool} (h : s.Stored) : (s.shortCheck b first ok).Stored :=
  (h.setChannel.transient.ite h.setChannel).ite (h.setChannel.raise.ownDemand.ite h.setChannel)

theorem State.Stored.shortShow (h : s.Stored) : s.shortShow.Stored := (h.setBit _ _ _).setBit _ _ _

theorem State.Stored.tpPulseEnd {b ownLow otherLow otherAround : Bool} (h : s.Stored) : (tpPulseEnd b ownLow otherLow otherAround s).Stored :=
  h.frame.shortCheck.shortCheck.setChannel.shortShow.ite h

theorem State.Stored.inputChange {b level : Bool} (h : s.Stored) : (inputChange b level s).Stored := h.setChannel.ite h
theorem State.Stored.twinFrameSend (h : s.Stored) : (twinFrameSend s).Stored := (h.frame.foldl fun _ _ ht => ht.sendTwin).ite h
theorem State.Stored.setPeer {a : FAddr} {f : Peer → Peer} (h : s.Stored) : (s.setPeer a f).Stored := h.frame
theorem State.Stored.safeFrame {a : FAddr} {reason : Nat} {seq : Word} (h : s.Stored) : (s.safeFrame a reason seq).Stored := h.raise.ownDemand

theorem State.Stored.twinBad {a : FAddr} {down : Bool} {reason : Nat} {seq : Word} (h : s.Stored) : (s.twinBad a down reason seq).Stored := by
  unfold State.twinBad
  extract_lets t
  have ht : t.Stored := h.addSat _ _ _ _
  split
  · exact ht.frame.safeFrame.ite ht.frame
  · exact ht.setPeer.safeFrame.ite ht.setPeer

theorem State.Stored.twinAct {kind : Byte} {cause : BitVec 4} {st acted : Half} (h : s.Stored) : (s.twinAct kind cause st acted).Stored := by
  unfold State.twinAct
  extract_lets
  split
  · exact h.demand
  · split
    · exact h.demand
    · split
      · exact h.demand
      · split
        · exact h.demand
        · exact h

theorem State.Stored.twinAccept {p : Peer} {down : Bool} {bs : List Byte} {seq : Word} (h : s.Stored) : (s.twinAccept p down bs seq).Stored := by
  unfold State.twinAccept
  extract_lets
  split
  · split
    · exact h.setPeer.peersShow.ite (h.setPeer.peersShow.safeFrame.ite h.setPeer.peersShow)
    · exact h
  · exact h.setPeer.peersShow.twinAct

theorem State.Stored.twinFrameReceive {_port : Fin 4} {bs : List Byte} (h : s.Stored) : (twinFrameReceive _port bs s).Stored := by
  unfold Machine.twinFrameReceive
  extract_lets
  split
  · exact h
  · split
    · exact h.ite h.frame.raise
    · split
      · exact h
      · split
        · exact h.twinBad
        · split
          · exact h.twinBad
          · exact h.ite (h.setPeer.ite (h.twinBad.ite h.twinAccept))

theorem State.Stored.twinCopyTimeout {sender : FAddr} (h : s.Stored) : (twinCopyTimeout sender s).Stored := by
  unfold Machine.twinCopyTimeout
  split
  · split
    · exact (h.addSat _ _ _ _).setPeer
    · exact h
  · exact h

theorem State.Stored.safewdog {sender : FAddr} {down : Bool} (h : s.Stored) : (safewdog sender down s).Stored := by
  unfold Machine.safewdog
  extract_lets
  split
  · exact h
  · exact h.ite h.frame.peersShow.raise.ownDemand

theorem State.Stored.peersRefresh (h : s.Stored) : s.peersRefresh.Stored := by
  unfold State.peersRefresh
  extract_lets
  split <;> exact h.frame.peersShow

theorem State.Stored.freshSeq {old : List Node} (h : s.Stored) : (State.freshSeq old s).Stored := h.frame

theorem State.Stored.safeAck_fst {r : Req} (h : s.Stored) : (s.safeAck r).1.Stored := by
  unfold State.safeAck
  extract_lets
  split
  · exact h.fail_fst
  · split
    · exact h.fail_fst
    · exact h.latch.permit.frame.fst

theorem State.Stored.safeStop_fst {r : Req} (h : s.Stored) : (s.safeStop r).1.Stored := by
  unfold State.safeStop
  extract_lets
  split
  · exact h.fail_fst
  · split
    · exact h.fail_fst
    · exact h.ownDemand

/-! ## The Armature and its tree (Machine/Armature.lean) -/

theorem State.Stored.putMe (h : s.Stored) : s.putMe.Stored := h.frame
theorem State.Stored.setNode {x : DWord} {f : Node → Node} (h : s.Stored) : (s.setNode x f).Stored := h.frame
theorem State.Stored.floodTopo {m : TopoMsg} (h : s.Stored) : (s.floodTopo m).Stored := h.sendAll
theorem State.Stored.cacheSync (h : s.Stored) : s.cacheSync.Stored := h.foldl fun _ _ ht => ht.ite ht.nvPut

theorem State.Stored.ownerCheck {atDisc : Bool} (h : s.Stored) : (s.ownerCheck atDisc).Stored :=
  (h.foldl fun _ _ ht => ht.setNode.raise.ite ht.setNode).setFld _ _ _ _

theorem State.Stored.alignAlarm {off : Int} (h : s.Stored) : (s.alignAlarm off).Stored := h.ite h.frame.raise

theorem State.Stored.treeShow (h : s.Stored) : s.treeShow.Stored := by
  unfold State.treeShow
  extract_lets
  split
  · exact (h.frame.wr _ _).alignAlarm.ite (h.frame.wr _ _)
  · exact h.frame.wr _ _

theorem State.Stored.takeKeeper {k : Node} {cut : Bool} (h : s.Stored) : (s.takeKeeper k cut).Stored :=
  ((h.frame.ite (h.frame.setBit _ _ _)).raise.ite (h.frame.ite (h.frame.setBit _ _ _))).ite h.frame

theorem State.Stored.chooseKeeper {atDisc : Bool} (h : s.Stored) : (s.chooseKeeper atDisc).Stored := by
  unfold State.chooseKeeper
  split
  · exact h.takeKeeper.frame.ite h.takeKeeper
  · exact h

theorem State.Stored.keepKeeper (h : s.Stored) : s.keepKeeper.Stored := by
  unfold State.keepKeeper
  dsimp only
  split
  · split
    · exact h.takeKeeper
    · exact h.frame
  · exact h.takeKeeper.ite h
  · exact h

theorem State.Stored.wireCheck (h : s.Stored) : s.wireCheck.Stored := h.frame

theorem State.Stored.fabShow {s0 : State} (h : s0.Stored) : s0.fabShow.Stored := by
  unfold State.fabShow
  extract_lets _ _ _ _ _ _ _ _ _ _ _ s4
  have hs4 : s4.Stored := (((((((h.wireCheck.setBit _ _ _).setBit _ _ _).setBit _ _ _).setBit _ _ _).wr _ _).wr _ _).wr _ _).wr _ _
  split
  · exact hs4.setFld _ _ _ _
  · exact hs4

theorem State.Stored.takeAddress (h : s.Stored) : s.takeAddress.Stored := by
  unfold State.takeAddress
  extract_lets
  split <;> exact h.frame

theorem State.Stored.topoChg {code : Nat} {a : FAddr} (h : s.Stored) : (s.topoChg code a).Stored := h.raise

theorem State.Stored.lossCheck (h : s.Stored) : s.lossCheck.Stored := by
  unfold State.lossCheck
  extract_lets
  exact h.foldl fun _ _ ht => by
    extract_lets _ u
    have hu : u.Stored := ht.setNode
    split
    · exact ht
    · split
      · exact ht.setNode
      · split
        · exact ht
        · split
          · exact hu.topoChg.ite hu
          · exact hu

theorem State.Stored.stageDrop (h : s.Stored) : s.stageDrop.Stored := by
  unfold State.stageDrop
  extract_lets
  split
  · split
    · exact h.ite (h.frame.complete.ite h.frame)
    · exact h
  · exact h

theorem State.Stored.slotShow (h : s.Stored) : s.slotShow.Stored := by
  unfold State.slotShow
  split <;> exact h.wr _ _

theorem State.Stored.sayAgain (h : s.Stored) : s.sayAgain.Stored := h.frame.sendAll.ite h

/-! ## Placement (Machine/Maquette.lean) -/

theorem State.Stored.plcShow (h : s.Stored) : s.plcShow.Stored := (((h.wr _ _).wr _ _).wr _ _).wr _ _

theorem State.Stored.startJob {k : JobKey} {str : BitVec 6} {cost : Nat} {seq : Word} {rerun : Bool} (h : s.Stored) :
    (s.startJob k str cost seq rerun).Stored := h.frame

theorem State.Stored.sendJob {a : FAddr} {kind : Byte} {head bytes : List Byte} (h : s.Stored) : (s.sendJob a kind head bytes).Stored :=
  h.foldl fun _ _ ht => ht.sendTo

theorem State.Stored.takeFit {f : FitJob} (h : s.Stored) : (s.takeFit f).Stored := (h.frame.foldl fun _ _ ht => ht.ite ht.sendJob).ite h.frame

theorem State.Stored.takeBody {k : JobKey} {b : Option JobBody} (h : s.Stored) : (s.takeBody k b).Stored := by
  unfold State.takeBody
  extract_lets
  split
  · exact h.frame
  · split
    · split
      · exact h.takeFit
      · exact h.frame
    · exact h

theorem State.Stored.restartJob {k : JobKey} {str : BitVec 6} {cost : Nat} {host : FAddr} (h : s.Stored) : (s.restartJob k str cost host).Stored :=
  (h.startJob.takeBody.addSat _ _ _ _).raise

theorem State.Stored.handOver {k : JobKey} {lost new : FAddr} (h : s.Stored) : (s.handOver k lost new).Stored := by
  unfold State.handOver
  dsimp only
  split
  · split
    · exact h.sendJob.sendJob
    · exact h.sendJob
  · exact h.sendJob

theorem State.Stored.jobsFollow {old : List Placed} (h : s.Stored) : (s.jobsFollow old).Stored := by
  unfold State.jobsFollow
  extract_lets
  exact h.frame.foldl fun _ _ ht => by
    extract_lets
    split
    · exact ht
    · split
      · exact ht.ite ht.startJob.takeBody
      · exact ht.ite ht.restartJob
      · split
        · exact ht.handOver.ite ht
        · exact ht
      · exact ht

theorem State.Stored.capacityCheck (h : s.Stored) : s.capacityCheck.Stored := h.frame.ite (h.frame.raise.ite (h.frame.raiseC.ite h.frame))
theorem State.Stored.fitsWatch (h : s.Stored) : s.fitsWatch.Stored := h.frame
theorem State.Stored.impFollow (h : s.Stored) : s.impFollow.Stored := h.impDrop.ite h
theorem State.Stored.maquette (h : s.Stored) : s.maquette.Stored := h.frame.jobsFollow.capacityCheck.fitsWatch.impFollow.plcShow
theorem State.Stored.settle (h : s.Stored) : s.settle.Stored := h.frame.floodTopo.maquette.ite h
theorem State.Stored.recShow (h : s.Stored) : s.recShow.Stored := h.wr _ _
theorem State.Stored.recStore {r : Rec} (h : s.Stored) : (s.recStore r).Stored := (h.frame.addSat _ _ _ _).recShow
theorem State.Stored.sendRec {a : FAddr} {r : Rec} (h : s.Stored) : (s.sendRec a r).Stored := h.sendJob
theorem State.Stored.recSpread {r : Rec} (h : s.Stored) : (s.recSpread r).Stored := h.foldl fun _ _ ht => ht.recStore.ite ht.sendRec
theorem State.Stored.jobWrote {key : JobKey} {seq : Word} (h : s.Stored) : (s.jobWrote key seq).Stored := h.frame
theorem State.Stored.replicaCheck (h : s.Stored) : s.replicaCheck.Stored := h.foldl fun _ _ ht => (ht.frame.raise.ite ht.frame).ite ht

theorem State.Stored.armatureChanged {s0 : State} (h : s0.Stored) : s0.armatureChanged.Stored := by
  unfold State.armatureChanged
  extract_lets _ _ t
  have ht : t.Stored := h.frame.lossCheck.freshSeq.stageDrop.ownerCheck.cacheSync.keepKeeper
  exact ht.treeShow.fabShow.slotShow.peersRefresh.maquette.replicaCheck.sayAgain

theorem State.Stored.portsChanged (h : s.Stored) : s.portsChanged.Stored := h.putMe.fabShow.ite h.putMe.floodTopo.armatureChanged

/-! ## Goals (Machine/Goals.lean) -/

theorem State.Stored.stringSave (h : s.Stored) : s.stringSave.Stored := h.nvPut
theorem State.Stored.goalSave (h : s.Stored) : s.goalSave.Stored := h.nvPut
theorem State.Stored.goalFlood (h : s.Stored) : s.goalFlood.Stored := h.sendAll

theorem State.Stored.goalOffer (h : s.Stored) : s.goalOffer.Stored := by
  unfold State.goalOffer
  extract_lets
  split
  · exact h.frame
  · split
    · exact h.frame.goalFlood
    · split
      · exact h.frame.ite h.frame.sendTo
      · exact h.frame

theorem State.Stored.planStop {i : Fin 32} {g : Goal} (h : s.Stored) : (s.planStop i g).Stored := (h.foldl fun _ _ ht => ht.sendItems).ite h

theorem State.Stored.goalsTake {goals : List (Option Goal)} {seq : Word} (h : s.Stored) : (s.goalsTake goals seq).Stored := by
  unfold State.goalsTake
  extract_lets t
  have ht : t.Stored := h.foldl fun _ _ ht => by
    split
    · exact ht.ite ht.planStop
    · exact ht.planStop
  exact (ht.frame.wr _ _).maquette

theorem State.Stored.goalsChange {goals : List (Option Goal)} (h : s.Stored) : (s.goalsChange goals).Stored := h.goalsTake.goalSave.goalFlood
theorem State.Stored.goalRej {slot : Nat} {g : Goal} {reason : Nat} (h : s.Stored) : (s.goalRej slot g reason).Stored := h.raise
theorem State.Stored.goalsDrop (h : s.Stored) : s.goalsDrop.Stored := h.ite (h.foldl fun _ _ ht => ht.goalRej).goalsChange

theorem State.Stored.goalsRenumber {num : Nat → Nat} {addr : FAddr → FAddr} (h : s.Stored) : (s.goalsRenumber num addr).Stored :=
  (h.foldl fun _ _ ht => ht.goalRej).goalsChange.ite h

theorem State.Stored.goalSetAt_fst {exec_ : FAddr} {r : Req} (h : s.Stored) : (s.goalSetAt exec_ r).1.Stored := by
  unfold State.goalSetAt
  extract_lets
  split
  · exact h.fail_fst
  · split
    · exact h.goalsChange.fst
    · exact h.goalRej.fst
    · exact h.fail_fst

theorem State.Stored.goalClearAt_fst {r : Req} (h : s.Stored) : (s.goalClearAt r).1.Stored := by
  unfold State.goalClearAt
  extract_lets
  split
  · exact h.fail_fst
  · split
    · split
      · exact h
      · exact h.goalsChange.fst
    · split
      · exact h
      · exact h.goalsChange.fst

theorem State.Stored.relayTo_fst {src : Src} {r : Req} {a target : FAddr} (h : s.Stored) : (s.relayTo src r a target).1.Stored := by
  unfold State.relayTo
  extract_lets
  split <;> exact h.sendTo.frame.fst

theorem State.Stored.toAnchor_fst {src : Src} {r : Req} {at_ : State → State × Reply} (h : s.Stored)
    (hf : ∀ {t : State}, t.Stored → (at_ t).1.Stored) : (s.toAnchor src r at_).1.Stored := by
  unfold State.toAnchor
  split
  · exact hf h
  · split
    · exact h
    · exact h.relayTo_fst

theorem State.Stored.goalSet {src : Src} (h : s.Stored) : (goalSet src s).Stored := h.serveCode fun ht => ht.toAnchor_fst fun hu => hu.goalSetAt_fst

theorem State.Stored.goalClear {src : Src} (h : s.Stored) : (goalClear src s).Stored :=
  h.serveCode fun ht => ht.toAnchor_fst fun hu => hu.goalClearAt_fst

theorem State.Stored.goalTableFrame {sender : FAddr} {seq : Word} {slots : List (Option Goal)} (h : s.Stored) :
    (goalTableFrame sender seq slots s).Stored := (h.goalsTake.frame.goalSave.goalFlood.ite h.goalsTake.frame.goalSave).ite h

/-! ## Links, discovery and fabric time (Machine/Fabric.lean) -/

theorem State.Stored.linkErr {p : Fin 4} {ty : Byte} (h : s.Stored) : (s.linkErr p ty).Stored := h.ite h.raiseSlow.setPort
theorem State.Stored.linkDrop {p : Fin 4} {u : Unacked} (h : s.Stored) : (s.linkDrop p u).Stored := (h.setPort.addSat _ _ _ _).linkErr

theorem State.Stored.linkLost {p : Fin 4} {lseq : Byte} (h : s.Stored) : (s.linkLost p lseq).Stored := by
  unfold State.linkLost
  split
  · exact h
  · split
    · exact h
    · exact h.setPort.linkDrop

theorem State.Stored.linkFail {p : Fin 4} {lseq : Byte} (h : s.Stored) : (s.linkFail p lseq).Stored := by
  unfold State.linkFail
  split
  · exact h
  · split
    · exact h
    · exact h.linkDrop.ite h.setPort.setPort

theorem State.Stored.linkAck {p : Fin 4} {lseq free : Byte} (h : s.Stored) : (s.linkAck p lseq free).Stored := by
  unfold State.linkAck
  split
  · exact h
  · split
    · exact h.setPort
    · exact (h.setPort.addSat _ _ _ _).transient.ite h.setPort

theorem State.Stored.linkControlReceived {p : Fin 4} {code a1 a2 : Byte} (h : s.Stored) : (linkControlReceived p code a1 a2 s).Stored := by
  unfold Machine.linkControlReceived
  split
  · split
    · exact h.linkAck
    · exact h.linkFail
    · exact h.setPort
    · exact h.setPort.ite h
    · exact h
  · exact h

theorem State.Stored.keepaliveSend {p : Fin 4} (h : s.Stored) : (keepaliveSend p s).Stored := h.control.ite h

theorem State.Stored.linkUp {p : Fin 4} (h : s.Stored) : (s.linkUp p).Stored := by
  unfold State.linkUp
  extract_lets t
  have ht : t.Stored := h.setPort.wireCheck
  split
  · exact h
  · exact ((ht.raise.ite ht.raise.raise).control.topoChg.ite (ht.raise.ite ht.raise.raise).control).frame.portsChanged

theorem State.Stored.linkTrainBlock {p : Fin 4} {block : List Byte} (h : s.Stored) : (linkTrainBlock p block s).Stored := by
  unfold Machine.linkTrainBlock
  extract_lets
  split
  · exact h
  · exact (h.setPort.linkUp.ite h.setPort).ite h

theorem State.Stored.unrouted {f : Frame} (h : s.Stored) : (s.unrouted f).Stored :=
  h.noRoute.ite ((h.noRoute.complete.ite (h.noRoute.frame.complete.ite h.noRoute)).ite h.noRoute.sendTo)

theorem State.Stored.reroute {fs : List Frame} (h : s.Stored) : (s.reroute fs).Stored := by
  unfold State.reroute
  exact h.foldl fun _ _ ht => by
    split
    · exact ht
    · split
      · exact ht.enqueue
      · exact ht.unrouted

theorem State.Stored.portDown {p : Fin 4} {cause : Nat} (h : s.Stored) : (s.portDown p cause).Stored := by
  unfold State.portDown
  extract_lets
  split
  · exact h
  · extract_lets _ t2
    have ht2 : t2.Stored := (h.setPort.addSat _ _ _ _).raise.putMe.reroute
    exact (ht2.topoChg.ite ht2).portsChanged.ite h

theorem State.Stored.linkDown {p cause : Fin 4} (h : s.Stored) : (linkDown p cause s).Stored := h.portDown.ite h
theorem State.Stored.linkRetrainDelay {p : Fin 4} (h : s.Stored) : (linkRetrainDelay p s).Stored := h.setPort
theorem State.Stored.remember {f : Frame} (h : s.Stored) : (s.remember f).Stored := h.frame

theorem State.Stored.transit {f : Frame} (h : s.Stored) : (s.transit f).Stored := by
  unfold State.transit
  extract_lets
  split
  · exact h.noRoute
  · split
    · exact h.enqueue
    · exact h.unrouted

theorem State.Stored.frameReceive {p : Fin 4} {bytes : List Byte} {aborted : Bool} (h : s.Stored) : (frameReceive p bytes aborted s).Stored := by
  unfold Machine.frameReceive
  extract_lets _ _ t
  have ht : t.Stored := h.control
  split
  · exact h
  · split
    · exact h.control
    · split
      · exact h.control
      · exact ht.ite ((ht.ite (ht.remember.noRoute.ite ht.remember.flood)).ite ((ht.ite ht.remember).ite ht.transit))

theorem State.Stored.floodCrc (h : s.Stored) : s.floodCrc.Stored := h.floodTopo

theorem State.Stored.discoverStart {by_ : Option Src} {flag : Bool} (h : s.Stored) : (s.discoverStart by_ flag).Stored :=
  (h.putMe.frame.setBit _ _ _).floodTopo.floodCrc

theorem State.Stored.discover {src : Src} (h : s.Stored) : (discover src s).Stored := by
  unfold Machine.discover
  exact h.serveCode fun ht => by
    split
    · exact ht.fail_fst
    · split
      · exact ht.fail_fst
      · exact ht.discoverStart.fst

theorem State.Stored.dupStrap {str : Nat} {ok : Bool} {strap : BitVec 6} (h : s.Stored) : (s.dupStrap str ok strap).Stored := h.raise.ite h
theorem State.Stored.dupStraps (h : s.Stored) : s.dupStraps.Stored := h.foldl fun _ _ ht => ht.dupStrap

theorem State.Stored.discdone (h : s.Stored) : (discdone s).Stored := by
  unfold Machine.discdone
  extract_lets _ _ _ _ _ t0 _ _ _ _ _ t4 t5 t6 _ _ t9 t10
  have ht0 : t0.Stored := h.putMe.frame
  have ht4 : t4.Stored := ((ht0.setBit _ _ _).stringSave.ite ht0).takeAddress.frame.chooseKeeper.treeShow.fabShow.raise
  have ht5 : t5.Stored := ht4.topoChg.ite ht4
  have ht6 : t6.Stored := ht5.topoChg.ite ht5
  have ht9 : t9.Stored := ht6.dupStraps.ownerCheck.cacheSync.peersRefresh.goalsDrop.maquette.replicaCheck.slotShow.sayAgain.goalOffer
  have ht10 : t10.Stored := ht9.floodTopo.ite ht9
  split
  · exact h
  · split
    · exact ht10.complete
    · exact ht10

theorem State.Stored.renumberHeld {new : FAddr → FAddr} (h : s.Stored) : (s.renumberHeld new).Stored := h.frame

theorem State.Stored.takeNumber {serial : DWord} {num : BitVec 6} {clear : Bool} (h : s.Stored) : (s.takeNumber serial num clear).Stored := by
  unfold State.takeNumber
  extract_lets _ _ _ _ _ _ _ t0 _ t2 _ t4
  have ht0 : t0.Stored := h.frame.renumberHeld
  have ht2 : t2.Stored := ((ht0.wr _ _).stringSave.ite ht0).freshSeq.takeAddress
  have ht4 : t4.Stored := (ht2.ite ht2.topoChg).cacheSync.chooseKeeper.treeShow.fabShow
  exact (ht4.foldl fun _ _ ht => ht.dupStrap).peersRefresh.goalsRenumber.maquette.replicaCheck

theorem State.Stored.stringAssign {src : Src} {outputOn : Bool} (h : s.Stored) : (stringAssign src outputOn s).Stored :=
  h.serveCode fun ht => by
    dsimp only
    split
    · exact ht
    · split
      · exact ht
      · split
        · exact ht
        · exact ht.floodTopo.takeNumber.fst

theorem State.Stored.takeTopo {n : TopoNode} {disc : Bool} (h : s.Stored) : (s.takeTopo n disc).Stored := by
  unfold State.takeTopo
  extract_lets _ _ _ _ t0 t
  have ht0 : t0.Stored := h.frame.freshSeq.armatureChanged
  have ht : t.Stored := ht0.dupStrap.ite ht0
  split
  · exact h
  · split
    · exact h.frame.discoverStart
    · exact h.frame.floodCrc.ite (h.frame.freshSeq.armatureChanged.ite ht.floodTopo.floodTopo.floodTopo)

theorem State.Stored.bootTopo {m : TopoMsg} (h : s.Stored) : (s.bootTopo m).Stored := by
  unfold State.bootTopo
  extract_lets
  split
  · exact h.ite h.frame.putMe.lossCheck.frame
  · exact h.frame
  · exact h
  · exact h
  · exact h

theorem State.Stored.takeAccept {a : FAddr} {serial : DWord} (h : s.Stored) : (s.takeAccept a serial).Stored := by
  unfold State.takeAccept
  extract_lets
  split
  · exact (h.setNode.cacheSync.setFld _ _ _ _).maquette.settle.ite h
  · exact h

theorem State.Stored.topoFrame {_p : Fin 4} {m : TopoMsg} (h : s.Stored) : (topoFrame _p m s).Stored := by
  unfold Machine.topoFrame
  extract_lets
  split
  · exact h.bootTopo
  · split
    · exact h
    · split
      · exact h.takeTopo
      · exact h.frame
      · exact h.takeNumber
      · exact h.takeAccept
      · exact h.ite h.frame.peersRefresh.maquette

theorem State.Stored.wakeFrame {target : FAddr} (h : s.Stored) : (wakeFrame target s).Stored := by
  unfold Machine.wakeFrame
  extract_lets
  split
  · split
    · exact h.frame.ite h
    · exact h
  · exact h

theorem State.Stored.wakeWrite {a : FAddr} (h : s.Stored) : ∀ t ∈ s.wakeWrite a, t.Stored := by
  intro t ht
  unfold State.wakeWrite at ht
  split at ht
  · split at ht
    · split at ht
      · split at ht
        · cases ht
          exact h.wakeFrame
        · cases ht
          split
          · exact h.sendTo
          · exact h.noRoute
      · cases ht
        exact h.noRoute
    · cases ht
  · cases ht

theorem State.Stored.sendTime {p : Fin 4} {kind : Byte} {stamp : Int} (h : s.Stored) : (s.sendTime p kind stamp).Stored := h.frame.enqueue
theorem State.Stored.timeSyncSend (h : s.Stored) : (timeSyncSend s).Stored := (h.foldl fun _ _ ht => ht.sendTime).ite h
theorem State.Stored.followFabric (h : s.Stored) : s.followFabric.Stored := (h.setFld _ _ _ _).ite h
theorem State.Stored.gainTime {fabric : DWord} (h : s.Stored) : (s.gainTime fabric).Stored := h.frame.setBit _ _ _

theorem State.Stored.judgeOffset {off : Int} (h : s.Stored) : (s.judgeOffset off).Stored := by
  unfold State.judgeOffset
  extract_lets _ _ _ _ _ _ _ u
  have hu : u.Stored := (h.frame.setBit _ _ _).ite h.frame
  exact hu.alignAlarm.ite (hu.frame.raiseC.ite hu)

theorem State.Stored.exchange {p : Fin 4} {t1 t2 t3 t4 : Int} (h : s.Stored) : (s.exchange p t1 t2 t3 t4).Stored := by
  unfold State.exchange
  extract_lets _ _ _ _ _ s1 _ _ s2
  have hs1 : s1.Stored := (h.followFabric.wr _ _).wr _ _
  have hs2 : s2.Stored := hs1.frame.draw_snd.wr _ _
  exact hs1.gainTime.ite ((hs2.frame.wr _ _).raise.ite hs2.judgeOffset)

theorem State.Stored.timeFrame {p : Fin 4} {m : TimeMsg} {stamp : Int} (h : s.Stored) : (timeFrame p m stamp s).Stored := by
  unfold Machine.timeFrame
  extract_lets
  split
  · exact h
  · split
    · exact h.sendTime.ite h
    · exact h.setPort.sendTime.ite h
    · split
      · split
        · exact h.setPort.exchange.ite h
        · exact h
      · exact h

theorem State.Stored.reffail (h : s.Stored) : (reffail s).Stored := (h.setFld _ _ _ _).raise.putMe.ite h

theorem State.Stored.reflock {gained : Bool} (h : s.Stored) : (reflock gained s).Stored :=
  ((h.setBit _ _ _).ite (((h.setBit _ _ _).setFld _ _ _ _).ite (h.setBit _ _ _)).raise).ite h

/-! ## Timers (Machine/Timers.lean) -/

theorem State.Stored.setUnit {u : Nat} {f : Timer → Timer} (h : s.Stored) : (s.setUnit u f).Stored := h.frame
theorem State.Stored.setChan {u c : Nat} {f : TimerChan → TimerChan} (h : s.Stored) : (s.setChan u c f).Stored := h.setUnit

theorem State.Stored.tmrShow {u : Nat} (h : s.Stored) : (s.tmrShow u).Stored := by
  unfold State.tmrShow
  extract_lets _ t1
  have ht1 : t1.Stored := ((h.setBit _ _ _).setBit _ _ _).setBit _ _ _
  exact (ht1.setBit _ _ _).ite ht1

theorem State.Stored.pinsFollow (h : s.Stored) : s.pinsFollow.Stored := h.frame.ite (h.ite h.frame)
theorem State.Stored.pinSync (h : s.Stored) : s.pinSync.Stored := h.frame
theorem State.Stored.gatesFollow (h : s.Stored) : s.gatesFollow.Stored := h.foldl fun _ _ ht => ht.ite ht.setUnit.tmrShow
theorem State.Stored.setLevel {u c : Nat} {b : Bool} (h : s.Stored) : (s.setLevel u c b).Stored := h.setChan.pinsFollow

theorem State.Stored.act {u c code : Nat} (h : s.Stored) : (s.act u c code).Stored := by
  unfold State.act
  split
  · exact h.setLevel
  · exact h.setLevel
  · exact h.setLevel
  · exact h.setLevel
  · exact h

theorem State.Stored.impWrap {u : Nat} (h : s.Stored) : (s.impWrap u).Stored := h.frame.balRefresh.ite h
theorem State.Stored.impMatch {u c : Nat} (h : s.Stored) : (s.impMatch u c).Stored := h.frame.balRefresh.ite h
theorem State.Stored.injEvent {u c : Nat} (h : s.Stored) : (s.injEvent u c).Stored := h.inject_fst.ite h
theorem State.Stored.ringEvent {u c : Nat} {capture : Bool} {v : Word} (h : s.Stored) : (s.ringEvent u c capture v).Stored := h.frame.raise.ite h
theorem State.Stored.preload {u : Nat} (h : s.Stored) : (s.preload u).Stored := (h.wr _ _).setUnit
theorem State.Stored.loadNow {u : Nat} (h : s.Stored) : (s.loadNow u).Stored := (h.wr _ _).setUnit

theorem State.Stored.matches_fst {u : Nat} (h : s.Stored) : (s.matches_ u).1.Stored := by
  unfold State.matches_
  exact h.foldl_fst fun _ _ ht => by
    extract_lets
    split
    · exact ht.act.ringEvent.injEvent.seqEvent.impMatch.fst
    · exact ht

theorem State.Stored.wrapActs {u : Nat} (h : s.Stored) : (s.wrapActs u).Stored := h.foldl fun _ _ ht => ht.act.ite ht

theorem State.Stored.wrap_fst {u : Nat} {early : Bool} (h : s.Stored) : (s.wrap u early).1.Stored :=
  (((h.wr _ _).preload.wrapActs.setBit _ _ _).raise.ite (h.wr _ _).preload.wrapActs).impWrap.matches_fst.fst

theorem State.Stored.tickOne_fst {u : Nat} (h : s.Stored) : (s.tickOne u).1.Stored := by
  unfold State.tickOne
  extract_lets t
  have ht : t.Stored := h.ite h.loadNow
  split
  · exact (ht.setUnit.wr _ _).matches_fst
  · split
    · exact ht.wrap_fst
    · exact (ht.wr _ _).matches_fst

theorem State.Stored.loadPsc {u : Nat} (h : s.Stored) : (s.loadPsc u).Stored := h.setUnit

theorem State.Stored.tickHalf_fst {u : Nat} (h : s.Stored) : (s.tickHalf u).1.Stored := by
  unfold State.tickHalf
  extract_lets t
  have ht : t.Stored := h.loadNow
  split
  · exact (ht.wr _ _).loadPsc.wrapActs.impWrap.matches_fst
  · exact (ht.wr _ _).matches_fst

theorem State.Stored.counterTick_fst {u : Nat} (h : s.Stored) : (s.counterTick u).1.Stored := by
  unfold State.counterTick
  extract_lets _ a
  have ha : a.1.Stored := h.tickHalf_fst
  split
  · exact h
  · split
    · split
      · exact ha.tickHalf_fst
      · exact ha
    · exact h.tickOne_fst

theorem State.Stored.prescale_fst {u : Nat} (h : s.Stored) : (s.prescale u).1.Stored := by
  unfold State.prescale
  extract_lets
  split
  · exact h.setUnit.counterTick_fst
  · exact h.setUnit.fst

theorem State.Stored.resetOne_fst {u : Nat} (h : s.Stored) : (s.resetOne u).1.Stored := (h.wr _ _).preload.setUnit.matches_fst

theorem State.Stored.resetUnit_fst {u : Nat} (h : s.Stored) : (s.resetUnit u).1.Stored := by
  unfold State.resetUnit
  extract_lets _ a
  have ha : a.1.Stored := ((h.setUnit.setFld _ _ _ _).tmrShow.ite h).resetOne_fst
  split
  · exact ha.resetOne_fst
  · exact ha

theorem State.Stored.unitTick_fst {evs : List TimerEvent} {free : Bool} {u : Nat} (h : s.Stored) : (s.unitTick evs free u).1.Stored := by
  unfold State.unitTick
  extract_lets
  split
  · exact h
  · split
    · exact h.resetUnit_fst
    · split
      · exact h.prescale_fst
      · exact h

theorem State.Stored.keepEvents {x : Ticked} (h : x.1.Stored) : (keepEvents x).Stored := h.foldl fun _ _ ht => ht.setUnit

theorem State.Stored.unitsAct_fst {free : Bool} (h : s.Stored) : (s.unitsAct free).1.Stored := by
  unfold State.unitsAct
  exact .foldl_pair (.gatesFollow (h.foldl fun _ _ ht => ht.setUnit)) fun _ _ ht => ht.unitTick_fst

theorem State.Stored.settleEvents (h : s.Stored) : s.settleEvents.Stored := h.unitsAct_fst.keepEvents
theorem State.Stored.trackEvent {u c : Nat} {v : Word} (h : s.Stored) : (s.trackEvent u c v).Stored := h.trackCapture.ite h

theorem State.Stored.capture_fst {u c : Nat} (h : s.Stored) : (s.capture u c).1.Stored := by
  unfold State.capture
  extract_lets _ _ _ _ _ _ _ t t1
  have ht : t.Stored := h.setChan.wr _ _
  have ht1 : t1.Stored := (ht.setBit _ _ _).raise.ite ht
  exact (ht1.ite (ht1.setBit _ _ _).trackEvent).ringEvent.injEvent.seqEvent.fst

theorem State.Stored.acceptEdge_fst {u c : Nat} {level : Bool} (h : s.Stored) : (s.acceptEdge u c level).1.Stored := by
  unfold State.acceptEdge
  extract_lets t
  have ht : t.Stored := h.setChan
  split
  · split
    · exact ht.setChan.fst
    · exact ht.capture_fst
  · exact ht

theorem State.Stored.samplePin_fst {u c : Nat} (h : s.Stored) : (s.samplePin u c).1.Stored := by
  unfold State.samplePin
  extract_lets
  split
  · exact h
  · split
    · exact (h.ite h.setChan).fst
    · split
      · exact h.setChan.fst
      · exact h.acceptEdge_fst

theorem State.Stored.tmrTick (h : s.Stored) : s.tmrTick.Stored :=
  h.ite (.keepEvents (.foldl_fst h.pinSync.unitsAct_fst fun _ _ ht => ht.samplePin_fst))

theorem State.Stored.runUp {u : Nat} (h : s.Stored) : (s.runUp u).Stored := by
  unfold State.runUp
  extract_lets t
  have ht : t.Stored := h.setUnit
  split
  · exact ht
  · split
    · exact ht.wr _ _
    · exact ht

theorem State.Stored.runTo_fst {goal : TimerEvent} {u n : Nat} {x y : Ticked} (h : x.1.Stored)
    (hy : State.runTo goal u n x = some y) : y.1.Stored := by
  induction n generalizing x with
  | zero => cases hy
  | succ n ih =>
    have hr : ((x.1.runUp u).counterTick u).1.Stored := h.runUp.counterTick_fst
    unfold State.runTo at hy
    dsimp only at hy
    split at hy
    · cases hy
      exact hr
    · refine ih ?_ hy
      exact hr

theorem State.Stored.runToEvent {goal : TimerEvent} {high : Word} (h : s.Stored) : (s.runToEvent goal high).Stored := by
  unfold State.runToEvent
  dsimp only
  split
  · exact h
  · split
    · exact ((h.settleEvents.loadNow.wr _ _).wr _ _).setUnit.counterTick_fst.keepEvents
    · split
      next r hr => exact (runTo_fst h.settleEvents.fst hr).keepEvents
      next => exact h

theorem State.Stored.timerWrap {u : Fin 8} (h : s.Stored) : (timerWrap u s).Stored := h.runToEvent
theorem State.Stored.timerMatch {u : Fin 8} {c : Fin 4} (h : s.Stored) : (timerMatch u c s).Stored := h.runToEvent.ite h

theorem State.Stored.timerCapture {u : Fin 8} {c : Fin 4} (h : s.Stored) : (timerCapture u c s).Stored :=
  h.ite (h.settleEvents.ite h.settleEvents.frame).acceptEdge_fst.keepEvents

theorem State.Stored.timerGatePinChange {pin : Fin 8} {level : Bool} (h : s.Stored) : (timerGatePinChange pin level s).Stored :=
  h.settleEvents.frame.ite h

theorem State.Stored.tmrStart {u : Nat} (h : s.Stored) : (s.tmrStart u).Stored := (h.setUnit.setFld _ _ _ _).tmrShow
theorem State.Stored.tmrStop {u : Nat} (h : s.Stored) : (s.tmrStop u).Stored := (h.setUnit.setFld _ _ _ _).tmrShow
theorem State.Stored.atStart (h : s.Stored) : s.atStart.Stored := (h.wr _ _).foldl fun _ _ ht => ht.tmrStart
theorem State.Stored.timerAtStart (h : s.Stored) : (timerAtStart s).Stored := h.advanceTo.atStart.ite h
theorem State.Stored.atTick (h : s.Stored) : s.atTick.Stored := h.atStart.ite h
theorem State.Stored.modeFollow {u : Nat} (h : s.Stored) : (s.modeFollow u).Stored := h.setUnit.tmrShow
theorem State.Stored.chanMode {u c old : Nat} (h : s.Stored) : (s.chanMode u c old).Stored := h.ite (h.setChan.setLevel.ite (h.setChan.ite h))

theorem State.Stored.catchUp {e u : Nat} (h : s.Stored) : (s.catchUp e u).Stored := by
  unfold State.catchUp
  extract_lets _ _ _ s0 pair _ _ one s1
  have hone {t : State} {v from_ adv len : Nat} (ht : t.Stored) : (one t v from_ adv len).Stored := by
    unfold one
    extract_lets _ _ t1 t2 t3
    have ht1 : t1.Stored := ht.wr _ _
    have ht2 : t2.Stored := ((ht1.loadNow.loadPsc.ite ht1.preload).wrapActs.setBit _ _ _).ite ht1
    have ht3 : t3.Stored := ht2.foldl fun _ _ hu => (hu.act.setBit _ _ _).ringEvent
    exact ht3.raise.ite ht3
  have hs1 : s1.Stored := hone h.setUnit
  exact (hone hs1).ite hs1

theorem State.Stored.timerCatchUp {n : Nat} (h : s.Stored) : (s.timerCatchUp n).Stored :=
  (((h.wr _ _).wr _ _).ite (h.wr _ _)).foldl fun _ _ ht => ht.catchUp

/-! ## Impedance (Machine/Impedance.lean) -/

theorem State.Stored.impShow {st : Nat} (h : s.Stored) : (s.impShow st).Stored := (h.setFld _ _ _ _).setFld _ _ _ _

theorem State.Stored.impAnnounced {t0 : DWord} {fit : FAddr} {plan : List Word} (h : s.Stored) : (s.impAnnounced t0 fit plan).Stored :=
  (((h.impDrop.frame.tmrStop.setBit _ _ _).tmrStop.setBit _ _ _).ite h.impDrop.frame).impShow

theorem State.Stored.impAnnounceReceived {t0 : DWord} {fit : FAddr} {plan : List Word} (h : s.Stored) : (impAnnounceReceived t0 fit plan s).Stored :=
  h.impAnnounced.ite h

theorem State.Stored.fitTempsOff {f : FitJob} (h : s.Stored) : (s.fitTempsOff f).Stored := h.frame.foldl fun _ _ ht => ht.raiseC
theorem State.Stored.tempsOff (h : s.Stored) : s.tempsOff.Stored := h.foldl fun _ _ ht => ht.fitTempsOff

theorem State.Stored.impMeasurementStart {slot : Fin 32} {plan : List Word} (h : s.Stored) : (impMeasurementStart slot plan s).Stored := by
  unfold Machine.impMeasurementStart
  dsimp only
  split
  · exact h
  · split
    · split
      · split
        · split
          · split
            · exact ((h.fitTempsOff.ite h).frame.fitsWatch.foldl fun _ _ ht => ht.ite ht.sendJob).impAnnounced
            · exact (h.frame.fitsWatch.foldl fun _ _ ht => ht.ite ht.sendJob).impAnnounced
          · split
            · exact ((h.fitTempsOff.ite h).frame.fitsWatch.foldl fun _ _ ht => ht.ite ht.sendJob).impAnnounced
            · exact (h.frame.fitsWatch.foldl fun _ _ ht => ht.ite ht.sendJob).impAnnounced
        · split
          · split
            · exact (h.fitTempsOff.ite h).frame.fitsWatch.foldl fun _ _ ht => ht.ite ht.sendJob
            · exact h.frame.fitsWatch.foldl fun _ _ ht => ht.ite ht.sendJob
          · split
            · exact (h.fitTempsOff.ite h).frame.fitsWatch.foldl fun _ _ ht => ht.ite ht.sendJob
            · exact h.frame.fitsWatch.foldl fun _ _ ht => ht.ite ht.sendJob
      · exact h
    · split
      · split
        · split
          · split
            · exact ((h.fitTempsOff.ite h).frame.fitsWatch.foldl fun _ _ ht => ht.ite ht.sendJob).impAnnounced
            · exact (h.frame.fitsWatch.foldl fun _ _ ht => ht.ite ht.sendJob).impAnnounced
          · split
            · exact ((h.fitTempsOff.ite h).frame.fitsWatch.foldl fun _ _ ht => ht.ite ht.sendJob).impAnnounced
            · exact (h.frame.fitsWatch.foldl fun _ _ ht => ht.ite ht.sendJob).impAnnounced
        · split
          · split
            · exact (h.fitTempsOff.ite h).frame.fitsWatch.foldl fun _ _ ht => ht.ite ht.sendJob
            · exact h.frame.fitsWatch.foldl fun _ _ ht => ht.ite ht.sendJob
          · split
            · exact (h.fitTempsOff.ite h).frame.fitsWatch.foldl fun _ _ ht => ht.ite ht.sendJob
            · exact h.frame.fitsWatch.foldl fun _ _ ht => ht.ite ht.sendJob
      · exact h

theorem State.Stored.impTimer {u n : Nat} (h : s.Stored) : (s.impTimer u n).Stored :=
  ((((((h.wr _ _).wr _ _).wr _ _).wr _ _).wr _ _).setFld _ _ _ _).preload.setUnit.tmrStart

theorem State.Stored.driveOff (h : s.Stored) : s.driveOff.Stored := h.frame.balRefresh

theorem State.Stored.impPassStart (h : s.Stored) : (impPassStart s).Stored := by
  unfold Machine.impPassStart
  extract_lets
  split
  · exact h
  · extract_lets _ _ _ s2 s2'
    have hs2 : s2.Stored := h.frame.frame
    have hs2' : s2'.Stored := h.frame.frame
    exact h.ite ((hs2.impTimer.impShow.balRefresh.ite h).ite (hs2'.impTimer.impShow.balRefresh.ite h.frame.impShow))

theorem State.Stored.passEnd (h : s.Stored) : s.passEnd.Stored := h.driveOff.frame.impShow.ite h.driveOff.frame.impShow

theorem State.Stored.frameOut {p : SegIn} (h : s.Stored) : (s.frameOut p).Stored := by
  unfold State.frameOut
  extract_lets
  split
  · exact h
  · exact h.frame.ite h.sendJob

theorem State.Stored.frameKeep {p : SegIn} (h : s.Stored) : (s.frameKeep p).Stored := h.frame.frameOut

theorem State.Stored.chopPassBudgetTimeout (h : s.Stored) : (chopPassBudgetTimeout s).Stored := by
  unfold Machine.chopPassBudgetTimeout
  extract_lets
  split
  · split
    · exact h.frame.frameKeep.passEnd
    · exact h.frame.passEnd
  · exact h

theorem State.Stored.betweenSegments (h : s.Stored) : s.betweenSegments.Stored := h.frame.balAssignmentApply.frame

theorem State.Stored.impSegmentEnd {entry : Fin 16} (h : s.Stored) : (impSegmentEnd entry s).Stored := by
  unfold Machine.impSegmentEnd
  extract_lets
  split
  · exact h
  · extract_lets _ s1
    have hs1 : s1.Stored := h.frame.frameKeep
    exact h.ite (h.frame.betweenSegments.ite (h.ite (hs1.passEnd.betweenSegments.ite hs1.betweenSegments)))

theorem State.Stored.fitSet {slot : Fin 32} {g : FitJob → FitJob} (h : s.Stored) : (s.fitSet slot g).Stored := h.frame

theorem State.Stored.impPhasorReceived {p : SegIn} (h : s.Stored) : (impPhasorReceived p s).Stored := by
  unfold Machine.impPhasorReceived
  split
  · exact h.fitSet.ite h
  · exact h

theorem State.Stored.impPhasorTimeout {node : FAddr} (h : s.Stored) : (impPhasorTimeout node s).Stored := by
  unfold Machine.impPhasorTimeout
  split
  · exact h.fitSet.ite h
  · exact h

theorem State.Stored.impResend {t0 : DWord} {host : FAddr} (h : s.Stored) : (s.impResend t0 host).Stored :=
  (h.frame.foldl fun _ _ ht => ht.frameOut).ite h

theorem State.Stored.tempJudge {slot : Fin 32} {a : FAddr} {k : Nat} {lim : Int} {t : Option Int} (h : s.Stored) :
    (s.tempJudge slot a k lim t).Stored := h.fitSet.raiseC.ite h.fitSet

theorem State.Stored.impEnd (h : s.Stored) : s.impEnd.Stored := ((h.impDrop.addSat _ _ _ _).wr _ _).wr _ _
theorem State.Stored.impRelease {t0 : DWord} (h : s.Stored) : (s.impRelease t0).Stored := h.impEnd.ite h

theorem State.Stored.impFitDone (h : s.Stored) : (impFitDone s).Stored := by
  unfold Machine.impFitDone
  split
  · exact h
  · extract_lets _ _ _ _ _ _ _ _ s2 _ s3
    have hs2 : s2.Stored := (h.foldl fun _ _ ht => ht.recSpread).foldl fun _ _ ht => ht.ite ht.raise
    have hs3 : s3.Stored := hs2.ite (hs2.foldl fun _ _ ht => ht.foldl fun _ _ hu => hu.tempJudge)
    exact h.ite (hs3.raise.foldl fun _ _ ht => ht.ite ht.sendJob).fitSet.jobWrote.impRelease

/-! ## Temperatures (Machine/Thermal.lean) -/

theorem State.Stored.paceCheck {mhz : Nat} (h : s.Stored) : (s.paceCheck mhz).Stored :=
  (h.wr _ _).frame.raise.ownDemand.enterGuard.ite ((h.wr _ _).frame.transient.ite (h.wr _ _).frame)

theorem State.Stored.railCheck {i v : Nat} (h : s.Stored) : (s.railCheck i v).Stored := h.frame.channelFault.ite (h.frame.transient.ite h.frame)
theorem State.Stored.refCheck {v : Nat} (h : s.Stored) : (s.refCheck v).Stored := h.frame.channelFault.ite (h.frame.transient.ite h.frame)

theorem State.Stored.stackCheck {code : Nat} (h : s.Stored) : (s.stackCheck code).Stored := by
  unfold State.stackCheck
  extract_lets _ _ _ _ s1
  have hs1 : s1.Stored := (h.wr _ _).frame
  split
  · exact hs1.raiseC.balRefresh
  · exact hs1

theorem State.Stored.vminCheck (h : s.Stored) : s.vminCheck.Stored := h.frame.balRefresh

theorem State.Stored.exclude {n : Nat} {out : Bool} (h : s.Stored) : (s.exclude n out).Stored :=
  (h.setBit _ _ _).frame.raise.channelFault.ite (h.setBit _ _ _).frame.raise

theorem State.Stored.dieJudge {die : List Int} (h : s.Stored) : (s.dieJudge die).Stored :=
  h.foldl fun _ _ ht => ht.frame.exclude.ite (ht.frame.ite (ht.frame.transient.ite ht))

theorem State.Stored.thermShow (h : s.Stored) : s.thermShow.Stored := ((h.setBit _ _ _).setBit _ _ _).setBit _ _ _

theorem State.Stored.warnCheck {max : Int} {hot : Nat} (h : s.Stored) : (s.warnCheck max hot).Stored := by
  unfold State.warnCheck
  extract_lets
  split
  · exact h.frame
  · exact h.frame.raiseC.askRun.ite h.frame.raiseC

theorem State.Stored.rateCheck {max : Int} (h : s.Stored) : (s.rateCheck max).Stored := by
  unfold State.rateCheck
  extract_lets _ _ _ _ _ _ s1
  have hs1 : s1.Stored := h.frame.setFld _ _ _ _
  split
  · exact h.frame.setFld _ _ _ _
  · split
    · exact hs1.raiseC
    · exact hs1

theorem State.Stored.stopSet {max : Int} {hot : Nat} (h : s.Stored) : (s.stopSet max hot).Stored :=
  h.raise.balRefresh.ite (h.raise.balRefresh.ite h.raise.frame.impStop.ownDemand.settle)

theorem State.Stored.stopClear {max : Int} {hot : Nat} (h : s.Stored) : (s.stopClear max hot).Stored := h.raiseC.balRefresh
theorem State.Stored.stopReturn (h : s.Stored) : s.stopReturn.Stored := h.toRun.activeStart.frame.balRefresh.settle.ite h

theorem State.Stored.stopCheck {max : Int} {hot : Nat} (h : s.Stored) : (s.stopCheck max hot).Stored := by
  unfold State.stopCheck
  extract_lets
  split
  · exact h.frame.stopSet.stopReturn
  · exact h.frame.stopClear.stopReturn
  · exact h.frame.stopReturn

theorem State.Stored.setFast {fast : Bool} (h : s.Stored) : (s.setFast fast).Stored := (h.setBit _ _ _).wr _ _

theorem State.Stored.refreshCheck {max : Int} (h : s.Stored) : (s.refreshCheck max).Stored :=
  (h.frame.setFast.raise.ite h).ite ((h.frame.setFast.raise.ite h.frame).ite h.frame)

theorem State.Stored.thermRound {die : List Int} (h : s.Stored) : (s.thermRound die).Stored := by
  unfold State.thermRound
  extract_lets _ _ s2
  have hs2 : s2.Stored := (((h.wr _ _).wr _ _).wr _ _).dieJudge.setBit _ _ _
  split
  · exact hs2
  · exact (((hs2.wr _ _).setFld _ _ _ _).ite (hs2.wr _ _)).warnCheck.rateCheck.stopCheck.refreshCheck.thermShow

theorem State.Stored.roundResult {k : Conversion} {code : BitVec 16} {v : Int} (h : s.Stored) : (s.roundResult k code v).Stored :=
  h.frame.clipSample.ite h.frame.clipSample.frame.filterSample

theorem State.Stored.monitors {pace stack : Nat} {die : List Int} {refchk : Nat} {rails : List Nat} (h : s.Stored) :
    (s.monitors pace stack die refchk rails).Stored := by
  unfold State.monitors
  extract_lets s1
  have hs1 : s1.Stored := h.paceCheck.foldl fun _ _ ht => ht.railCheck
  exact hs1.refCheck.stackCheck.thermRound.vminCheck.budgetRound.probeRound.settle

theorem State.Stored.housekeepingRound {r : RoundIn} (h : s.Stored) : (housekeepingRound r s).Stored :=
  h.ite (h.frame.foldl fun _ _ ht => ht.roundResult).monitors

theorem State.Stored.guardEntryAfterStop (h : s.Stored) : (guardEntryAfterStop s).Stored := h.enterGuard.frame.settle.ite h

/-! ## The self-test (Machine/Chisel.lean) -/

theorem State.Stored.setSlice {i : Nat} {f : Slice → Slice} (h : s.Stored) : (s.setSlice i f).Stored := h.frame
theorem State.Stored.sliceBit {id i : Nat} {b : Bool} (h : s.Stored) : (s.sliceBit id i b).Stored := h.setBit _ _ _
theorem State.Stored.chisShow {last : Nat} (h : s.Stored) : (s.chisShow last).Stored := h.wr _ _
theorem State.Stored.sliceHold {i : Nat} (h : s.Stored) : (s.sliceHold i).Stored := (h.frame.setFld _ _ _ _).balRefresh
theorem State.Stored.sliceFree {i : Nat} (h : s.Stored) : (s.sliceFree i).Stored := ((h.frame.setFld _ _ _ _).ite h.frame).balRefresh
theorem State.Stored.sliceNext {i : Nat} (h : s.Stored) : (s.sliceNext i).Stored := h.frame.chisShow.ite (h.frame.addWord _ _).chisShow
theorem State.Stored.roundBegin (h : s.Stored) : s.roundBegin.Stored := h.frame

theorem State.Stored.chiselSliceStart (h : s.Stored) : (chiselSliceStart s).Stored :=
  h.ite ((h.roundBegin.ite h).sliceNext.ite (h.roundBegin.ite h).frame.chisShow.sliceHold)

theorem State.Stored.chiselFail {i result : Nat} {repaired : Bool} {reaction : Nat} (h : s.Stored) :
    (s.chiselFail i result repaired reaction).Stored := h.raise

theorem State.Stored.guardNoSpare (h : s.Stored) : s.guardNoSpare.Stored := h.leadsOff.enterGuard
theorem State.Stored.memFault {ed : Bool} {bank : Nat} (h : s.Stored) : (s.memFault ed bank).Stored := h.guardNoSpare.ite h.frame
theorem State.Stored.openWire {k : Nat} (h : s.Stored) : (s.openWire k).Stored := h.ite (h.setBit _ _ _).frame.raise.balRefresh

theorem State.Stored.lineClean {k : Nat} {pattern : Bool} (h : s.Stored) : (s.lineClean k pattern).Stored :=
  h.ite (h.frame.ite (h.frame.ite (h.frame.setBit _ _ _).raiseC.balRefresh))

theorem State.Stored.shortEvents {r : SliceIn} {both : List Nat} (h : s.Stored) : (s.shortEvents r both).Stored := h.foldl fun _ _ ht => ht.raise

theorem State.Stored.ownReaction {i : Nat} {both : List Nat} (h : s.Stored) : (s.ownReaction i both).Stored := by
  unfold State.ownReaction
  split
  · exact h.foldl fun _ _ ht => ht.openWire
  · exact (h.foldl fun _ _ ht => ht.ite ht.swFault).ite ((h.foldl fun _ _ ht => ht.ite ht.shtFault).ite h)

theorem State.Stored.reaction {i result : Nat} {r : SliceIn} {both : List Nat} (h : s.Stored) : (s.reaction i result r both).Stored := by
  unfold State.reaction
  have hc {j : Nat} {open_ : Bool} {p : Nat} : (s.chiselFail j result open_ p).Stored := h.chiselFail
  split
  · exact hc.raise.frame.ownDemand
  · exact (h.frame.ite hc.channelFault).ite ((((h.frame.chiselFail.setBit _ _ _).setBit _ _ _).setSlice).ite
      (h.shortEvents.chiselFail.channelFault.ite (hc.channelFault.ite (hc.ite (hc.portDown.setPort.setSlice.ite
        ((hc.guardNoSpare.ite hc).ite ((hc.guardNoSpare.ite hc.memFault).ite hc.guardNoSpare)))))))

theorem State.Stored.marchOn {i : Nat} (h : s.Stored) : (s.marchOn i).Stored :=
  h.ite ((h.setFld _ _ _ _).ite ((h.setFld _ _ _ _).ite ((h.setFld _ _ _ _).ite h)))

theorem State.Stored.testResume (h : s.Stored) : s.testResume.Stored := (h.frame.outShow.ite (h.frame.outShow.ite h.frame)).ite h.frame

theorem State.Stored.lastingFail {i result : Nat} {r : SliceIn} {both : List Nat} (h : s.Stored) : (s.lastingFail i result r both).Stored :=
  h.sliceBit.ownReaction.ite h.sliceBit.ownReaction.setSlice.reaction

theorem State.Stored.sliceDone {i : Nat} (h : s.Stored) : (s.sliceDone i).Stored := h.sliceFree.marchOn.frame.sliceNext.testResume

theorem State.Stored.lineRound {i res : Nat} {finds : List Nat} (h : s.Stored) : (s.lineRound i res finds).Stored :=
  (h.foldl fun _ _ ht => ht.lineClean).ite h

theorem State.Stored.attemptEnd {r : SliceIn} (h : s.Stored) : (s.attemptEnd r).Stored := by
  unfold State.attemptEnd
  extract_lets _ _ _ _ s2 _ s3 s3' s4
  have hs2 : s2.Stored := h.setSlice.lineRound.sliceBit
  have hs3 : s3.Stored := hs2.raise
  have hs3' : s3'.Stored := hs2.sliceBit
  have hs4 : s4.Stored := hs3'.setSlice
  split
  · exact (hs3.lastingFail.ite hs3).sliceDone
  · exact (hs4.transient.ite hs4).sliceDone.ite (hs3'.lastingFail.sliceDone.ite hs3'.frame)

theorem State.Stored.chiselSliceEnd {r : SliceIn} (h : s.Stored) : (chiselSliceEnd r s).Stored := h.attemptEnd.ite h

theorem State.Stored.attemptPass {i : Nat} (h : s.Stored) : (s.attemptPass i).Stored :=
  (h.setSlice.sliceBit.transient.ite h.setSlice.sliceBit).sliceDone

theorem State.Stored.fullRound {l : List (Fin 48 × List SliceIn)} (h : s.Stored) : (s.fullRound l).Stored := by
  unfold State.fullRound
  extract_lets one
  have hone {t : State} {i : Nat} (ht : t.Stored) : (one t i).Stored := by
    unfold one
    extract_lets _ _ _ v
    have hv : v.Stored := ht.frame.foldl fun _ _ hu => hu.attemptEnd.ite hu
    exact hv.attemptPass.ite hv
  exact h.frame.foldl fun _ _ ht => hone ht

theorem State.Stored.laneRepair (h : s.Stored) : (laneRepair s).Stored := by
  unfold Machine.laneRepair
  extract_lets
  split
  · exact h
  · exact (((h.frame.setFld _ _ _ _).setBit _ _ _).setBit _ _ _).rearm.setSlice.raise.chiselFail

theorem State.Stored.memoryRepairDone (h : s.Stored) : (memoryRepairDone s).Stored := by
  unfold Machine.memoryRepairDone
  extract_lets
  split
  · exact h
  · exact (h.frame.wr _ _).raise

theorem State.Stored.chiselStatus {src : Src} (h : s.Stored) : (chiselStatus src s).Stored := by
  unfold Machine.chiselStatus
  exact h.serveCode fun ht => by
    split
    · exact ht.fail_fst
    · exact ht

/-! ## Sweeps and snapshots (Machine/Collector.lean) -/

theorem State.Stored.sweepShow {st : Nat} (h : s.Stored) : (s.sweepShow st).Stored := (h.wr _ _).wr _ _
theorem State.Stored.sweepEnd (h : s.Stored) : s.sweepEnd.Stored := h.frame.sweepShow.slotShow

theorem State.Stored.announced {p : SweepPlan} {stop : Bool} (h : s.Stored) : (s.announced p stop).Stored := by
  unfold State.announced
  extract_lets
  split
  · split
    · exact (h.sweepEnd.ite h.frame).ite h
    · exact h
  · split
    · exact h
    · exact h.askRun.slotShow.ite (h.frame.askRun.gridCheck.sweepShow.slotShow.ite h)

theorem State.Stored.sweepAnnounce {bytes : List Byte} (h : s.Stored) : (sweepAnnounce bytes s).Stored := h.announced.ite h
theorem State.Stored.sweepAnnounceRepeat (h : s.Stored) : (sweepAnnounceRepeat s).Stored := h.frame.sendAll.ite h
theorem State.Stored.announce {bs : List Byte} (h : s.Stored) : (s.announce bs).Stored := h.frame.sendAll

theorem State.Stored.sweepStart {src : Src} (h : s.Stored) : (sweepStart src s).Stored := by
  unfold Machine.sweepStart
  exact h.serve fun ht => by
    extract_lets
    split
    · exact ht.fail_fst
    · split
      · exact ht.fail_fst
      · exact (ht.frame.announce.announced.wr _ _).sweepShow.fst

theorem State.Stored.sweepStop {src : Src} (h : s.Stored) : (sweepStop src s).Stored := by
  unfold Machine.sweepStop
  exact h.serve fun ht => by
    extract_lets
    split
    · exact ht.fail_fst
    · split
      · exact ht.fail_fst
      · exact (ht.frame.announce.announced.wr _ _).sweepShow.fst

theorem State.Stored.destWrite {bs : List Byte} (h : s.Stored) : (s.destWrite bs).Stored := by
  unfold State.destWrite
  extract_lets _ _ _ s1 s1'
  have hs1 : s1.Stored := ((h.setBit _ _ _).wr _ _).tailMoved
  have hs1' : s1'.Stored := h.streamLose.setBit _ _ _
  split
  · exact h
  · split
    · exact (h.setBit _ _ _).streamPut.watermark
    · exact hs1.streamLose.convOvfSlow.streamPut.watermark.ite (h.streamLose.ite hs1'.convOvf.raise)

theorem State.Stored.sredTake {x : Snapshot} (h : s.Stored) : (s.sredTake x).Stored := h.foldl fun _ _ ht => ht.foldl fun _ _ hu => hu.frame

theorem State.Stored.snapClose {x : Snapshot} (h : s.Stored) : (s.snapClose x).Stored := by
  unfold State.snapClose
  extract_lets _ _ _ _ s2 s3
  have hs2 : s2.Stored := (h.frame.sredTake.foldl fun _ _ ht => ht.destWrite).destWrite
  have hs3 : s3.Stored := hs2.raise.ite (hs2.addSat _ _ _ _).raiseSlow
  exact hs3.ite hs3.raise

theorem State.Stored.snapPut {x : Snapshot} {a : FAddr} {bs : List Byte} {changed : Bool} (h : s.Stored) : (s.snapPut x a bs changed).Stored :=
  h.ite ((h.frame.snapClose.ite h.frame).ite ((h.addSat _ _ _ _).frame.ite (h.addSat _ _ _ _).frame.raiseSlow))

theorem State.Stored.snapshotCloseTimeout (h : s.Stored) : (snapshotCloseTimeout s).Stored := by
  unfold Machine.snapshotCloseTimeout
  split
  · exact h
  · exact h.snapClose.ite h

theorem State.Stored.sweepRecordReceive {bytes : List Byte} {rerouted : Bool} {_port : Fin 4} {chk : Check} (h : s.Stored) :
    (sweepRecordReceive bytes rerouted _port chk s).Stored := by
  unfold Machine.sweepRecordReceive
  extract_lets s0
  have hs0 : s0.Stored := h.transient.ite h
  split
  · exact h
  · split
    · exact hs0.memFault
    · split
      · exact hs0.destWrite.ite (hs0.addSat _ _ _ _)
      · split
        · exact hs0.snapPut
        · exact hs0.destWrite.addSat _ _ _ _

theorem State.Stored.holdRecord {bs : List Byte} (h : s.Stored) : (s.holdRecord bs).Stored := ((h.frame.addSat _ _ _ _).ite h.frame).setFld _ _ _ _

theorem State.Stored.rejoin (h : s.Stored) : s.rejoin.Stored := by
  unfold State.rejoin
  extract_lets
  split
  · exact h.frame.sweepShow.ite h
  · exact h

theorem State.Stored.shotOut (h : s.Stored) : s.shotOut.Stored := by
  unfold State.shotOut
  extract_lets
  split
  · exact h
  · dsimp only
    split
    · split
      · split
        · exact h.frame.snapPut.ite h.frame.snapPut.sweepEnd
        · exact h.frame.ite h.frame.sweepEnd
      · exact (h.frame.holdRecord.ite h.frame.sendTo).ite (h.frame.holdRecord.ite h.frame.sendTo).sweepEnd
    · split
      · split
        · exact h.frame.snapPut
        · exact h.frame
      · exact h.frame.holdRecord.ite h.frame.sendTo

theorem State.Stored.snapOpen (h : s.Stored) : s.snapOpen.Stored := by
  unfold State.snapOpen
  extract_lets
  split
  · exact h
  · exact (h.frame.ite (h.frame.wr _ _)).ite h

theorem State.Stored.snapshotTime (h : s.Stored) : (snapshotTime s).Stored := by
  unfold Machine.snapshotTime
  extract_lets s1
  have hs1 : s1.Stored := h.shotOut.rejoin.snapOpen
  split
  · exact h
  · split
    · exact hs1.sweepShow
    · exact hs1.sweepEnd.ite (hs1.ite (hs1.frame.wr _ _).sweepShow)

theorem State.Stored.sweepRecordSend (h : s.Stored) : (sweepRecordSend s).Stored := by
  unfold Machine.sweepRecordSend
  split
  · exact h.shotOut.ite h
  · exact h

theorem State.Stored.sweepIsolated (h : s.Stored) : (sweepIsolated s).Stored := by
  unfold Machine.sweepIsolated
  extract_lets
  split
  · exact h.frame.sweepShow.ite h
  · exact h

theorem State.Stored.sweepHoldExpiry (h : s.Stored) : (sweepHoldExpiry s).Stored := h.frame.ite h

theorem State.Stored.heldRecordSend (h : s.Stored) : (heldRecordSend s).Stored := by
  unfold Machine.heldRecordSend
  extract_lets
  split
  · exact ((h.rejoin.frame.sendTo.setFld _ _ _ _).frame.raise.ite (h.rejoin.frame.sendTo.setFld _ _ _ _)).ite h.rejoin
  · exact h.rejoin

theorem State.Stored.snapLost (h : s.Stored) : s.snapLost.Stored := h.addSat _ _ _ _

theorem State.Stored.snapArm {n left : Nat} {who : FAddr} {ev : BitVec 7} {fabric late : Bool} {time : DWord} (h : s.Stored) :
    (s.snapArm n left who ev fabric late time).Stored := h.frame

theorem State.Stored.snapshotTrigger {event : BitVec 7} (h : s.Stored) : (snapshotTrigger event s).Stored := by
  unfold Machine.snapshotTrigger
  extract_lets _ _ s2
  have hs2 : s2.Stored := h.frame.sendAll.ite h.frame
  split
  · exact h
  · split
    · exact hs2.snapLost
    · exact hs2.snapArm

theorem State.Stored.fabricTriggerReceived {sender : FAddr} {event : BitVec 7} {time : DWord} (h : s.Stored) :
    (fabricTriggerReceived sender event time s).Stored := by
  unfold Machine.fabricTriggerReceived
  extract_lets
  split
  · exact h
  · split
    · exact h.snapLost
    · split
      · exact h.snapLost
      · exact h.frame.snapArm.ite h.frame.snapArm

theorem State.Stored.turnSlot {n first : Nat} (h : s.Stored) : (s.turnSlot n first).Stored :=
  (h.foldl fun _ _ ht => ht.stByte _ _).foldl fun _ _ ht => ht.stByte _ _

theorem State.Stored.slotFree {n : Nat} (h : s.Stored) : (s.slotFree n).Stored := by
  unfold State.slotFree
  dsimp only
  split
  · exact (h.frame.setBit _ _ _).frame
  · exact h.frame.setBit _ _ _

/-! ## Jobs, records and snapshot slots (Machine/Placement.lean) -/

theorem State.Stored.jobSet {key : JobKey} {f : Job → Job} (h : s.Stored) : (s.jobSet key f).Stored := h.frame
theorem State.Stored.jobDrop {key : JobKey} (h : s.Stored) : (s.jobDrop key).Stored := h.frame.plcShow

theorem State.Stored.ckptStore {key : JobKey} {host : FAddr} {seq : Word} {ok : Bool} {body : JobBody} (h : s.Stored) :
    (s.ckptStore key host seq ok body).Stored := h.frame.ite (h.frame.plcShow.ite h)

theorem State.Stored.checkpoint {key : JobKey} {body : List Byte} (h : s.Stored) : (checkpoint key body s).Stored := by
  unfold Machine.checkpoint
  extract_lets
  split
  · exact h
  · split
    · exact h
    · split
      · exact h.sendJob.jobDrop.ite h.ckptStore.sendJob.jobSet
      · exact h.ckptStore.foldl fun _ _ ht => ht.sendJob

theorem State.Stored.jobArrives {key : JobKey} {host : FAddr} {seq : Word} {guard : Bool} {body : JobBody} (h : s.Stored) :
    (s.jobArrives key host seq guard body).Stored := by
  unfold State.jobArrives
  split
  · exact h
  · exact h.ite (h.ckptStore.startJob.takeBody.plcShow.sendJob.addSat _ _ _ _).raise

theorem State.Stored.jobFrame {m : JobMsg} (h : s.Stored) : (jobFrame m s).Stored := by
  unfold Machine.jobFrame
  split
  · exact h
  · split
    · exact h.ckptStore.ite h
    · exact h.jobArrives.ite h
    · exact h.recStore
    · exact h.impRelease
    · exact h.impResend
    · split
      · exact h.ite h.restartJob.plcShow
      · exact h

theorem State.Stored.jobMoveAck {key : JobKey} {host : FAddr} (h : s.Stored) : (jobMoveAck key host s).Stored := by
  unfold Machine.jobMoveAck
  split
  · exact h.jobDrop.ite h
  · exact h

theorem State.Stored.jobMoveTimeout {key : JobKey} (h : s.Stored) : (jobMoveTimeout key s).Stored := by
  unfold Machine.jobMoveTimeout
  extract_lets
  split
  · exact h.jobSet.frame.maquette.ite h
  · exact h

theorem State.Stored.recordCopy {owner : FAddr} (h : s.Stored) : (recordCopy owner s).Stored := by
  unfold Machine.recordCopy
  extract_lets _ _ _ _ _ _ t
  have ht : t.Stored := (h.foldl fun _ _ ht => ht.foldl fun _ _ hu => hu.sendRec).frame
  exact h.ite (((ht.frame.raiseC.ite ht.frame).ite ht).ite h.frame.recShow)

theorem State.Stored.readRecord_fst {src : Src} {r : Req} {chk : Check} {kind : Byte} {owner : FAddr} {seq : Word} {off : Nat} (h : s.Stored) :
    (s.readRecord src r chk kind owner seq off).1.Stored := by
  unfold State.readRecord
  extract_lets _ s1
  have hs1 : s1.Stored := h.transient.ite h
  split
  · split
    · exact hs1.memFault.fail_fst
    · exact hs1
  · split
    · exact h.fail_fst
    · exact h.relayTo_fst

theorem State.Stored.recordRead {src : Src} {chk : Check} (h : s.Stored) : (recordRead src chk s).Stored := by
  unfold Machine.recordRead
  exact h.serveCode fun ht => by
    split
    · exact ht.fail_fst
    · exact ht.readRecord_fst

theorem State.Stored.digestRead {src : Src} {chk : Check} (h : s.Stored) : (digestRead src chk s).Stored := by
  unfold Machine.digestRead
  exact h.serveCode fun ht => by
    split
    · exact ht.fail_fst
    · split
      · exact ht.readRecord_fst
      · exact ht.fail_fst

theorem State.Stored.jobRecordInterval {slot : Fin 32} {charge : Int} {rests : List RestIn} (h : s.Stored) :
    (jobRecordInterval slot charge rests s).Stored := by
  unfold Machine.jobRecordInterval
  extract_lets
  split
  · exact h
  · extract_lets _ _ _ _ t
    have ht : t.Stored := h.foldl fun _ _ ht => ht.recSpread
    split
    · exact h
    · split
      · split
        · exact h
        · exact h.ite (h.frame.foldl fun _ _ ht => ht.recSpread).jobWrote
      · exact ht.frame.ite h

theorem State.Stored.digestClose {slot : Fin 32} {d : DigestIn} (h : s.Stored) : (digestClose slot d s).Stored := by
  unfold Machine.digestClose
  extract_lets
  split
  · exact h.ite h.recSpread.jobWrote.raise
  · exact h

theorem State.Stored.snapc {n : Nat} (h : s.Stored) : (s.snapc n).Stored := by
  unfold State.snapc
  extract_lets
  split
  · exact h
  · exact h.ite h.recSpread.slotFree

theorem State.Stored.snapshotFrozen (h : s.Stored) : (snapshotFrozen s).Stored := by
  unfold Machine.snapshotFrozen
  split
  · extract_lets
    split
    · exact ((h.turnSlot.stBytes _ _).frame.setBit _ _ _).raise.snapc
    · exact h
  · exact h

/-! ## Memory, page writes and the log (Machine/Memory.lean) -/

theorem State.Stored.linkAckTimeout {p : Fin 4} {lseq : Byte} {chk : Check} (h : s.Stored) : (linkAckTimeout p lseq chk s).Stored := by
  unfold Machine.linkAckTimeout
  split
  · split
    · exact h.linkFail
    · exact h.transient.linkFail
    · exact h.linkLost.memFault
  · exact h

theorem State.Stored.nvRead {chk : Check} (h : s.Stored) : (s.nvRead chk).Stored := h.transient.ite h
theorem State.Stored.nvMetCount {met : List (Nat × Check)} (h : s.Stored) : (s.nvMetCount met).Stored := h.ite h.transient
theorem State.Stored.edramRefresh (h : s.Stored) : (edramRefresh s).Stored := h.frame
theorem State.Stored.streamEmpty {n : Nat} (h : s.Stored) : (s.streamEmpty n).Stored := (h.wr _ _).streamLose.watermark.ite h

theorem State.Stored.edramLost (h : s.Stored) : s.edramLost.Stored := by
  unfold State.edramLost
  extract_lets
  exact (((h.foldl fun _ _ ht => ht.streamEmpty).slotFree.slotFree.frame.setFld _ _ _ _).addSat _ _ _ _).recShow.plcShow

theorem State.Stored.edramRefreshLate {groups : Nat} (h : s.Stored) : (edramRefreshLate groups s).Stored := by
  unfold Machine.edramRefreshLate
  extract_lets t
  have ht : t.Stored := ((h.edramLost.setBit _ _ _).addSat _ _ _ _).addSat _ _ _ _
  exact (ht.frame.ite ht.raise).ite h

theorem State.Stored.refreshSet {fast : Bool} (h : s.Stored) : (s.refreshSet fast).Stored := (h.setBit _ _ _).setFld _ _ _ _

theorem State.Stored.hatboxRefreshComparatorRead {tripped : BitVec 6} (h : s.Stored) : (hatboxRefreshComparatorRead tripped s).Stored :=
  (h.frame.refreshSet.ite (h.frame.refreshSet.ite h.frame)).ite h

theorem State.Stored.calStored {bank : Bool} (h : s.Stored) : (s.calStored bank).Stored := ((((h.frame.wr _ _).wr _ _).wr _ _).wr _ _).raise

theorem State.Stored.nvFinish {job : NvJob} (h : s.Stored) : (s.nvFinish job).Stored := by
  unfold State.nvFinish
  extract_lets
  split
  · exact h
  · exact h
  · exact h
  · exact h
  · split
    · exact h.complete
    · exact h
  · exact h.raise.complete
  · exact h.calStored.complete
  · dsimp only
    split
    · exact ((h.setFld _ _ _ _).ite h).complete
    · exact h.complete
  · exact (h.setFld _ _ _ _).complete.frame
  · exact (h.setFld _ _ _ _).raise.complete

theorem State.Stored.nvStop {job : NvJob} {status : Byte} (h : s.Stored) : (s.nvStop job status).Stored := by
  unfold State.nvStop
  extract_lets
  split
  · exact h
  · exact h
  · exact h
  · exact h
  · split
    · exact h.complete
    · exact h
  · exact h.complete
  · exact h.frame.complete
  · exact h.complete
  · exact h.complete
  · exact h.complete

theorem State.Stored.nvPageWriteDone {chk : Check} (h : s.Stored) : (nvPageWriteDone chk s).Stored := by
  unfold Machine.nvPageWriteDone
  extract_lets
  split
  · exact h
  · dsimp only
    split
    · exact h
    · split
      · split
        · exact (h.frame.addSat _ _ _ _).raise.raise.nvStop
        · exact (h.frame.addSat _ _ _ _).raise.nvStop
        · exact (h.frame.addSat _ _ _ _).raise.nvStop
        · exact (h.frame.addSat _ _ _ _).raise.nvStop
        · exact (h.frame.addSat _ _ _ _).raise.nvStop
        · exact (h.frame.addSat _ _ _ _).raise.nvStop
        · exact (h.frame.addSat _ _ _ _).raise.nvStop
        · exact (h.frame.addSat _ _ _ _).raise.nvStop
        · exact (h.frame.addSat _ _ _ _).raise.nvStop
        · exact (h.frame.addSat _ _ _ _).raise.nvStop
      · split
        · exact (((h.frame.stBytes _ _).addWord _ _).transient.ite ((h.frame.stBytes _ _).addWord _ _)).nvFinish
        · split
          · exact (((h.frame.stBytes _ _).addWord _ _).transient.ite ((h.frame.stBytes _ _).addWord _ _)).frame.nvStop
          · exact ((h.frame.stBytes _ _).addWord _ _).transient.ite ((h.frame.stBytes _ _).addWord _ _)

theorem State.Stored.logRead {src : Src} {chk : Check} {s0 : State} (h : s0.Stored) : (logRead src chk s0).Stored := by
  unfold Machine.logRead
  exact h.serveCode fun ht => by
    extract_lets
    split
    · exact ht.fail_fst
    · split
      · exact ht.nvRead.fst
      · exact ht

theorem State.Stored.keyCheck {chk : Check} {cause : Fin 3} (h : s.Stored) : (keyCheck chk cause s).Stored := by
  unfold Machine.keyCheck
  extract_lets t
  have ht : t.Stored := (h.setBit _ _ _).setBit _ _ _
  exact (ht.raise.ite (ht.transient.ite ht)).ite h

theorem State.Stored.attest {src : Src} {r s' : BitVec 256} (h : s.Stored) : (attest src r s' s).Stored := by
  unfold Machine.attest
  exact h.serveCode fun ht => by
    extract_lets
    split
    · exact ht.fail_fst
    · split
      · exact ht.fail_fst
      · split
        · exact ht.frame.fst
        · split
          · exact ht
          · split
            · exact ht.fail_fst
            · exact ht

theorem State.Stored.ownerAccept {src : Src} (h : s.Stored) : (ownerAccept src s).Stored := by
  unfold Machine.ownerAccept
  exact h.serveCode fun ht => by
    extract_lets
    split
    · exact ht.fail_fst
    · split
      · exact ht.fail_fst
      · split
        · exact ht.fail_fst
        · split
          · exact ht.fail_fst
          · exact ht.floodTopo.takeAccept.fst

/-! ## Parameters (Machine/Params.lean) -/

theorem State.Stored.readEffect {id : Nat} (h : s.Stored) : (s.readEffect id).Stored := by
  unfold State.readEffect
  extract_lets _ s1
  have hs1 : s1.Stored := h.ite (h.wr _ _)
  split
  · exact hs1
  · exact ((hs1.wr _ _).ite hs1).ite (((hs1.setBit _ _ _).ite hs1).ite hs1)

theorem State.Stored.store {id : Nat} {v : Word} (h : s.Stored) : (s.store id v).Stored :=
  ((h.frame.setBit _ _ _).ite h.frame).ite (h.frame.ite (h.wr _ _))

theorem State.Stored.request {req : Nat} (h : s.Stored) : (s.request req).Stored := by
  unfold State.request
  extract_lets
  split
  · exact h
  · split <;> exact h.frame

theorem State.Stored.streamSwitch {i : Nat} {was now : Bool} (h : s.Stored) : (s.streamSwitch i was now).Stored :=
  h.ite ((((h.setStream.wr _ _).wr _ _).setBit _ _ _).ite h.setStream)

theorem State.Stored.startStop {w : Word} (h : s.Stored) : (s.startStop w).Stored :=
  (h.foldl fun _ _ ht => ht.tmrStart).foldl fun _ _ ht => ht.tmrStop

theorem State.Stored.timerWritten {o : State} {u k : Nat} {new : Word} (h : o.Stored) (h' : s.Stored) : (o.timerWritten s u k new).Stored := by
  unfold State.timerWritten
  extract_lets t
  have ht : t.Stored := (h'.ite h'.modeFollow).tmrShow
  split
  · exact (ht.wr _ _).ite ht
  · exact h'.ite h'.setUnit
  · exact h.setUnit.ite h'
  · exact h'
  · exact h'
  · exact h'
  · exact h'
  · exact h'
  · exact h'.chanMode.ite h'

theorem State.Stored.portsSwitched {o : State} (h : s.Stored) : (o.portsSwitched s).Stored := h.foldl fun _ _ ht => ht.portDown.ite ht

theorem State.Stored.snapWritten {o : State} {w : Word} (h : s.Stored) : (o.snapWritten s w).Stored := by
  unfold State.snapWritten
  extract_lets _ t t1
  have ht : t.Stored := h.frame.ite h
  have ht1 : t1.Stored := ht.foldl fun _ _ ht => ht.slotFree
  exact ht1.frame.ite ht1

theorem State.Stored.readmit {id : Nat} {w : Word} (h : s.Stored) : (s.readmit id w).Stored := (h.frame.ite h).balRefresh
theorem State.Stored.auxSet {i : Nat} (h : s.Stored) : (s.auxSet i).Stored := h.ite (h.setFld _ _ _ _)

theorem State.Stored.written {o : State} {src : Option Src} {id : Nat} {value mask new : Word} (ho : o.Stored) (h : s.Stored) :
    (o.written s src id value mask new).Stored := by
  unfold State.written
  extract_lets w
  split
  · exact h.streamSwitch.ite (h.tailMoved.ite h)
  · exact ho.timerWritten h
  · split
    · exact h.request
    · exact h.balRefresh
    · exact h.balRefresh.settle
    · exact h.balRefresh.settle
    · exact h.balRefresh.settle
    · exact h.peersRefresh.peersShow.settle
    · exact h.peersRefresh.peersShow
    · exact h.inject_fst.ite h
    · exact ((h.frame.setBit _ _ _).ite h).rearm.ite ((h.frame.setBit _ _ _).ite h)
    · exact h.tempsOff.ite h
    · exact h.balRefresh.probeAll.ite h.balRefresh
    · exact h.balRefresh
    · exact h.readmit
    · exact h.readmit
    · exact h.startStop
    · exact h.foldl fun _ _ ht => ht.tmrShow
    · exact h.portsSwitched
    · split
      · exact getD h fun _ ht => h.wakeWrite _ ht
      · exact h
    · exact h.snapWritten
    · exact h.replicaCheck
    · exact h.pinsFollow.ite ((h.auxSet.replan).ite (h.replan.ite h))

theorem State.Stored.writeParam {src : Option Src} {id : Nat} {value mask : Word} (h : s.Stored) : (s.writeParam src id value mask).Stored :=
  h.written h.store

theorem State.Stored.refusedNote {id : Nat} {value mask : Word} (h : s.Stored) : (s.refusedNote id value mask).Stored := h.inject_fst.ite h

theorem State.Stored.paramGet {src : Src} {chk : Check} (h : s.Stored) : (paramGet src chk s).Stored := by
  unfold Machine.paramGet
  exact h.serveCode fun ht => by
    extract_lets
    split
    · exact ht.fail_fst
    · split
      · exact ht.fail_fst
      · split
        · exact ht.memFault.fail_fst
        · exact ((ht.transient.ite ht).foldl fun _ _ hu => hu.readEffect).fst

theorem State.Stored.tickNote {src : Src} {r : Req} {ids : List Nat} (h : s.Stored) : (s.tickNote src r ids).Stored := h.frame

theorem State.Stored.paramSetAt_fst {src : Src} {r : Req} (h : s.Stored) : (s.paramSetAt src r).1.Stored := by
  unfold State.paramSetAt
  extract_lets
  split
  · exact h.fail_fst
  · split
    · exact (h.refusedNote.ite h).fail_fst
    · split
      · exact h.fail_fst
      · split <;> exact h.tickNote.writeParam

theorem State.Stored.paramSet {src : Src} (h : s.Stored) : (paramSet src s).Stored := h.serveCode fun ht => ht.paramSetAt_fst

theorem State.Stored.serveSet {src : Src} {want : Nat → Word → Bool} (h : s.Stored) : (s.serveSet src want).Stored :=
  h.serve fun ht => ht.paramSetAt_fst

theorem State.Stored.paramStage {src : Src} (h : s.Stored) : (paramStage src s).Stored := by
  unfold Machine.paramStage
  exact h.serveCode fun ht => by
    extract_lets
    split
    · exact ht.fail_fst
    · split
      · exact ht.fail_fst
      · split
        · exact ht.fail_fst
        · split
          · exact ht.fail_fst
          · exact ht.frame.fst

theorem State.Stored.stageClear (h : s.Stored) : s.stageClear.Stored := h.frame

theorem State.Stored.applyStaged_fst {src : Src} {r : Req} (h : s.Stored) : (s.applyStaged src r).1.Stored := by
  unfold State.applyStaged
  extract_lets
  split
  · exact h.refusedNote.stageClear.fst
  · exact (h.tickNote.foldl fun _ _ ht => ht.writeParam).stageClear.fst

theorem State.Stored.paramApply {src : Src} (h : s.Stored) : (paramApply src s).Stored := by
  unfold Machine.paramApply
  exact h.serveCode fun ht => by
    extract_lets
    split
    · exact ht.fail_fst
    · split
      · exact ht.fail_fst
      · split
        · exact ht.applyStaged_fst
        · exact ht.frame.fst

theorem State.Stored.applyAtBoundary (h : s.Stored) : s.applyAtBoundary.Stored := by
  unfold State.applyAtBoundary
  extract_lets
  split
  · extract_lets o
    have ho : o.1.Stored := h.frame.applyStaged_fst
    split
    · exact ho.complete
    · exact ho
  · exact h

theorem State.Stored.paramDiscard {src : Src} (h : s.Stored) : (paramDiscard src s).Stored := by
  unfold Machine.paramDiscard
  exact h.serveCode fun ht => by
    split
    · exact ht.fail_fst
    · split
      · exact ht.fail_fst
      · exact ht.stageClear.fst

theorem State.Stored.cfgSave {src : Src} (h : s.Stored) : (cfgSave src s).Stored := by
  unfold Machine.cfgSave
  exact h.serveCode fun ht => by
    extract_lets
    split
    · exact ht.fail_fst
    · exact ht.nvPut.fst

theorem State.Stored.cfgDefaults {src : Src} (h : s.Stored) : (cfgDefaults src s).Stored := by
  unfold Machine.cfgDefaults
  exact h.serveCode fun ht => by
    split
    · exact ht.fail_fst
    · split
      · exact ht.fail_fst
      · exact (ht.foldl fun _ _ hu => hu.ite hu.writeParam).fst

theorem State.Stored.cfgRestore {met : List (Nat × Check)} (h : s.Stored) : (s.cfgRestore met).Stored := by
  unfold State.cfgRestore
  split
  · exact h
  · exact (h.foldl fun _ _ ht => ht.ite ht.writeParam).frame

theorem State.Stored.portsInForce (h : s.Stored) : s.portsInForce.Stored := h.frame

/-! ## Host ports and mailbox (Machine/HostPorts.lean) -/

theorem State.Stored.winMove (h : s.Stored) : s.winMove.Stored := h.ite (h.frame.ite (h.ite (h.addWord _ _).tailMoved))

theorem State.Stored.regReadEffect {addr : Nat} (h : s.Stored) : (s.regReadEffect addr).Stored := by
  unfold State.regReadEffect
  extract_lets
  split
  · exact h.winMove
  · exact h.frame
  · exact h

theorem State.Stored.tailWrite_fst {v : Half} (h : s.Stored) : (s.tailWrite v).1.Stored := by
  unfold State.tailWrite
  extract_lets
  split
  · exact h.frame.fst
  · exact (h.frame.ringOverflow.ite h.frame).fst

theorem State.Stored.go {port : HostPort} (h : s.Stored) : (s.go port).Stored := by
  unfold State.go
  extract_lets
  split
  · exact h.frame
  · split
    · split
      · exact h.frame.mbxDone
      · exact h.frame.mbxDone.ite h.frame.relayTo_fst
    · split
      · exact h.frame.mbxDone
      · exact h.frame

theorem State.Stored.mbxAborted (h : s.Stored) : s.mbxAborted.Stored := by
  unfold State.mbxAborted
  split
  · exact h.mbxDone
  · exact h

theorem State.Stored.abort (h : s.Stored) : s.abort.Stored := by
  unfold State.abort
  extract_lets
  split
  · exact (h.ite h.mbxAborted).ite (h.frame.mbxAborted.ite ((h.patinaAbort.ite h.mbxAborted).ite h))
  · exact h

theorem State.Stored.doorbell {port : HostPort} {v : Word} (h : s.Stored) : (s.doorbell port v).Stored := (h.abort.ite h).go.ite (h.abort.ite h)

theorem State.Stored.selWrite_fst {v : Word} (h : s.Stored) : (s.selWrite v).1.Stored := by
  unfold State.selWrite
  extract_lets
  split
  · exact h
  · exact h.frame.fst

theorem State.Stored.regWrite_fst {port : HostPort} {addr : Nat} {v : Word} (h : s.Stored) : (s.regWrite port addr v).1.Stored := by
  unfold State.regWrite
  extract_lets
  split
  · exact (h.frame.frame.ite h.frame.frame).fst
  · exact (h.frame.frame.ite h.frame.frame).fst
  · exact (h.frame.frame.ite h.frame.frame).fst
  · exact (h.frame.frame.ite h.frame.frame).fst
  · exact (h.frame.frame.ite h.frame.frame).fst
  · exact h.frame.frame.fst
  · exact h.frame.doorbell.fst
  · exact h.frame.tailWrite_fst
  · exact h.frame.frame.fst
  · exact h.frame.frame.fst
  · exact h.frame.selWrite_fst
  · exact h.frame.frame.fst
  · exact h.frame.frame.fst
  · exact h.frame.fst

theorem State.Stored.access_fst {port : HostPort} {op addr : Byte} {data : Word} (h : s.Stored) : (s.access port op addr data).1.Stored := by
  unfold State.access
  extract_lets
  split
  · exact h
  · split
    · exact h
    · split
      · exact h
      · split
        · exact h.regReadEffect
        · exact h.regWrite_fst

theorem State.Stored.hostSeen {port : HostPort} (h : s.Stored) : (s.hostSeen port).Stored := h.ite (h.setBit _ _ _).raise
theorem State.Stored.frameBad {port : HostPort} {crc : Bool} (h : s.Stored) : (s.frameBad port crc).Stored := h.frame

theorem State.Stored.spiFrame {cycles : Nat} {bits : BitVec 56} (h : s.Stored) : (spiFrame cycles bits s).Stored :=
  h.frame.ite (h.frame.frameBad.ite (h.frame.hostSeen.access_fst.frame.ite h.frame.frameBad.frame))

theorem State.Stored.records_fst {port : HostPort} {n : Nat} {bs : List Byte} (h : s.Stored) : (s.records port n bs).1.Stored := by
  induction n generalizing s bs with
  | zero => exact h
  | succ n ih => exact ih h.access_fst

theorem State.Stored.request68_fst {port : HostPort} {bs : List Byte} (h : s.Stored) : (s.request68 port bs).1.Stored := h.hostSeen.records_fst.fst

theorem State.Stored.canFdRequest {ident : BitVec 11} {bytes : List Byte} (h : s.Stored) : (canFdRequest ident bytes s).Stored :=
  h.ite (h.frameBad.ite h.request68_fst.canSend)

theorem State.Stored.uartFrame {bytes : List Byte} (h : s.Stored) : (uartFrame bytes s).Stored := by
  unfold Machine.uartFrame
  split
  · exact h
  · split
    · exact h.frameBad
    · exact h.frameBad.ite (h.frameBad.ite (h.ite (h.frameBad.ite h.request68_fst.uartSend)))

theorem State.Stored.uartFrameTimeout (h : s.Stored) : (uartFrameTimeout s).Stored := h.frameBad.ite h
theorem State.Stored.hosterr (h : s.Stored) : (hosterr s).Stored := h.frame.raise.ite h
theorem State.Stored.hostPortReconfig (h : s.Stored) : (hostPortReconfig s).Stored := h.portsInForce.ite h
theorem State.Stored.intNoticeHoldoffEnd (h : s.Stored) : (intNoticeHoldoffEnd s).Stored := h.frame.sendNotice.ite h.frame

theorem State.Stored.registerWrite {port : HostPort} {addr : Byte} {value : Word} (h : s.Stored) : (registerWrite port addr value s).Stored :=
  h.regWrite_fst.ite h

theorem State.Stored.readClear {port : HostPort} {addr : Byte} (h : s.Stored) : (readClear port addr s).Stored := h.regReadEffect.frame.ite h

theorem State.Stored.streamWinRead {port : HostPort} {chk : Check} (h : s.Stored) : (streamWinRead port chk s).Stored := by
  unfold Machine.streamWinRead
  dsimp only
  split
  · split
    · exact h.regReadEffect.frame
    · split
      · exact h.regReadEffect.frame
      · exact h.transient.regReadEffect.frame
      · exact h.memFault.regReadEffect.frame
  · exact h

theorem State.Stored.evtTailWrite {port : HostPort} {value : Word} (h : s.Stored) : (evtTailWrite port value s).Stored := h.regWrite_fst.ite h
theorem State.Stored.doorbellGo {port : HostPort} (h : s.Stored) : (doorbellGo port s).Stored := h.regWrite_fst.ite h
theorem State.Stored.doorbellAbort {port : HostPort} (h : s.Stored) : (doorbellAbort port s).Stored := h.regWrite_fst.ite h

theorem State.Stored.nop {src : Src} (h : s.Stored) : (nop src s).Stored := by
  unfold Machine.nop
  exact h.serveCode fun ht => by
    split
    · exact ht
    · exact ht.fail_fst

theorem State.Stored.identify {src : Src} (h : s.Stored) : (identify src s).Stored := by
  unfold Machine.identify
  exact h.serveCode fun ht => by
    split
    · exact ht
    · exact ht.fail_fst

theorem State.Stored.sysReset {src : Src} (h : s.Stored) : (sysReset src s).Stored := by
  unfold Machine.sysReset
  exact h.serveCode fun ht => by
    extract_lets
    split
    · exact ht.fail_fst
    · exact ht.frame.fst

theorem State.Stored.remoteRequest {sender : FAddr} {fid : Half} {bytes : List Byte} (h : s.Stored) : (remoteRequest sender fid bytes s).Stored := by
  unfold Machine.remoteRequest
  extract_lets
  split
  · exact h
  · split
    · exact h.sendTo
    · exact h.frame.ite h.sendTo

theorem State.Stored.remoteResponse {sender : FAddr} {bytes : List Byte} (h : s.Stored) : (remoteResponse sender bytes s).Stored :=
  h.ite (h.complete.ite (h.frame.complete.ite h))

theorem State.Stored.remoteTimeout (h : s.Stored) : (remoteTimeout s).Stored := h.ite (h.complete.ite (h.frame.complete.ite h))
theorem State.Stored.eventFrame {w0 w1 w2 w3 : Word} (h : s.Stored) : (eventFrame w0 w1 w2 w3 s).Stored := h.ringAdd.ite h
theorem State.Stored.slotIs {b valid : Bool} {sec : Nat} (h : s.Stored) : (s.slotIs b valid sec).Stored := (h.setFld _ _ _ _).frame

theorem State.Stored.fwBegin {src : Src} (h : s.Stored) : (fwBegin src s).Stored := by
  unfold Machine.fwBegin
  exact h.serveCode fun ht => by
    extract_lets
    split
    · exact ht.fail_fst
    · exact (ht.frame.slotIs.wr _ _).nvPut.fst

theorem State.Stored.fwData {src : Src} (h : s.Stored) : (fwData src s).Stored := by
  unfold Machine.fwData
  exact h.serveCode fun ht => by
    extract_lets
    split
    · exact ht.fail_fst
    · split
      · exact ht.fail_fst
      · split
        · exact (ht.setFld _ _ _ _).fst
        · exact ht.nvPut.fst

theorem State.Stored.fwEnd {src : Src} {sign : Bool} {chk : Check} (h : s.Stored) : (fwEnd src sign chk s).Stored := by
  unfold Machine.fwEnd
  exact h.serveCode fun ht => by
    extract_lets
    split
    · exact ht.fail_fst
    · split
      · exact ht.fail_fst
      · split
        · exact (ht.setFld _ _ _ _).slotIs.raise.fst
        · exact (ht.setFld _ _ _ _).slotIs.raise.fst
        · exact (ht.setFld _ _ _ _).slotIs.raise.fst
        · exact (ht.nvRead.setFld _ _ _ _).slotIs.raise.fst

theorem State.Stored.idPut {job : NvJob} {pair value : Nat} (h : s.Stored) : (s.idPut job pair value).Stored := h.nvPut

theorem State.Stored.fwActivate {src : Src} (h : s.Stored) : (fwActivate src s).Stored := by
  unfold Machine.fwActivate
  exact h.serveCode fun ht => by
    split
    · exact ht.fail_fst
    · split
      · exact ht.fail_fst
      · exact ht.idPut.fst

theorem State.Stored.fwCommit {src : Src} (h : s.Stored) : (fwCommit src s).Stored := by
  unfold Machine.fwCommit
  exact h.serveCode fun ht => by
    split
    · exact ht.fail_fst
    · split
      · exact ht.fail_fst
      · split
        · exact ht.idPut.fst
        · exact ht

theorem State.Stored.fwAbort {src : Src} (h : s.Stored) : (fwAbort src s).Stored := by
  unfold Machine.fwAbort
  exact h.serveCode fun ht => by
    split
    · exact ht.fail_fst
    · split
      · exact ht
      · exact (ht.setFld _ _ _ _).slotIs.fst

/-! ## Commands that are writes of one parameter (Machine/Writes.lean) -/

theorem State.Stored.stateReqRun {src : Src} (h : s.Stored) : (stateReqRun src s).Stored := h.serveSet
theorem State.Stored.stateReqWatch {src : Src} (h : s.Stored) : (stateReqWatch src s).Stored := h.serveSet
theorem State.Stored.stateReqHatbox {src : Src} (h : s.Stored) : (stateReqHatbox src s).Stored := h.serveSet
theorem State.Stored.seqLoad {src : Src} (h : s.Stored) : (seqLoad src s).Stored := h.serveSet
theorem State.Stored.seqRunWrite {src : Src} (h : s.Stored) : (seqRunWrite src s).Stored := h.serveSet
theorem State.Stored.streamEnable {src : Src} (h : s.Stored) : (streamEnable src s).Stored := h.serveSet
theorem State.Stored.streamTailWrite {src : Src} (h : s.Stored) : (streamTailWrite src s).Stored := h.serveSet
theorem State.Stored.hostInjectionRequest {src : Src} (h : s.Stored) : (hostInjectionRequest src s).Stored := h.serveSet
theorem State.Stored.patHoldRelease {src : Src} (h : s.Stored) : (patHoldRelease src s).Stored := h.serveSet
theorem State.Stored.probenow {src : Src} (h : s.Stored) : (probenow src s).Stored := h.serveSet
theorem State.Stored.timerStartStop {src : Src} (h : s.Stored) : (timerStartStop src s).Stored := h.serveSet
theorem State.Stored.timerCountWrite {src : Src} (h : s.Stored) : (timerCountWrite src s).Stored := h.serveSet
theorem State.Stored.fabWake {src : Src} (h : s.Stored) : (fabWake src s).Stored := h.serveSet
theorem State.Stored.snapFree {src : Src} (h : s.Stored) : (snapFree src s).Stored := h.serveSet

/-! ## Calibration (Machine/Patina.lean) -/

theorem State.Stored.calPut {vs : List (Nat × Word)} (h : s.Stored) : (s.calPut vs).Stored :=
  h.ite ((h.foldl fun _ _ ht => (ht.wr _ _).frame).addWord _ _)

theorem State.Stored.calReloadNow (h : s.Stored) : s.calReloadNow.Stored := by
  unfold State.calReloadNow
  extract_lets
  split
  · exact h
  · exact h.frame.complete
  · exact (h.frame.calPut.setBit _ _ _).rearm.complete

theorem State.Stored.calCommitNow (h : s.Stored) : s.calCommitNow.Stored := by
  unfold State.calCommitNow
  extract_lets
  split
  · exact h.frame.nvPut
  · exact h

theorem State.Stored.calBoundary (h : s.Stored) : s.calBoundary.Stored := h.frame.calPut.calReloadNow.calCommitNow
theorem State.Stored.patinaRotationMark (h : s.Stored) : (patinaRotationMark s).Stored := h.frame.ite h
theorem State.Stored.patinaFresh (h : s.Stored) : s.patinaFresh.Stored := h.frame

theorem State.Stored.patinaUpdate {gains : List Word} (h : s.Stored) : (patinaUpdate gains s).Stored :=
  (((h.frame.patinaFresh.addSat _ _ _ _).setBit _ _ _).raise.ite (h.frame.patinaFresh.addSat _ _ _ _)).ite h

theorem State.Stored.calCommit {src : Src} (h : s.Stored) : (calCommit src s).Stored := by
  unfold Machine.calCommit
  exact h.serveCode fun ht => by
    extract_lets
    split
    · exact ht.fail_fst
    · split
      · exact ht.fail_fst
      · exact ht.frame.fst

theorem State.Stored.calReload {src : Src} {chk : Check} (h : s.Stored) : (calReload src chk s).Stored := by
  unfold Machine.calReload
  exact h.serveCode fun ht => by
    extract_lets
    split
    · exact ht.fail_fst
    · split
      · exact ht.fail_fst
      · exact ht.nvRead.frame.fst

theorem State.Stored.patinaSet {src : Src} (h : s.Stored) : (patinaSet src s).Stored := by
  unfold Machine.patinaSet
  exact h.serveCode fun ht => by
    extract_lets
    split
    · exact ht.fail_fst
    · split
      · exact ht.fail_fst
      · exact (ht.frame.setBit _ _ _).fst

theorem State.Stored.shortOnly {cs : List Nat} (h : s.Stored) : (s.shortOnly cs).Stored := h.setFld _ _ _ _

theorem State.Stored.setClose (h : s.Stored) : s.setClose.Stored := by
  unfold State.setClose
  extract_lets
  split
  · exact h.frame.shortOnly.ite h
  · exact h

theorem State.Stored.patinaSetStart (h : s.Stored) : (patinaSetStart s).Stored := by
  unfold Machine.patinaSetStart
  extract_lets
  split
  · exact h.ite h.takeTc.tableStart.frame.setClose
  · exact h

theorem State.Stored.patinaSetGroup {s0 : State} (h : s0.Stored) : (patinaSetGroup s0).Stored := by
  unfold Machine.patinaSetGroup
  split
  · exact h.ite h.advanceTo.frame.shortNone
  · exact h

theorem State.Stored.patinaSetApply (h : s.Stored) : (patinaSetApply s).Stored := by
  unfold Machine.patinaSetApply
  extract_lets
  split
  · extract_lets _ t
    have ht : t.Stored := ((h.frame.addWord _ _).ite h.frame).calPut
    exact h.ite ((ht.shortNone.setBit _ _ _).addSat _ _ _ _).activeAgain.raise.complete
  · exact h

/-! ## The sequencer (Machine/Sequencer.lean) -/

theorem State.Stored.tableFollow {again : Bool} (h : s.Stored) : (s.tableFollow again).Stored :=
  (h.tableStart.frame.seqLoadEvent.ite h.seqStop).ite (h.activeAgain.ite h.activeStart)

theorem State.Stored.stateBoundary (h : s.Stored) : s.stateBoundary.Stored := by
  unfold State.stateBoundary
  extract_lets q
  have hq : q.Stored := h.patinaAbort
  split
  · exact h
  · split
    · exact hq.frame.toRun.refreshAll.tableFollow.balRefresh.ite hq.frame
    · exact hq.frame.frame.impStop.thermRestart.patinaStop.refreshAll.stateChg.tableFollow.balRefresh.ite hq.frame
    · exact hq.frame.frame.seqStop.frame.impDrop.patinaStop
    · exact hq.frame
    · exact hq.frame
    · exact hq.frame

theorem State.Stored.swapBoundary {wrap : Bool} (h : s.Stored) : (s.swapBoundary wrap).Stored := by
  unfold State.swapBoundary
  extract_lets
  split
  · exact h
  · exact h.ite ((h.swapBanks.ite h).ite h.swapBanks)

theorem State.Stored.runBoundary (h : s.Stored) : s.runBoundary.Stored := h.ite ((h.ite h.seqStop).ite ((h.tableFollow.ite h).ite h))
theorem State.Stored.boundary {wrap : Bool} (h : s.Stored) : (s.boundary wrap).Stored := h.stateBoundary.swapBoundary.applyAtBoundary.runBoundary

theorem State.Stored.alignStart (h : s.Stored) : s.alignStart.Stored := by
  unfold State.alignStart
  extract_lets
  split
  · exact h.tableStart.frame
  · exact h.frame

theorem State.Stored.sweepBoundary (h : s.Stored) : s.sweepBoundary.Stored := ((h.frame.setFld _ _ _ _).ite h).calBoundary
theorem State.Stored.runPass {e : Entry} (h : s.Stored) : (s.runPass e).Stored := (h.sweepBoundary.ite (h.ite h.calBoundary)).planPass
theorem State.Stored.tablePass (h : s.Stored) : s.tablePass.Stored := h.frame.runPass.seqShow.frame.ite h.frame.runPass.seqShow.frame
theorem State.Stored.leadStart (h : s.Stored) : s.leadStart.Stored := h.frame.blankSpan.seqPhase.seqShow
theorem State.Stored.entryStart (h : s.Stored) : s.entryStart.Stored := h.trigWait.seqShow.ite (h.leadStart.ite h.tablePass)

theorem State.Stored.watchPass (h : s.Stored) : s.watchPass.Stored :=
  (h.frame.ite h).seqShow.sweepBoundary.planPass.frame.ite (h.frame.ite h).seqShow.planPass.frame

theorem State.Stored.calPass (h : s.Stored) : s.calPass.Stored := h.setClose.runPass.frame

theorem State.Stored.spanPassed {due : DWord} (h : s.Stored) : (s.spanPassed due).Stored := by
  unfold State.spanPassed
  split
  · exact h.unblank.ite h
  · exact h

theorem State.Stored.seqPassStart {s0 : State} (h : s0.Stored) : (seqPassStart s0).Stored := by
  unfold Machine.seqPassStart
  extract_lets s a b _ _ b'
  have hs : s.Stored := h.spanPassed
  have ha : a.Stored := hs.advanceTo
  have hb : b.Stored := ha.boundary
  have hb' : b'.Stored := ((ha.addWord _ _).ite ha).frame.boundary
  split
  · exact hs
  · exact hs
  · exact hb.calPass.ite hb
  · exact hb.watchPass.ite hb
  · exact hb.tablePass.ite hb
  · exact hb'.alignStart.ite (hb'.entryStart.ite hb')

theorem State.Stored.seqTrigger (h : s.Stored) : (seqTrigger s).Stored := by
  unfold Machine.seqTrigger
  split
  · exact (h.advanceTo.boundary.frame.leadStart.ite h.advanceTo.boundary.frame.tablePass).ite h.advanceTo.boundary
  · exact h

theorem State.Stored.trigmiss (h : s.Stored) : (trigmiss s).Stored := h.raise.frame.seqShow.ite h

theorem State.Stored.blankedSpanEnd (h : s.Stored) : (blankedSpanEnd s).Stored := by
  unfold Machine.blankedSpanEnd
  split
  · exact h.advanceTo.unblank
  · exact h

theorem State.Stored.tableCheckDone (h : s.Stored) : (tableCheckDone s).Stored := by
  unfold Machine.tableCheckDone
  extract_lets
  split
  · exact h
  · split
    · exact ((h.wr _ _).setBit _ _ _).raise
    · exact h.frame.setBit _ _ _

/-! ## Power, reset and scan (Machine/Power.lean) -/

theorem State.Stored.finishPage (h : s.Stored) : s.finishPage.Stored := by
  unfold State.finishPage
  extract_lets
  split
  · exact h.frame
  · exact h.frame.ite (h.frame.stBytes _ _)

theorem State.Stored.resetNode {cause : Word} {phase : Phase} {poweron : Bool} (h : s.Stored) :
    (s.resetNode cause phase poweron).Stored := by
  have hm : Memory.wf (memPart s.mem mramBase 0x100000000) = true := Memory.wf_memPart h.1 _ _
  have hp : Params.wf State.reset.par = true := State.Stored.reset.2
  unfold State.resetNode
  extract_lets _ _ _ _ t u
  have ht : t.Stored := ⟨hm, hp⟩
  have hu : u.Stored := ht.wr _ _
  split
  · exact hu.outShow
  · exact (((((hu.wr _ _).addSat _ _ _ _).wr _ _).wr _ _).setFld _ _ _ _).outShow

theorem State.Stored.resetEnds {test : Bool} (h : s.Stored) : (s.resetEnds test).Stored := h.frame
theorem State.Stored.powerOn {islandKept : Bool} (h : s.Stored) : (powerOn islandKept s).Stored := h.resetNode.frame.resetEnds.ite h
theorem State.Stored.brownOut (h : s.Stored) : (brownOut s).Stored := h.ite (h.finishPage.resetNode.wr _ _).frame.outShow
theorem State.Stored.nrstAccepted (h : s.Stored) : (nrstAccepted s).Stored := h.ite h.finishPage.resetNode
theorem State.Stored.nrstRelease {testHigh : Bool} (h : s.Stored) : (nrstRelease testHigh s).Stored := h.resetEnds.ite h
theorem State.Stored.stuckreset {testHigh : Bool} (h : s.Stored) : (stuckreset testHigh s).Stored := (h.setBit _ _ _).frame.resetEnds.ite h
theorem State.Stored.nrstRearm (h : s.Stored) : (nrstRearm s).Stored := h.frame
theorem State.Stored.softReset {bit : Nat} (h : s.Stored) : (s.softReset bit).Stored := h.finishPage.resetNode.resetEnds
theorem State.Stored.thermalHwCut {tripped : BitVec 6} (h : s.Stored) : (thermalHwCut tripped s).Stored := h.ite h.finishPage.resetNode.frame
theorem State.Stored.thermalCutRelease {seconds : Nat} (h : s.Stored) : (thermalCutRelease seconds s).Stored := h.frame.resetEnds.ite h

theorem State.Stored.bootCal {met : List (Nat × Check)} (h : s.Stored) : (s.bootCal met).Stored := by
  unfold State.bootCal
  dsimp only
  split
  · exact h.foldl fun _ _ ht => ht.wr _ _
  · exact ((((h.foldl fun _ _ ht => ht.wr _ _).wr _ _).wr _ _).wr _ _).wr _ _

theorem State.Stored.slotRun {b : Bool} (h : s.Stored) : (s.slotRun b).Stored := h.frame.setBit _ _ _

theorem State.Stored.bootImage {i : StartUpIn} (h : s.Stored) : (s.bootImage i).Stored := by
  unfold State.bootImage
  extract_lets _ _ _ _ _ s3
  have hs3 : s3.Stored := ((((h.setFld _ _ _ _).setFld _ _ _ _).setFld _ _ _ _).wr _ _).frame
  exact hs3.slotRun.ite ((hs3.slotRun.setBit _ _ _).frame.ite hs3.frame)

theorem State.Stored.bootLeads {i : StartUpIn} (h : s.Stored) : (s.bootLeads i).Stored := by
  unfold State.bootLeads
  extract_lets _ _ _ _ _ _ _ _ _ _ s3
  have hs3 : s3.Stored := ((((h.transient.ite h).frame.wr _ _).wr _ _).wr _ _).wr _ _
  exact hs3.ite hs3.frame.raise

theorem State.Stored.bootRecords {met : List (Nat × Check)} (h : s.Stored) : (s.bootRecords met).Stored := by
  unfold State.bootRecords
  dsimp only
  split
  · split
    · exact (h.wr _ _).frame.wr _ _
    · exact h.frame.wr _ _
  · split
    · exact h.wr _ _
    · exact h

theorem State.Stored.bootLog {met : List (Nat × Check)} (h : s.Stored) : (s.bootLog met).Stored := h.ite (((h.wr _ _).wr _ _).setBit _ _ _)

theorem State.Stored.startUp {i : StartUpIn} (h : s.Stored) : (startUp i s).Stored := by
  unfold Machine.startUp
  extract_lets _ s2
  have hs2 : s2.Stored := (h.nvMetCount.setFld _ _ _ _).bootCal.fullRound.bootImage
  exact (hs2.ite hs2.bootLeads.bootRecords.frame.discoverStart).ite h

theorem State.Stored.placeHeld (h : s.Stored) : s.placeHeld.Stored := by
  unfold State.placeHeld
  extract_lets _ _ u
  have hu : u.Stored := h.frame.foldl fun _ _ ht => ht.evPlace
  exact (hu.ringOverflow.ite hu).foldl fun _ _ ht => ht.logPut

theorem State.Stored.readyReports (h : s.Stored) : s.readyReports.Stored := by
  unfold State.readyReports
  dsimp only
  split
  · split
    · split
      · exact ((((h.raise.ite h).raise.ite (h.raise.ite h)).raise.setBit _ _ _).addSat _ _ _ _).raise.raise.frame
      · exact ((((h.raise.ite h).raise.ite (h.raise.ite h)).setBit _ _ _).addSat _ _ _ _).raise.raise.frame
    · split
      · exact ((h.raise.ite h).raise.ite (h.raise.ite h)).raise.raise.frame
      · exact ((h.raise.ite h).raise.ite (h.raise.ite h)).raise.frame
  · split
    · split
      · exact ((((h.raise.ite h).raise.ite (h.raise.ite h)).raise.setBit _ _ _).addSat _ _ _ _).raise.frame
      · exact ((((h.raise.ite h).raise.ite (h.raise.ite h)).setBit _ _ _).addSat _ _ _ _).raise.frame
    · split
      · exact ((h.raise.ite h).raise.ite (h.raise.ite h)).raise.frame
      · exact ((h.raise.ite h).raise.ite (h.raise.ite h)).frame

theorem State.Stored.ready {micros : Nat} {mram : List (Nat × Check)} (h : s.Stored) : (ready micros mram s).Stored := by
  unfold Machine.ready
  extract_lets _ _ s1 _ _ _ _ _ _ _ _ _ _ s4
  have hs1 : s1.Stored := (h.nvMetCount.wr _ _).bootLog.cfgRestore.portsInForce
  have hs4 : s4.Stored := hs1.frame.notifyFrom.reqRun.rearm.thermRestart.takeTc.placeHeld.readyReports.stateChg
  exact (hs4.tableFollow.ite hs4).peersRefresh.probeAll.balRefresh.pinsFollow.slotShow.settle.ite h

theorem State.Stored.portSleep {p : Fin 4} (h : s.Stored) : (s.portSleep p).Stored := h.control.control.control.setPort.ite h

theorem State.Stored.collectEnd (h : s.Stored) : s.collectEnd.Stored := by
  unfold State.collectEnd
  extract_lets
  split
  · exact h
  · exact ((h.frame.foldl fun _ _ ht => ht.snapClose).wr _ _).sweepEnd

theorem State.Stored.hatboxEntryComplete (h : s.Stored) : (hatboxEntryComplete s).Stored := by
  unfold Machine.hatboxEntryComplete
  extract_lets _ s0 _ _ _ s2
  have hs0 : s0.Stored := h.nvPageWriteDone.collectEnd
  have hs2 : s2.Stored := (hs0.frame.sliceFree.ite hs0).frame.wr _ _
  exact (((hs2.topoChg.ite hs2).foldl fun _ _ ht => ht.portSleep).stateChg.frame.wr _ _).leadsOff.balRefresh.ite h

theorem State.Stored.wakeBy {ok : Bool} {cause : Word} (h : s.Stored) : (s.wakeBy ok cause).Stored := (h.wr _ _).ite h
theorem State.Stored.nwake (h : s.Stored) : (nwake s).Stored := h.wakeBy
theorem State.Stored.linkActivityWake {port : Fin 4} (h : s.Stored) : (linkActivityWake port s).Stored := h.wakeBy
theorem State.Stored.hatboxAlarm (h : s.Stored) : (hatboxAlarm s).Stored := h.wakeBy
theorem State.Stored.safetyComparatorWake (h : s.Stored) : (safetyComparatorWake s).Stored := h.wakeBy
theorem State.Stored.auxUnknown (h : s.Stored) : s.auxUnknown.Stored := h.foldl fun _ _ ht => ht.wr _ _

theorem State.Stored.hatboxWake {slept : Nat} (h : s.Stored) : (hatboxWake slept s).Stored := by
  unfold Machine.hatboxWake
  extract_lets _ _ _ _ _ _ _ _ s1 s2 s3 _ s4 _ s5
  have hs3 : s3.Stored := ((State.Stored.frame h).auxUnknown.setBit _ _ _).reqRun.rearm.thermRestart.thermShow.stateChg.timerCatchUp
  have hs4 : s4.Stored := hs3.ite hs3.raise
  have hs5 : s5.Stored := by
    dsimp only [s5]
    split
    · exact hs4.frame.raise
    · exact hs4
  exact hs5.tableFollow.balRefresh.settle.ite h

theorem State.Stored.enterScan (h : s.Stored) : s.enterScan.Stored := by
  have hs : ({ s with mem := memPart s.mem 0x00080000 0x100000000 }).Stored := ⟨Memory.wf_memPart h.1 _ _, h.2⟩
  exact ((hs.foldl fun _ _ ht => ht.wr _ _).idPut.finishPage).frame

theorem State.Stored.scanUnlockFrame {cycles : Nat} {bits : BitVec 56} (h : s.Stored) : (scanUnlockFrame cycles bits s).Stored :=
  (h.frame.ite (h.frame.ite h.enterScan)).ite h

theorem State.Stored.scanUnlockTimeout (h : s.Stored) : (scanUnlockTimeout s).Stored := h.frame.ite h
theorem State.Stored.safeAck {src : Src} (h : s.Stored) : (Machine.safeAck src s).Stored := h.serveCode fun ht => ht.safeAck_fst
theorem State.Stored.safeStop {src : Src} (h : s.Stored) : (Machine.safeStop src s).Stored := h.serveCode fun ht => ht.safeStop_fst

/-! ## A tick (Machine/Tick.lean) -/

theorem State.Stored.edgeTaken (h : s.Stored) : s.edgeTaken.Stored :=
  ((h.boundary.calBoundary.ite h.boundary).alignStart.ite (h.boundary.calBoundary.ite h.boundary)).settle

theorem State.Stored.patinaClock (h : s.Stored) : s.patinaClock.Stored := by
  unfold State.patinaClock
  extract_lets
  split
  · split
    · exact h.patinaPlan
    · exact h
  · exact h

theorem State.Stored.tick (h : s.Stored) : s.tick.Stored := by
  unfold State.tick
  extract_lets _ _ t
  have ht : t.Stored := h.frame.tmrTick.atTick
  split
  · exact h.softReset
  · split
    · exact h
    · exact h.frame
    · exact h.frame
    · exact (ht.edgeTaken.ite ht).patinaClock
    · exact (ht.edgeTaken.ite ht).patinaClock
    · exact (ht.edgeTaken.ite ht).patinaClock

/-! ## Every command -/

/-- Where an outcome is a next state, its stores are in canonical form. -/
def AnswersStored : Host.Outcome State Fault Refusal → Prop
  | .next t => t.Stored
  | .fault _ | .refused _ => True

theorem State.Stored.exec (h : s.Stored) : ∀ c : Instr, AnswersStored (Machine.exec c s)
  | .powerOn _ => h.powerOn
  | .startUp _ => h.startUp
  | .ready _ _ => h.ready
  | .brownOut => h.brownOut
  | .nrstAccepted => h.nrstAccepted
  | .nrstRelease _ => h.nrstRelease
  | .stuckreset _ => h.stuckreset
  | .nrstRearm => h.nrstRearm
  | .reffail => h.reffail
  | .reflock _ => h.reflock
  | .housekeepingRound _ => h.housekeepingRound
  | .guardEntryAfterStop => h.guardEntryAfterStop
  | .thermalHwCut _ => h.thermalHwCut
  | .thermalCutRelease _ => h.thermalCutRelease
  | .stateReqRun _ => h.stateReqRun.settle
  | .stateReqWatch _ => h.stateReqWatch.settle
  | .stateReqHatbox _ => h.stateReqHatbox.settle
  | .hatboxEntryComplete => h.hatboxEntryComplete
  | .nwake => h.nwake
  | .linkActivityWake _ => h.linkActivityWake
  | .hatboxAlarm => h.hatboxAlarm
  | .safetyComparatorWake => h.safetyComparatorWake
  | .hatboxWake _ => h.hatboxWake
  | .spiFrame _ _ => h.spiFrame
  | .canFdRequest _ _ => h.canFdRequest
  | .uartFrame _ => h.uartFrame
  | .uartFrameTimeout => h.uartFrameTimeout
  | .hosterr => h.hosterr
  | .hostPortReconfig => h.hostPortReconfig
  | .registerWrite _ _ _ => h.registerWrite
  | .readClear _ _ => h.readClear
  | .streamWinRead _ _ => h.streamWinRead.settle
  | .evtTailWrite _ _ => h.evtTailWrite
  | .doorbellGo _ => h.doorbellGo
  | .doorbellAbort _ => h.doorbellAbort
  | .nop _ => h.nop
  | .identify _ => h.identify
  | .sysReset _ => h.sysReset
  | .paramGet _ _ => h.paramGet.settle
  | .paramSet _ => h.paramSet.settle
  | .paramStage _ => h.paramStage
  | .paramApply _ => h.paramApply.settle
  | .paramDiscard _ => h.paramDiscard
  | .cfgSave _ => h.cfgSave
  | .cfgDefaults _ => h.cfgDefaults.settle
  | .nvPageWriteDone _ => h.nvPageWriteDone
  | .remoteRequest _ _ _ => h.remoteRequest
  | .remoteResponse _ _ => h.remoteResponse
  | .remoteTimeout => h.remoteTimeout
  | .eventFrame _ _ _ _ => h.eventFrame
  | .fwBegin _ => h.fwBegin
  | .fwData _ => h.fwData
  | .fwEnd _ _ _ => h.fwEnd
  | .fwActivate _ => h.fwActivate
  | .fwCommit _ => h.fwCommit
  | .fwAbort _ => h.fwAbort
  | .seqPassStart => h.seqPassStart.settle
  | .seqTrigger => h.seqTrigger.settle
  | .trigmiss => h.trigmiss.settle
  | .blankedSpanEnd => h.blankedSpanEnd
  | .seqLoad _ => h.seqLoad
  | .tableCheckDone => h.tableCheckDone
  | .seqRunWrite _ => h.seqRunWrite
  | .conversionResult _ _ => h.conversionResult
  | .streamBurstWrite _ => h.streamBurstWrite
  | .streamEnable _ => h.streamEnable
  | .streamTailWrite _ => h.streamTailWrite
  | .hostInjectionRequest _ => h.hostInjectionRequest
  | .injectionStart _ => h.injectionStart
  | .wintrackTimeout => h.wintrackTimeout
  | .patinaRotationMark => h.patinaRotationMark
  | .patinaUpdate _ => h.patinaUpdate
  | .patinaSet _ => h.patinaSet
  | .patinaSetStart => h.patinaSetStart.settle
  | .patinaSetGroup => h.patinaSetGroup
  | .patinaSetApply => h.patinaSetApply.settle
  | .calCommit _ => h.calCommit
  | .calReload _ _ => h.calReload
  | .patHoldRelease _ => h.patHoldRelease
  | .impMeasurementStart _ _ => h.impMeasurementStart
  | .impAnnounceReceived _ _ _ => h.impAnnounceReceived
  | .impPassStart => h.impPassStart
  | .impSegmentEnd _ => h.impSegmentEnd
  | .impPhasorReceived _ => h.impPhasorReceived
  | .impPhasorTimeout _ => h.impPhasorTimeout
  | .impFitDone => h.impFitDone
  | .balPlanEvaluate _ _ => h.balPlanEvaluate
  | .balReport _ => h.balReport
  | .balAssignmentReceived _ => h.balAssignmentReceived
  | .balAssignmentApply => h.balAssignmentApply
  | .balLeaseLapse => h.balLeaseLapse
  | .balOvercurrentTrip _ => h.balOvercurrentTrip
  | .balReclose _ => h.balReclose
  | .shuttleFrameSend _ _ => h.shuttleFrameSend
  | .probenow _ => h.probenow
  | .probeStart _ => h.probeStart
  | .probeCycleEnd _ _ => h.probeCycleEnd
  | .timerWrap _ => h.timerWrap
  | .timerMatch _ _ => h.timerMatch
  | .timerCapture _ _ => h.timerCapture
  | .timerStartStop _ => h.timerStartStop
  | .timerAtStart => h.timerAtStart
  | .timerCountWrite _ => h.timerCountWrite
  | .linkControlReceived _ _ _ _ => h.linkControlReceived
  | .linkTrainBlock _ _ => h.linkTrainBlock
  | .linkDown _ _ => h.linkDown
  | .linkRetrainDelay _ => h.linkRetrainDelay
  | .keepaliveSend _ => h.keepaliveSend
  | .frameReceive _ _ _ => h.frameReceive
  | .linkAckTimeout _ _ _ => h.linkAckTimeout.settle
  | .discover _ => h.discover
  | .topoFrame _ _ => h.topoFrame
  | .discdone => h.discdone
  | .stringAssign _ _ => h.stringAssign
  | .fabWake _ => h.fabWake
  | .wakeFrame _ => h.wakeFrame
  | .timeSyncSend => h.timeSyncSend
  | .timeFrame _ _ _ => h.timeFrame
  | .sweepStart _ => h.sweepStart
  | .sweepStop _ => h.sweepStop
  | .sweepAnnounce _ => h.sweepAnnounce
  | .snapshotTime => h.snapshotTime
  | .sweepRecordSend => h.sweepRecordSend
  | .sweepRecordReceive _ _ _ _ => h.sweepRecordReceive.settle
  | .snapshotCloseTimeout => h.snapshotCloseTimeout
  | .sweepIsolated => h.sweepIsolated
  | .sweepHoldExpiry => h.sweepHoldExpiry
  | .heldRecordSend => h.heldRecordSend
  | .snapshotTrigger _ => h.snapshotTrigger
  | .snapshotFrozen => h.snapshotFrozen
  | .fabricTriggerReceived _ _ _ => h.fabricTriggerReceived
  | .snapFree _ => h.snapFree
  | .goalSet _ => h.goalSet
  | .goalClear _ => h.goalClear
  | .goalTableFrame _ _ _ => h.goalTableFrame
  | .checkpoint _ _ => h.checkpoint
  | .jobFrame _ => h.jobFrame
  | .jobMoveAck _ _ => h.jobMoveAck
  | .jobMoveTimeout _ => h.jobMoveTimeout
  | .recordCopy _ => h.recordCopy
  | .recordRead _ _ => h.recordRead.settle
  | .digestClose _ _ => h.digestClose
  | .digestRead _ _ => h.digestRead.settle
  | .safetyTick => h.safetyTick
  | .safeAck _ => h.safeAck
  | .safeStop _ => h.safeStop
  | .feedbackChange _ _ => h.feedbackChange
  | .closeSequence => h.closeSequence
  | .feedbackTimeout _ => h.feedbackTimeout
  | .closeSequenceRetry => h.closeSequenceRetry
  | .offtestPulseEnd _ => h.offtestPulseEnd
  | .offtestRetry => h.offtestRetry
  | .tpPulse _ => h.tpPulse
  | .tpPulseEnd _ _ _ _ => h.tpPulseEnd
  | .inputChange _ _ => h.inputChange
  | .twinFrameSend => h.twinFrameSend
  | .twinFrameReceive _ _ => h.twinFrameReceive
  | .twinCopyTimeout _ => h.twinCopyTimeout
  | .safewdog _ _ => h.safewdog
  | .chiselSliceStart => h.chiselSliceStart
  | .chiselSliceEnd _ => h.chiselSliceEnd.settle
  | .laneRepair => h.laneRepair.settle
  | .memoryRepairDone => h.memoryRepairDone
  | .chiselStatus _ => h.chiselStatus
  | .scanUnlockFrame _ _ => h.scanUnlockFrame
  | .scanUnlockTimeout => h.scanUnlockTimeout
  | .edramRefresh => h.edramRefresh
  | .edramRefreshLate _ => h.edramRefreshLate
  | .keyCheck _ _ => h.keyCheck
  | .attest _ _ _ => h.attest
  | .ownerAccept _ => h.ownerAccept
  | .logRead _ _ => h.logRead
  | .timerGatePinChange _ _ => h.timerGatePinChange
  | .chopPassBudgetTimeout => h.chopPassBudgetTimeout
  | .sweepAnnounceRepeat => h.sweepAnnounceRepeat
  | .jobRecordInterval _ _ _ => h.jobRecordInterval
  | .hatboxRefreshComparatorRead _ => h.hatboxRefreshComparatorRead
  | .intNoticeHoldoffEnd => h.intNoticeHoldoffEnd

theorem State.Stored.step (h : s.Stored) : AnswersStored (Machine.step s) := by
  unfold Machine.step
  split
  · exact State.Stored.exec h.frame _
  · exact h.tick

end

/-- Settles O5: each command, and the tick of an empty queue, keeps the canonical form. -/
theorem stepKeepsStored : Obligations.StepKeepsStored := by
  intro s t h hst
  have hs : AnswersStored (step s) := h.step
  rwa [hst] at hs

/-- Settles O4. -/
theorem resetMeetsInvariants : Obligations.ResetMeetsInvariants :=
  ⟨State.Stored.reset, .inr (.inr ⟨rfl, rfl, rfl, rfl, rfl⟩)⟩

end Sys2Proof.Machine
end

section
/-! PROOFS. The tick of an empty queue (log 6). -/
namespace Sys2Proof.Machine

theorem step_of_pending_nil {s : State} (hp : s.pending = []) : step s = .next s.tick := by
  unfold step
  rw [hp]

theorem State.tick_of_start {s : State} (hr : s.pwr.resetDue = none) (hm : s.pwr.mode = .start) :
    s.tick = { s with clk := { s.clk with ref := s.clk.ref + 1 } } := by
  simp only [State.tick, hr, hm]

theorem State.tick_of_hatbox {s : State} (hr : s.pwr.resetDue = none) (hm : s.pwr.mode = .hatbox) :
    s.tick = { s with clk := { s.clk with slow := s.clk.slow + 1 } } := by
  simp only [State.tick, hr, hm]

theorem State.tick_of_off {s : State} (hr : s.pwr.resetDue = none) (hm : s.pwr.mode = .off) : s.tick = s := by
  simp only [State.tick, hr, hm]

/-- Settles O2, by the mode the tick finds. -/
theorem emptyQueueIsATick : Obligations.EmptyQueueIsATick := fun _ hp =>
  ⟨step_of_pending_nil hp, State.tick_of_start, State.tick_of_hatbox, State.tick_of_off⟩

end Sys2Proof.Machine
end

section
/-! PROOFS. What an event and the end of a command leave of parameters and memory, and the page writes (R418, R419). -/
namespace Sys2Proof.Machine

/-! ## What an event and the end of a command leave of the parameters -/

/-- What every step of a fold over sound states leaves as it is, the fold leaves as it is. -/
theorem State.Stored.foldl_keeps {s : State} {α γ : Type} {f : State → α → State} (h : s.Stored) (g : State → γ) (l : List α)
    (hf : ∀ t x, t.Stored → (f t x).Stored) (hg : ∀ t x, t.Stored → g (f t x) = g t) : g (l.foldl f s) = g s := by
  induction l generalizing s with
  | nil => rfl
  | cons x l ih => rw [List.foldl_cons, ih (hf s x h), hg s x h]

/-- The parameters that count what becomes of events, of their log entries and of frames without a route. -/
def countParams : List Nat := [0x020E, 0x200F, 0x4008, 0x4009, 0x400A]

section
variable {s : State} {j : Nat}

theorem State.rd_eq_of_par {s t : State} (h : t.par = s.par) (j : Nat) : t.rd j = s.rd j := by rw [State.rd, State.rd, h]

theorem State.Stored.rd_addSat_ne (h : s.Stored) {id lo width n : Nat} (hj : j ≠ id) : (s.addSat id lo width n).rd j = s.rd j :=
  State.rd_setFld_ne h _ _ _ _ _ hj

theorem State.Stored.rd_sendTo (h : s.Stored) (hj : j ≠ 0x200F) {ty : Byte} {dst : FAddr} {bs : List Byte} :
    (s.sendTo ty dst bs).rd j = s.rd j := by
  unfold State.sendTo State.forward
  dsimp only
  split
  · exact State.rd_eq_of_par (by simp) j
  · exact h.frame.rd_addSat_ne hj

theorem State.Stored.rd_evForward (h : s.Stored) (hj : j ≠ 0x200F) {e : EvEntry} : (s.evForward e).rd j = s.rd j := by
  unfold State.evForward
  split
  · exact h.foldl_keeps (State.rd · j) _ (fun _ _ ht => ht.sendTo) fun _ _ ht => ht.rd_sendTo hj
  · rfl

theorem State.Stored.rd_ringAdd (h : s.Stored) (hj : j ≠ 0x020E) {ws : List Word} {n : Nat} : (s.ringAdd ws n).rd j = s.rd j := by
  unfold State.ringAdd
  split
  · exact h.rd_addSat_ne hj
  · exact State.rd_eq_of_par (by simp) j

theorem State.Stored.rd_evPlace (h : s.Stored) (hj : j ∉ countParams) {e : EvEntry} : (s.evPlace e).rd j = s.rd j := by
  simp only [countParams, List.mem_cons, List.not_mem_nil, or_false, not_or] at hj
  unfold State.evPlace
  split
  · rw [h.ringAdd.rd_evForward hj.2.1, h.rd_ringAdd hj.1]
  · rfl

theorem State.Stored.rd_logPut (h : s.Stored) (hj : j ∉ countParams) {e : EvEntry} : (s.logPut e).rd j = s.rd j := by
  have hj' := hj
  simp only [countParams, List.mem_cons, List.not_mem_nil, or_false, not_or] at hj'
  obtain ⟨-, -, hnum, hold, hcut⟩ := hj'
  unfold State.logPut
  extract_lets _ _ _ s1 _ _ s2 s3
  have hs1 : s1.Stored := h.frame
  have hs3 : s3.rd j = s.rd j := by
    rw [State.rd_eq_of_par (State.nvPut_par ..) j, State.rd_wr (hs1.wr _ _), if_neg hold, State.rd_wr hs1, if_neg hnum]
    rfl
  split
  · split
    · rw [((hs1.wr _ _).wr _ _).nvPut.rd_evPlace hj, hs3]
    · exact hs3
  · exact h.rd_addSat_ne hcut

theorem State.Stored.rd_raiseC (h : s.Stored) (hj : j ∉ countParams) {n : Nat} {data : Word} {cleared : Bool} :
    (s.raiseC n data cleared).rd j = s.rd j := by
  have hdis : j ≠ 0x020E := fun hx => hj (by simp [hx, countParams])
  unfold State.raiseC
  extract_lets e t _ t1
  have ht : t.Stored := h.ite h.triggers
  have ht1 : t1.Stored := ht.frame.ite ht
  have htr : t.rd j = s.rd j := by
    dsimp only [t]
    split
    · rfl
    · exact State.rd_eq_of_par (State.triggers_par ..) j
  have ht1r : t1.rd j = s.rd j := by
    dsimp only [t1]
    split <;> exact htr
  split
  · split
    · rw [ht.logPut.rd_evPlace hj, ht.rd_logPut hj, htr]
    · rw [ht.rd_evPlace hj, htr]
  · split
    · split
      · exact ht1r
      · exact (ht1.rd_addSat_ne hdis).trans ht1r
    · exact ht1r

theorem State.Stored.rd_raise (h : s.Stored) (hj : j ∉ countParams) {n : Nat} {data : Word} : (s.raise n data).rd j = s.rd j :=
  h.rd_raiseC hj

theorem State.Stored.rd_complete (h : s.Stored) (hj : j ≠ 0x200F) {src : Src} {status : Byte} {rsp : List Word} :
    (s.complete src status rsp).rd j = s.rd j := by
  unfold State.complete
  split
  · split
    · exact State.rd_eq_of_par (by simp) j
    · rfl
  · split
    · exact h.frame.rd_sendTo hj
    · rfl

end

/-! ## What an event leaves of the memory: all but the ring (R85) -/

section
variable {s : State} {x : Nat}

theorem State.ldByte_eq_of_mem {s t : State} (h : t.mem = s.mem) (x : Nat) : t.ldByte x = s.ldByte x := by rw [State.ldByte, State.ldByte, h]

theorem EvEntry.words_length (e : EvEntry) (fwd : Bool) : (e.words fwd).length = 4 := rfl

theorem State.Stored.ldByte_ringPut (h : s.Stored) (hx : x < 0x5F000 ∨ 0x60000 ≤ x) {ws : List Word} (hl : ws.length = 4) {n : Nat} :
    (s.ringPut ws n).ldByte x = s.ldByte x := by
  unfold State.ringPut
  rw [State.ldByte_eq_of_mem (State.notifyFrom_mem ..)]
  refine State.ldByte_stWords h _ x ws ?_
  simp only [ringBase, hl]
  omega

theorem State.Stored.ldByte_evPlace (h : s.Stored) (hx : x < 0x5F000 ∨ 0x60000 ≤ x) {e : EvEntry} :
    (s.evPlace e).ldByte x = s.ldByte x := by
  unfold State.evPlace
  split
  · rw [State.ldByte_eq_of_mem (State.evForward_mem ..)]
    unfold State.ringAdd
    split
    · exact State.ldByte_eq_of_mem (State.evDiscard_mem ..) x
    · exact h.ldByte_ringPut hx (e.words_length false)
  · rfl

theorem State.Stored.ldByte_logPut (h : s.Stored) (hx : x < 0x5F000 ∨ 0x60000 ≤ x) {e : EvEntry} :
    (s.logPut e).ldByte x = s.ldByte x := by
  unfold State.logPut
  extract_lets _ _ _ s1 _ _ s2 s3
  have hs3 : s3.Stored := ((h.frame.wr _ _).wr _ _).nvPut
  split
  · split
    · exact hs3.ldByte_evPlace hx
    · rfl
  · rfl

theorem State.Stored.ldByte_raiseC (h : s.Stored) (hx : x < 0x5F000 ∨ 0x60000 ≤ x) {n : Nat} {data : Word} {cleared : Bool} :
    (s.raiseC n data cleared).ldByte x = s.ldByte x := by
  unfold State.raiseC
  extract_lets e t _ t1
  have ht : t.Stored := h.ite h.triggers
  have htm : t.mem = s.mem := by
    dsimp only [t]
    split
    · rfl
    · exact State.triggers_mem ..
  have ht1m : t1.mem = s.mem := by
    dsimp only [t1]
    split <;> exact htm
  split
  · split
    · rw [ht.logPut.ldByte_evPlace hx, ht.ldByte_logPut hx, State.ldByte_eq_of_mem htm]
    · rw [ht.ldByte_evPlace hx, State.ldByte_eq_of_mem htm]
  · split
    · split
      · exact State.ldByte_eq_of_mem ht1m x
      · exact State.ldByte_eq_of_mem ((State.evDiscard_mem ..).trans ht1m) x
    · exact State.ldByte_eq_of_mem ht1m x

end

/-! ## Page writes (R418, R419) -/

/-- A byte inside a run of bytes that was written. -/
theorem State.ldByte_stBytes_inside {s : State} (h : s.Stored) (a x : Nat) (bs : List Byte) (hx : a ≤ x ∧ x < a + bs.length) :
    (s.stBytes a bs).ldByte x = nth bs (x - a) 0 := by
  induction bs generalizing s a with
  | nil => exact absurd hx (by simp)
  | cons b t ih =>
    have hl : a ≤ x ∧ x < a + (t.length + 1) := hx
    rw [State.stBytes]
    by_cases hxa : x = a
    · subst hxa
      rw [State.ldByte_stBytes (h.stByte x b) (x + 1) x t (by omega), State.ldByte_stByte h, if_pos rfl, Nat.sub_self]
      rfl
    · rw [ih (h.stByte a b) (a + 1) (by omega), show x - a = x - (a + 1) + 1 by omega]
      rfl

/-- The state once the page at the head of the queue is verified: its bytes are in memory, it is counted, and the other requesters come first. -/
def State.pageWritten (s : State) (w : NvWrite) (rest : List NvWrite) : State :=
  ({ s with nv := { s.nv with queue := nvTurn w.job rest, drained := false } }.stBytes w.addr w.data).addWord 0x4003 1

section
variable {s : State} {w : NvWrite} {rest : List NvWrite}

theorem State.Stored.pageWritten (h : s.Stored) : (s.pageWritten w rest).Stored := (h.frame.stBytes _ _).addWord _ _

theorem State.Stored.rd_pageWritten (h : s.Stored) (j : Nat) : (s.pageWritten w rest).rd j = if j = 0x4003 then s.rd 0x4003 + 1 else s.rd j := by
  have hr (i : Nat) : (State.stBytes { s with nv := { s.nv with queue := nvTurn w.job rest, drained := false } } w.addr w.data).rd i = s.rd i :=
    State.rd_eq_of_par (by simp) i
  unfold State.pageWritten State.addWord
  rw [State.rd_wr (h.frame.stBytes _ _), hr, hr]
  rfl

theorem State.Stored.ldByte_pageWritten (h : s.Stored) (x : Nat) : (s.pageWritten w rest).ldByte x =
    if w.addr ≤ x ∧ x < w.addr + w.data.length then nth w.data (x - w.addr) 0 else s.ldByte x := by
  unfold State.pageWritten
  rw [State.ldByte_eq_of_mem (State.addWord_mem ..)]
  split
  case isTrue hx => exact State.ldByte_stBytes_inside h.frame _ _ _ hx
  case isFalse hx => exact State.ldByte_stBytes h.frame _ _ _ (by omega)

theorem nvPageWriteDone_pass (ha : s.awake = true) (hh : s.nv.hold = false) (hq : s.nv.queue = w :: rest) :
    nvPageWriteDone .pass s = if w.last then (s.pageWritten w rest).nvFinish w.job else s.pageWritten w rest := by
  simp [nvPageWriteDone, hq, ha, hh, State.pageWritten]

theorem nvPageWriteDone_lasting_goals (ha : s.awake = true) (hh : s.nv.hold = false) (hq : s.nv.queue = w :: rest) (hj : w.job = .goals) :
    nvPageWriteDone .lasting s =
      ({ s with nv := { s.nv with queue := (nvTurn w.job rest).filter (fun x => w.last || !(x.job == w.job)), drained := false } }.addSat
        0x4004 0 16 1).raise 89 (pack [(0, 4, (nvRegion w.addr).1), (4, 12, (nvRegion w.addr).2)]) := by
  simp [nvPageWriteDone, hq, ha, hh, hj, State.nvStop]

/-- The last page of a boot job names the slot to boot from and asks for a reset (R95). -/
theorem State.Stored.nvFinish_boot (h : s.Stored) (src : Src) : (s.nvFinish (.boot src)).pwr.resetDue = some 5 ∧
    (s.nvFinish (.boot src)).fld 0x0108 0 2 = if s.nv.fwTarget then 1 else 0 := by
  refine ⟨rfl, ?_⟩
  have hc := (h.setFld 0x0108 0 2 (b2n s.nv.fwTarget)).rd_complete (j := 0x0108) (by decide) (src := src) (status := stOk) (rsp := [])
  have hf := State.fld_setFld_same h 0x0108 0 2 (b2n s.nv.fwTarget) (by decide)
  calc (s.nvFinish (.boot src)).fld 0x0108 0 2
      = (s.setFld 0x0108 0 2 (b2n s.nv.fwTarget)).fld 0x0108 0 2 := congrArg (bitsOf · 0 2) hc
    _ = if s.nv.fwTarget then 1 else 0 := by rw [hf]; cases s.nv.fwTarget <;> rfl

end

/-- Settles O30. -/
theorem pageWrites : Obligations.PageWrites := by
  intro s h ha hh
  refine ⟨fun hq chk => ?_, fun w rest hq u hu => ?_⟩
  · show Host.Outcome.next (nvPageWriteDone chk s) = .next s
    simp only [nvPageWriteDone, hq]
  · have hu' : u = s.pageWritten w rest := hu
    have hus : u.Stored := hu' ▸ h.pageWritten
    have hpass : exec (.nvPageWriteDone .pass) s = .next (if w.last then u.nvFinish w.job else u) := by
      rw [hu', ← nvPageWriteDone_pass ha hh hq]; rfl
    refine ⟨fun hw => ?_, fun bank src hl hj => ?_, fun src hl hj => ?_, ?_, ?_, ?_, ?_⟩
    · rw [hpass]
      rcases hw with hl | hj | hj | hj | hj | hj <;> simp [*, State.nvFinish]
    · rw [hpass, if_pos hl, hj]
      cases bank <;> rfl
    · rw [hpass, if_pos hl, hj]
      have hn : u.nv.fwTarget = s.nv.fwTarget := by simp [hu', State.pageWritten]
      exact ⟨_, rfl, (hus.nvFinish_boot src).1, hn ▸ (hus.nvFinish_boot src).2⟩
    · exact hu' ▸ h.ldByte_pageWritten
    · rw [hu', h.rd_pageWritten, if_pos rfl]
    · intro j hj
      rw [hu', h.rd_pageWritten, if_neg hj]
    · intro hj
      have hg := nvPageWriteDone_lasting_goals ha hh hq hj
      refine ⟨nvPageWriteDone .lasting s, rfl, hg, fun a ha' => ?_⟩
      rw [hg]
      exact (h.frame.addSat _ _ _ _).ldByte_raiseC (.inr (by omega))

end Sys2Proof.Machine
end

section
/-! PROOFS. The reference source (R10, R11), the housekeeping round (R151), and Guard after an orderly stop (R338). -/
namespace Sys2Proof.Machine

/-! ## What most operations leave of a node's stance -/

/-- What of a state the statements about the round and about Guard speak of: the last values of the channels and the number of the pass, the mode, the
cause of Guard, and the two output leads. -/
def State.Stands (s : State) (d : (List Int × Nat) × Mode × BitVec 4 × Bool × Bool) : Prop :=
  ((s.sense.last, s.conv.passNo), s.pwr.mode, s.pwr.gcause, s.pins.safeH, s.pins.safeL) = d

section
variable {s : State} {d : (List Int × Nat) × Mode × BitVec 4 × Bool × Bool}

theorem State.Stands.frame {clk par mem host ev nv seq pat imp bal tmr ports fab sweep snap plc therm safe chis serial free pending} (h : s.Stands d) :
    (State.mk clk s.pwr par mem host ev nv s.sense s.conv seq pat imp bal tmr ports fab sweep snap plc therm safe chis s.pins serial free pending).Stands d := h

theorem State.Stands.frame_sense {clk par mem host ev nv cellRange auxRange comp gain v5 clean pulsed blankOut sweepOut seq pat imp bal tmr ports
    fab sweep snap plc therm safe chis serial free pending} (h : s.Stands d) :
    (State.mk clk s.pwr par mem host ev nv (Sense.mk cellRange auxRange s.sense.last comp gain v5 clean pulsed blankOut sweepOut) s.conv seq pat
      imp bal tmr ports fab sweep snap plc therm safe chis s.pins serial free pending).Stands d := h

theorem State.Stands.frame_conv {clk par mem host ev nv plan inject safetyInj started filters streams clip captures lost tc refresh repair busy
    lastTable seq pat imp bal tmr ports fab sweep snap plc therm safe chis serial free pending} (h : s.Stands d) :
    (State.mk clk s.pwr par mem host ev nv s.sense (Conv.mk plan inject safetyInj started filters streams clip captures lost tc refresh repair
      s.conv.passNo busy lastTable) seq pat imp bal tmr ports fab sweep snap plc therm safe chis s.pins serial free pending).Stands d := h

theorem State.Stands.frame_pwr {clk phase request hatbox stuck stuckDue brownDue cutDue cutMask bootDue scanDue guardDue roundDue roundOn
    stopping resetDue unlock strapOk strap par mem host ev nv seq pat imp bal tmr ports fab sweep snap plc therm safe chis serial free pending} (h : s.Stands d) :
    (State.mk clk (Power.mk s.pwr.mode phase s.pwr.gcause request hatbox stuck stuckDue brownDue cutDue cutMask bootDue scanDue guardDue roundDue
      roundOn stopping resetDue unlock strapOk strap) par mem host ev nv s.sense s.conv seq pat imp bal tmr ports fab sweep snap plc therm safe
      chis s.pins serial free pending).Stands d := h

theorem State.Stands.ite {c : Prop} {_ : Decidable c} {a b : State} (ha : a.Stands d) (hb : b.Stands d) : (if c then a else b).Stands d := by
  split
  · exact ha
  · exact hb

theorem State.Stands.foldl {α : Type} {f : State → α → State} {l : List α} (h : s.Stands d)
    (hf : ∀ t x, t.Stands d → (f t x).Stands d) : (l.foldl f s).Stands d := by
  induction l generalizing s with
  | nil => exact h
  | cons x l ih => exact ih (hf s x h)

theorem State.Stands.wr {id : Nat} {v : Word} (h : s.Stands d) : (s.wr id v).Stands d := by simpa [State.Stands] using h
theorem State.Stands.setFld {id lo width v : Nat} (h : s.Stands d) : (s.setFld id lo width v).Stands d := by simpa [State.Stands] using h
theorem State.Stands.setBit {id n : Nat} {b : Bool} (h : s.Stands d) : (s.setBit id n b).Stands d := by simpa [State.Stands] using h
theorem State.Stands.addSat {id lo width n : Nat} (h : s.Stands d) : (s.addSat id lo width n).Stands d := by simpa [State.Stands] using h
theorem State.Stands.raise {n : Nat} {x : Word} (h : s.Stands d) : (s.raise n x).Stands d := by simpa [State.Stands] using h
theorem State.Stands.raiseC {n : Nat} {x : Word} {b : Bool} (h : s.Stands d) : (s.raiseC n x b).Stands d := by simpa [State.Stands] using h
theorem State.Stands.transient {k n : Nat} (h : s.Stands d) : (s.transient k n).Stands d := by simpa [State.Stands] using h

theorem State.Stands.complete {src : Src} {st : Byte} {r : List Word} (h : s.Stands d) : (s.complete src st r).Stands d :=
  by simpa [State.Stands] using h

theorem State.Stands.sendTo {ty : Byte} {dst : FAddr} {bs : List Byte} (h : s.Stands d) : (s.sendTo ty dst bs).Stands d :=
  by simpa [State.Stands] using h

theorem State.Stands.sendAll {ty : Byte} {bs : List Byte} (h : s.Stands d) : (s.sendAll ty bs).Stands d := by simpa [State.Stands] using h
theorem State.Stands.setPort {p : Fin 4} {f : Port → Port} (h : s.Stands d) : (s.setPort p f).Stands d := by simpa [State.Stands] using h

theorem State.Stands.enqueue {p : Fin 4} {f : Frame} (h : s.Stands d) : (s.enqueue p f).Stands d := h.setPort
theorem State.Stands.balRefresh (h : s.Stands d) : s.balRefresh.Stands d := h.setFld.setFld.frame
theorem State.Stands.applyBudget (h : s.Stands d) : s.applyBudget.Stands d := (h.frame.raise.ite h.frame).balRefresh
theorem State.Stands.budgetRound (h : s.Stands d) : s.budgetRound.Stands d := h.setBit.applyBudget.setFld.frame.raiseC.ite h.setBit.applyBudget.setFld
theorem State.Stands.probeAll (h : s.Stands d) : s.probeAll.Stands d := h.frame
theorem State.Stands.probeRound (h : s.Stands d) : s.probeRound.Stands d := (h.frame.probeAll.ite h).frame.probeAll.ite (h.frame.probeAll.ite h)
theorem State.Stands.setStream {n : Nat} {f : Stream → Stream} (h : s.Stands d) : (s.setStream n f).Stands d := h.frame_conv
theorem State.Stands.stageAll {w : StageWord} (h : s.Stands d) : (s.stageAll w).Stands d := h.foldl fun _ _ ht => ht.setStream.ite ht

theorem State.Stands.clipSample {c : Nat} {clipped : Bool} (h : s.Stands d) : (s.clipSample c clipped).Stands d := by
  unfold State.clipSample
  dsimp only
  split
  · exact h.frame_conv
  · exact (h.frame_conv.setBit.ite h.frame_conv.setBit).raiseC

theorem State.Stands.emit {k : Conversion} {out : Tag × Int × Nat} (h : s.Stands d) : (s.emit k out).Stands d :=
  (h.stageAll.frame_sense.ite h.stageAll.frame_sense).ite h.stageAll

theorem State.Stands.filterSample {k : Conversion} {v : Int} {tag : Tag} (h : s.Stands d) : (s.filterSample k v tag).Stands d := by
  unfold State.filterSample
  dsimp only
  split
  · split
    · exact h.frame_conv.raise.emit
    · exact h.frame_conv.emit
  · split
    · exact h.frame_conv.raise
    · exact h.frame_conv

theorem State.Stands.takeTc {es : List Entry} (h : s.Stands d) : (s.takeTc es).Stands d := h.frame_conv
theorem State.Stands.seqShow {entry pass : Nat} (h : s.Stands d) : (s.seqShow entry pass).Stands d := h.wr
theorem State.Stands.seqPhase {p : SeqPhase} (h : s.Stands d) : (s.seqPhase p).Stands d := h.frame.seqShow
theorem State.Stands.unblank (h : s.Stands d) : s.unblank.Stands d := h.frame.setBit.balRefresh.ite h.frame
theorem State.Stands.seqStop (h : s.Stands d) : s.seqStop.Stands d := h.seqPhase.unblank
theorem State.Stands.tableStart {p : SeqPhase} {gap : Bool} (h : s.Stands d) : (s.tableStart p gap).Stands d := h.frame.unblank.seqShow
theorem State.Stands.activeStart {gap : Bool} (h : s.Stands d) : (s.activeStart gap).Stands d := h.takeTc.tableStart.ite h.seqStop
theorem State.Stands.seqLoadEvent {when_ watch : Bool} (h : s.Stands d) : (s.seqLoadEvent when_ watch).Stands d := h.raise
theorem State.Stands.activeAgain (h : s.Stands d) : s.activeAgain.Stands d := h.activeStart.seqLoadEvent.ite h.activeStart
theorem State.Stands.shortNone (h : s.Stands d) : s.shortNone.Stands d := h.setFld

theorem State.Stands.patinaAbort {status : Byte} (h : s.Stands d) : (s.patinaAbort status).Stands d := by
  unfold State.patinaAbort
  extract_lets _ t
  have ht : t.Stands d := h.frame.shortNone.setBit
  split
  · exact h
  · exact (ht.activeAgain.ite ht).raise.complete

theorem State.Stands.rearm (h : s.Stands d) : s.rearm.Stands d := h.setFld.setBit.frame
theorem State.Stands.patinaStop (h : s.Stands d) : s.patinaStop.Stands d := h.frame

theorem State.Stands.impStop (h : s.Stands d) : s.impStop.Stands d :=
  ((h.foldl fun _ _ ht => ht.frame.setFld).foldl fun _ _ ht => ht.setBit.setBit).frame.wr.balRefresh

theorem State.Stands.impDrop (h : s.Stands d) : s.impDrop.Stands d := h.impStop.frame.setFld
theorem State.Stands.thermRestart (h : s.Stands d) : s.thermRestart.Stands d := h.frame
theorem State.Stands.stateChg {old new : Mode} {gc : BitVec 4} (h : s.Stands d) : (s.stateChg old new gc).Stands d := h.raise
theorem State.Stands.reqRun (h : s.Stands d) : s.reqRun.Stands d := h.setFld
theorem State.Stands.outShow (h : s.Stands d) : s.outShow.Stands d := h.wr
theorem State.Stands.askRun (h : s.Stands d) : s.askRun.Stands d := h.frame_pwr.ite h
theorem State.Stands.latch {b : Bool} (h : s.Stands d) : (s.latch b).Stands d := h.setBit
theorem State.Stands.permit {b : Bool} (h : s.Stands d) : (s.permit b).Stands d := h.setBit

theorem State.Stands.sendTwinCopy {dst : FAddr} {head : List Byte} {down : Bool} (h : s.Stands d) : (s.sendTwinCopy dst head down).Stands d := by
  unfold State.sendTwinCopy
  extract_lets
  split
  · exact h.frame.enqueue.ite h.frame
  · exact h.frame

theorem State.Stands.sendTwin {dst : FAddr} {kind : Byte} {cause : BitVec 4} (h : s.Stands d) : (s.sendTwin dst kind cause).Stands d :=
  (h.wr.ite h.wr.sendTwinCopy).ite (h.wr.ite h.wr.sendTwinCopy).sendTwinCopy

theorem State.Stands.sendRampReq {dst : FAddr} {cause : BitVec 4} (h : s.Stands d) : (s.sendRampReq dst cause).Stands d :=
  h.sendTwin.ite h.wr.sendTo.sendTo

theorem State.Stands.rampStart {cause : BitVec 4} (h : s.Stands d) : (s.rampStart cause).Stands d :=
  (h.setBit.wr.frame.raise.sendRampReq.ite h.setBit.wr.frame.raise).askRun

theorem State.Stands.floodTopo {m : TopoMsg} (h : s.Stands d) : (s.floodTopo m).Stands d := h.sendAll
theorem State.Stands.plcShow (h : s.Stands d) : s.plcShow.Stands d := h.wr.wr.wr.wr

theorem State.Stands.startJob {k : JobKey} {str : BitVec 6} {cost : Nat} {seq : Word} {rerun : Bool} (h : s.Stands d) :
    (s.startJob k str cost seq rerun).Stands d :=
  h.frame

theorem State.Stands.sendJob {a : FAddr} {kind : Byte} {head bytes : List Byte} (h : s.Stands d) : (s.sendJob a kind head bytes).Stands d :=
  h.foldl fun _ _ ht => ht.sendTo

theorem State.Stands.takeFit {f : FitJob} (h : s.Stands d) : (s.takeFit f).Stands d := (h.frame.foldl fun _ _ ht => ht.ite ht.sendJob).ite h.frame

theorem State.Stands.takeBody {k : JobKey} {b : Option JobBody} (h : s.Stands d) : (s.takeBody k b).Stands d := by
  unfold State.takeBody
  extract_lets
  split
  · exact h.frame
  · split
    · split
      · exact h.takeFit
      · exact h.frame
    · exact h

theorem State.Stands.restartJob {k : JobKey} {str : BitVec 6} {cost : Nat} {host : FAddr} (h : s.Stands d) :
    (s.restartJob k str cost host).Stands d :=
  h.startJob.takeBody.addSat.raise

theorem State.Stands.handOver {k : JobKey} {lost new : FAddr} (h : s.Stands d) : (s.handOver k lost new).Stands d := by
  unfold State.handOver
  dsimp only
  split
  · split
    · exact h.sendJob.sendJob
    · exact h.sendJob
  · exact h.sendJob

theorem State.Stands.jobsFollow {old : List Placed} (h : s.Stands d) : (s.jobsFollow old).Stands d := by
  unfold State.jobsFollow
  extract_lets
  exact h.frame.foldl fun _ _ ht => by
    extract_lets
    split
    · exact ht
    · split
      · exact ht.ite ht.startJob.takeBody
      · exact ht.ite ht.restartJob
      · split
        · exact ht.handOver.ite ht
        · exact ht
      · exact ht

theorem State.Stands.capacityCheck (h : s.Stands d) : s.capacityCheck.Stands d := h.frame.ite (h.frame.raise.ite (h.frame.raiseC.ite h.frame))
theorem State.Stands.fitsWatch (h : s.Stands d) : s.fitsWatch.Stands d := h.frame
theorem State.Stands.impFollow (h : s.Stands d) : s.impFollow.Stands d := h.impDrop.ite h
theorem State.Stands.maquette (h : s.Stands d) : s.maquette.Stands d := h.frame.jobsFollow.capacityCheck.fitsWatch.impFollow.plcShow
theorem State.Stands.settle (h : s.Stands d) : s.settle.Stands d := h.frame.floodTopo.maquette.ite h

theorem State.Stands.stackCheck {code : Nat} (h : s.Stands d) : (s.stackCheck code).Stands d := by
  unfold State.stackCheck
  extract_lets _ _ _ _ s1
  have hs1 : s1.Stands d := h.wr.frame
  split
  · exact hs1.raiseC.balRefresh
  · exact hs1

theorem State.Stands.vminCheck (h : s.Stands d) : s.vminCheck.Stands d := h.frame.balRefresh
theorem State.Stands.thermShow (h : s.Stands d) : s.thermShow.Stands d := h.setBit.setBit.setBit

theorem State.Stands.warnCheck {max : Int} {hot : Nat} (h : s.Stands d) : (s.warnCheck max hot).Stands d := by
  unfold State.warnCheck
  extract_lets
  split
  · exact h.frame
  · exact h.frame.raiseC.askRun.ite h.frame.raiseC

theorem State.Stands.rateCheck {max : Int} (h : s.Stands d) : (s.rateCheck max).Stands d := by
  unfold State.rateCheck
  extract_lets _ _ _ _ _ _ s1
  have hs1 : s1.Stands d := h.frame.setFld
  split
  · exact h.frame.setFld
  · split
    · exact hs1.raiseC
    · exact hs1

theorem State.Stands.stopClear {max : Int} {hot : Nat} (h : s.Stands d) : (s.stopClear max hot).Stands d := h.raiseC.balRefresh
theorem State.Stands.setFast {fast : Bool} (h : s.Stands d) : (s.setFast fast).Stands d := h.setBit.wr

theorem State.Stands.refreshCheck {max : Int} (h : s.Stands d) : (s.refreshCheck max).Stands d :=
  (h.frame.setFast.raise.ite h).ite ((h.frame.setFast.raise.ite h.frame).ite h.frame)

end

/-! ## What the monitors of a round leave of the last values (R333 to R340) -/

/-- The part of the stance that outlasts an operation which may turn the outputs off or enter Guard. -/
def State.Shows (s : State) (d : List Int × Nat) : Prop := (s.sense.last, s.conv.passNo) = d

section
variable {s : State} {d : List Int × Nat}

theorem State.Shows.of_stands {t : State} (h : s.Shows d) (ht : ∀ {e}, s.Stands e → t.Stands e) : t.Shows d :=
  (congrArg Prod.fst (ht rfl)).trans h

theorem State.Shows.frame {clk pwr par mem host ev nv seq pat imp bal tmr ports fab sweep snap plc therm safe chis pins serial free pending} (h : s.Shows d) :
    (State.mk clk pwr par mem host ev nv s.sense s.conv seq pat imp bal tmr ports fab sweep snap plc therm safe chis pins serial free pending).Shows d := h

theorem State.Shows.frame_conv {clk pwr par mem host ev nv plan inject safetyInj started filters streams clip captures lost tc refresh repair
    busy lastTable seq pat imp bal tmr ports fab sweep snap plc therm safe chis pins serial free pending} (h : s.Shows d) :
    (State.mk clk pwr par mem host ev nv s.sense (Conv.mk plan inject safetyInj started filters streams clip captures lost tc refresh repair
      s.conv.passNo busy lastTable) seq pat imp bal tmr ports fab sweep snap plc therm safe chis pins serial free pending).Shows d := h

theorem State.Shows.ite {c : Prop} {_ : Decidable c} {a b : State} (ha : a.Shows d) (hb : b.Shows d) : (if c then a else b).Shows d := by
  split
  · exact ha
  · exact hb

theorem State.Shows.foldl {α : Type} {f : State → α → State} {l : List α} (h : s.Shows d)
    (hf : ∀ t x, t.Shows d → (f t x).Shows d) : (l.foldl f s).Shows d := by
  induction l generalizing s with
  | nil => exact h
  | cons x l ih => exact ih (hf s x h)

theorem State.Shows.wr {id : Nat} {v : Word} (h : s.Shows d) : (s.wr id v).Shows d := h.of_stands fun hs => hs.wr
theorem State.Shows.setFld {id lo width v : Nat} (h : s.Shows d) : (s.setFld id lo width v).Shows d := h.of_stands fun hs => hs.setFld
theorem State.Shows.setBit {id n : Nat} {b : Bool} (h : s.Shows d) : (s.setBit id n b).Shows d := h.of_stands fun hs => hs.setBit
theorem State.Shows.addSat {id lo width n : Nat} (h : s.Shows d) : (s.addSat id lo width n).Shows d := h.of_stands fun hs => hs.addSat
theorem State.Shows.raise {n : Nat} {x : Word} (h : s.Shows d) : (s.raise n x).Shows d := h.of_stands fun hs => hs.raise
theorem State.Shows.transient {k n : Nat} (h : s.Shows d) : (s.transient k n).Shows d := h.of_stands fun hs => hs.transient
theorem State.Shows.balRefresh (h : s.Shows d) : s.balRefresh.Shows d := h.of_stands fun hs => hs.balRefresh
theorem State.Shows.budgetRound (h : s.Shows d) : s.budgetRound.Shows d := h.of_stands fun hs => hs.budgetRound
theorem State.Shows.probeRound (h : s.Shows d) : s.probeRound.Shows d := h.of_stands fun hs => hs.probeRound
theorem State.Shows.clipSample {c : Nat} {clipped : Bool} (h : s.Shows d) : (s.clipSample c clipped).Shows d := h.of_stands fun hs => hs.clipSample
theorem State.Shows.filterSample {k : Conversion} {v : Int} {tag : Tag} (h : s.Shows d) : (s.filterSample k v tag).Shows d :=
  h.of_stands fun hs => hs.filterSample
theorem State.Shows.seqStop (h : s.Shows d) : s.seqStop.Shows d := h.of_stands fun hs => hs.seqStop
theorem State.Shows.activeStart {gap : Bool} (h : s.Shows d) : (s.activeStart gap).Shows d := h.of_stands fun hs => hs.activeStart
theorem State.Shows.patinaAbort {status : Byte} (h : s.Shows d) : (s.patinaAbort status).Shows d := h.of_stands fun hs => hs.patinaAbort
theorem State.Shows.rearm (h : s.Shows d) : s.rearm.Shows d := h.of_stands fun hs => hs.rearm
theorem State.Shows.patinaStop (h : s.Shows d) : s.patinaStop.Shows d := h.of_stands fun hs => hs.patinaStop
theorem State.Shows.impStop (h : s.Shows d) : s.impStop.Shows d := h.of_stands fun hs => hs.impStop
theorem State.Shows.thermRestart (h : s.Shows d) : s.thermRestart.Shows d := h.of_stands fun hs => hs.thermRestart
theorem State.Shows.stateChg {old new : Mode} {gc : BitVec 4} (h : s.Shows d) : (s.stateChg old new gc).Shows d := h.of_stands fun hs => hs.stateChg
theorem State.Shows.reqRun (h : s.Shows d) : s.reqRun.Shows d := h.of_stands fun hs => hs.reqRun
theorem State.Shows.outShow (h : s.Shows d) : s.outShow.Shows d := h.of_stands fun hs => hs.outShow
theorem State.Shows.latch {b : Bool} (h : s.Shows d) : (s.latch b).Shows d := h.of_stands fun hs => hs.latch
theorem State.Shows.permit {b : Bool} (h : s.Shows d) : (s.permit b).Shows d := h.of_stands fun hs => hs.permit
theorem State.Shows.rampStart {cause : BitVec 4} (h : s.Shows d) : (s.rampStart cause).Shows d := h.of_stands fun hs => hs.rampStart
theorem State.Shows.settle (h : s.Shows d) : s.settle.Shows d := h.of_stands fun hs => hs.settle
theorem State.Shows.stackCheck {code : Nat} (h : s.Shows d) : (s.stackCheck code).Shows d := h.of_stands fun hs => hs.stackCheck
theorem State.Shows.vminCheck (h : s.Shows d) : s.vminCheck.Shows d := h.of_stands fun hs => hs.vminCheck
theorem State.Shows.thermShow (h : s.Shows d) : s.thermShow.Shows d := h.of_stands fun hs => hs.thermShow
theorem State.Shows.warnCheck {max : Int} {hot : Nat} (h : s.Shows d) : (s.warnCheck max hot).Shows d := h.of_stands fun hs => hs.warnCheck
theorem State.Shows.rateCheck {max : Int} (h : s.Shows d) : (s.rateCheck max).Shows d := h.of_stands fun hs => hs.rateCheck
theorem State.Shows.stopClear {max : Int} {hot : Nat} (h : s.Shows d) : (s.stopClear max hot).Shows d := h.of_stands fun hs => hs.stopClear
theorem State.Shows.refreshCheck {max : Int} (h : s.Shows d) : (s.refreshCheck max).Shows d := h.of_stands fun hs => hs.refreshCheck

theorem State.Shows.leadsOff (h : s.Shows d) : s.leadsOff.Shows d := h.frame.outShow
theorem State.Shows.toRun {old : Mode} (h : s.Shows d) : (s.toRun old).Shows d := h.frame.reqRun.rearm.stateChg

theorem State.Shows.enterGuard {cause : BitVec 4} (h : s.Shows d) : (s.enterGuard cause).Shows d := by
  unfold State.enterGuard
  extract_lets u
  have hu : u.Shows d := h.leadsOff.patinaAbort.patinaStop
  split
  · exact hu.frame.reqRun.seqStop.impStop.thermRestart.stateChg
  · exact hu.frame.reqRun.seqStop.impStop.thermRestart.stateChg
  · exact h.frame.ite h
  · exact h.frame
  · exact h
  · exact h

theorem State.Shows.doff {cause : BitVec 4} {immediate envelope reached : Bool} (h : s.Shows d) : (s.doff cause immediate envelope reached).Shows d :=
  h.leadsOff.latch.permit.setBit.setFld.frame.addSat.raise

theorem State.Shows.demand {s0 : State} {cause : BitVec 4} {immediate : Bool} (h : s0.Shows d) : (s0.demand cause immediate).Shows d := by
  unfold State.demand
  extract_lets _ s
  have hs : s.Shows d := h.frame.ite h
  exact (hs.doff.ite (hs.ite hs.rampStart)).ite hs.latch.permit.frame.outShow

theorem State.Shows.ownDemand {cause : BitVec 4} {immediate : Bool} {bits : Half} (h : s.Shows d) : (s.ownDemand cause immediate bits).Shows d :=
  h.frame.demand

theorem State.Shows.channelFault {row detail : Nat} (h : s.Shows d) : (s.channelFault row detail).Shows d := h.raise.ownDemand.enterGuard

theorem State.Shows.paceCheck {mhz : Nat} (h : s.Shows d) : (s.paceCheck mhz).Shows d :=
  h.wr.frame.raise.ownDemand.enterGuard.ite (h.wr.frame.transient.ite h.wr.frame)

theorem State.Shows.railCheck {i v : Nat} (h : s.Shows d) : (s.railCheck i v).Shows d := h.frame.channelFault.ite (h.frame.transient.ite h.frame)
theorem State.Shows.refCheck {v : Nat} (h : s.Shows d) : (s.refCheck v).Shows d := h.frame.channelFault.ite (h.frame.transient.ite h.frame)

theorem State.Shows.exclude {n : Nat} {out : Bool} (h : s.Shows d) : (s.exclude n out).Shows d :=
  h.setBit.frame.raise.channelFault.ite h.setBit.frame.raise

theorem State.Shows.dieJudge {die : List Int} (h : s.Shows d) : (s.dieJudge die).Shows d :=
  h.foldl fun _ _ ht => ht.frame.exclude.ite (ht.frame.ite (ht.frame.transient.ite ht))

theorem State.Shows.stopSet {max : Int} {hot : Nat} (h : s.Shows d) : (s.stopSet max hot).Shows d :=
  h.raise.balRefresh.ite (h.raise.balRefresh.ite h.raise.frame.impStop.ownDemand.settle)

theorem State.Shows.stopReturn (h : s.Shows d) : s.stopReturn.Shows d := h.toRun.activeStart.frame.balRefresh.settle.ite h

theorem State.Shows.stopCheck {max : Int} {hot : Nat} (h : s.Shows d) : (s.stopCheck max hot).Shows d := by
  unfold State.stopCheck
  extract_lets
  split
  · exact h.frame.stopSet.stopReturn
  · exact h.frame.stopClear.stopReturn
  · exact h.frame.stopReturn

theorem State.Shows.thermRound {die : List Int} (h : s.Shows d) : (s.thermRound die).Shows d := by
  unfold State.thermRound
  extract_lets _ _ s2
  have hs2 : s2.Shows d := h.wr.wr.wr.dieJudge.setBit
  split
  · exact hs2
  · exact (hs2.wr.setFld.ite hs2.wr).warnCheck.rateCheck.stopCheck.refreshCheck.thermShow

theorem State.Shows.monitors {pace stack : Nat} {die : List Int} {refchk : Nat} {rails : List Nat} (h : s.Shows d) :
    (s.monitors pace stack die refchk rails).Shows d := by
  unfold State.monitors
  extract_lets s1
  have hs1 : s1.Shows d := h.paceCheck.foldl fun _ _ ht => ht.railCheck
  exact hs1.refCheck.stackCheck.thermRound.vminCheck.budgetRound.probeRound.settle

end

/-! ## The reference (R10, R11) -/

section
variable {s : State}

theorem State.Stored.bit_raise (h : s.Stored) {j : Nat} (hj : j ∉ countParams) {n : Nat} {x : Word} (i : Nat) :
    ((s.raise n x).rd j).getLsbD i = (s.rd j).getLsbD i := by rw [h.rd_raise hj]

theorem State.Stored.fld_raise (h : s.Stored) {j : Nat} (hj : j ∉ countParams) {n : Nat} {x : Word} (lo width : Nat) :
    (s.raise n x).fld j lo width = s.fld j lo width := by rw [State.fld, h.rd_raise hj, State.fld]

theorem refParam_not_count : 0x0110 ∉ countParams := by decide

theorem reffail_source (h : s.Stored) (ha : s.awake = true) (h0 : s.fld 0x0110 0 2 = 0) :
    (reffail s).fld 0x0110 0 2 = (if (s.rd 0x0110).getLsbD 2 then 1 else 2) ∧
      (reffail s).pins = s.pins ∧ (reffail s).seq = s.seq ∧ (reffail s).tmr = s.tmr ∧ (reffail s).clk = s.clk := by
  have he : reffail s = ((s.setFld 0x0110 0 2 (if s.bit 0x0110 2 then 1 else 2)).raise 2
      (pack [(0, 2, if s.bit 0x0110 2 then 1 else 2)])).putMe := by
    simp [reffail, ha, h0]
  have hf := State.fld_setFld_same h 0x0110 0 2 (if s.bit 0x0110 2 then 1 else 2) (by decide)
  refine ⟨?_, ?_⟩
  · rw [he]
    refine ((h.setFld _ _ _ _).fld_raise refParam_not_count 0 2).trans (hf.trans ?_)
    rw [State.bit]
    cases (s.rd 0x0110).getLsbD 2 <;> rfl
  · rw [he]
    simp [State.putMe]

theorem reflock_gained (h : s.Stored) (ha : s.awake = true) (h0 : s.fld 0x0110 0 2 ≠ 0) (ht : s.fab.hasTime = true)
    (hb : (s.rd 0x0110).getLsbD 2 = false) :
    ((reflock true s).rd 0x0110).getLsbD 2 = true ∧ (reflock true s).fld 0x0110 0 2 = 1 ∧ (reflock true s).pins = s.pins ∧
      (reflock true s).seq = s.seq ∧ (reflock true s).tmr = s.tmr ∧ (reflock true s).clk = s.clk := by
  have hs : (s.setBit 0x0110 2 true).Stored := h.setBit _ _ _
  have he : reflock true s = ((s.setBit 0x0110 2 true).setFld 0x0110 0 2 1).raise 3
      (pack [(0, 1, b2n true), (16, 16, satField 16 (((s.setBit 0x0110 2 true).setFld 0x0110 0 2 1).rd 0x0111).toInt)]) := by
    have hb : s.bit 0x0110 2 = false := hb
    simp [reflock, ha, h0, ht, hb]
  have hbit : (((s.setBit 0x0110 2 true).setFld 0x0110 0 2 1).rd 0x0110).getLsbD 2 = true := by
    have hfld := State.fld_setFld_other hs 0x0110 0 2 1 2 1 (by decide)
    rw [State.fld, State.fld] at hfld
    rw [getLsbD_eq_bitsOf, hfld, ← getLsbD_eq_bitsOf]
    exact State.bit_setBit_same h 0x0110 2 true (by decide)
  rw [he]
  refine ⟨((hs.setFld _ _ _ _).bit_raise refParam_not_count 2).trans hbit, ?_, ?_⟩
  · exact ((hs.setFld _ _ _ _).fld_raise refParam_not_count 0 2).trans (State.fld_setFld_same hs 0x0110 0 2 1 (by decide))
  · simp

theorem reflock_lost (h : s.Stored) (ha : s.awake = true) (h0 : s.fld 0x0110 0 2 ≠ 0) (hb : (s.rd 0x0110).getLsbD 2 = true) :
    ((reflock false s).rd 0x0110).getLsbD 2 = false ∧ (reflock false s).fld 0x0110 0 2 = s.fld 0x0110 0 2 ∧
      (reflock false s).pins = s.pins ∧ (reflock false s).tmr = s.tmr ∧ (reflock false s).clk = s.clk := by
  have hs : (s.setBit 0x0110 2 false).Stored := h.setBit _ _ _
  have he : reflock false s = (s.setBit 0x0110 2 false).raise 3
      (pack [(0, 1, b2n false), (16, 16, satField 16 ((s.setBit 0x0110 2 false).rd 0x0111).toInt)]) := by
    have hb : s.bit 0x0110 2 = true := hb
    simp [reflock, ha, h0, hb]
  rw [he]
  refine ⟨(hs.bit_raise refParam_not_count 2).trans (State.bit_setBit_same h 0x0110 2 false (by decide)), ?_, ?_⟩
  · exact (hs.fld_raise refParam_not_count 0 2).trans (State.fld_setFld_other h 0x0110 2 1 _ 0 2 (by decide))
  · simp

end

/-! ## What the round delivers (R151, R163) -/

theorem nth_foldl_set_of_not_mem {α : Type} (key : α → Nat) (val : α → Int) (l : List α) (m : List Int) (i : Nat) (hi : i ∉ l.map key) :
    nth (l.foldl (fun m x => m.set (key x) (val x)) m) i 0 = nth m i 0 := by
  induction l generalizing m with
  | nil => rfl
  | cons y l ih =>
    rw [List.map_cons, List.mem_cons, not_or] at hi
    rw [List.foldl_cons, ih _ hi.2, nth, nth, List.getD_eq_getElem?_getD, List.getElem?_set_ne (Ne.symm hi.1), ← List.getD_eq_getElem?_getD]

/-- Where no two writes name one place, each place holds what was written there. -/
theorem nth_foldl_set {α : Type} (key : α → Nat) (val : α → Int) (l : List α) (m : List Int) (hn : (l.map key).Nodup)
    (hl : ∀ x ∈ l, key x < m.length) {x : α} (hx : x ∈ l) : nth (l.foldl (fun m x => m.set (key x) (val x)) m) (key x) 0 = val x := by
  induction l generalizing m with
  | nil => cases hx
  | cons y l ih =>
    rw [List.map_cons, List.nodup_cons] at hn
    rw [List.foldl_cons]
    rcases List.mem_cons.mp hx with rfl | hx
    · rw [nth_foldl_set_of_not_mem key val l _ _ hn.1, nth, List.getD_eq_getElem?_getD, List.getElem?_set_self (hl x List.mem_cons_self)]
      rfl
    · exact ih _ hn.2 (fun z hz => by rw [List.length_set]; exact hl z (List.mem_cons_of_mem y hz)) hx

theorem roundPlaces_length (c n : Nat) (slots : List (Nat × Nat)) : (roundPlaces c n slots).length = n := by
  induction n generalizing slots with
  | zero => rfl
  | succ n ih => exact congrArg (· + 1) (ih _)

theorem roundChans_eq : roundChans = [26, 43, 44, 45, 46, 47, 48, 49, 50, 51, 52, 53] := by decide

section
variable {s : State} {d : List Int × Nat}

theorem State.roundConvs_chans (s : State) : s.roundConvs.map (·.chan) = roundChans := by
  simp only [State.roundConvs, List.map_map]
  exact List.map_fst_zip (by rw [roundPlaces_length]; decide)

theorem State.roundConvs_length (s : State) : s.roundConvs.length = 12 := by
  rw [← List.length_map (f := (·.chan)), s.roundConvs_chans]
  decide

theorem State.Shows.roundResult {k : Conversion} {code : BitVec 16} {v : Int} (h : s.Shows d) :
    (s.roundResult k code v).Shows (d.1.set k.chan v, d.2) := by
  have hset : ({ s with sense := { s.sense with last := s.sense.last.set k.chan v } } : State).Shows (d.1.set k.chan v, d.2) := by
    cases h; rfl
  unfold State.roundResult
  extract_lets clipped _ s1
  have hs1 : s1.Shows (d.1.set k.chan v, d.2) := hset.clipSample
  exact hs1.ite hs1.frame_conv.filterSample

theorem State.Shows.roundResults (l : List ((Conversion × BitVec 16) × Int)) (h : s.Shows d) :
    (l.foldl (fun t x => t.roundResult x.1.1 x.1.2 x.2) s).Shows (l.foldl (fun m x => m.set x.1.1.chan x.2) d.1, d.2) := by
  induction l generalizing s d with
  | nil => exact h
  | cons x l ih => exact ih h.roundResult

/-- The conversions of a round with the codes they were answered, and the value each delivers. -/
def State.roundValues (s : State) (codes : List (BitVec 16)) : List ((Conversion × BitVec 16) × Int) :=
  (s.roundConvs.zip codes).zip ((s.roundConvs.zip codes).map fun x => s.delivered x.1 x.2)

theorem State.housekeepingRound_shows (hu : s.up = true) (r : RoundIn) : (housekeepingRound r s).Shows
    ((s.roundValues r.codes).foldl (fun m x => m.set x.1.1.chan x.2) s.sense.last, s.conv.passNo + 1) := by
  unfold housekeepingRound
  rw [hu]
  simp only [Bool.not_true, Bool.false_eq_true, if_false]
  exact (State.Shows.roundResults (d := (s.sense.last, s.conv.passNo + 1)) _ (by unfold State.Shows; rfl)).monitors

theorem State.roundValues_chans {codes : List (BitVec 16)} (hl : codes.length = 12) :
    (s.roundValues codes).map (fun x => x.1.1.chan) = roundChans := by
  rw [← s.roundConvs_chans, ← List.map_fst_zip (l₁ := s.roundConvs) (l₂ := codes) (Nat.le_of_eq (s.roundConvs_length.trans hl.symm)),
    ← List.map_fst_zip (l₁ := s.roundConvs.zip codes) (l₂ := (s.roundConvs.zip codes).map fun x => s.delivered x.1 x.2) (by simp)]
  simp [State.roundValues]

theorem State.mem_roundValues {codes : List (BitVec 16)} {i : Nat} {k : Conversion} {c : BitVec 16} (hk : s.roundConvs[i]? = some k)
    (hc : codes[i]? = some c) : ((k, c), s.delivered k c) ∈ s.roundValues codes := by
  have hz : (s.roundConvs.zip codes)[i]? = some (k, c) := List.getElem?_zip_eq_some.mpr ⟨hk, hc⟩
  refine List.mem_of_getElem? (i := i) (List.getElem?_zip_eq_some.mpr ⟨hz, ?_⟩)
  rw [List.getElem?_map, hz]
  rfl

theorem State.housekeepingRound_last (hu : s.up = true) (hlen : s.sense.last.length = 58) {r : RoundIn} (hl : r.codes.length = 12)
    {i : Nat} {k : Conversion} {c : BitVec 16} (hk : s.roundConvs[i]? = some k) (hc : r.codes[i]? = some c) :
    nth (housekeepingRound r s).sense.last k.chan 0 = s.delivered k c := by
  have hshow := congrArg Prod.fst (s.housekeepingRound_shows hu r)
  have hchans := s.roundValues_chans hl
  have hnodup : roundChans.Nodup := by decide
  have hsmall : ∀ c ∈ roundChans, c < 58 := by decide
  rw [show (housekeepingRound r s).sense.last = _ from hshow]
  refine nth_foldl_set (fun x => x.1.1.chan) (fun x => x.2) _ _ (hchans ▸ hnodup) (fun x hx => ?_) (State.mem_roundValues hk hc)
  rw [hlen]
  exact hsmall _ (hchans ▸ List.mem_map_of_mem hx)

theorem State.roundConvs_chan {i : Nat} {k : Conversion} (hk : s.roundConvs[i]? = some k) :
    k.chan = nth [26, 43, 44, 45, 46, 47, 48, 49, 50, 51, 52, 53] i 0 := by
  have hc : roundChans[i]? = some k.chan := by rw [← s.roundConvs_chans, List.getElem?_map, hk]; rfl
  rw [← roundChans_eq, nth, List.getD_eq_getElem?_getD, hc]
  rfl

end

/-! ## Guard after an orderly stop (R338) -/

section
variable {s : State}

theorem State.enterGuard_stands (hm : s.pwr.mode = .run ∨ s.pwr.mode = .watch) (cause : BitVec 4) :
    (s.enterGuard cause).Stands ((s.sense.last, s.conv.passNo), .guard, cause, false, false) := by
  have hoff : s.leadsOff.Stands ((s.sense.last, s.conv.passNo), s.pwr.mode, s.pwr.gcause, false, false) :=
    State.Stands.outShow rfl
  have hu := (hoff.patinaAbort (status := stRefused)).patinaStop
  have hg (u : State) (hu : u.Stands ((s.sense.last, s.conv.passNo), s.pwr.mode, s.pwr.gcause, false, false)) :
      ({ u with pwr := { u.pwr with mode := .guard, gcause := cause, request := none, hatbox := .none, stopping := false }
                nv := { u.nv with hold := false } } : State).Stands ((s.sense.last, s.conv.passNo), .guard, cause, false, false) := by
    simp only [State.Stands, Prod.mk.injEq] at hu ⊢
    obtain ⟨hlast, -, -, hleads⟩ := hu
    exact ⟨hlast, trivial, trivial, hleads⟩
  unfold State.enterGuard
  rcases hm with hm | hm <;> rw [hm] <;> exact (hg _ hu).reqRun.seqStop.impStop.thermRestart.stateChg

theorem guardEntryAfterStop_stands (hm : s.pwr.mode = .run ∨ s.pwr.mode = .watch) (hs : s.pwr.stopping = true) (hr : s.ramping = false) :
    (guardEntryAfterStop s).Stands ((s.sense.last, s.conv.passNo), .guard, 1, false, false) := by
  have hc : (s.pwr.stopping && (s.pwr.mode == .run || s.pwr.mode == .watch) && !s.ramping) = true := by
    rcases hm with hm | hm <;> simp [hm, hs, hr]
  unfold guardEntryAfterStop
  rw [if_pos hc]
  exact (State.enterGuard_stands hm 1).frame.settle

end

/-- Settles O13. -/
theorem referenceAndHousekeeping : Obligations.ReferenceAndHousekeeping := by
  refine ⟨fun s h ha => ⟨fun h0 => ?_, fun h0 ht hb => ?_, fun h0 hb => ?_⟩, fun s => ⟨fun r hu hlen hl => ?_, fun hm hs hr => ?_⟩⟩
  · exact ⟨_, rfl, reffail_source h ha h0⟩
  · exact ⟨_, rfl, reflock_gained h ha h0 ht hb⟩
  · exact ⟨_, rfl, reflock_lost h ha h0 hb⟩
  · exact ⟨_, rfl, fun i k c hk hc => ⟨State.roundConvs_chan hk, State.housekeepingRound_last hu hlen hl hk hc⟩, s.roundConvs_length,
      congrArg Prod.snd (s.housekeepingRound_shows hu r)⟩
  · have hg := guardEntryAfterStop_stands hm hs hr
    simp only [State.Stands, Prod.mk.injEq] at hg
    exact ⟨_, rfl, hg.2⟩

end Sys2Proof.Machine
end

section
/-! PROOFS. The passes of the sequence table: a quiet boundary, and how an entry is reached (R145 to R149, R155). -/
namespace Sys2Proof.Machine

/-! ## What the parts of a pass leave as it is -/

/-- What of a state the statements about a pass speak of: pins, timers, clock and sequencer, and the number of the next pass. -/
def State.passView (s : State) : Pins × List Timer × Clock × Seq × Nat := (s.pins, s.tmr, s.clk, s.seq, s.conv.passNo)

theorem State.passView_eq_iff {s t : State} : t.passView = s.passView ↔
    t.pins = s.pins ∧ t.tmr = s.tmr ∧ t.clk = s.clk ∧ t.seq = s.seq ∧ t.conv.passNo = s.conv.passNo := by
  simp only [State.passView, Prod.mk.injEq]

section
variable {s : State}

theorem State.passView_foldl {α : Type} {f : State → α → State} (hf : ∀ t x, (f t x).passView = t.passView) (l : List α) :
    (l.foldl f s).passView = s.passView :=
  List.foldlRecOn (motive := fun t => t.passView = s.passView) l f rfl fun t ht x _ => (hf t x).trans ht

theorem State.setBit_passView (id n : Nat) (b : Bool) : (s.setBit id n b).passView = s.passView := rfl
theorem State.rearm_passView : s.rearm.passView = s.passView := rfl

theorem State.complete_passView (src : Src) (st : Byte) (r : List Word) : (s.complete src st r).passView = s.passView := by
  simp [State.passView]

theorem State.calPut_passView (vs : List (Nat × Word)) : (s.calPut vs).passView = s.passView := by
  unfold State.calPut
  split
  · rfl
  · extract_lets n t
    exact (State.passView_foldl (by intros; rfl) vs : t.passView = s.passView)

theorem State.calReloadNow_passView : s.calReloadNow.passView = s.passView := by
  unfold State.calReloadNow
  split
  · rfl
  · exact State.complete_passView ..
  · rw [State.complete_passView, State.rearm_passView, State.setBit_passView, State.calPut_passView]
    rfl

theorem State.calCommitNow_passView : s.calCommitNow.passView = s.passView := by
  unfold State.calCommitNow
  split <;> rfl

theorem State.calBoundary_passView : s.calBoundary.passView = s.passView :=
  State.calCommitNow_passView.trans (State.calReloadNow_passView.trans (State.calPut_passView _))

theorem State.sweepBoundary_passView : s.sweepBoundary.passView = s.passView := by
  unfold State.sweepBoundary
  refine State.calBoundary_passView.trans ?_
  split <;> rfl

theorem State.patinaSweep_passView : s.patinaSweep.passView = s.passView := by
  unfold State.patinaSweep
  split
  · exact State.passView_foldl (by intros; rfl) _
  · rfl

/-- A planned pass takes the next number. -/
theorem State.planPass_passView (e : Entry) (start : Nat) :
    (s.planPass e start).passView = (s.pins, s.tmr, s.clk, s.seq, s.conv.passNo + 1) := by
  unfold State.planPass
  cases e.sweep
  · rfl
  · exact State.patinaSweep_passView

theorem State.runPass_passView (e : Entry) : (s.runPass e).passView = (s.pins, s.tmr, s.clk, s.seq, s.conv.passNo + 1) := by
  unfold State.runPass
  extract_lets sweeps t
  have ht : t.passView = s.passView := by
    dsimp only [t]
    split
    · exact State.sweepBoundary_passView
    · split
      · rfl
      · exact State.calBoundary_passView
  obtain ⟨hpins, htmr, hclk, hseq, hno⟩ := State.passView_eq_iff.mp ht
  rw [State.planPass_passView, hpins, htmr, hclk, hseq, hno]

theorem State.seqShow_passView (entry pass : Nat) : (s.seqShow entry pass).passView = s.passView := rfl

theorem State.seqPhase_passView (p : SeqPhase) :
    (s.seqPhase p).passView = (s.pins, s.tmr, s.clk, { s.seq with phase := p }, s.conv.passNo) := rfl

theorem State.blankSpan_passView : s.blankSpan.passView = s.passView := rfl

end

/-! ## Ticks that pass until a boundary -/

section
variable {s : State} {t : DWord}

theorem State.advanceTo_eq : s.advanceTo t = { s with clk := (s.advanceTo t).clk } := by
  unfold State.advanceTo
  split <;> rfl

@[simp] theorem State.advanceTo_pins : (s.advanceTo t).pins = s.pins := by rw [State.advanceTo_eq]
@[simp] theorem State.advanceTo_tmr : (s.advanceTo t).tmr = s.tmr := by rw [State.advanceTo_eq]
@[simp] theorem State.advanceTo_seq : (s.advanceTo t).seq = s.seq := by rw [State.advanceTo_eq]
@[simp] theorem State.advanceTo_conv : (s.advanceTo t).conv = s.conv := by rw [State.advanceTo_eq]
@[simp] theorem State.advanceTo_pwr : (s.advanceTo t).pwr = s.pwr := by rw [State.advanceTo_eq]
@[simp] theorem State.advanceTo_host : (s.advanceTo t).host = s.host := by rw [State.advanceTo_eq]
@[simp] theorem State.advanceTo_sweep : (s.advanceTo t).sweep = s.sweep := by rw [State.advanceTo_eq]
@[simp] theorem State.advanceTo_rd (id : Nat) : (s.advanceTo t).rd id = s.rd id := by rw [State.advanceTo_eq]; rfl
@[simp] theorem State.advanceTo_fld (id lo width : Nat) : (s.advanceTo t).fld id lo width = s.fld id lo width := by
  rw [State.fld, State.advanceTo_rd, State.fld]

/-! ## A boundary at which nothing waits (R155) -/

/-- No change of state, no checked bank and no staged set waits for the boundary, and RUN is 1. -/
def State.Quiet (s : State) : Prop :=
  s.pwr.request = none ∧ s.seq.checked = none ∧ s.host.applyWait = none ∧ s.bit 0x1200 0 = true

theorem State.Quiet.advanceTo (h : s.Quiet) : (s.advanceTo t).Quiet := by
  simpa [State.Quiet, State.bit] using h

theorem State.Quiet.boundary_eq (h : s.Quiet) (hp : s.seq.phase ≠ .stopped) (wrap : Bool) : s.boundary wrap = s := by
  obtain ⟨hreq, hchk, hwait, hrun⟩ := h
  have hstate : s.stateBoundary = s := by unfold State.stateBoundary; rw [hreq]
  have hswap : s.swapBoundary wrap = s := by unfold State.swapBoundary; rw [hchk]
  have happly : s.applyAtBoundary = s := by unfold State.applyAtBoundary; rw [hwait]
  have hon : s.runBoundary = s := by simp [State.runBoundary, hrun, hp]
  rw [State.boundary, hstate, hswap, happly, hon]

theorem State.wrapOff_eq (h : s.seq.wrap = false) : { s with seq := { s.seq with wrap := false } } = s := by
  have hq : { s.seq with wrap := false } = s.seq := by rw [← h]
  rw [hq]

/-! ## What SEQ_PASS_START does by the phase -/

theorem State.spanPassed_of_none (h : s.seq.spanEnd = none) : s.spanPassed t = s := by
  unfold State.spanPassed
  rw [h]

theorem seqPassStart_of_idle (hend : s.seq.spanEnd = none) (hp : s.seq.phase = .stopped ∨ s.seq.phase = .waiting) : seqPassStart s = s := by
  unfold seqPassStart
  rw [State.spanPassed_of_none hend]
  rcases hp with hp | hp <;> simp only [hp]

theorem seqPassStart_of_leadIn (hend : s.seq.spanEnd = none) (hq : s.Quiet) (hp : s.seq.phase = .leadIn) :
    seqPassStart s = (s.advanceTo s.seq.due).tablePass := by
  have hpa : (s.advanceTo s.seq.due).seq.phase = .leadIn := by rw [State.advanceTo_seq, hp]
  have hb : (s.advanceTo s.seq.due).boundary false = s.advanceTo s.seq.due :=
    hq.advanceTo.boundary_eq (by rw [hpa]; decide) false
  unfold seqPassStart
  rw [State.spanPassed_of_none hend]
  simp only [hp, hb, hpa, if_true]

theorem seqPassStart_of_running (hend : s.seq.spanEnd = none) (hq : s.Quiet) (hp : s.seq.phase = .running) (hw : s.seq.wrap = false)
    (ha : s.sweep.align = false) : seqPassStart s = (s.advanceTo s.seq.due).entryStart := by
  have hpa : (s.advanceTo s.seq.due).seq.phase = .running := by rw [State.advanceTo_seq, hp]
  have hwa : (s.advanceTo s.seq.due).seq.wrap = false := by rw [State.advanceTo_seq, hw]
  have haa : (s.advanceTo s.seq.due).sweep.align = false := by rw [State.advanceTo_sweep, ha]
  have hb : (s.advanceTo s.seq.due).boundary false = s.advanceTo s.seq.due :=
    hq.advanceTo.boundary_eq (by rw [hpa]; decide) false
  unfold seqPassStart
  rw [State.spanPassed_of_none hend]
  simp only [hp, hwa, Bool.false_eq_true, if_false, State.wrapOff_eq hwa, hb]
  simp only [hpa, haa, Bool.false_eq_true, and_false, if_false, true_and, if_true]

end

/-! ## The pass that starts (R145 to R147, R149) -/

section
variable {s : State}

/-- The entry of the active table that the sequencer stands at. -/
def State.entryDue (s : State) : Entry := nth s.seq.active s.seq.entry noEntry

theorem State.entryAfter_of_active {t : State} (h : t.seq.active = s.seq.active) (i : Nat) : t.entryAfter i = s.entryAfter i := by
  unfold State.entryAfter
  rw [h]

/-- The state in which the due pass of the active table runs, before the next one is looked up. -/
def State.passRun (s : State) : State :=
  ({ s with seq := { s.seq with phase := .running } }.runPass s.entryDue).seqShow s.seq.entry s.seq.pass

theorem State.passRun_passView :
    s.passRun.passView = (s.pins, s.tmr, s.clk, { s.seq with phase := .running }, s.conv.passNo + 1) :=
  State.runPass_passView (s := { s with seq := { s.seq with phase := .running } }) s.entryDue

theorem State.passRun_seq : s.passRun.seq = { s.seq with phase := .running } := congrArg (·.2.2.2.1) s.passRun_passView

theorem State.tablePass_of_more (h : s.seq.pass + 1 < s.entryDue.count) : s.tablePass =
    { s.passRun with seq := { s.seq with phase := .running, pass := s.seq.pass + 1, due := s.seq.due + BitVec.ofNat 64 s.entryDue.interval } } := by
  have ht : s.tablePass = { s.passRun with seq := { s.passRun.seq with
        pass := s.seq.pass + 1, due := s.seq.due + BitVec.ofNat 64 s.entryDue.interval } } := if_pos h
  rw [ht, State.passRun_seq]

/-- The tick at which the blanked span ends after the last pass of the entry due. -/
def State.passEnds (s : State) : Option DWord :=
  if s.entryDue.blank then some (s.passRun.spanOver s.entryDue s.conv.passNo) else s.seq.spanEnd

theorem State.tablePass_of_last (h : s.entryDue.count ≤ s.seq.pass + 1) : s.tablePass =
    { s.passRun with seq := { s.seq with
        phase := .running, entry := (s.entryAfter s.seq.entry).1, pass := 0, due := s.seq.due + BitVec.ofNat 64 s.entryDue.interval,
        wrap := (s.entryAfter s.seq.entry).2, spanEnd := s.passEnds } } := by
  have ht : s.tablePass = { s.passRun with seq := { s.passRun.seq with
        entry := (s.passRun.entryAfter s.seq.entry).1, pass := 0, due := s.seq.due + BitVec.ofNat 64 s.entryDue.interval,
        wrap := (s.passRun.entryAfter s.seq.entry).2,
        spanEnd := if s.entryDue.blank then some (s.passRun.spanOver s.entryDue s.conv.passNo) else s.passRun.seq.spanEnd } } :=
    if_neg (Nat.not_lt.mpr h)
  have hactive : s.passRun.seq.active = s.seq.active := by rw [State.passRun_seq]
  rw [ht, State.entryAfter_of_active hactive, State.passRun_seq, State.passEnds]

theorem State.passEnds_of_sweep (hb : s.entryDue.blank = true) (hs : s.entryDue.sweep = true) : s.passEnds = some (s.seq.due + 8) := by
  rw [State.passEnds, if_pos hb, State.spanOver, if_pos hs, State.passRun_seq]

theorem State.passEnds_of_not_blank (hb : s.entryDue.blank = false) : s.passEnds = s.seq.spanEnd := by
  rw [State.passEnds, hb, if_neg Bool.false_ne_true]

theorem State.tablePass_leaves :
    s.tablePass.pins = s.pins ∧ s.tablePass.tmr = s.tmr ∧ s.tablePass.clk = s.clk ∧ s.tablePass.conv.passNo = s.conv.passNo + 1 := by
  have hview := s.passRun_passView
  simp only [State.passView, Prod.mk.injEq] at hview
  obtain ⟨hpins, htmr, hclk, -, hno⟩ := hview
  rcases Nat.lt_or_ge (s.seq.pass + 1) s.entryDue.count with h | h
  · rw [State.tablePass_of_more h]
    exact ⟨hpins, htmr, hclk, hno⟩
  · rw [State.tablePass_of_last h]
    exact ⟨hpins, htmr, hclk, hno⟩

/-- In `u` the pass due in `s` has started: the next one is due one interval later, and the pass number has moved on. -/
def State.StartsPass (s u : State) : Prop :=
  u.seq.phase = .running ∧ u.seq.due = s.seq.due + BitVec.ofNat 64 s.entryDue.interval ∧ u.conv.passNo = s.conv.passNo + 1 ∧
    (s.seq.pass + 1 < s.entryDue.count → u.seq.pass = s.seq.pass + 1 ∧ u.seq.entry = s.seq.entry ∧ u.seq.spanEnd = none) ∧
    (s.entryDue.count ≤ s.seq.pass + 1 →
      u.seq.pass = 0 ∧ u.seq.entry = (s.entryAfter s.seq.entry).1 ∧ u.seq.wrap = (s.entryAfter s.seq.entry).2 ∧
      (s.entryDue.blank = false → u.seq.spanEnd = none) ∧
      (s.entryDue.blank = true → s.entryDue.sweep = true → u.seq.spanEnd = some (s.seq.due + 8)))

theorem State.tablePass_startsPass (hend : s.seq.spanEnd = none) : s.StartsPass s.tablePass := by
  obtain ⟨-, -, -, hno⟩ := s.tablePass_leaves
  rcases Nat.lt_or_ge (s.seq.pass + 1) s.entryDue.count with h | h
  · have hn : ¬ s.entryDue.count ≤ s.seq.pass + 1 := Nat.not_le.mpr h
    rw [State.tablePass_of_more h] at hno ⊢
    exact ⟨rfl, rfl, hno, fun _ => ⟨rfl, rfl, hend⟩, fun h' => absurd h' hn⟩
  · have hn : ¬ s.seq.pass + 1 < s.entryDue.count := Nat.not_lt.mpr h
    rw [State.tablePass_of_last h] at hno ⊢
    exact ⟨rfl, rfl, hno, fun h' => absurd h' hn, fun _ =>
      ⟨rfl, rfl, rfl, fun hb => (State.passEnds_of_not_blank hb).trans hend, State.passEnds_of_sweep⟩⟩

theorem State.advanceTo_startsPass {t : DWord} {u : State} : (s.advanceTo t).StartsPass u ↔ s.StartsPass u := by
  simp only [State.StartsPass, State.entryDue, State.advanceTo_seq, State.advanceTo_conv,
    State.entryAfter_of_active (congrArg Seq.active State.advanceTo_seq)]

/-! ## An entry is reached (R148, R149) -/

theorem State.leadStart_passView : s.leadStart.passView = (s.pins, s.tmr, s.clk,
    { s.seq with phase := .leadIn, due := s.seq.due + BitVec.ofNat 64 (40 * s.fld 0x1509 0 16), fired := none }, s.conv.passNo) := by
  have hblank := State.blankSpan_passView (s := { s with seq := { s.seq with due := s.seq.due + BitVec.ofNat 64 s.lead, fired := none } })
  unfold State.leadStart
  rw [State.seqShow_passView, State.seqPhase_passView]
  generalize State.blankSpan _ = t at hblank ⊢
  obtain ⟨hpins, htmr, hclk, hseq, hno⟩ := State.passView_eq_iff.mp hblank
  rw [hpins, htmr, hclk, hseq, hno, State.lead]

theorem State.trigWait_passView :
    ∃ f, s.trigWait.passView = (s.pins, s.tmr, s.clk, { s.seq with phase := .waiting, fired := f }, s.conv.passNo) := ⟨_, rfl⟩

theorem State.rd_of_par {t : State} (h : t.par = s.par) (id : Nat) : t.rd id = s.rd id := by
  rw [State.rd, State.rd, h]

theorem State.balRefresh_par : ∃ sw run, s.balRefresh.par = ((s.setFld 0x1502 0 24 sw).setFld 0x1503 0 23 run).par := ⟨_, _, rfl⟩

theorem State.Stored.rd_balRefresh (h : s.Stored) {id : Nat} (h2 : id ≠ 0x1502) (h3 : id ≠ 0x1503) : s.balRefresh.rd id = s.rd id := by
  obtain ⟨sw, run, hpar⟩ := s.balRefresh_par
  rw [State.rd_of_par hpar, State.rd_setFld_ne (h.setFld ..) _ _ _ _ _ h3, State.rd_setFld_ne h _ _ _ _ _ h2]

theorem State.Stored.blanked_blankSpan (h : s.Stored) : s.blankSpan.blanked = true := by
  unfold State.blankSpan State.blanked State.bit
  extract_lets hit probe
  have ht : ({ s with imp := { s.imp with spoiled := if hit then List.range 16 else s.imp.spoiled },
                      bal := { s.bal with probe := probe } } : State).Stored := h
  rw [(ht.setBit 0x1501 1 true).rd_balRefresh (by decide) (by decide)]
  exact State.bit_setBit_same ht 0x1501 1 true (by decide)

theorem State.Stored.rd_seqShow (h : s.Stored) {id : Nat} (hid : id ≠ 0x1201) (entry pass : Nat) : (s.seqShow entry pass).rd id = s.rd id := by
  rw [State.seqShow, State.rd_wr h, if_neg hid]

theorem State.Stored.rd_seqPhase (h : s.Stored) {id : Nat} (hid : id ≠ 0x1201) (p : SeqPhase) : (s.seqPhase p).rd id = s.rd id :=
  State.Stored.rd_seqShow (s := { s with seq := { s.seq with phase := p } }) h hid _ _

theorem State.Stored.blanked_leadStart (h : s.Stored) : s.leadStart.blanked = true := by
  have ht : ({ s with seq := { s.seq with due := s.seq.due + BitVec.ofNat 64 s.lead, fired := none } } : State).Stored := h
  unfold State.leadStart State.blanked State.bit
  rw [ht.blankSpan.seqPhase.rd_seqShow (by decide), ht.blankSpan.rd_seqPhase (by decide)]
  exact ht.blanked_blankSpan

theorem State.entryStart_of_wait (hp : s.seq.pass = 0) (hw : s.entryDue.wait = true) :
    s.entryStart = s.trigWait.seqShow s.seq.entry 0 := if_pos ⟨hp, hw⟩

theorem State.entryStart_of_blank (hp : s.seq.pass = 0) (hw : s.entryDue.wait = false) (hb : s.entryDue.blank = true) :
    s.entryStart = s.leadStart := by
  have hn : ¬ (s.seq.pass = 0 ∧ s.entryDue.wait = true) := fun hc => by simp [hc] at hw
  have he : s.entryStart = if s.seq.pass = 0 ∧ s.entryDue.blank then s.leadStart else s.tablePass := if_neg hn
  rw [he, if_pos ⟨hp, hb⟩]

theorem State.entryStart_of_pass (h : s.seq.pass ≠ 0 ∨ s.entryDue.wait = false ∧ s.entryDue.blank = false) :
    s.entryStart = s.tablePass := by
  have hw : ¬ (s.seq.pass = 0 ∧ s.entryDue.wait = true) := fun hc => by simp [hc] at h
  have hb : ¬ (s.seq.pass = 0 ∧ s.entryDue.blank = true) := fun hc => by simp [hc] at h
  have he : s.entryStart = if s.seq.pass = 0 ∧ s.entryDue.blank then s.leadStart else s.tablePass := if_neg hw
  rw [he, if_neg hb]

theorem State.entryStart_leaves : s.entryStart.pins = s.pins ∧ s.entryStart.tmr = s.tmr ∧ s.entryStart.clk = s.clk := by
  have hwait := s.trigWait_passView
  have hlead := s.leadStart_passView
  simp only [State.passView, Prod.mk.injEq] at hwait hlead
  obtain ⟨f, hwpins, hwtmr, hwclk, -⟩ := hwait
  obtain ⟨hlpins, hltmr, hlclk, -⟩ := hlead
  obtain ⟨hpins, htmr, hclk, -⟩ := s.tablePass_leaves
  unfold State.entryStart
  dsimp only
  split
  · exact ⟨hwpins, hwtmr, hwclk⟩
  · split
    · exact ⟨hlpins, hltmr, hlclk⟩
    · exact ⟨hpins, htmr, hclk⟩

end

/-- Settles O33, by the phase SEQ_PASS_START finds; in a running table by how the entry due is reached. -/
theorem sequencerPasses : Obligations.SequencerPasses := by
  intro s hend
  refine ⟨fun hp => ?_, fun hreq hchk hwait hrun => ⟨fun hp => ?_, fun hp hw ha => ?_⟩⟩
  · exact congrArg (fun t : State => Host.Outcome.next t.settle) (seqPassStart_of_idle hend hp)
  · have hstart := seqPassStart_of_leadIn hend ⟨hreq, hchk, hwait, hrun⟩ hp
    obtain ⟨hpins, htmr, -⟩ := (s.advanceTo s.seq.due).tablePass_leaves
    refine ⟨_, congrArg (fun t : State => Host.Outcome.next t.settle) hstart, hpins.trans State.advanceTo_pins,
      htmr.trans State.advanceTo_tmr, ?_⟩
    exact State.advanceTo_startsPass.mp (State.tablePass_startsPass (by rw [State.advanceTo_seq, hend]))
  · have hstart := seqPassStart_of_running hend ⟨hreq, hchk, hwait, hrun⟩ hp hw ha
    obtain ⟨hpins, htmr, hclk⟩ := (s.advanceTo s.seq.due).entryStart_leaves
    have hdue : (s.advanceTo s.seq.due).entryDue = s.entryDue := by simp only [State.entryDue, State.advanceTo_seq]
    have hpass : (s.advanceTo s.seq.due).seq.pass = s.seq.pass := by rw [State.advanceTo_seq]
    refine ⟨_, congrArg (fun t : State => Host.Outcome.next t.settle) hstart, hpins.trans State.advanceTo_pins,
      htmr.trans State.advanceTo_tmr, hclk, fun h0 hwt => ?_, fun h0 hwt hb => ?_, fun h => ?_⟩
    · rw [State.entryStart_of_wait (hpass.trans h0) (hdue ▸ hwt)]
      obtain ⟨f, hf⟩ := (s.advanceTo s.seq.due).trigWait_passView
      exact ⟨f, (congrArg (·.2.2.2.1) hf).trans (by rw [State.advanceTo_seq])⟩
    · rw [State.entryStart_of_blank (hpass.trans h0) (hdue ▸ hwt) (hdue ▸ hb)]
      refine ⟨?_, fun hst => hst.advanceTo.blanked_leadStart⟩
      exact (congrArg (·.2.2.2.1) (s.advanceTo s.seq.due).leadStart_passView).trans (by rw [State.advanceTo_seq, State.advanceTo_fld])
    · rw [State.entryStart_of_pass (by rw [hpass, hdue]; exact h)]
      exact State.advanceTo_startsPass.mp (State.tablePass_startsPass (by rw [State.advanceTo_seq, hend]))

end Sys2Proof.Machine
end

section
/-! PROOFS. Patina: background updates, commits and reloads, and PATINA_SET with its stages (R165 to R181). -/
namespace Sys2Proof.Machine

/-! ## A request that is served (R73, R79) -/

section
variable {s : State} {src : Src} {r : Req} {code : Byte} {f : State → Req → State × Reply}

theorem State.Requests.serveCode_done {t : State} {status : Byte} {rsp : List Word} (h : s.Requests src r) (hc : r.code = code)
    (hf : f s r = (t, .done status rsp)) : s.serveCode src code f = t.complete src status rsp := by
  obtain ⟨hawake, hrun, hstarted, hrank⟩ := h
  simp [State.serveCode, State.serve, hrun, hawake, hc, hstarted, hrank, hf]

theorem State.Requests.serveCode_later {t : State} (h : s.Requests src r) (hc : r.code = code) (hf : f s r = (t, .later)) :
    s.serveCode src code f = t.markStarted src := by
  obtain ⟨hawake, hrun, hstarted, hrank⟩ := h
  simp [State.serveCode, State.serve, hrun, hawake, hc, hstarted, hrank, hf]

theorem noArgs_of_zero (h0 : r.a0 = 0) (h1 : r.a1 = 0) (h2 : r.a2 = 0) (h3 : r.a3 = 0) : noArgs r = true := by
  simp [noArgs, h0, h1, h2, h3]

end

/-! ## Background Patina (R165, R168, R169) -/

section
variable {s : State} {gains : List Word}

theorem State.patinaRuns_iff : s.patinaRuns = true ↔ s.pwr.mode = .run ∧ (s.rd 0x1300).getLsbD 0 = true := by
  simp [State.patinaRuns, State.bit]

theorem State.patinaRuns_eq_false_iff : s.patinaRuns = false ↔ s.pwr.mode ≠ .run ∨ (s.rd 0x1300).getLsbD 0 = false := by
  rw [← Bool.not_eq_true, State.patinaRuns_iff, Classical.not_and_iff_not_or_not, Bool.not_eq_true]

theorem patinaRotationMark_of_runs (h : s.patinaRuns = true) : patinaRotationMark s = { s with pat := { s.pat with mark := true } } := if_pos h

theorem patinaRotationMark_of_not_runs (h : s.patinaRuns = false) : patinaRotationMark s = s :=
  if_neg (Bool.eq_false_iff.mp h)

theorem patinaUpdate_of_not_runs (h : s.patinaRuns = false) : patinaUpdate gains s = s := by
  simp [patinaUpdate, h]

/-- The values an update period ends with (R164 to R166). -/
def State.updateValues (s : State) (gains : List Word) : List (Nat × Word) :=
  (gains.zipIdx.map fun x => (0x1320 + x.2, laneClamp (0x1320 + x.2) x.1)) ++ s.laneValues

/-- The state in which the values of an ended update period wait, the update counted, before convergence is judged (R168, R169). -/
def State.periodEnded (s : State) (gains : List Word) : State :=
  ({ s with pat := { s.pat with
      update := s.updateValues gains
      quiet := if (s.updateValues gains).any fun x => calMoved x.1 (s.baseOf x.1) x.2 then 0 else s.pat.quiet + 1 } }.patinaFresh).addSat 0x1301 8 8 1

/-- The first update that meets the conditions of R169 is announced. -/
theorem patinaUpdate_of_runs (hr : s.patinaRuns = true) (hg : gains.length = 55) :
    (∃ data, patinaUpdate gains s = ((s.periodEnded gains).setBit 0x1301 0 true).raise 29 data ∧ 8 ≤ (s.periodEnded gains).fld 0x1301 8 8) ∨
      patinaUpdate gains s = s.periodEnded gains := by
  unfold patinaUpdate
  rw [if_pos (by simp [hr, hg])]
  extract_lets
  split
  case isTrue h => exact .inl ⟨_, rfl, h.1⟩
  case isFalse => exact .inr rfl

theorem State.Stored.updates_periodEnded (h : s.Stored) (hn : s.fld 0x1301 8 8 < 7) : (s.periodEnded gains).fld 0x1301 8 8 < 8 := by
  have hf : (s.periodEnded gains).fld 0x1301 8 8 = min 255 (s.fld 0x1301 8 8 + 1) % 256 :=
    State.fld_setFld_same h.frame.patinaFresh 0x1301 8 8 _ (by decide)
  omega

theorem State.Stored.patinaUpdate_of_few (h : s.Stored) (hr : s.patinaRuns = true) (hg : gains.length = 55) (hn : s.fld 0x1301 8 8 < 7) :
    Machine.patinaUpdate gains s = s.periodEnded gains := by
  rcases patinaUpdate_of_runs hr hg with ⟨_, -, h8⟩ | heq
  · exact absurd (h.updates_periodEnded hn) (Nat.not_lt.mpr h8)
  · exact heq

theorem patinaUpdate_leaves (hr : s.patinaRuns = true) (hg : gains.length = 55) :
    (patinaUpdate gains s).pat = (s.periodEnded gains).pat ∧ (patinaUpdate gains s).seq = s.seq ∧ (patinaUpdate gains s).pins = s.pins := by
  rcases patinaUpdate_of_runs hr hg with ⟨data, heq, -⟩ | heq
  · rw [heq]
    simp only [State.raise_pat, State.raise_seq, State.raise_pins, State.setBit_pat, State.setBit_seq, State.setBit_pins]
    exact ⟨trivial, rfl, rfl⟩
  · rw [heq]
    exact ⟨rfl, rfl, rfl⟩

end

/-! ## Commits, reloads and PATINA_SET are taken or refused (R173, R179, R181) -/

section
variable {s : State} {src : Src} {r : Req} {chk : Check}

theorem calCommit_of_free (h : s.Requests src r) (hc : r.code = 0x21) (ha : noArgs r = true) (hhold : s.bit 0x1300 1 = false)
    (hset : s.pat.set = none) (hreload : s.pat.reload = none) (hcommit : s.pat.commit = none) :
    calCommit src s = State.markStarted { s with pat := { s.pat with commit := some (src, false) } } src :=
  h.serveCode_later hc (by simp [ha, hhold, hset, hreload, hcommit])

theorem calCommit_of_busy (h : s.Requests src r) (hc : r.code = 0x21) (ha : noArgs r = true)
    (hb : s.bit 0x1300 1 = true ∨ s.pat.set.isSome = true ∨ s.pat.reload.isSome = true ∨ s.pat.commit.isSome = true) :
    calCommit src s = s.complete src stRefused [] :=
  h.serveCode_done hc <| (if_neg (by simp [ha])).trans <| if_pos (by simpa only [Bool.or_eq_true, or_assoc] using hb)

theorem calReload_of_free (h : s.Requests src r) (hc : r.code = 0x22) (ha : noArgs r = true) (hset : s.pat.set = none)
    (hreload : s.pat.reload = none) (hcommit : s.pat.commit = none) :
    calReload src chk s = State.markStarted { s.nvRead chk with pat := { s.pat with reload := some (src, chk) } } src :=
  h.serveCode_later hc (by simp [ha, hset, hreload, hcommit])

theorem calReload_of_busy (h : s.Requests src r) (hc : r.code = 0x22) (ha : noArgs r = true)
    (hb : s.pat.set.isSome = true ∨ s.pat.reload.isSome = true ∨ s.pat.commit.isSome = true) :
    calReload src chk s = s.complete src stRefused [] :=
  h.serveCode_done hc <| (if_neg (by simp [ha])).trans <| if_pos (by rcases hb with hb | hb | hb <;> simp [hb])

/-- The occasions for refusing PATINA_SET but for the timer injection of a cell (R173). -/
theorem patinaSet_of_busy (h : s.Requests src r) (hc : r.code = 0x20) (ha : noArgs r = true)
    (hb : s.pwr.mode ≠ .run ∨ s.bit 0x1200 0 = false ∨ s.bit 0x1200 1 = true ∨ s.bit 0x1300 1 = true ∨ s.pat.commit.isSome = true ∨
      s.pat.reload.isSome = true ∨ s.pat.set.isSome = true) :
    patinaSet src s = s.complete src stRefused [] :=
  h.serveCode_done hc <| (if_neg (by simp [ha])).trans <| if_pos (by rcases hb with hb | hb | hb | hb | hb | hb | hb <;> simp [hb])

theorem patinaSet_of_free (h : s.Requests src r) (hc : r.code = 0x20) (ha : noArgs r = true) (hmode : s.pwr.mode = .run)
    (hrun : s.bit 0x1200 0 = true) (hload : s.bit 0x1200 1 = false) (hinj : s.bit 0x1108 15 = false) (hhold : s.bit 0x1300 1 = false)
    (hcommit : s.pat.commit = none) (hreload : s.pat.reload = none) (hset : s.pat.set = none) :
    patinaSet src s = (State.setBit { s with pat := { s.pat with
      set := some ⟨src, false, 0, 0, false, copies 24 (0, 0, false)⟩ } } 0x1301 2 true).markStarted src :=
  h.serveCode_later hc (by simp [ha, hmode, hrun, hload, hinj, hhold, hcommit, hreload, hset])

end

/-! ## Values take force as one change (R163, R168) -/

section
variable {s : State} {vs : List (Nat × Word)} {j : Nat}

/-- One value of the working set is replaced while `pat.count` stands at `n`. -/
def State.calReplace (n : Word) (s : State) (x : Nat × Word) : State :=
  { s.wr x.1 x.2 with pat := { s.pat with past := s.pat.past ++ [(n, x.1, s.rd x.1)] } }

theorem State.calPut_nil : s.calPut [] = s := rfl

theorem State.calPut_of_ne_nil (h : vs ≠ []) : s.calPut vs = (vs.foldl (State.calReplace (s.rd 0x1302)) s).addWord 0x1302 1 := by
  unfold State.calPut
  rw [if_neg (by simpa using h)]
  rfl

theorem State.Stored.calReplace {n : Word} {x : Nat × Word} (h : s.Stored) : (s.calReplace n x).Stored := (h.wr _ _).frame

theorem State.Stored.rd_calReplace (h : s.Stored) (n : Word) (x : Nat × Word) (j : Nat) :
    (s.calReplace n x).rd j = if j = x.1 then x.2 else s.rd j := State.rd_wr h x.1 j x.2

theorem State.Stored.foldl_calReplace {n : Word} (h : s.Stored) : (vs.foldl (State.calReplace n) s).Stored := h.foldl fun _ _ ht => ht.calReplace

theorem State.Stored.rd_foldl_calReplace_of_not_mem {n : Word} (h : s.Stored) (hj : ∀ x ∈ vs, x.1 ≠ j) :
    (vs.foldl (State.calReplace n) s).rd j = s.rd j := by
  induction vs generalizing s with
  | nil => rfl
  | cons x vs ih =>
    obtain ⟨hx, hvs⟩ := List.forall_mem_cons.mp hj
    rw [List.foldl_cons, ih h.calReplace hvs, h.rd_calReplace, if_neg hx.symm]

theorem State.Stored.rd_foldl_calReplace_of_mem {n w : Word} (h : s.Stored) (hm : (j, w) ∈ vs) (hu : ∀ x ∈ vs, x.1 = j → x.2 = w) :
    (vs.foldl (State.calReplace n) s).rd j = w := by
  induction vs generalizing s with
  | nil => exact absurd hm List.not_mem_nil
  | cons x vs ih =>
    obtain ⟨-, hvs⟩ := List.forall_mem_cons.mp hu
    rw [List.foldl_cons]
    by_cases hlater : (j, w) ∈ vs
    · exact ih h.calReplace hlater hvs
    · have hx : (j, w) = x := (List.mem_cons.mp hm).resolve_right hlater
      have hrest : ∀ y ∈ vs, y.1 ≠ j := by
        intro y hy hyj
        have hyw : y = (j, w) := Prod.ext hyj (hvs y hy hyj)
        exact hlater (hyw ▸ hy)
      rw [h.calReplace.rd_foldl_calReplace_of_not_mem hrest, h.rd_calReplace, ← hx, if_pos rfl]

theorem State.Stored.rd_calPut_of_not_mem (h : s.Stored) (hc : j ≠ 0x1302) (hj : ∀ x ∈ vs, x.1 ≠ j) : (s.calPut vs).rd j = s.rd j := by
  by_cases hvs : vs = []
  · rw [hvs, State.calPut_nil]
  · rw [State.calPut_of_ne_nil hvs, State.addWord, State.rd_wr h.foldl_calReplace, if_neg hc, h.rd_foldl_calReplace_of_not_mem hj]

theorem State.Stored.rd_calPut_of_mem {w : Word} (h : s.Stored) (hc : j ≠ 0x1302) (hm : (j, w) ∈ vs) (hu : ∀ x ∈ vs, x.1 = j → x.2 = w) :
    (s.calPut vs).rd j = w := by
  rw [State.calPut_of_ne_nil (List.ne_nil_of_mem hm), State.addWord, State.rd_wr h.foldl_calReplace, if_neg hc,
    h.rd_foldl_calReplace_of_mem hm hu]

/-- A change of the set is counted once, however many values it brings. -/
theorem State.Stored.rd_calPut_count (h : s.Stored) (hvs : vs ≠ []) (hj : ∀ x ∈ vs, x.1 ≠ 0x1302) :
    (s.calPut vs).rd 0x1302 = s.rd 0x1302 + 1 := by
  rw [State.calPut_of_ne_nil hvs, State.addWord, State.rd_wr h.foldl_calReplace, if_pos rfl, h.rd_foldl_calReplace_of_not_mem hj]
  rfl

theorem State.calPut_pat : ∃ past, (s.calPut vs).pat = { s.pat with past := past } := by
  by_cases hvs : vs = []
  · exact ⟨s.pat.past, by rw [hvs, State.calPut_nil]⟩
  · rw [State.calPut_of_ne_nil hvs, State.addWord_pat]
    refine List.foldlRecOn (motive := fun t : State => ∃ past, t.pat = { s.pat with past := past }) vs _ ⟨s.pat.past, rfl⟩ ?_
    rintro t ⟨past, ht⟩ x -
    exact ⟨past ++ [(s.rd 0x1302, x.1, t.rd x.1)], by simp only [State.calReplace, ht]⟩

/-- At a boundary at which no reload and no commit waits, the waiting values alone take force. -/
theorem State.calBoundary_of_idle (hr : s.pat.reload = none) (hc : s.pat.commit = none) :
    s.calBoundary = State.calPut { s with pat := { s.pat with due := [], update := [] } } (s.pat.update ++ s.pat.due) := by
  unfold State.calBoundary
  generalize s.pat.update ++ s.pat.due = vs
  obtain ⟨past, hpat⟩ := State.calPut_pat (s := { s with pat := { s.pat with due := [], update := [] } }) (vs := vs)
  generalize State.calPut _ vs = t at hpat ⊢
  have hreload : t.calReloadNow = t := by simp only [State.calReloadNow, hpat, hr]
  simp only [hreload, State.calCommitNow, hpat, hc]

theorem ne_count_of_isCal {id : Nat} (h : isCal id = true) : id ≠ 0x1302 := by
  rintro rfl
  exact absurd h (by decide)

/-- One waiting value takes force at a sweep boundary: it is counted, and no other parameter changes. -/
theorem State.Stored.calBoundary_of_single (h : s.Stored) {id : Nat} {v : Word} (hid : isCal id = true)
    (hvs : s.pat.update ++ s.pat.due = [(id, v)]) (hr : s.pat.reload = none) (hc : s.pat.commit = none) :
    s.calBoundary.rd id = v ∧ s.calBoundary.rd 0x1302 = s.rd 0x1302 + 1 ∧ s.calBoundary.pat.due = [] ∧ s.calBoundary.pat.update = [] ∧
      ∀ j, j ≠ id → j ≠ 0x1302 → s.calBoundary.rd j = s.rd j := by
  have hne : id ≠ 0x1302 := ne_count_of_isCal hid
  have ht : ({ s with pat := { s.pat with due := [], update := [] } } : State).Stored := h
  obtain ⟨past, hpat⟩ := State.calPut_pat (s := { s with pat := { s.pat with due := [], update := [] } }) (vs := [(id, v)])
  rw [State.calBoundary_of_idle hr hc, hvs, hpat]
  refine ⟨ht.rd_calPut_of_mem hne (by simp) (by simp), ht.rd_calPut_count (by simp) (by simpa using hne), rfl, rfl, fun j hj hcount => ?_⟩
  exact ht.rd_calPut_of_not_mem hcount (by simpa using hj.symm)

end

/-! ## The groups of PATINA_SET (R174) -/

theorem groupOf_isEmpty (n g : Nat) : (groupOf n g).isEmpty = decide (n ≤ 8 * g) := by
  rw [Bool.eq_iff_iff, decide_eq_true_eq, List.isEmpty_iff, groupOf, List.filterMap_eq_nil_iff]
  constructor
  · intro h
    refine Nat.le_of_not_lt fun hn => ?_
    have h0 := h 0 (List.mem_range.mpr (by decide))
    rw [if_pos (by omega)] at h0
    exact Option.some_ne_none _ h0
  · intro h i _
    rw [if_neg (by omega)]

theorem filterMap_range_lt (n m : Nat) : (List.range m).filterMap (fun i => if i < n then some i else none) = List.range (min m n) := by
  induction m with
  | zero => simp
  | succ m ih =>
    rw [List.range_succ, List.filterMap_append, ih]
    rcases Nat.lt_or_ge m n with h | h
    · rw [Nat.min_eq_left (Nat.le_of_lt h), Nat.min_eq_left h, List.range_succ]
      simp [h]
    · rw [Nat.min_eq_right h, Nat.min_eq_right (Nat.le_succ_of_le h)]
      simp [Nat.not_lt.mpr h]

theorem groupOf_first (n : Nat) : groupOf n 0 = List.range (min 8 n) := by
  simpa only [groupOf, Nat.mul_zero, Nat.zero_add] using filterMap_range_lt n 8

/-- The bits of the first `m` cells. -/
theorem foldl_two_pow_range (m : Nat) : (List.range m).foldl (fun a c => a + 2 ^ c) 0 = 2 ^ m - 1 := by
  induction m with
  | zero => rfl
  | succ m ih =>
    have hpos : 0 < 2 ^ m := Nat.two_pow_pos m
    rw [List.range_succ, List.foldl_append, ih, List.foldl_cons, List.foldl_nil, Nat.pow_succ]
    omega

/-! ## Tables that start and stop (R156, R157) -/

/-- The parameters a table's start or stop may change. -/
def tableParams : List Nat := [0x1201, 0x1501, 0x1502, 0x1503]

section
variable {s : State} {j : Nat}

theorem State.unblank_leaves : s.unblank.pins = s.pins ∧ s.unblank.pat = s.pat ∧ s.unblank.seq = { s.seq with spanEnd := none } := by
  unfold State.unblank
  extract_lets
  split <;> exact ⟨rfl, rfl, rfl⟩

theorem State.Stored.rd_unblank (h : s.Stored) (hj : j ∉ tableParams) : s.unblank.rd j = s.rd j := by
  simp only [tableParams, List.mem_cons, List.not_mem_nil, or_false, not_or] at hj
  obtain ⟨-, hspan, hsw, hsht⟩ := hj
  unfold State.unblank
  extract_lets _ t
  have ht : t.Stored := h.frame
  split
  · rw [(ht.setBit 0x1501 1 false).rd_balRefresh hsw hsht, State.setBit, State.rd_setFld_ne ht _ _ _ _ _ hspan]
    rfl
  · rfl

theorem ne_status_of_not_mem_tableParams (hj : j ∉ tableParams) : j ≠ 0x1201 := fun h => hj (by simp [h, tableParams])

theorem State.Stored.rd_seqStop (h : s.Stored) (hj : j ∉ tableParams) : s.seqStop.rd j = s.rd j := by
  rw [State.seqStop, h.seqPhase.rd_unblank hj, h.rd_seqPhase (ne_status_of_not_mem_tableParams hj)]

/-- A table starts: the sequencer takes its phase, an interrupted blanked span ends, and `seq.status` shows it. -/
theorem State.tableStart_eq (p : SeqPhase) (gap : Bool) :
    ∃ q entry, q.phase = p ∧ s.tableStart p gap = (State.unblank { s with seq := q }).seqShow entry 0 := ⟨_, _, rfl, rfl⟩

theorem State.tableStart_leaves (p : SeqPhase) (gap : Bool) : (s.tableStart p gap).pins = s.pins ∧ (s.tableStart p gap).pat = s.pat ∧
    (s.tableStart p gap).seq.phase = p := by
  obtain ⟨q, entry, hq, heq⟩ := s.tableStart_eq p gap
  obtain ⟨hpins, hpat, hseq⟩ := State.unblank_leaves (s := { s with seq := q })
  rw [heq]
  exact ⟨hpins, hpat, (congrArg Seq.phase hseq).trans hq⟩

theorem State.Stored.rd_tableStart (h : s.Stored) (p : SeqPhase) (gap : Bool) (hj : j ∉ tableParams) :
    (s.tableStart p gap).rd j = s.rd j := by
  obtain ⟨q, entry, -, heq⟩ := s.tableStart_eq p gap
  rw [heq, State.Stored.rd_seqShow h.frame.unblank (ne_status_of_not_mem_tableParams hj), State.Stored.rd_unblank h.frame hj]
  rfl

theorem State.activeStart_pat (gap : Bool) : (s.activeStart gap).pat = s.pat := by
  unfold State.activeStart
  split
  · exact (State.tableStart_leaves ..).2.1
  · exact State.unblank_leaves.2.1

theorem State.Stored.rd_activeStart (h : s.Stored) (gap : Bool) (hj : j ∉ tableParams) : (s.activeStart gap).rd j = s.rd j := by
  unfold State.activeStart
  split
  · rw [h.takeTc.rd_tableStart _ _ hj]
    rfl
  · exact h.rd_seqStop hj

theorem State.activeAgain_pat : s.activeAgain.pat = s.pat := by
  unfold State.activeAgain
  extract_lets t
  split
  · rw [State.seqLoadEvent, State.raise_pat, State.activeStart_pat]
  · exact State.activeStart_pat _

theorem State.Stored.rd_activeAgain (h : s.Stored) (hj : j ∉ tableParams) (hc : j ∉ countParams) : s.activeAgain.rd j = s.rd j := by
  unfold State.activeAgain
  extract_lets t
  split
  · rw [State.seqLoadEvent, h.activeStart.rd_raise hc, h.rd_activeStart _ hj]
  · exact h.rd_activeStart _ hj

end

/-! ## The stages of PATINA_SET (R174) -/

section
variable {s : State} {p : PatSet}

/-- The first group's switches close as the calibration table starts, where the node has a cell. -/
theorem State.setClose_of_first (hset : s.pat.set = some p) (hs : p.started = true) (hg : p.group = 0) (hc : p.closed = false)
    (hstart : p.start = s.seq.due.toNat) (hn : 0 < s.fld 0x1000 0 5) : s.setClose =
      State.shortOnly { s with pat := { s.pat with set := some { p with closed := true } } } (List.range (min 8 (s.fld 0x1000 0 5))) := by
  have hne : (List.range (min 8 (s.fld 0x1000 0 5))).isEmpty = false := by
    rw [← groupOf_first, groupOf_isEmpty, decide_eq_false (Nat.not_le.mpr hn)]
  unfold State.setClose
  simp only [hset, hs, hg, hc, hne, hstart, groupOf_first, Nat.mul_zero, Nat.add_zero, Nat.le_refl, decide_true, Bool.not_false, Bool.and_self,
    if_true]

theorem State.Stored.fld_shortOnly_range (h : s.Stored) (m : Nat) : (s.shortOnly (List.range (min 8 m))).fld 0x1006 0 24 = 2 ^ min 8 m - 1 := by
  have hle : 2 ^ min 8 m ≤ 2 ^ 8 := Nat.pow_le_pow_right (by decide) (Nat.min_le_left 8 m)
  rw [State.shortOnly, foldl_two_pow_range, State.fld_setFld_same h _ _ _ _ (by decide), Nat.mod_eq_of_lt (by omega)]

/-- The state in which the calibration table has taken the active table's place, the first group not yet shorted (R174, step 1). -/
def State.setStarted (s : State) (p : PatSet) : State :=
  let t := (s.takeTc calTable).tableStart .calibration true
  { t with pat := { t.pat with set := some { p with started := true, start := t.seq.due.toNat } } }

theorem State.setStarted_leaves : (s.setStarted p).pins = s.pins ∧ (s.setStarted p).seq.phase = .calibration :=
  have ⟨hpins, _, hphase⟩ := (s.takeTc calTable).tableStart_leaves .calibration true
  ⟨hpins, hphase⟩

theorem State.Stored.setStarted (h : s.Stored) : (s.setStarted p).Stored := h.takeTc.tableStart.frame

theorem State.Stored.fld_cells_setStarted (h : s.Stored) : (s.setStarted p).fld 0x1000 0 5 = s.fld 0x1000 0 5 :=
  congrArg (bitsOf · 0 5) (h.takeTc.rd_tableStart .calibration true (by decide))

theorem patinaSetStart_of_free (hset : s.pat.set = some p) (hs : p.started = false) (hmode : s.pwr.mode = .run) (hreq : s.pwr.request = none)
    (hchk : s.seq.checked = none) (hwait : s.host.applyWait = none) (hinj : s.conv.inject = []) (hplan : s.conv.plan = [])
    (hbusy : s.chis.busy = false) : patinaSetStart s = (s.setStarted p).setClose := by
  simp [patinaSetStart, hset, hs, hmode, hreq, hchk, hwait, hbusy, State.cellInjected, hinj, hplan, State.setStarted]

theorem patinaSetGroup_of_open (hset : s.pat.set = some p) (hs : p.started = true) (hg : 8 * p.group < s.fld 0x1000 0 5) :
    patinaSetGroup s = State.shortNone { s with
      clk := (s.advanceTo (BitVec.ofNat 64 (p.start + 20000 * p.group + 18000))).clk
      pat := { s.pat with set := some { p with group := p.group + 1, closed := false } } } := by
  unfold patinaSetGroup
  simp only [hset, hs, groupOf_isEmpty, Nat.not_le.mpr hg, decide_false, Bool.not_true, Bool.or_self, Bool.false_eq_true, if_false]
  rw [State.advanceTo_eq]

theorem State.Stored.fld_shortNone (h : s.Stored) : s.shortNone.fld 0x1006 0 24 = 0 := State.fld_setFld_same h 0x1006 0 24 0 (by decide)

/-! ## The new offsets (R174, step 5) -/

theorem mem_setChanges_iff {sums : List (Int × Nat × Bool)} {i : Nat} {m : Int} : (i, m) ∈ setChanges sums ↔ ∃ sum n clipped,
    sums[i]? = some (sum, n, clipped) ∧ (n ≠ 0 ∧ clipped = false ∧ sum.natAbs ≤ 100 * n) ∧ m = roundNear (256 * sum) n := by
  simp only [setChanges, List.mem_filterMap, List.mem_zipIdx_iff_getElem?, Prod.exists]
  constructor
  · rintro ⟨sum, n, clipped, k, hk, hx⟩
    split at hx
    case isTrue => exact absurd hx (by simp)
    case isFalse hgood =>
      obtain ⟨rfl, rfl⟩ : k = i ∧ roundNear (256 * sum) n = m := by simpa using hx
      simp only [not_or, Nat.not_lt, Bool.not_eq_true] at hgood
      exact ⟨sum, n, clipped, hk, hgood, rfl⟩
  · rintro ⟨sum, n, clipped, hk, hgood, rfl⟩
    refine ⟨sum, n, clipped, i, hk, if_neg ?_⟩
    simpa only [not_or, Nat.not_lt, Bool.not_eq_true] using hgood

/-- A cell is left out or has one new offset. -/
theorem setChanges_unique {sums : List (Int × Nat × Bool)} {i : Nat} {m m' : Int} (h : (i, m) ∈ setChanges sums) (h' : (i, m') ∈ setChanges sums) :
    m = m' := by
  obtain ⟨sum, n, clipped, hi, -, rfl⟩ := mem_setChanges_iff.mp h
  obtain ⟨sum', n', clipped', hi', -, rfl⟩ := mem_setChanges_iff.mp h'
  obtain ⟨rfl, rfl, -⟩ : sum = sum' ∧ n = n' ∧ clipped = clipped' := by simpa [hi] using hi'
  rfl

theorem lt_length_of_mem_setChanges {sums : List (Int × Nat × Bool)} {i : Nat} {m : Int} (h : (i, m) ∈ setChanges sums) : i < sums.length := by
  obtain ⟨_, _, _, hi, -⟩ := mem_setChanges_iff.mp h
  exact (List.getElem?_eq_some_iff.mp hi).1

/-- The parameter that holds the offset of the cell of an index (R185). -/
def offsetId (i : Nat) : Nat := 0x1362 + 2 * i

/-- The new offsets of the working set, by the means of a PATINA_SET. -/
def State.newOffsets (s : State) (p : PatSet) : List (Nat × Word) :=
  (setChanges p.sums).map fun x => (offsetId x.1, s.rd (offsetId x.1) - BitVec.ofInt 32 x.2)

theorem State.mem_newOffsets_of_mem {i : Nat} {m : Int} (h : (i, m) ∈ setChanges p.sums) :
    (offsetId i, s.rd (offsetId i) - BitVec.ofInt 32 m) ∈ s.newOffsets p := List.mem_map_of_mem h

theorem State.newOffsets_unique {i : Nat} {m : Int} (h : (i, m) ∈ setChanges p.sums) {x : Nat × Word} (hx : x ∈ s.newOffsets p)
    (hi : x.1 = offsetId i) : x.2 = s.rd (offsetId i) - BitVec.ofInt 32 m := by
  obtain ⟨⟨k, m'⟩, hk, rfl⟩ := List.mem_map.mp hx
  obtain rfl : k = i := by simp only [offsetId] at hi; omega
  rw [setChanges_unique hk h]

theorem State.ne_count_of_mem_newOffsets {x : Nat × Word} (hx : x ∈ s.newOffsets p) : x.1 ≠ 0x1302 := by
  obtain ⟨⟨k, m⟩, -, rfl⟩ := List.mem_map.mp hx
  simp only [offsetId]
  omega

/-- The state in which the new offsets are in force and counted; that is so where no offset is new, too. -/
def State.setPut (s : State) (p : PatSet) : State :=
  let s1 := { s with pat := { s.pat with set := none } }
  (if (setChanges p.sums).isEmpty then s1.addWord 0x1302 1 else s1).calPut (s.newOffsets p)

theorem State.setPut_of_nil (h : setChanges p.sums = []) : s.setPut p = State.addWord { s with pat := { s.pat with set := none } } 0x1302 1 := by
  simp [State.setPut, State.newOffsets, h, State.calPut_nil]

theorem State.setPut_of_ne_nil (h : setChanges p.sums ≠ []) :
    s.setPut p = State.calPut { s with pat := { s.pat with set := none } } (s.newOffsets p) := by
  simp [State.setPut, h]

theorem State.Stored.setPut (h : s.Stored) : (s.setPut p).Stored := ((h.frame.addWord _ _).ite h.frame).calPut

theorem State.setPut_set : (s.setPut p).pat.set = none := by
  by_cases hch : setChanges p.sums = []
  · rw [State.setPut_of_nil hch]
    rfl
  · obtain ⟨past, hpat⟩ := State.calPut_pat (s := { s with pat := { s.pat with set := none } }) (vs := s.newOffsets p)
    rw [State.setPut_of_ne_nil hch, hpat]

theorem State.Stored.rd_setPut_count (h : s.Stored) : (s.setPut p).rd 0x1302 = s.rd 0x1302 + 1 := by
  by_cases hch : setChanges p.sums = []
  · rw [State.setPut_of_nil hch, State.addWord, State.rd_wr h.frame, if_pos rfl]
    rfl
  · have hne : s.newOffsets p ≠ [] := by simpa [State.newOffsets] using hch
    rw [State.setPut_of_ne_nil hch]
    exact State.Stored.rd_calPut_count h.frame hne fun x hx => State.ne_count_of_mem_newOffsets hx

theorem State.Stored.rd_setPut_offset (h : s.Stored) {i : Nat} {m : Int} (hm : (i, m) ∈ setChanges p.sums) :
    (s.setPut p).rd (offsetId i) = s.rd (offsetId i) - BitVec.ofInt 32 m := by
  rw [State.setPut_of_ne_nil (List.ne_nil_of_mem hm)]
  exact State.Stored.rd_calPut_of_mem h.frame (by simp only [offsetId]; omega) (State.mem_newOffsets_of_mem hm) fun x hx =>
    State.newOffsets_unique hm hx

/-- The state of a finished PATINA_SET before the active table restarts: offsets in force, switches open, counted (R174, step 5). -/
def State.setDone (s : State) (p : PatSet) : State := ((s.setPut p).shortNone.setBit 0x1301 2 false).addSat 0x1308 0 16 1

theorem State.Stored.setDone (h : s.Stored) : (s.setDone p).Stored := (h.setPut.shortNone.setBit _ _ _).addSat _ _ _ _

theorem State.Stored.rd_setDone (h : s.Stored) {j : Nat} (hshort : j ≠ 0x1006) (hstat : j ≠ 0x1301) (hcnt : j ≠ 0x1308) :
    (s.setDone p).rd j = (s.setPut p).rd j := by
  rw [State.setDone, (h.setPut.shortNone.setBit _ _ _).rd_addSat_ne hcnt, State.setBit, State.rd_setFld_ne h.setPut.shortNone _ _ _ _ _ hstat,
    State.shortNone, State.rd_setFld_ne h.setPut _ _ _ _ _ hshort]

theorem State.Stored.fld_short_setDone (h : s.Stored) : (s.setDone p).fld 0x1006 0 24 = 0 := by
  have hrd : (s.setDone p).rd 0x1006 = (s.setPut p).shortNone.rd 0x1006 := by
    rw [State.setDone, (h.setPut.shortNone.setBit _ _ _).rd_addSat_ne (by decide), State.setBit,
      State.rd_setFld_ne h.setPut.shortNone _ _ _ _ _ (by decide)]
  exact (congrArg (bitsOf · 0 24) hrd).trans h.setPut.fld_shortNone

/-- PATINA_SET ends: the active table restarts, PATSETDONE is raised and the command completes (R173, R174, step 6). -/
def State.setEnded (s : State) (p : PatSet) (data : Word) (rsp : List Word) : State :=
  ((s.setDone p).activeAgain.raise 30 data).complete p.src stOk rsp

theorem patinaSetApply_of_finished (hset : s.pat.set = some p) (hs : p.started = true) (hg : s.fld 0x1000 0 5 ≤ 8 * p.group) :
    ∃ data rsp, patinaSetApply s = s.setEnded p data rsp := by
  unfold patinaSetApply
  simp only [hset, hs, groupOf_isEmpty, hg, decide_true, Bool.not_true, Bool.or_self, Bool.false_eq_true, if_false]
  exact ⟨_, _, rfl⟩

theorem State.setEnded_set (data : Word) (rsp : List Word) : (s.setEnded p data rsp).pat.set = none := by
  rw [State.setEnded, State.complete_pat, State.raise_pat, State.activeAgain_pat]
  exact State.setPut_set

theorem State.Stored.rd_setEnded (h : s.Stored) (data : Word) (rsp : List Word) {j : Nat} (hj : j ∉ tableParams) (hc : j ∉ countParams) :
    (s.setEnded p data rsp).rd j = (s.setDone p).rd j := by
  have hroute : j ≠ 0x200F := fun hx => hc (by simp [hx, countParams])
  rw [State.setEnded, h.setDone.activeAgain.raise.rd_complete hroute, h.setDone.activeAgain.rd_raise hc, h.setDone.rd_activeAgain hj hc]

end

/-! ## What the stages of PATINA_SET leave behind -/

section
variable {s : State} {p : PatSet}

/-- PATINA_SET_START shorts the first group in the pass the calibration table begins with (R174, steps 1 and 2). -/
theorem exec_patinaSetStart_of_free (h : s.Stored) (hset : s.pat.set = some p) (hs : p.started = false) (hg : p.group = 0)
    (hc : p.closed = false) (hmode : s.pwr.mode = .run) (hreq : s.pwr.request = none) (hchk : s.seq.checked = none)
    (hwait : s.host.applyWait = none) (hinj : s.conv.inject = []) (hplan : s.conv.plan = []) (hbusy : s.chis.busy = false)
    (hn : 0 < s.fld 0x1000 0 5) :
    ∃ u : State, exec .patinaSetStart s = .next u.settle ∧ u.pat.set = some { p with started := true, start := u.seq.due.toNat, closed := true } ∧
      u.seq.phase = .calibration ∧ u.fld 0x1006 0 24 = 2 ^ (min 8 (s.fld 0x1000 0 5)) - 1 ∧ u.pins = s.pins := by
  have hclose := State.setClose_of_first (s := s.setStarted p) (p := { p with started := true, start := (s.setStarted p).seq.due.toNat })
    rfl rfl hg hc rfl (by rw [h.fld_cells_setStarted]; exact hn)
  rw [h.fld_cells_setStarted, ← patinaSetStart_of_free hset hs hmode hreq hchk hwait hinj hplan hbusy] at hclose
  obtain ⟨hpins, hphase⟩ := s.setStarted_leaves (p := p)
  refine ⟨patinaSetStart s, rfl, ?_⟩
  rw [hclose]
  exact ⟨rfl, hphase, State.Stored.fld_shortOnly_range h.setStarted.frame _, hpins⟩

/-- PATINA_SET_GROUP opens the switches and leaves every other parameter (R174, step 4). -/
theorem exec_patinaSetGroup_of_open (h : s.Stored) (hset : s.pat.set = some p) (hs : p.started = true)
    (hg : 8 * p.group < s.fld 0x1000 0 5) :
    ∃ t, exec .patinaSetGroup s = .next t ∧ t.pat = { s.pat with set := some { p with group := p.group + 1, closed := false } } ∧
      t.fld 0x1006 0 24 = 0 ∧ t = { s with clk := t.clk, par := t.par, pat := t.pat } ∧
      t.clk = (s.advanceTo (BitVec.ofNat 64 (p.start + 20000 * p.group + 18000))).clk ∧ ∀ j, j ≠ 0x1006 → t.rd j = s.rd j := by
  refine ⟨patinaSetGroup s, rfl, ?_⟩
  rw [patinaSetGroup_of_open hset hs hg]
  generalize (s.advanceTo _).clk = clk
  exact ⟨rfl, State.Stored.fld_shortNone h.frame, rfl, rfl, fun j hj => State.rd_setFld_ne h.frame 0x1006 j 0 24 0 hj⟩

/-- PATINA_SET_APPLY gives each cell that is not left out its new offset (R174, step 5). -/
theorem exec_patinaSetApply_of_finished (h : s.Stored) (hset : s.pat.set = some p) (hs : p.started = true)
    (hg : s.fld 0x1000 0 5 ≤ 8 * p.group) (hlen : p.sums.length ≤ 24) :
    ∃ u : State, exec .patinaSetApply s = .next u.settle ∧ u.pat.set = none ∧ u.rd 0x1302 = s.rd 0x1302 + 1 ∧ u.fld 0x1006 0 24 = 0 ∧
      ∀ i m, (i, m) ∈ setChanges p.sums → u.rd (0x1362 + 2 * i) = s.rd (0x1362 + 2 * i) - BitVec.ofInt 32 m := by
  obtain ⟨data, rsp, heq⟩ := patinaSetApply_of_finished hset hs hg
  refine ⟨patinaSetApply s, rfl, ?_⟩
  rw [heq]
  refine ⟨State.setEnded_set data rsp, ?_, ?_, fun i m hm => ?_⟩
  · rw [h.rd_setEnded data rsp (by decide) (by decide), h.rd_setDone (by decide) (by decide) (by decide), h.rd_setPut_count]
  · exact (congrArg (bitsOf · 0 24) (h.rd_setEnded data rsp (by decide) (by decide))).trans h.fld_short_setDone
  · have hi : i < 24 := Nat.lt_of_lt_of_le (lt_length_of_mem_setChanges hm) hlen
    have htable : 0x1362 + 2 * i ∉ tableParams := by
      simp only [tableParams, List.mem_cons, List.not_mem_nil, or_false, not_or]
      omega
    have hcount : 0x1362 + 2 * i ∉ countParams := by
      simp only [countParams, List.mem_cons, List.not_mem_nil, or_false, not_or]
      omega
    rw [h.rd_setEnded data rsp htable hcount, h.rd_setDone (by omega) (by omega) (by omega)]
    exact h.rd_setPut_offset hm

end

/-- Settles O36. Values that wait take force through one fold of writes of distinct parameters; a PATINA_SET is followed stage by stage. -/
theorem patinaCalibrates : Obligations.PatinaCalibrates := by
  refine ⟨fun s => ⟨fun hmode hon => ?_, fun hoff => ?_, fun src r h h0 h1 h2 h3 => ?_, fun id v hst hid hvs hr hc =>
      hst.calBoundary_of_single hid hvs hr hc⟩,
    fun s => ⟨fun src r h hcode h0 h1 h2 h3 => ?_, fun p hst hset hs hg hc hmode hreq hchk hwait hinj hplan hbusy hn =>
      exec_patinaSetStart_of_free hst hset hs hg hc hmode hreq hchk hwait hinj hplan hbusy hn, fun p hst hset hs => ?_⟩,
    fun sums i sum n clipped hi => ?_⟩
  · have hruns : s.patinaRuns = true := State.patinaRuns_iff.mpr ⟨hmode, hon⟩
    refine ⟨congrArg Host.Outcome.next (patinaRotationMark_of_runs hruns), fun gains hg => ?_⟩
    obtain ⟨hpat, hseq, hpins⟩ := patinaUpdate_leaves hruns hg
    refine ⟨_, rfl, congrArg Pat.update hpat, (congrArg Pat.due hpat :), (congrArg Pat.cells hpat :), hseq, hpins, fun hst hn => ?_⟩
    rw [hpat]
    exact hst.patinaUpdate_of_few hruns hg hn
  · have hruns : s.patinaRuns = false := State.patinaRuns_eq_false_iff.mpr hoff
    exact ⟨congrArg Host.Outcome.next (patinaRotationMark_of_not_runs hruns),
      fun gains => congrArg Host.Outcome.next (patinaUpdate_of_not_runs hruns)⟩
  · have ha : noArgs r = true := noArgs_of_zero h0 h1 h2 h3
    refine ⟨fun hcode => ⟨fun ⟨hhold, hset, hreload, hcommit⟩ => ?_, fun hb => ?_⟩,
      fun hcode chk => ⟨fun ⟨hset, hreload, hcommit⟩ => ?_, fun hb => ?_⟩⟩
    · exact congrArg Host.Outcome.next (calCommit_of_free h hcode ha hhold hset hreload hcommit)
    · exact congrArg Host.Outcome.next (calCommit_of_busy h hcode ha hb)
    · exact congrArg Host.Outcome.next (calReload_of_free h hcode ha hset hreload hcommit)
    · exact congrArg Host.Outcome.next (calReload_of_busy h hcode ha hb)
  · have ha : noArgs r = true := noArgs_of_zero h0 h1 h2 h3
    refine ⟨fun hb => ?_, fun hmode hrun hload hinj hhold hcommit hreload hset => ?_⟩
    · exact congrArg Host.Outcome.next (patinaSet_of_busy h hcode ha hb)
    · exact congrArg Host.Outcome.next (patinaSet_of_free h hcode ha hmode hrun hload hinj hhold hcommit hreload hset)
  · exact ⟨fun hg => exec_patinaSetGroup_of_open hst hset hs hg, fun hg hlen => exec_patinaSetApply_of_finished hst hset hs hg hlen⟩
  · refine ⟨fun hgood => mem_setChanges_iff.mpr ⟨sum, n, clipped, hi, hgood, rfl⟩, fun hbad m hm => ?_⟩
    obtain ⟨sum', n', clipped', hi', ⟨hn, hclip, hmean⟩, -⟩ := mem_setChanges_iff.mp hm
    obtain ⟨rfl, rfl, rfl⟩ : sum = sum' ∧ n = n' ∧ clipped = clipped' := by simpa [hi] using hi'
    rcases hbad with h | h | h
    · exact hn h
    · exact Bool.false_ne_true (hclip.symm.trans h)
    · exact absurd hmean (Nat.not_le.mpr h)

end Sys2Proof.Machine
end

section
/-! PROOFS. The balancing plan and its items (R215, R216, R231), and the assignment with its budget and its lease (R211 to R213, R217). -/
namespace Sys2Proof.Machine

/-! ## The plan's items (R216, R231) -/

section
variable {value : Nat → Option Int} {lo target d : Int} {r : BalReport} {c : Fin 24}

theorem mem_insertRank {x y : Int × BalItem} {l : List (Int × BalItem)} : y ∈ insertRank x l ↔ y = x ∨ y ∈ l := by
  induction l with
  | nil => exact List.mem_cons
  | cons z t ih =>
    unfold insertRank
    split
    · exact List.mem_cons
    · simp only [List.mem_cons, ih, or_left_comm]

theorem mem_foldl_insertRank {y : Int × BalItem} {xs l : List (Int × BalItem)} :
    y ∈ xs.foldl (fun l x => insertRank x l) l ↔ y ∈ xs ∨ y ∈ l := by
  induction xs generalizing l with
  | nil => simp
  | cons x xs ih => rw [List.foldl_cons, ih, mem_insertRank, List.mem_cons, or_left_comm, or_assoc]

/-- The rank and the bleed `planItems` gives cell `k` (from 0), if it bleeds it. -/
def rankedBleed (value : Nat → Option Int) (lo target : Int) (r : BalReport) (k : Nat) : Option (Int × BalItem) :=
  match value k with
  | some v =>
    if r.stuck.getLsbD k || (r.sw.getLsbD k && decide (2 * (v - lo) > target)) then some (v - lo, .bleed (Fin.ofNat 24 k)) else none
  | none => none

/-- The rank and the command `planItems` gives shuttle `j` (from 0), if it runs it. -/
def rankedShuttle (value : Nat → Option Int) (target : Int) (r : BalReport) (j : Nat) : Option (Int × BalItem) :=
  match value j, value (j + 1) with
  | some a, some b =>
    let d := a - b
    if r.sht.getLsbD j && decide (4 * (if d < 0 then -d else d) > target) then
      some ((if d < 0 then -d else d), .shuttle (Fin.ofNat 23 j) (if d < 0 then (r.imax : Int) else -(r.imax : Int)))
    else none
  | _, _ => none

theorem planItems_eq : planItems value lo target r =
    ((((List.range 24).filterMap (rankedBleed value lo target r)) ++ (List.range 23).filterMap (rankedShuttle value target r)).foldl
      (fun l x => insertRank x l) []).map (·.2) := rfl

theorem rankedBleed_eq_some {k : Nat} {x : Int × BalItem} : rankedBleed value lo target r k = some x ↔
    ∃ v, value k = some v ∧ (r.stuck.getLsbD k = true ∨ (r.sw.getLsbD k = true ∧ target < 2 * (v - lo))) ∧
      (v - lo, .bleed (Fin.ofNat 24 k)) = x := by
  unfold rankedBleed
  cases value k <;> simp

theorem rankedShuttle_ne_bleed (k : Nat) : rankedShuttle value target r k ≠ some (d, .bleed c) := by
  unfold rankedShuttle
  split
  · dsimp only
    split <;> simp
  · simp

/-- The plan bleeds the cells stuck closed and the eligible cells above the lowest by more than half the target. -/
theorem bleed_mem_planItems : .bleed c ∈ planItems value lo target r ↔
    ∃ v, value c.val = some v ∧ (r.stuck.getLsbD c.val = true ∨ (r.sw.getLsbD c.val = true ∧ target < 2 * (v - lo))) := by
  have hof (k : Nat) (hk : k < 24) : Fin.ofNat 24 k = c ↔ k = c.val := by rw [Fin.ext_iff, Fin.val_ofNat, Nat.mod_eq_of_lt hk]
  rw [planItems_eq]
  simp only [List.mem_map, mem_foldl_insertRank, List.mem_append, List.mem_filterMap, List.mem_range, List.not_mem_nil, or_false]
  constructor
  · rintro ⟨⟨d, i⟩, ⟨k, hk, hx⟩ | ⟨k, -, hx⟩, rfl⟩
    · obtain ⟨v, hv, hwhy, hx⟩ := rankedBleed_eq_some.mp hx
      obtain rfl := (hof k hk).mp (BalItem.bleed.inj (congrArg Prod.snd hx))
      exact ⟨v, hv, hwhy⟩
    · exact absurd hx (rankedShuttle_ne_bleed k)
  · rintro ⟨v, hv, hwhy⟩
    refine ⟨(v - lo, .bleed c), .inl ⟨c.val, c.isLt, rankedBleed_eq_some.mpr ⟨v, hv, hwhy, ?_⟩⟩, rfl⟩
    rw [(hof c.val c.isLt).mpr rfl]

end

/-! ## The evaluation and the report (R215, R216) -/

section
variable {s : State} {slot : Fin 32} {g : Goal} {reports : List BalReport}

theorem balPlanEvaluate_of_rest {v : Int} {vs : List Int} (hup : s.up = true) (hg : nth s.plc.goals slot.val none = some g)
    (hruns : s.runs ⟨1, slot⟩ = true) (hrest : g.kind = 2 ∨ (g.kind = 1 ∧ atRest reports = true))
    (hv : (reports.flatMap fun r => (List.range 24).filterMap (repValue (g.kind == 2) (s.planTicks reports) r)) = v :: vs) :
    balPlanEvaluate slot reports s = (reports.foldl (fun (t : State) (r : BalReport) =>
      t.planSend slot r.node (planItems (repValue (g.kind == 2) (s.planTicks reports) r) (vs.foldl min v) g.arg1.toNat r)) s).goalCheck slot g
        (vs.foldl max v - vs.foldl min v) := by
  have hkind : (g.kind == 1 || g.kind == 2) = true := by
    rcases hrest with h | ⟨h, -⟩ <;> simp [h]
  have hnew : (g.kind == 1 && !atRest reports) = false := by
    rcases hrest with h | ⟨-, h⟩ <;> simp [h]
  simp only [balPlanEvaluate, hg, hup, hkind, hruns, hnew, hv, Bool.and_self, Bool.not_true, Bool.false_eq_true, if_false]

theorem balPlanEvaluate_of_no_rest (hup : s.up = true) (hg : nth s.plc.goals slot.val none = some g)
    (hruns : s.runs ⟨1, slot⟩ = true) (hk : g.kind = 1) (hrest : atRest reports = false) :
    balPlanEvaluate slot reports s =
      (s.bal.planned.filter fun x => x.1 == slot).foldl (fun (t : State) x => t.sendItems x.2.1 x.2.2) s := by
  have hkind : (g.kind == 1 || g.kind == 2) = true := by simp [hk]
  have hold : (g.kind == 1 && !atRest reports) = true := by simp [hk, hrest]
  simp only [balPlanEvaluate, hg, hup, hkind, hruns, hold, Bool.and_self, Bool.not_true, Bool.false_eq_true, if_false, if_true]

theorem balReport_of_other {plan : FAddr} (hup : s.up = true) (hv : s.fab.valid = true) (hp : plan ≠ s.fab.addr) :
    balReport plan s = s.sendTo 0x09 plan (reportBytes s.report) := by
  simp [balReport, hup, hv, hp, tyJob]

theorem balReport_of_none {plan : FAddr} (h : s.up = false ∨ s.fab.valid = false ∨ plan = s.fab.addr) : balReport plan s = s := by
  rcases h with h | h | h <;> simp [balReport, h]

end

/-! ## The budget (R211 to R213) -/

section
variable {s : State} {items : List BalItem}

theorem State.dropToFit_prefix (n : Nat) (items : List BalItem) : s.dropToFit n items <+: items := by
  induction n generalizing items with
  | zero => exact List.prefix_refl items
  | succ n ih =>
    unfold State.dropToFit
    split
    · exact List.prefix_refl items
    · exact (ih _).trans (List.dropLast_prefix items)

theorem State.dropToFit_of_fits (n : Nat) (h : s.fits items = true) : s.dropToFit n items = items := by
  cases n with
  | zero => rfl
  | succ n => exact if_pos h

theorem State.fits_dropToFit {n : Nat} (hn : items.length ≤ n) : s.fits (s.dropToFit n items) = true ∨ s.dropToFit n items = [] := by
  induction n generalizing items with
  | zero => exact .inr (List.eq_nil_of_length_eq_zero (Nat.le_zero.mp hn))
  | succ n ih =>
    unfold State.dropToFit
    split
    case isTrue h => exact .inl h
    case isFalse => exact ih (by rw [List.length_dropLast]; omega)

/-- `bal.status` (0x1501) has no part in P or B. -/
theorem State.Stored.fits_setBit_status (h : s.Stored) (n : Nat) (b : Bool) : (s.setBit 0x1501 n b).fits items = s.fits items := by
  have hrd (id : Nat) (hid : id ≠ 0x1501) : (s.setBit 0x1501 n b).rd id = s.rd id := State.rd_setFld_ne h _ _ _ _ _ hid
  have hbudget : (s.setBit 0x1501 n b).budget = s.budget := by
    rw [State.budget, State.budget, State.sfld, State.sfld, State.fld, State.fld, hrd 0x1506 (by decide)]
    rfl
  have hpower : (s.setBit 0x1501 n b).powerNum items = s.powerNum items := by
    simp only [State.powerNum, State.cellV, hrd 0x1504 (by decide), State.setBit_bal, State.setBit_sense]
  rw [State.fits, State.fits, hbudget, hpower]

theorem State.balRefresh_bal : ∃ command idle, s.balRefresh.bal = { s.bal with command := command, idleLeft := idle } := ⟨_, _, rfl⟩

/-- Outside a probe and a segment, the items in force are judged anew. -/
theorem State.applyBudget_bal (hk : s.balKeeps = false) : ∃ ob command idle, s.applyBudget.bal =
    { s.bal with applied := s.dropToFit s.bal.assigned.length s.bal.assigned, overBudget := ob, command := command, idleLeft := idle } := by
  unfold State.applyBudget
  extract_lets app _ _ _ u
  have happ : app = s.dropToFit s.bal.assigned.length s.bal.assigned := if_neg (by simp [hk])
  have hu : ∃ ob, u.bal = { s.bal with applied := app, overBudget := ob } := by
    dsimp only [u]
    split
    · exact ⟨true, State.raise_bal ..⟩
    · exact ⟨s.bal.overBudget, rfl⟩
  obtain ⟨ob, hu⟩ := hu
  obtain ⟨command, idle, hbal⟩ := u.balRefresh_bal
  exact ⟨ob, command, idle, by rw [hbal, hu, happ]⟩

theorem State.applyBudget_leaves : s.applyBudget.pins = s.pins ∧ s.applyBudget.seq = s.seq := by
  unfold State.applyBudget
  extract_lets app _ _ _ u
  have hu : u.pins = s.pins ∧ u.seq = s.seq := by
    dsimp only [u]
    split
    · exact ⟨State.raise_pins .., State.raise_seq ..⟩
    · exact ⟨rfl, rfl⟩
  exact hu

/-! ## The assignment (R217) -/

theorem balAssignmentReceived_of_up (hup : s.up = true) : balAssignmentReceived items s =
    { s with bal := { s.bal with waiting := some items, leased := some s.clk.ref } }.setBit 0x1501 4 false := if_pos hup

theorem balAssignmentApply_of_held (hw : s.bal.waiting = some items) (h : (s.rd 0x1501).getLsbD 1 = true ∨ s.bal.probe.isSome = true) :
    balAssignmentApply s = s := by
  have hb : (s.blanked || s.segmentRuns || s.bal.probe.isSome) = true := by
    rcases h with h | h <;> simp [State.blanked, State.bit, h]
  simp only [balAssignmentApply, hw, hb, if_true]

/-- The assignment that waits has become the one in force; what of it the budget admits is not judged yet. -/
def State.assignmentTaken (s : State) (items : List BalItem) : State :=
  { s with bal := { s.bal with waiting := none, assigned := items } }.setBit 0x1501 0 true

theorem balAssignmentApply_of_free (hw : s.bal.waiting = some items) (hb : (s.rd 0x1501).getLsbD 1 = false) (hp : s.bal.probe = none)
    (hseg : s.segmentRuns = false) : balAssignmentApply s = (s.assignmentTaken items).applyBudget := by
  have hfree : (s.blanked || s.segmentRuns || s.bal.probe.isSome) = false := by
    simp only [State.blanked, State.bit, hb, hp, hseg, Option.isSome_none, Bool.or_self]
  simp only [balAssignmentApply, hw, hfree, Bool.false_eq_true, if_false]
  rfl

theorem State.Stored.balKeeps_assignmentTaken (h : s.Stored) (hp : s.bal.probe = none) (hseg : s.segmentRuns = false) :
    (s.assignmentTaken items).balKeeps = false := by
  have hrd : (s.assignmentTaken items).rd 0x1401 = s.rd 0x1401 := State.rd_setFld_ne h.frame _ _ _ _ _ (by decide)
  have hseg' : (s.assignmentTaken items).segmentRuns = s.segmentRuns := by rw [State.segmentRuns, State.fld, hrd]; rfl
  have hp' : (s.assignmentTaken items).bal.probe = none := hp
  simp [State.balKeeps, hseg', hseg, hp']

theorem State.Stored.fits_assignmentTaken (h : s.Stored) (l : List BalItem) : (s.assignmentTaken items).fits l = s.fits l :=
  State.Stored.fits_setBit_status h.frame 0 true

/-- At a boundary that is free, as much of the assignment that waits as the budget admits is applied. -/
theorem exec_balAssignmentApply_of_free (h : s.Stored) (hw : s.bal.waiting = some items) (hb : (s.rd 0x1501).getLsbD 1 = false)
    (hp : s.bal.probe = none) (hseg : s.segmentRuns = false) :
    ∃ t, exec .balAssignmentApply s = .next t ∧ t.bal.waiting = none ∧
      t.bal.assigned = items ∧ t.bal.applied <+: items ∧ (s.fits t.bal.applied = true ∨ t.bal.applied = []) ∧
      (s.fits items = true → t.bal.applied = items) ∧ t.pins = s.pins ∧ t.seq = s.seq := by
  obtain ⟨ob, command, idle, hbal⟩ := State.applyBudget_bal (h.balKeeps_assignmentTaken (items := items) hp hseg)
  obtain ⟨hpins, hseq⟩ := (s.assignmentTaken items).applyBudget_leaves
  have happ : (s.assignmentTaken items).applyBudget.bal.applied = (s.assignmentTaken items).dropToFit items.length items :=
    congrArg Bal.applied hbal
  refine ⟨_, congrArg Host.Outcome.next (balAssignmentApply_of_free hw hb hp hseg), (congrArg Bal.waiting hbal :),
    (congrArg Bal.assigned hbal :), ?_, ?_, fun hall => ?_, hpins, hseq⟩
  · rw [happ]
    exact State.dropToFit_prefix _ _
  · rw [happ, ← h.fits_assignmentTaken (items := items)]
    exact State.fits_dropToFit (Nat.le_refl _)
  · rw [happ]
    exact State.dropToFit_of_fits _ ((h.fits_assignmentTaken items).trans hall)

theorem balLeaseLapse_of_leased (h : s.bal.leased.isSome = true) : balLeaseLapse s =
    (({ s with bal := { s.bal with leased := none, waiting := none, assigned := [], applied := [] } }.setBit 0x1501 4 true).setBit 0x1501 0 false).balRefresh :=
  if_pos h

theorem balLeaseLapse_of_none (h : s.bal.leased = none) : balLeaseLapse s = s := by
  simp [balLeaseLapse, h]

end

/-- Settles O38: the plan by what makes an item of it, the assignment by what holds it back, its budget by dropping the last item while the rest does
not fit. -/
theorem balancingPlan : Obligations.BalancingPlan := by
  intro s
  refine ⟨fun value lo target r c => bleed_mem_planItems, fun slot g reports hup hg hruns => ⟨fun hrest v vs hv => ?_, fun hk hrest => ?_⟩,
    fun plan hup hv hp => ?_, fun plan h => ?_, fun items hup => ?_, fun items hw => ⟨fun h => ?_, fun hst hb hp hseg =>
      exec_balAssignmentApply_of_free hst hw hb hp hseg⟩, fun h => ?_, fun h => ?_⟩
  · exact congrArg Host.Outcome.next (balPlanEvaluate_of_rest hup hg hruns hrest hv)
  · exact congrArg Host.Outcome.next (balPlanEvaluate_of_no_rest hup hg hruns hk hrest)
  · exact congrArg Host.Outcome.next (balReport_of_other hup hv hp)
  · exact congrArg Host.Outcome.next (balReport_of_none h)
  · exact congrArg Host.Outcome.next (balAssignmentReceived_of_up hup)
  · exact congrArg Host.Outcome.next (balAssignmentApply_of_held hw h)
  · exact congrArg Host.Outcome.next (balLeaseLapse_of_leased h)
  · exact congrArg Host.Outcome.next (balLeaseLapse_of_none h)

end Sys2Proof.Machine
end

section
/-! PROOFS. Overcurrent trips (R205), shuttle frames (R207, R208) and the line probe (R227 to R229). -/
namespace Sys2Proof.Machine

/-! ## Masks and bits -/

theorem getLsbD_setBitV_same {w i : Nat} (v : BitVec w) (b : Bool) (hi : i < w) : (setBitV v i b).getLsbD i = b := by
  have hbit : (BitVec.ofNat w (2 ^ i)).getLsbD i = true := by
    rw [BitVec.getLsbD_ofNat, Nat.testBit_two_pow_self, decide_eq_true hi, Bool.and_self]
  cases b
  · rw [setBitV, if_neg Bool.false_ne_true, BitVec.getLsbD_and, BitVec.getLsbD_not, hbit, Bool.not_true, Bool.and_false, Bool.and_false]
  · rw [setBitV, if_pos rfl, BitVec.getLsbD_or, hbit, Bool.or_true]

theorem maskN_succ (n : Nat) (p : Nat → Bool) : maskN (n + 1) p = 2 ^ n * b2n (p n) + maskN n p := by
  rw [maskN, List.range_succ, List.foldl_append, List.foldl_cons, List.foldl_nil, ← maskN, Nat.mul_comm (2 ^ n), Nat.add_comm]

theorem maskN_lt (n : Nat) (p : Nat → Bool) : maskN n p < 2 ^ n := by
  induction n with
  | zero => exact Nat.one_pos
  | succ n ih =>
    rw [maskN_succ, Nat.pow_succ]
    cases p n <;> simp only [b2n, Bool.false_eq_true, if_false, if_true] <;> omega

theorem testBit_maskN {n k : Nat} (p : Nat → Bool) (hk : k < n) : (maskN n p).testBit k = p k := by
  induction n with
  | zero => exact absurd hk (Nat.not_lt_zero k)
  | succ n ih =>
    rw [maskN_succ, Nat.testBit_two_pow_mul_add _ (maskN_lt n p)]
    split
    case isTrue h => exact ih h
    case isFalse h =>
      obtain rfl : k = n := by omega
      rw [Nat.sub_self]
      cases p k <;> rfl

/-! ## What a refresh shows, and what a fault leaves (R204 to R206, R231) -/

section
variable {s : State} {k : Nat}

theorem State.swWanted_of_held (hon : s.bal.stuckOn.getLsbD k = false) (hheld : s.swHeld k = true) : s.swWanted k = false := by
  simp [State.swWanted, hon, hheld]

theorem State.balRefresh_par_maskN :
    ∃ run, s.balRefresh.par = ((s.setFld 0x1502 0 24 (maskN 24 s.swWanted)).setFld 0x1503 0 23 run).par := ⟨_, rfl⟩

/-- After a refresh `bal.sw` (0x1502) shows the switches that are wanted closed. -/
theorem State.Stored.closed_balRefresh (h : s.Stored) (hk : k < 24) : (s.balRefresh.rd 0x1502).getLsbD k = s.swWanted k := by
  obtain ⟨run, hpar⟩ := s.balRefresh_par_maskN
  rw [State.rd_of_par hpar, State.rd_setFld_ne (h.setFld ..) _ _ _ _ _ (by decide), State.setFld, State.rd_wr h, if_pos rfl, getLsbD_putBits,
    if_pos (by omega), Nat.sub_zero, testBit_maskN _ hk, decide_eq_true (by omega), Bool.true_and]

theorem State.balRefresh_leaves : s.balRefresh.pins = s.pins ∧ s.balRefresh.bal.tripped = s.bal.tripped ∧
    s.balRefresh.bal.reclosed = s.bal.reclosed := ⟨rfl, rfl, rfl⟩

/-- A bit set before an event is raised still stands after the refresh that follows. -/
theorem State.Stored.bit_raise_balRefresh (h : s.Stored) {id n : Nat} {data : Word} (hk : k < 32) (hc : id ∉ countParams)
    (hsw : id ≠ 0x1502) (hsht : id ≠ 0x1503) : ((((s.setBit id k true).raise n data).balRefresh).rd id).getLsbD k = true := by
  rw [(h.setBit id k true).raise.rd_balRefresh hsw hsht, (h.setBit id k true).rd_raise hc]
  exact State.bit_setBit_same h id k true hk

theorem State.swFault_of_not_stuck {cause : Nat} (hc : cause ≠ 2) :
    s.swFault k cause = ((s.setBit 0x151D k true).raise 38 (pack [(0, 5, k + 1), (8, 2, cause)])).balRefresh := by
  rw [State.swFault, if_neg hc]

theorem State.Stored.bit_swFault (h : s.Stored) (hk : k < 32) {cause : Nat} (hc : cause ≠ 2) :
    ((s.swFault k cause).rd 0x151D).getLsbD k = true := by
  rw [State.swFault_of_not_stuck hc]
  exact h.bit_raise_balRefresh hk (by decide) (by decide) (by decide)

theorem State.swFault_tripped {cause : Nat} (hc : cause ≠ 2) : (s.swFault k cause).bal.tripped = s.bal.tripped := by
  obtain ⟨-, htrip, -⟩ := ((s.setBit 0x151D k true).raise 38 (pack [(0, 5, k + 1), (8, 2, cause)])).balRefresh_leaves
  rw [State.swFault_of_not_stuck hc, htrip, State.raise_bal, State.setBit_bal]

theorem State.shtFault_par (cause : Nat) : (s.shtFault k cause).par =
    (((s.setBit 0x151E k true).raise 39 (pack [(0, 5, k + 1), (8, 2, cause)])).balRefresh).par := rfl

theorem State.Stored.bit_shtFault (h : s.Stored) (hk : k < 32) (cause : Nat) : ((s.shtFault k cause).rd 0x151E).getLsbD k = true := by
  rw [State.rd_of_par (State.shtFault_par cause)]
  exact h.bit_raise_balRefresh hk (by decide) (by decide) (by decide)

end

/-! ## Trips and reclosures (R205) -/

section
variable {s : State} {c : Fin 24}

/-- The switch of a cell has tripped: what was kept of its last reclosure is dropped. -/
def State.trip (s : State) (k : Nat) : State :=
  { s with bal := { s.bal with tripped := setBitV s.bal.tripped k true,
                               reclosed := s.bal.reclosed.filter fun (r : Nat × DWord) => !(r.1 == k) } }

/-- The trip of a switch is over. -/
def State.untrip (s : State) (k : Nat) : State := { s with bal := { s.bal with tripped := setBitV s.bal.tripped k false } }

theorem balOvercurrentTrip_of_open (h : (s.rd 0x1502).getLsbD c.val = false) : balOvercurrentTrip c s = s :=
  if_neg (by simp only [State.bit, h, Bool.false_eq_true, not_false_eq_true])

theorem balOvercurrentTrip_of_first (h : (s.rd 0x1502).getLsbD c.val = true)
    (hr : (s.bal.reclosed.any fun x => x.1 == c.val && s.recent x.2) = false) :
    balOvercurrentTrip c s = (s.trip c.val).balRefresh := by
  simp only [balOvercurrentTrip, State.bit, h, hr, if_true, Bool.false_eq_true, if_false]
  rfl

theorem balOvercurrentTrip_of_again (h : (s.rd 0x1502).getLsbD c.val = true)
    (hr : (s.bal.reclosed.any fun x => x.1 == c.val && s.recent x.2) = true) :
    balOvercurrentTrip c s = ((s.trip c.val).untrip c.val).swFault c.val 0 := by
  simp only [balOvercurrentTrip, State.bit, h, hr, if_true]
  rfl

theorem State.tripped_trip : (s.trip c.val).bal.tripped.getLsbD c.val = true := getLsbD_setBitV_same _ _ c.isLt

theorem State.tripped_untrip : (s.untrip c.val).bal.tripped.getLsbD c.val = false := getLsbD_setBitV_same _ _ c.isLt

theorem State.Stored.closed_trip_balRefresh (h : s.Stored) (hon : s.bal.stuckOn.getLsbD c.val = false) :
    ((s.trip c.val).balRefresh.rd 0x1502).getLsbD c.val = false := by
  have hheld : (s.trip c.val).swHeld c.val = true := by rw [State.swHeld, State.tripped_trip, Bool.or_true, Bool.true_or]
  have ht : (s.trip c.val).Stored := h
  exact (ht.closed_balRefresh c.isLt).trans (State.swWanted_of_held hon hheld)

/-- The trip of a switch has ended in a reclosure, whose time is kept. -/
def State.reclose (s : State) (k : Nat) : State :=
  { s with bal := { s.bal with tripped := setBitV s.bal.tripped k false,
                               reclosed := (s.bal.reclosed.filter fun (r : Nat × DWord) => !(r.1 == k)) ++ [(k, s.clk.ref)] } }

theorem balReclose_of_tripped (h : s.bal.tripped.getLsbD c.val = true) :
    balReclose c s = ((s.reclose c.val).transient 5 1).balRefresh := if_pos h

theorem balReclose_of_not_tripped (h : s.bal.tripped.getLsbD c.val = false) : balReclose c s = s := by
  simp only [balReclose, h, Bool.false_eq_true, if_false]

theorem exec_balOvercurrentTrip_of_first (hst : s.Stored) (hsw : (s.rd 0x1502).getLsbD c.val = true)
    (hr : ∀ x ∈ s.bal.reclosed, x.1 ≠ c.val) (hon : s.bal.stuckOn.getLsbD c.val = false) :
    ∃ t, exec (.balOvercurrentTrip c) s = .next t ∧ (t.rd 0x1502).getLsbD c.val = false ∧ t.bal.tripped.getLsbD c.val = true ∧
      t.pins = s.pins := by
  have hnone : (s.bal.reclosed.any fun x => x.1 == c.val && s.recent x.2) = false := by
    rw [List.any_eq_false]
    intro x hx
    simp [hr x hx]
  obtain ⟨hpins, htrip, -⟩ := (s.trip c.val).balRefresh_leaves
  exact ⟨_, congrArg Host.Outcome.next (balOvercurrentTrip_of_first hsw hnone), hst.closed_trip_balRefresh hon,
    htrip ▸ State.tripped_trip, hpins⟩

theorem exec_balOvercurrentTrip_of_again (hst : s.Stored) (hsw : (s.rd 0x1502).getLsbD c.val = true)
    (hr : (s.bal.reclosed.any fun x => x.1 == c.val && s.recent x.2) = true) :
    ∃ t, exec (.balOvercurrentTrip c) s = .next t ∧ (t.rd 0x151D).getLsbD c.val = true ∧ t.bal.tripped.getLsbD c.val = false := by
  have ht : ((s.trip c.val).untrip c.val).Stored := hst
  refine ⟨_, congrArg Host.Outcome.next (balOvercurrentTrip_of_again hsw hr), ht.bit_swFault (by omega) (by decide), ?_⟩
  rw [State.swFault_tripped (by decide)]
  exact State.tripped_untrip

theorem exec_balReclose_of_tripped (h : s.bal.tripped.getLsbD c.val = true) :
    ∃ t, exec (.balReclose c) s = .next t ∧ t.bal.tripped.getLsbD c.val = false ∧ (c.val, s.clk.ref) ∈ t.bal.reclosed ∧ t.pins = s.pins := by
  obtain ⟨hpins, htrip, hrec⟩ := ((s.reclose c.val).transient 5 1).balRefresh_leaves
  refine ⟨_, congrArg Host.Outcome.next (balReclose_of_tripped h), ?_, ?_, hpins.trans (State.transient_pins ..)⟩
  · rw [htrip, State.transient_bal]
    exact getLsbD_setBitV_same _ _ c.isLt
  · rw [hrec, State.transient_bal]
    exact List.mem_append_right _ (List.mem_singleton.mpr rfl)

end

/-! ## Shuttle frames (R207, R208) -/

section
variable {s : State} {j : Fin 23}

theorem crc6_lt (n v : Nat) {c : Nat} (hc : c < 64) : crc6 n v c < 64 := by
  induction n generalizing c with
  | zero => exact hc
  | succ n ih => exact ih (Nat.xor_lt_two_pow (n := 6) (Nat.mod_lt _ (by decide)) (by split <;> decide))

/-- The 14 bits of a shuttle frame that its CRC covers: type and current (R207). -/
def shuttleBody (run : Bool) (ma : Int) : Nat := (if run then 1 else 2) * 4096 + (BitVec.ofInt 12 ma).toNat

theorem shuttleFrame_toNat (run : Bool) (ma : Int) :
    (shuttleFrame run ma).toNat = shuttleBody run ma * 64 + crc6 14 (shuttleBody run ma) 0 := by
  have hcrc : crc6 14 (shuttleBody run ma) 0 < 64 := crc6_lt _ _ (by decide)
  have hbody : shuttleBody run ma < 2 ^ 14 := by
    have hma := (BitVec.ofInt 12 ma).isLt
    rw [shuttleBody]
    split <;> omega
  have hframe : shuttleFrame run ma = BitVec.ofNat 20 (shuttleBody run ma * 64 + crc6 14 (shuttleBody run ma) 0) := rfl
  rw [hframe, BitVec.toNat_ofNat, Nat.mod_eq_of_lt (by omega)]

theorem shuttleFrame_fields (run : Bool) (ma : Int) : (shuttleFrame run ma).toNat / 2 ^ 18 = (if run then 1 else 2) ∧
    (shuttleFrame run ma).toNat / 64 % 4096 = (BitVec.ofInt 12 ma).toNat ∧
    (shuttleFrame run ma).toNat % 64 = crc6 14 ((shuttleFrame run ma).toNat / 64) 0 := by
  have hcrc : crc6 14 (shuttleBody run ma) 0 < 64 := crc6_lt _ _ (by decide)
  have hbody : (shuttleFrame run ma).toNat / 64 = shuttleBody run ma := by rw [shuttleFrame_toNat]; omega
  have hma := (BitVec.ofInt 12 ma).isLt
  refine ⟨?_, ?_, ?_⟩
  · rw [show 2 ^ 18 = 64 * 4096 from rfl, ← Nat.div_div_eq_div_mul, hbody, shuttleBody]
    omega
  · rw [hbody, shuttleBody]
    omega
  · rw [hbody, shuttleFrame_toNat]
    omega

/-- The driver of shuttle `j` has sent its frame, an owed IDLE frame less is owed, and what it sensed is kept. -/
def State.shtSent (s : State) (j : Nat) (sense : BitVec 2) : State :=
  let run := (s.rd 0x1503).getLsbD j
  { s with bal := { s.bal with shtFrame := s.bal.shtFrame.set j (some (shuttleFrame run (nth s.bal.command j 0))),
                               idleLeft := s.bal.idleLeft.set j (if run then 0 else nth s.bal.idleLeft j 0 - 1),
                               shtBad := s.bal.shtBad.set j (decide (sense ≠ 0)) } }

theorem shuttleFrameSend_of_idle (hrun : (s.rd 0x1503).getLsbD j.val = false) (hleft : nth s.bal.idleLeft j.val 0 = 0) (sense : BitVec 2) :
    shuttleFrameSend j sense s = s := if_pos ⟨hrun, hleft⟩

/-- A frame that is sent: a failure on two in a row is a fault, and one that does not come again is a transient. -/
theorem shuttleFrameSend_of_due (h : (s.rd 0x1503).getLsbD j.val = true ∨ nth s.bal.idleLeft j.val 0 ≠ 0) (sense : BitVec 2) :
    shuttleFrameSend j sense s =
      if sense ≠ 0 then
        (if nth s.bal.shtBad j.val false then (s.shtSent j.val sense).shtFault j.val (if sense.getLsbD 1 then 1 else 0) else s.shtSent j.val sense)
      else if nth s.bal.shtBad j.val false then (s.shtSent j.val sense).transient 5 1 else s.shtSent j.val sense := by
  have hdue : ¬ (s.bit 0x1503 j.val = false ∧ nth s.bal.idleLeft j.val 0 = 0) := fun ⟨hrun, hleft⟩ =>
    h.elim (fun h => Bool.false_ne_true (hrun.symm.trans h)) (· hleft)
  exact if_neg hdue

theorem shuttleFrameSend_of_good (h : (s.rd 0x1503).getLsbD j.val = true ∨ nth s.bal.idleLeft j.val 0 ≠ 0)
    (hbad : nth s.bal.shtBad j.val false = false) (sense : BitVec 2) : shuttleFrameSend j sense s = s.shtSent j.val sense := by
  rw [shuttleFrameSend_of_due h, hbad]
  simp only [Bool.false_eq_true, if_false, ite_self]

theorem exec_shuttleFrameSend_of_bad (hst : s.Stored) (h : (s.rd 0x1503).getLsbD j.val = true ∨ nth s.bal.idleLeft j.val 0 ≠ 0)
    (hbad : nth s.bal.shtBad j.val false = true) {sense : BitVec 2} (hs : sense ≠ 0) :
    ∃ t, exec (.shuttleFrameSend j sense) s = .next t ∧ (t.rd 0x151E).getLsbD j.val = true := by
  have ht : (s.shtSent j.val sense).Stored := hst
  refine ⟨_, congrArg Host.Outcome.next (shuttleFrameSend_of_due h sense), ?_⟩
  rw [if_pos hs, if_pos hbad]
  exact ht.bit_shtFault (by omega) _

end

/-! ## The line probe (R227 to R229) -/

section
variable {s : State} {c : Fin 24} {p : Probe} {off on : List Int}

/-- R229: a probe of the switch of cell `c` may start, as far as a probe under way does not forbid it. -/
def State.MayProbe (s : State) (c : Fin 24) : Prop :=
  s.pwr.mode = .run ∧ s.bal.toProbe.getLsbD c.val = true ∧ s.rd 0x1504 ≠ 0 ∧ s.swHeld c.val = false ∧ s.balStopped = false ∧
    s.bal.stuckOn.getLsbD c.val = false ∧ s.tableProbes (s.fld 0x1519 0 16) = true ∧
    { s with bal := { s.bal with probe := some ⟨c, 0, true, false, [], []⟩ } }.fits s.bal.applied = true

/-- A probe of a switch has started with the off half of its first cycle. -/
def State.probeStarted (s : State) (c : Fin 24) : State :=
  ({ s with bal := { s.bal with probe := some ⟨c, 0, false, false, [], []⟩, toProbe := setBitV s.bal.toProbe c.val false } }.setBit 0x1501 2
    true).balRefresh

theorem probeStart_of_may (hp : s.bal.probe = none) (h : s.MayProbe c) : probeStart c s = s.probeStarted c := by
  obtain ⟨hmode, hdue, hres, hheld, hstop, hstuck, htable, hfits⟩ := h
  refine if_pos ?_
  simp only [hmode, hdue, hp, hheld, hstop, hstuck, htable, hfits, Option.isNone_none, bne_iff_ne.mpr hres, beq_self_eq_true, Bool.not_false,
    Bool.and_self]

theorem probeStart_of_not_may (h : s.bal.probe.isSome = true ∨ ¬ s.MayProbe c) : probeStart c s = s := by
  refine if_neg fun hall => ?_
  simp only [Bool.and_eq_true, beq_iff_eq, bne_iff_ne, Bool.not_eq_true'] at hall
  obtain ⟨⟨⟨⟨⟨⟨⟨⟨hmode, hdue⟩, hnone⟩, hres⟩, hheld⟩, hstop⟩, hstuck⟩, htable⟩, hfits⟩ := hall
  rcases h with h | h
  · simp [Option.isNone_iff_eq_none.mp hnone] at h
  · exact h ⟨hmode, hdue, hres, hheld, hstop, hstuck, htable, hfits⟩

/-- The probe goes on as `q`, and the switches follow it. -/
def State.probeAs (s : State) (q : Probe) : State := { s with bal := { s.bal with probe := some q } }.balRefresh

/-- A probe whose cycle has ended with the on half. -/
def Probe.cycleDone (p : Probe) (on : List Int) : Probe :=
  { p with on := false, off := [], cycle := p.cycle + 1, done := p.done ++ [(p.off, on)] }

theorem probeCycleEnd_of_none (hp : s.bal.probe = none) : probeCycleEnd off on s = s := by
  simp only [probeCycleEnd, hp]

theorem probeCycleEnd_of_blanked (hp : s.bal.probe = some p) (hb : s.blanked = true) :
    probeCycleEnd off on s = s.probeAs { p with on := false, off := [] } := by
  simp only [probeCycleEnd, hp, hb, if_true]
  rfl

theorem probeCycleEnd_of_off_half (hp : s.bal.probe = some p) (hb : s.blanked = false) (hon : p.on = false) :
    probeCycleEnd off on s = s.probeAs { p with on := true, off := off } := by
  simp only [probeCycleEnd, hp, hb, hon, Bool.false_eq_true, if_false]
  rfl

theorem probeCycleEnd_of_on_half (hp : s.bal.probe = some p) (hb : s.blanked = false) (hon : p.on = true) :
    probeCycleEnd off on s =
      if p.cycle = 3 then (s.probeAs (p.cycleDone on)).probeJudge (p.cycleDone on) else s.probeAs (p.cycleDone on) := by
  have hlast : p.cycle + 1 = 4 ↔ p.cycle = 3 := by omega
  simp only [probeCycleEnd, hp, hb, hon, Bool.false_eq_true, if_false, if_true, hlast]
  rfl

end

/-- Settles O39. A switch by whether it is closed and has closed again lately, a shuttle by whether a frame is due and the last one failed, a probe by
the half of the cycle that ends. -/
theorem switchesShuttlesAndProbe : Obligations.SwitchesShuttlesAndProbe := by
  refine ⟨fun s => ⟨fun c => ⟨fun h => ?_, exec_balOvercurrentTrip_of_first, exec_balOvercurrentTrip_of_again, fun h => ?_,
      exec_balReclose_of_tripped⟩,
    fun j => ⟨fun hrun hleft sense => ?_, fun h => ⟨fun hbad sense => ?_, fun hst hbad sense hs => exec_shuttleFrameSend_of_bad hst h hbad hs⟩⟩,
    shuttleFrame_fields⟩,
    fun s => ⟨fun c => ⟨fun h => ?_, fun hp hmay => ?_⟩, fun hp off on => ?_,
      fun p off on hp => ⟨fun hb => ?_, fun hb hon => ?_, fun hb hon => ?_⟩⟩⟩
  · exact congrArg Host.Outcome.next (balOvercurrentTrip_of_open h)
  · exact congrArg Host.Outcome.next (balReclose_of_not_tripped h)
  · exact congrArg Host.Outcome.next (shuttleFrameSend_of_idle hrun hleft sense)
  · exact congrArg Host.Outcome.next (shuttleFrameSend_of_good h hbad sense)
  · exact congrArg Host.Outcome.next (probeStart_of_not_may h)
  · exact congrArg Host.Outcome.next (probeStart_of_may hp hmay)
  · exact congrArg Host.Outcome.next (probeCycleEnd_of_none hp)
  · exact congrArg Host.Outcome.next (probeCycleEnd_of_blanked hp hb)
  · exact congrArg Host.Outcome.next (probeCycleEnd_of_off_half hp hb hon)
  · exact congrArg Host.Outcome.next (probeCycleEnd_of_on_half hp hb hon)

end Sys2Proof.Machine
end

section
/-! PROOFS. Credit that comes for a frame owed (R264, R266), training and loss of a link (R260, R261), and what a received frame does (R262 to
R267, R276). -/
namespace Sys2Proof.Machine

/-! ## Link control (R258, R266) -/

section
variable {s : State} {p : Fin 4}

theorem linkControlReceived_keepalive (h : s.portUp p = true) (a b : Byte) :
    linkControlReceived p 3 a b s = s.setPort p fun q => Port.pump 5 { q with credit := min 8 b.toNat } := by
  simp [linkControlReceived, h]

end

/-- A frame that PORT A has sent and that awaits acknowledgement, as it stands before a NACK and after one. -/
def frameOut (refused : Bool) : Unacked :=
  ⟨3, refused, refused, { type := tyResponse, retx := refused, rerouted := false, bcast := false, dst := 2, src := 1, hops := 0, fid := 9, payload := [] }⟩

/-- An up port without credit whose one frame awaits acknowledgement. -/
def portOut (refused : Bool) : Port :=
  { up := true, stopped := false, delayed := false, heard := true, nbrHeard := true, block := none, same := 1, slept := false, miswire := false,
    credit := 0, lseq := 4, queue := [], unacked := [frameOut refused], sent := [], control := [], lostAt := [], lostNow := 0, stamps := none }

/-- A node in Run with that port as its PORT A. -/
def nodeOut : State :=
  { State.reset with pwr := { State.reset.pwr with mode := .run, phase := .ready }, ports := portOut false :: State.reset.ports.drop 1 }

/-- The same node once a NACK has come: it owes the repeat and has no credit for it (R264, R266). -/
def nodeOwing : State := linkControlReceived 0 2 3 1 nodeOut

theorem nodeOwing_port : nodeOwing.port 0 = some (portOut true) := by decide

/-- R264, R266: one credit that arrives for a frame owed is spent on its repeat at once. -/
theorem portOut_spends_credit : (Port.pump 5 { portOut true with credit := 1 }).credit = 0 := by decide

/-- Refutes O42: with an empty queue a KEEPALIVE does more than set the credit, where a frame refused with NACK waits for credit: the port repeats the
frame (R266) and the credit is spent. The state is the model's own answer to a NACK on a port without credit. -/
theorem not_linkControl : ¬ Obligations.LinkControl := by
  unfold Obligations.LinkControl
  intro h
  have hup : nodeOwing.portUp 0 = true := by decide
  obtain ⟨-, -, hkeep, -⟩ := h nodeOwing 0 (portOut true) nodeOwing_port hup
  have hsets : linkControlReceived 0 3 0 1 nodeOwing = nodeOwing.setPort 0 fun q => { q with credit := 1 } :=
    Host.Outcome.next.inj (hkeep 1 rfl)
  rw [linkControlReceived_keepalive hup] at hsets
  have hcredit : some (Port.pump 5 { portOut true with credit := 1 }).credit = some 1 :=
    congrArg (fun t : State => (t.port 0).map Port.credit) hsets
  rw [portOut_spends_credit] at hcredit
  exact absurd hcredit (by decide)

/-! ## Training and loss of a link (R260, R261) -/

section
variable {s : State} {p : Fin 4} {q : Port} {block : List Byte}

/-- R260: with this block a port has heard its neighbour's whole block twice in a row, or had before. -/
def Port.hears (q : Port) (block : List Byte) : Bool := q.heard || (q.same != 0 && q.block == some block)

/-- A port has received a whole training block (R259, R260). -/
def State.trained (s : State) (p : Fin 4) (block : List Byte) (heard : Bool) : State :=
  s.setPort p fun q => { q with block := some block, same := 1, heard := heard, nbrHeard := (nth block 11 0).getLsbD 7 }

theorem linkTrainBlock_of_training (hq : s.port p = some q) (hon : s.portOn p = true) (hup : q.up = false) (hd : q.delayed = false)
    (hl : block.length = 12) : linkTrainBlock p block s =
      if q.hears block && (nth block 11 0).getLsbD 7 then (s.trained p block (q.hears block)).linkUp p
      else s.trained p block (q.hears block) := by
  simp [linkTrainBlock, State.trained, Port.hears, hq, hon, hup, hd, hl]

theorem linkTrainBlock_of_first (hq : s.port p = some q) (hon : s.portOn p = true) (hup : q.up = false) (hd : q.delayed = false)
    (hl : block.length = 12) (hh : q.heard = false) (hb : q.same = 0 ∨ q.block ≠ some block) :
    linkTrainBlock p block s = s.trained p block false := by
  have hears : q.hears block = false := by
    rcases hb with hb | hb
    · simp [Port.hears, hh, hb]
    · simp [Port.hears, hh, hb]
  rw [linkTrainBlock_of_training hq hon hup hd hl, hears]
  rfl

theorem linkTrainBlock_of_again (hq : s.port p = some q) (hon : s.portOn p = true) (hup : q.up = false) (hd : q.delayed = false)
    (hl : block.length = 12) (hb : q.heard = true ∨ (q.same ≠ 0 ∧ q.block = some block)) :
    linkTrainBlock p block s = if (nth block 11 0).getLsbD 7 then (s.trained p block true).linkUp p else s.trained p block true := by
  have hears : q.hears block = true := by simpa [Port.hears] using hb
  rw [linkTrainBlock_of_training hq hon hup hd hl, hears]
  rfl

theorem linkDown_of_cause (h : s.portUp p = true) {c : Fin 4} (hc : c ≠ 3) : linkDown p c s = s.portDown p c.val := by
  have hv : c.val ≠ 3 := fun hv => hc (Fin.ext hv)
  simp [linkDown, h, hv]

theorem linkDown_errors_of_not_errdown (h : (s.rd 0x2000).getLsbD 0 = false) : linkDown p 3 s = s := by
  have hbit : s.bit 0x2000 0 = false := h
  have hcause : ((3 : Fin 4).val != 3) = false := rfl
  simp only [linkDown, hbit, hcause, Bool.false_and, Bool.or_self, Bool.and_false, Bool.false_eq_true, if_false]

end

/-! ## Received frames (R262, R263, R265 to R267, R276) -/

section
variable {s : State} {p : Fin 4} {q : Port} {bytes : List Byte}

theorem frameReceive_of_ignored {aborted : Bool} (h : s.portUp p = false ∨ aborted = true) : frameReceive p bytes aborted s = s := by
  have hi : (!s.portUp p || aborted) = true := by simpa using h
  exact if_pos hi

theorem frameReceive_of_bad_length (hup : s.portUp p = true) (hl : wireLengthOk bytes = false) :
    frameReceive p bytes false s = s.control p 0x02 (nth bytes 6 0) 2 := by
  simp [frameReceive, hup, hl]

theorem frameReceive_of_bad_crc (hup : s.portUp p = true) (hl : wireLengthOk bytes = true) (hc : wireCrcOk bytes = false) :
    frameReceive p bytes false s = s.control p 0x02 (nth bytes 6 0) 1 := by
  simp [frameReceive, hup, hl, hc]

/-- What a good frame does once it is acknowledged, on a port of a normal pairing (R265, R267, R276). -/
def State.takeFrame (s : State) (p : Fin 4) (f : Frame) : State :=
  if f.bcast then
    if s.known f then s
    else if s.fld 0x200D 0 8 < f.hops.toNat + 1 then (s.remember f).noRoute
    else (s.remember f).flood { f with hops := f.hops + 1 } (some p)
  else if s.fab.valid && f.dst == s.fab.addr then
    if (f.retx || f.rerouted) && s.known f then s else s.remember f
  else s.transit f

theorem frameReceive_of_good (hq : s.port p = some q) (hup : s.portUp p = true) (hl : wireLengthOk bytes = true) (hc : wireCrcOk bytes = true)
    (hm : q.miswire = false) :
    frameReceive p bytes false s = (s.control p 0x01 (nth bytes 6 0) 8).takeFrame p (parseFrame bytes) := by
  simp only [frameReceive, hq, hup, hl, hc, hm, Bool.not_true, Bool.or_self, Bool.false_and, Bool.false_eq_true, if_false]
  rfl

end

section
variable {s : State} {p : Fin 4} {f : Frame}

theorem State.takeFrame_of_mine (hb : f.bcast = false) (hv : s.fab.valid = true) (hd : f.dst = s.fab.addr) (hr : f.retx = false)
    (hrr : f.rerouted = false) : s.takeFrame p f = s.remember f := by
  simp [State.takeFrame, hb, hv, hd, hr, hrr]

theorem State.takeFrame_of_other (hb : f.bcast = false) (h : s.fab.valid = false ∨ f.dst ≠ s.fab.addr) : s.takeFrame p f = s.transit f := by
  have hd : (s.fab.valid && f.dst == s.fab.addr) = false := by
    rcases h with h | h
    · rw [h, Bool.false_and]
    · rw [beq_false_of_ne h, Bool.and_false]
  simp only [State.takeFrame, hb, hd, Bool.false_eq_true, if_false]

theorem State.takeFrame_of_known (hb : f.bcast = true) (hk : s.known f = true) : s.takeFrame p f = s := by
  simp [State.takeFrame, hb, hk]

theorem State.takeFrame_of_new (hb : f.bcast = true) (hk : s.known f = false) (hh : f.hops.toNat + 1 ≤ s.fld 0x200D 0 8) :
    s.takeFrame p f = (s.remember f).flood { f with hops := f.hops + 1 } (some p) := by
  simp [State.takeFrame, hb, hk, Nat.not_lt.mpr hh]

end

/-- Settles O43, by one lemma for each outcome of a training block, of a loss and of a received frame. -/
theorem linksAndFrames : Obligations.LinksAndFrames := by
  unfold Obligations.LinksAndFrames
  intro s p q hq
  refine ⟨fun block hon hup hd hl => ⟨fun hh hb => ?_, fun hb => ?_⟩, fun hup c hc => ?_, fun _ herr => ?_, fun bytes aborted h => ?_,
    fun hup bytes => ⟨fun hl => ?_, fun hl hc => ?_, fun hl hc hm => ?_⟩⟩
  · exact congrArg Host.Outcome.next (linkTrainBlock_of_first hq hon hup hd hl hh hb)
  · exact congrArg Host.Outcome.next (linkTrainBlock_of_again hq hon hup hd hl hb)
  · exact congrArg Host.Outcome.next (linkDown_of_cause hup hc)
  · exact congrArg Host.Outcome.next (linkDown_errors_of_not_errdown herr)
  · exact congrArg Host.Outcome.next (frameReceive_of_ignored h)
  · exact congrArg Host.Outcome.next (frameReceive_of_bad_length hup hl)
  · exact congrArg Host.Outcome.next (frameReceive_of_bad_crc hup hl hc)
  · have hgood := frameReceive_of_good hq hup hl hc hm
    refine ⟨fun hb hv hd hr hrr => ?_, fun hb h => ?_, fun hb hk => ?_, fun hb hk hh => ?_⟩
    · exact congrArg Host.Outcome.next (hgood.trans (State.takeFrame_of_mine hb hv hd hr hrr))
    · exact congrArg Host.Outcome.next (hgood.trans (State.takeFrame_of_other hb h))
    · exact congrArg Host.Outcome.next (hgood.trans (State.takeFrame_of_known hb hk))
    · exact congrArg Host.Outcome.next (hgood.trans (State.takeFrame_of_new hb hk hh))

end Sys2Proof.Machine
end

section
/-! PROOFS. TOPO frames at a node whose boot logic runs alone (R61). -/
namespace Sys2Proof.Machine

/-- R61: a node without firmware takes a TOPO frame for its routes alone, whatever its state of R46. -/
theorem topoFrame_of_bootOnly {s : State} (hp : s.pwr.phase = .bootOnly) (ha : s.awake = true) (p : Fin 4) (m : TopoMsg) :
    topoFrame p m s = s.bootTopo m := by
  simp [topoFrame, hp, ha]

/-- A node in Run whose start-up stands at the boot logic alone. -/
def bootRunning : State := { State.reset with pwr := { State.reset.pwr with mode := .run, phase := .bootOnly } }

/-- Refutes O44: the statement lets every state with `evrus` take an Armature CRC into `fab.crcs`, and a state in Run whose phase is `bootOnly` has
`evrus`, while the model takes the frame for its routes alone there (log 117) and stays as it is. START_UP and READY lead to no such state; the
statement does not shut it out. -/
theorem not_discoveryRuns : ¬ Obligations.DiscoveryRuns := by
  unfold Obligations.DiscoveryRuns
  intro h
  obtain ⟨-, htopo, -⟩ := h bootRunning
  obtain ⟨hcrc, -⟩ := htopo rfl 0
  have htaken := Host.Outcome.next.inj (hcrc 5 1)
  rw [topoFrame_of_bootOnly rfl rfl] at htaken
  exact absurd (congrArg (fun t : State => t.fab.crcs) htaken) (by decide)

end Sys2Proof.Machine
end

section
/-! PROOFS. Fabric time: what a SYNC, a DREQ and its reply do, and what an exchange leaves behind (R280, R282, R283). -/
namespace Sys2Proof.Machine

/-! ## Events keep fabric time -/

section
variable (s : State)

@[simp] theorem State.sendTo_hasTime (ty : Byte) (d : FAddr) (bs : List Byte) : (s.sendTo ty d bs).fab.hasTime = s.fab.hasTime := by
  simp [State.sendTo]

@[simp] theorem State.evForward_hasTime (e : EvEntry) : (s.evForward e).fab.hasTime = s.fab.hasTime := by
  unfold State.evForward
  split
  · exact foldl_keeps (fun t : State => t.fab.hasTime) _ (fun t a => t.sendTo_hasTime _ a _) _ s
  · rfl

@[simp] theorem State.evPlace_hasTime (e : EvEntry) : (s.evPlace e).fab.hasTime = s.fab.hasTime := by
  unfold State.evPlace
  split <;> simp

@[simp] theorem State.logPut_hasTime (e : EvEntry) : (s.logPut e).fab.hasTime = s.fab.hasTime := by
  unfold State.logPut
  dsimp only
  repeat' split
  all_goals simp

@[simp] theorem State.raiseC_hasTime (n : Nat) (data : Word) (cleared : Bool) : (s.raiseC n data cleared).fab.hasTime = s.fab.hasTime := by
  unfold State.raiseC
  dsimp only
  repeat' split
  all_goals simp

end

/-! ## What an exchange leaves behind (R280, R282, R283) -/

/-- `t` holds fabric time, shows the delay `d` on port `p` and the offset `off`, and has the sequencer and the pins of `s`. -/
structure State.Measured (s : State) (p : Fin 4) (d off : Word) (t : State) : Prop where
  stored : t.Stored
  delay : t.rd (0x2010 + p.val) = d
  offset : t.rd 0x2009 = off
  time : t.fab.hasTime = true
  seq : t.seq = s.seq
  pins : t.pins = s.pins

section
variable {s t : State} {p : Fin 4} {d off : Word}

theorem State.Measured.frame {clk pwr host ev nv sense conv pat imp bal tmr ports fab sweep snap plc therm safe chis serial free pending}
    (h : s.Measured p d off t) (ht : fab.hasTime = t.fab.hasTime := by rfl) :
    s.Measured p d off (State.mk clk pwr t.par t.mem host ev nv sense conv t.seq pat imp bal tmr ports fab sweep snap plc therm safe chis t.pins
      serial free pending) :=
  ⟨h.stored, h.delay, h.offset, ht.trans h.time, h.seq, h.pins⟩

theorem State.Measured.ite {c : Prop} {_ : Decidable c} {u : State} (ht : s.Measured p d off t) (hu : s.Measured p d off u) :
    s.Measured p d off (if c then t else u) := by
  split
  · exact ht
  · exact hu

theorem State.Measured.wr (h : s.Measured p d off t) {id : Nat} (hid : id < 0x2009 ∨ id = 0x200B ∨ 0x2014 ≤ id) (v : Word) :
    s.Measured p d off (t.wr id v) where
  stored := h.stored.wr id v
  delay := by rw [State.rd_wr h.stored, if_neg (by omega), h.delay]
  offset := by rw [State.rd_wr h.stored, if_neg (by omega), h.offset]
  time := h.time
  seq := h.seq
  pins := h.pins

theorem State.Measured.raiseC (h : s.Measured p d off t) {n : Nat} {data : Word} {cleared : Bool} :
    s.Measured p d off (t.raiseC n data cleared) where
  stored := h.stored.raiseC
  delay := by
    have hp : 0x2010 + p.val ∉ countParams := by
      simp only [countParams, List.mem_cons, List.not_mem_nil, or_false]
      omega
    rw [h.stored.rd_raiseC hp, h.delay]
  offset := by rw [h.stored.rd_raiseC (by decide), h.offset]
  time := (t.raiseC_hasTime n data cleared).trans h.time
  seq := (State.raiseC_seq ..).trans h.seq
  pins := (State.raiseC_pins ..).trans h.pins

theorem State.Measured.alignAlarm (h : s.Measured p d off t) (x : Int) : s.Measured p d off (t.alignAlarm x) := h.ite h.frame.raiseC

theorem State.Measured.judgeOffset (h : s.Measured p d off t) (x : Int) : s.Measured p d off (t.judgeOffset x) := by
  unfold State.judgeOffset
  extract_lets _ _ _ _ _ _ _ u
  have hu : s.Measured p d off u := State.Measured.ite (h.frame.wr (by decide) _) h.frame
  exact (hu.alignAlarm _).ite (State.Measured.ite hu.frame.raiseC hu)

/-- The delay of an exchange in ps (R280). -/
def exchangeDelay (t1 t2 t3 t4 : Int) : Int := quot (((t2 - t1) + (t4 - t3)) * 25000) 512

/-- The offset of an exchange in ps (R280), with the asymmetry of the link. -/
def exchangeOffset (asym t1 t2 t3 t4 : Int) : Int := quot (((t2 - t1) - (t4 - t3)) * 25000 - 256 * asym) 512

theorem State.followFabric_leaves : s.followFabric.seq = s.seq ∧ s.followFabric.pins = s.pins := by
  unfold State.followFabric
  split <;> exact ⟨rfl, rfl⟩

/-- The state in which an exchange has shown its delay and its offset (R280). -/
def State.exchangeShown (s : State) (p : Fin 4) (d off : Word) : State := (s.followFabric.wr (0x2010 + p.val) d).wr 0x2009 off

theorem State.Stored.measured_exchangeShown (h : s.Stored) (clk : Clock) (fab : Fabric) (ht : fab.hasTime = true) :
    s.Measured p d off { s.exchangeShown p d off with clk := clk, fab := fab } := by
  obtain ⟨hseq, hpins⟩ := State.followFabric_leaves (s := s)
  have h1 : (s.followFabric.wr (0x2010 + p.val) d).Stored := h.followFabric.wr _ _
  have hdelay : (s.exchangeShown p d off).rd (0x2010 + p.val) = d := by
    rw [State.exchangeShown, State.rd_wr h1, if_neg (by omega), State.rd_wr h.followFabric, if_pos rfl]
  have hoff : (s.exchangeShown p d off).rd 0x2009 = off := by rw [State.exchangeShown, State.rd_wr h1, if_pos rfl]
  exact ⟨(h1.wr _ _).frame, hdelay, hoff, ht, hseq, hpins⟩

theorem State.Stored.measured_gainTime (h : s.Stored) (fabric : DWord) : s.Measured p d off ((s.exchangeShown p d off).gainTime fabric) := by
  refine State.Measured.wr (h.measured_exchangeShown _ _ ?_) ?_ _
  · rfl
  · decide

theorem State.Stored.measured_exchange (h : s.Stored) (t1 t2 t3 t4 : Int) :
    s.Measured p (BitVec.ofInt 32 (exchangeDelay t1 t2 t3 t4)) (BitVec.ofInt 32 (exchangeOffset (s.rd (0x2014 + p.val)).toInt t1 t2 t3 t4))
      (s.exchange p t1 t2 t3 t4) := by
  unfold State.exchange
  extract_lets _ _ _ _ _ s1 _ _ s2
  split
  · exact h.measured_gainTime _
  · next hs1 =>
    have htime : s1.fab.hasTime = true := by simpa using hs1
    have hs2 : s.Measured p _ _ s2 := (h.measured_exchangeShown s1.clk _ htime).frame.wr (by decide) _
    exact (hs2.frame.wr (by decide) _).raiseC.ite (hs2.judgeOffset _)

end

/-! ## The frames of an exchange (R280) -/

section
variable {s : State} {p : Fin 4} {q : Port}

theorem timeSyncSend_of_time (ha : s.awake = true) (ht : s.fab.hasTime = true) :
    timeSyncSend s = s.childPorts.foldl (fun t p => t.sendTime p 1 (256 * (s.clk.fabric.toNat : Int))) s := by
  simp [timeSyncSend, ha, ht]

theorem timeSyncSend_of_no_time (ht : s.fab.hasTime = false) : timeSyncSend s = s := by
  simp [timeSyncSend, ht]

theorem timeFrame_dreq (ha : s.awake = true) (hq : s.port p = some q) (hu : q.usable = true) (x : Int) :
    timeFrame p .dreq x s = if p ∈ s.childPorts then s.sendTime p 3 x else s := by
  simp [timeFrame, ha, hq, hu]

theorem timeFrame_sync (ha : s.awake = true) (hq : s.port p = some q) (hu : q.usable = true) (x y : Int) :
    timeFrame p (.sync y) x s =
      if s.fab.parent = some p then (s.setPort p fun q => { q with stamps := some (y, x, 0) }).sendTime p 2 0 else s := by
  simp [timeFrame, ha, hq, hu]

theorem timeFrame_reply (ha : s.awake = true) (hq : s.port p = some q) (hu : q.usable = true) (hp : s.fab.parent = some p) {t1 t2 z : Int}
    (hst : q.stamps = some (t1, t2, z)) (x y : Int) :
    timeFrame p (.reply y) x s = (s.setPort p fun q => { q with stamps := none }).exchange p t1 t2 x y := by
  simp [timeFrame, ha, hq, hu, hp, hst]

end

/-- Settles O45: the frames by what the model does with each, and the exchange by what its end leaves behind. -/
theorem fabricTime : Obligations.FabricTime := by
  unfold Obligations.FabricTime
  intro s ha
  refine ⟨fun ht => ?_, fun ht => ?_, fun p q hq hu x y => ⟨fun hp => ?_, fun hp => ?_, fun hp => ?_, fun hp => ?_, fun t1 t2 z hs hp hst => ?_⟩⟩
  · exact congrArg Host.Outcome.next (timeSyncSend_of_time ha ht)
  · exact congrArg Host.Outcome.next (timeSyncSend_of_no_time ht)
  · exact congrArg Host.Outcome.next ((timeFrame_dreq ha hq hu x).trans (if_pos hp))
  · exact congrArg Host.Outcome.next ((timeFrame_dreq ha hq hu x).trans (if_neg hp))
  · exact congrArg Host.Outcome.next ((timeFrame_sync ha hq hu x y).trans (if_pos hp))
  · exact congrArg Host.Outcome.next ((timeFrame_sync ha hq hu x y).trans (if_neg hp))
  · have hm := hs.setPort (p := p) (f := fun q => { q with stamps := none }) |>.measured_exchange (p := p) t1 t2 x y
    exact ⟨_, congrArg Host.Outcome.next (timeFrame_reply ha hq hu hp hst x y), hm.delay, hm.offset, hm.time, hm.seq, hm.pins⟩

end Sys2Proof.Machine
end

section
/-! PROOFS. Sweeps start, are announced, taken up and stopped (R287 to R289). -/
namespace Sys2Proof.Machine

/-! ## Fields laid out as bytes -/

@[simp] theorem length_bytesBE (n v : Nat) : (bytesBE n v).length = n := by simp [bytesBE]

theorem bytesBE_succ (n v : Nat) : bytesBE (n + 1) v = bytesBE n (v / 256) ++ [BitVec.ofNat 8 v] := by
  have hbyte (i : Nat) (hi : i < n) : v / 256 ^ (n - i) = v / 256 / 256 ^ (n - 1 - i) := by
    rw [Nat.div_div_eq_div_mul, ← Nat.pow_succ', show (n - 1 - i).succ = n - i by omega]
  simp only [bytesBE, List.range_succ, List.map_append, List.map_cons, List.map_nil, Nat.add_sub_cancel, Nat.sub_self, Nat.pow_zero, Nat.div_one]
  congr 1
  exact List.map_congr_left fun i hi => congrArg _ (hbyte i (List.mem_range.mp hi))

theorem numBE_concat (bs : List Byte) (b : Byte) : numBE (bs ++ [b]) = numBE bs * 256 + b.toNat := by simp [numBE]

/-- A number comes back from its bytes, as far as they reach. -/
theorem numBE_bytesBE (n v : Nat) : numBE (bytesBE n v) = v % 256 ^ n := by
  induction n generalizing v with
  | zero => simp [bytesBE, numBE, Nat.mod_one]
  | succ n ih =>
    rw [bytesBE_succ, numBE_concat, ih, Nat.pow_succ', Nat.mod_mul, BitVec.toNat_ofNat]
    omega

/-- A field as wide as its bytes comes back whole. -/
theorem ofNat_numBE_bytesBE {w n : Nat} (hw : w ≤ 8 * n) (x : BitVec w) : BitVec.ofNat w (numBE (bytesBE n x.toNat)) = x := by
  have hx : x.toNat < 256 ^ n := calc
    x.toNat < 2 ^ w := x.isLt
    _ ≤ 2 ^ (8 * n) := Nat.pow_le_pow_right (by decide) hw
    _ = 256 ^ n := Nat.pow_mul 2 8 n
  rw [numBE_bytesBE, Nat.mod_eq_of_lt hx, BitVec.ofNat_toNat, BitVec.setWidth_eq]

theorem length_announceBytes (p : SweepPlan) (stop : Bool) : (announceBytes p stop).length = 28 := by simp [announceBytes]

/-- An announcement carries every part of the plan (R288). -/
theorem announceOf_announceBytes (p : SweepPlan) (stop : Bool) : announceOf (announceBytes p stop) = p := by
  have hcoll : ((announceBytes p stop).drop 2).take 2 = bytesBE 2 p.coll.toNat := by simp [announceBytes]
  have ht0 : ((announceBytes p stop).drop 4).take 8 = bytesBE 8 p.t0.toNat := by simp [announceBytes]
  have hperiod : ((announceBytes p stop).drop 12).take 4 = bytesBE 4 p.period.toNat := by
    simp [announceBytes, List.drop_append, List.drop_eq_nil_of_le]
  have hcount : ((announceBytes p stop).drop 16).take 4 = bytesBE 4 p.count.toNat := by
    simp [announceBytes, List.drop_append, List.drop_eq_nil_of_le]
  have hscope : ((announceBytes p stop).drop 20).take 8 = bytesBE 8 p.scope.toNat := by
    simp [announceBytes, List.drop_append, List.drop_eq_nil_of_le, List.take_of_length_le]
  simp only [announceOf, hcoll, ht0, hperiod, hcount, hscope]
  simp only [ofNat_numBE_bytesBE, Nat.reduceMul, Nat.reduceLeDiff]

theorem announceBytes_kind (p : SweepPlan) (stop : Bool) : nth (announceBytes p stop) 0 0 = 0x22 := rfl

theorem announceBytes_stop (p : SweepPlan) (stop : Bool) : (nth (announceBytes p stop) 1 0).getLsbD 0 = stop := by
  show (BitVec.ofNat 8 (b2n stop)).getLsbD 0 = stop
  cases stop <;> decide

/-! ## What showing a sweep leaves as it is (R297, R307) -/

section
variable {s : State} {p : SweepPlan}

@[simp] theorem State.sweepShow_sweep (st : Nat) : (s.sweepShow st).sweep = s.sweep := rfl
@[simp] theorem State.sweepShow_pwr (st : Nat) : (s.sweepShow st).pwr = s.pwr := rfl
@[simp] theorem State.sweepShow_seq (st : Nat) : (s.sweepShow st).seq = s.seq := rfl
@[simp] theorem State.sweepShow_pins (st : Nat) : (s.sweepShow st).pins = s.pins := rfl

theorem State.slotShow_eq_wr : ∃ v, s.slotShow = s.wr 0x2034 v := by
  unfold State.slotShow
  split
  · exact ⟨_, rfl⟩
  · exact ⟨_, rfl⟩

@[simp] theorem State.slotShow_sweep : s.slotShow.sweep = s.sweep := by
  obtain ⟨v, hv⟩ := s.slotShow_eq_wr
  rw [hv, State.wr_sweep]

@[simp] theorem State.slotShow_pwr : s.slotShow.pwr = s.pwr := by
  obtain ⟨v, hv⟩ := s.slotShow_eq_wr
  rw [hv, State.wr_pwr]

@[simp] theorem State.slotShow_seq : s.slotShow.seq = s.seq := by
  obtain ⟨v, hv⟩ := s.slotShow_eq_wr
  rw [hv, State.wr_seq]

@[simp] theorem State.slotShow_pins : s.slotShow.pins = s.pins := by
  obtain ⟨v, hv⟩ := s.slotShow_eq_wr
  rw [hv, State.wr_pins]

theorem State.askRun_leaves : s.askRun.sweep = s.sweep ∧ s.askRun.seq = s.seq ∧ s.askRun.pins = s.pins := by
  unfold State.askRun
  split <;> exact ⟨rfl, rfl, rfl⟩

theorem State.askRun_request :
    s.askRun.pwr.request = if s.pwr.mode = .watch ∧ s.pwr.hatbox = .none then some .run else s.pwr.request := by
  unfold State.askRun
  split <;> rfl

/-- Of the sweep, the check against the grid gives the step and whether the restart waits (R290). -/
theorem State.gridCheck_leaves : (∃ g a, s.gridCheck.sweep = { s.sweep with grid := g, align := a }) ∧ s.gridCheck.pwr = s.pwr ∧
    s.gridCheck.seq = s.seq ∧ s.gridCheck.pins = s.pins := by
  unfold State.gridCheck
  split <;> exact ⟨⟨_, _, rfl⟩, rfl, rfl, rfl⟩

/-! ## An announcement is taken up, or ends a sweep (R288, R289) -/

/-- What of a state the statements about a collector speak of: the sweep it collects, its next snapshot, the sequencer and the pins. -/
def State.collectView (s : State) : Option SweepPlan × Nat × Seq × Pins := (s.sweep.collect, s.sweep.cnext, s.seq, s.pins)

theorem State.collectView_eq_iff {v : Option SweepPlan × Nat × Seq × Pins} : s.collectView = v ↔
    s.sweep.collect = v.1 ∧ s.sweep.cnext = v.2.1 ∧ s.seq = v.2.2.1 ∧ s.pins = v.2.2.2 := by
  obtain ⟨c, n, q, x⟩ := v
  simp only [State.collectView, Prod.mk.injEq]

theorem State.askRun_collectView : s.askRun.collectView = s.collectView := by
  obtain ⟨hsweep, hseq, hpins⟩ := s.askRun_leaves
  simp only [State.collectView, hsweep, hseq, hpins]

theorem State.gridCheck_collectView : s.gridCheck.collectView = s.collectView := by
  obtain ⟨⟨g, a, hsweep⟩, -, hseq, hpins⟩ := s.gridCheck_leaves
  simp only [State.collectView, hsweep, hseq, hpins]

theorem State.sweepShow_collectView (st : Nat) : (s.sweepShow st).collectView = s.collectView := rfl

theorem State.slotShow_collectView : s.slotShow.collectView = s.collectView := by simp [State.collectView]

theorem State.sweepEnd_collectView : s.sweepEnd.collectView = s.collectView := State.slotShow_collectView

/-- The state in which a node has taken up a sweep, before it asks for Run and judges the grid (R288). -/
def State.joined (s : State) (p : SweepPlan) : State :=
  { s with sweep := { s.sweep with plan := some p, next := s.firstSnap p, stop := false, shot := none, isolated := false, holding := false } }

theorem State.joined_collectView : (s.joined p).askRun.gridCheck.collectView = s.collectView :=
  State.gridCheck_collectView.trans State.askRun_collectView

theorem State.announced_collectView (stop : Bool) : (s.announced p stop).collectView = s.collectView := by
  unfold State.announced
  split
  · split
    · split
      · split
        · exact State.sweepEnd_collectView
        · rfl
      · rfl
    · rfl
  · split
    · rfl
    · split
      · exact State.slotShow_collectView.trans State.askRun_collectView
      · split
        · exact State.slotShow_collectView.trans State.joined_collectView
        · rfl

theorem State.wr_collectView (id : Nat) (v : Word) : (s.wr id v).collectView = s.collectView := rfl

theorem State.announce_collectView (bs : List Byte) : (s.announce bs).collectView = s.collectView := by
  simp [State.collectView, State.announce]

/-- A collector announces that its sweep starts or stops, follows its own announcement, and shows Tcoll (R288, R298, R307). -/
def State.tellSweep (s : State) (p : SweepPlan) (stop : Bool) (tc : Word) : State :=
  let t := ((s.announce (announceBytes p stop)).announced p stop).wr 0x2035 tc
  t.sweepShow t.sweepState

theorem State.tellSweep_collectView (stop : Bool) (tc : Word) : (s.tellSweep p stop tc).collectView = s.collectView := by
  rw [State.tellSweep, State.sweepShow_collectView, State.wr_collectView, State.announced_collectView, State.announce_collectView]

/-- A node of the scope takes part (R288). -/
theorem State.announced_of_scope {me : Node} (hme : s.me = some me) (hv : s.fab.valid = true) (hstr : me.str < 64)
    (hscope : p.scope.getLsbD me.str = true) (hmode : s.pwr.mode = .run ∨ s.pwr.mode = .watch) (hplan : s.sweep.plan ≠ some p) :
    s.announced p false = ((s.joined p).askRun.gridCheck.sweepShow 1).slotShow := by
  have hnew : ¬ (s.sweep.plan == some p) = true := by simpa using hplan
  have hin : (s.fab.valid && decide (me.str < 64) && p.scope.getLsbD me.str && (s.pwr.mode == .run || s.pwr.mode == .watch)) = true := by
    simpa [hv, hstr, hscope] using hmode
  unfold State.announced
  rw [hme]
  exact (if_neg Bool.false_ne_true).trans ((if_neg hnew).trans (if_pos hin))

theorem State.joined_leaves : let t := ((s.joined p).askRun.gridCheck.sweepShow 1).slotShow
    t.sweep.plan = some p ∧ t.sweep.stop = false ∧ t.sweep.shot = none ∧ t.pins = s.pins ∧
      t.pwr.request = if s.pwr.mode = .watch ∧ s.pwr.hatbox = .none then some .run else s.pwr.request := by
  obtain ⟨hask, -, haskPins⟩ := (s.joined p).askRun_leaves
  obtain ⟨⟨g, a, hsweep⟩, hpwr, -, hpins⟩ := (s.joined p).askRun.gridCheck_leaves
  simp only [State.slotShow_sweep, State.slotShow_pins, State.slotShow_pwr, State.sweepShow_sweep, State.sweepShow_pins, State.sweepShow_pwr, hsweep,
    hask, hpwr, hpins, haskPins, State.askRun_request]
  exact ⟨rfl, rfl, rfl, rfl, rfl⟩

theorem sweepAnnounce_of_length {bytes : List Byte} (hl : bytes.length ≠ 28) : sweepAnnounce bytes s = s := by simp [sweepAnnounce, hl]

theorem sweepAnnounce_announceBytes (hu : s.up = true) (stop : Bool) : sweepAnnounce (announceBytes p stop) s = s.announced p stop := by
  have hc : (s.up && nth (announceBytes p stop) 0 0 == 0x22 && (announceBytes p stop).length == 28) = true := by
    rw [hu, announceBytes_kind, length_announceBytes]; rfl
  rw [sweepAnnounce, if_pos hc, announceOf_announceBytes, announceBytes_stop]

theorem sweepAnnounceRepeat_of_owed (hu : s.up = true) (hn : 0 < s.sweep.announce) :
    sweepAnnounceRepeat s = State.sendAll { s with sweep := { s.sweep with announce := s.sweep.announce - 1 } } tyRecord s.sweep.said := by
  simp [sweepAnnounceRepeat, hu, hn]

theorem sweepAnnounceRepeat_of_none (hn : s.sweep.announce = 0) : sweepAnnounceRepeat s = s := by simp [sweepAnnounceRepeat, hn]

end

/-! ## A sweep is started or stopped at its collector (R287, R289) -/

section
variable {s : State} {src : Src} {r : Req}

theorem State.Requests.serve_done {want : Req → Bool} {f : State → Req → State × Reply} {t : State} {status : Byte} {rsp : List Word}
    (h : s.Requests src r) (hw : want r = true) (hf : f s r = (t, .done status rsp)) : s.serve src want f = t.complete src status rsp := by
  obtain ⟨hawake, hrun, hstarted, hrank⟩ := h
  simp [State.serve, hrun, hawake, hw, hstarted, hrank, hf]

/-- The sweep a request asks for: it starts at the first multiple of its period at least 20 ms ahead (R287). -/
def State.planned (s : State) (r : Req) : SweepPlan :=
  let period := 400 * bitsOf r.a0 0 16
  { coll := s.fab.addr, t0 := BitVec.ofNat 64 (ceilDiv (s.clk.fabric.toNat + 800000) period * period), period := BitVec.ofNat 32 period,
    count := r.a1, scope := r.a3 ++ r.a2 }

/-- The least multiple of `b` that is not less than `a`. -/
theorem ceilDiv_mul_bounds (a : Nat) {b : Nat} (hb : 0 < b) : a ≤ ceilDiv a b * b ∧ ceilDiv a b * b < a + b := by
  have hdiv := Nat.div_add_mod' (a + b - 1) b
  have hmod := Nat.mod_lt (a + b - 1) hb
  rw [← ceilDiv] at hdiv
  omega

/-- A request whose reserved bits are clear does not ask for a stop (R287). -/
theorem sweepStart_wanted (hc : r.code = 0x38) (h0 : r.a0 &&& 0xFFFF0000 = 0) : (r.code == 0x38 && !r.a0.getLsbD 24) = true := by
  have hbit : (r.a0 &&& 0xFFFF0000).getLsbD 24 = false := by rw [h0]; rfl
  rw [BitVec.getLsbD_and] at hbit
  simpa [hc] using hbit

theorem sweepStart_of_short (h : s.Requests src r) (hc : r.code = 0x38) (h0 : r.a0 &&& 0xFFFF0000 = 0) (hn : bitsOf r.a0 0 16 < 100) :
    sweepStart src s = s.complete src stBadValue [] :=
  h.serve_done (sweepStart_wanted hc h0) <| if_pos <| by simp [hn]

theorem sweepStart_of_valid (h0 : r.a0 &&& 0xFFFF0000 = 0) (hn : 100 ≤ bitsOf r.a0 0 16) (hscope : (r.a3 ++ r.a2 : DWord) ≠ 0) :
    ¬ ((r.a0 &&& 0xFFFF0000) != 0 || (r.a3 ++ r.a2 : DWord) == 0 || decide (bitsOf r.a0 0 16 < 100)) = true := by
  rw [bne_eq_false_iff_eq.mpr h0, beq_eq_false_iff_ne.mpr hscope]
  simpa using hn

theorem sweepStart_of_busy (h : s.Requests src r) (hc : r.code = 0x38) (h0 : r.a0 &&& 0xFFFF0000 = 0) (hn : 100 ≤ bitsOf r.a0 0 16)
    (hscope : (r.a3 ++ r.a2 : DWord) ≠ 0) (hb : s.sweep.collect.isSome = true ∨ s.fab.hasTime = false ∨ s.fab.valid = false) :
    sweepStart src s = s.complete src stRefused [] :=
  h.serve_done (sweepStart_wanted hc h0) <| (if_neg (sweepStart_of_valid h0 hn hscope)).trans <| if_pos <| by
    rcases hb with hb | hb | hb <;> simp [hb]

theorem sweepStart_of_free (h : s.Requests src r) (hc : r.code = 0x38) (h0 : r.a0 &&& 0xFFFF0000 = 0) (hn : 100 ≤ bitsOf r.a0 0 16)
    (hscope : (r.a3 ++ r.a2 : DWord) ≠ 0) (hfree : s.sweep.collect = none) (htime : s.fab.hasTime = true) (hv : s.fab.valid = true)
    (hnodes : (s.expectedSet s.fab.addr (r.a3 ++ r.a2)).length ≤ 1024)
    (htc : tcoll (s.expectedSet s.fab.addr (r.a3 ++ r.a2)) ≤ 10 * bitsOf r.a0 0 16) :
    ∃ rsp, sweepStart src s = (State.tellSweep { s with sweep := { s.sweep with collect := some (s.planned r), cnext := 0, collDrop := 0 } }
      (s.planned r) false (BitVec.ofNat 32 (min 0xFFFF (tcoll (s.expectedSet s.fab.addr (r.a3 ++ r.a2)))))).complete src stOk rsp :=
  ⟨_, h.serve_done (sweepStart_wanted hc h0) <| (if_neg (sweepStart_of_valid h0 hn hscope)).trans <| if_neg <| by
    simp [hfree, htime, hv, hnodes, htc]⟩

theorem sweepStop_wanted (hc : r.code = 0x38) (h0 : r.a0 = 0x01000000) : (r.code == 0x38 && r.a0.getLsbD 24) = true := by
  rw [hc, h0]; rfl

theorem sweepStop_of_none (h : s.Requests src r) (hc : r.code = 0x38) (h0 : r.a0 = 0x01000000) (hnone : s.sweep.collect = none) :
    sweepStop src s = s.complete src stRefused [] :=
  h.serve_done (sweepStop_wanted hc h0) <| by simp [h0, hnone, State.fail]

theorem sweepStop_of_collecting {p : SweepPlan} (h : s.Requests src r) (hc : r.code = 0x38) (h0 : r.a0 = 0x01000000)
    (hp : s.sweep.collect = some p) :
    sweepStop src s = (State.tellSweep { s with sweep := { s.sweep with collect := none } } p true 0).complete src stOk [] :=
  h.serve_done (sweepStop_wanted hc h0) <| by
    simp only [h0, hp]
    rfl

theorem State.complete_collectView (status : Byte) (rsp : List Word) : (s.complete src status rsp).collectView = s.collectView := by
  simp [State.collectView]

end

/-- Settles O46: the announcement by its round trip, the requests by what the collector answers, the copies by how many are owed. -/
theorem sweepsAnnounced : Obligations.SweepsAnnounced := by
  unfold Obligations.SweepsAnnounced
  intro s
  refine ⟨fun p stop => ⟨announceOf_announceBytes p stop, length_announceBytes p stop, announceBytes_kind p stop, announceBytes_stop p stop⟩,
    fun src r h hc => ⟨fun h0 hn => ?_, fun h0 hn hscope hb => ?_, fun h0 hn hscope hfree htime hv hnodes htc => ?_,
      fun h0 => ⟨fun hnone => ?_, fun hsome => ?_⟩⟩,
    fun bytes hl => ?_, fun p me hu hme hv hstr hscope hmode hplan => ?_, fun hu hn => ?_, fun hn => ?_⟩
  · exact congrArg Host.Outcome.next (sweepStart_of_short h hc h0 hn)
  · exact congrArg Host.Outcome.next (sweepStart_of_busy h hc h0 hn hscope hb)
  · obtain ⟨rsp, ht⟩ := sweepStart_of_free h hc h0 hn hscope hfree htime hv hnodes htc
    obtain ⟨hcollect, hcnext, -, -⟩ :=
      State.collectView_eq_iff.mp ((State.complete_collectView stOk rsp).trans (State.tellSweep_collectView false _))
    obtain ⟨hlow, hhigh⟩ := ceilDiv_mul_bounds (s.clk.fabric.toNat + 800000) (b := 400 * bitsOf r.a0 0 16) (by omega)
    exact ⟨_, s.planned r, _, congrArg Host.Outcome.next ht, hcollect, hcnext, rfl, rfl, rfl, rfl, rfl, Nat.mul_mod_left _ _, hlow, hhigh⟩
  · exact congrArg Host.Outcome.next (sweepStop_of_none h hc h0 hnone)
  · obtain ⟨p, hp⟩ := Option.isSome_iff_exists.mp hsome
    obtain ⟨hcollect, -, hseq, hpins⟩ :=
      State.collectView_eq_iff.mp ((State.complete_collectView stOk []).trans (State.tellSweep_collectView true 0))
    exact ⟨_, congrArg Host.Outcome.next (sweepStop_of_collecting h hc h0 hp), hcollect, hseq, hpins⟩
  · exact congrArg Host.Outcome.next (sweepAnnounce_of_length hl)
  · have ht := (sweepAnnounce_announceBytes hu false).trans (State.announced_of_scope hme hv hstr hscope hmode hplan)
    exact ⟨_, congrArg Host.Outcome.next ht, State.joined_leaves⟩
  · exact congrArg Host.Outcome.next (sweepAnnounceRepeat_of_owed hu hn)
  · exact congrArg Host.Outcome.next (sweepAnnounceRepeat_of_none hn)

end Sys2Proof.Machine
end

section
/-! PROOFS. Snapshots are opened, recorded, sent, collected and closed (R287, R292, R293, R297, R299). -/
namespace Sys2Proof.Machine

/-! ## The time of a snapshot (R287, R292) -/

section
variable {s : State} {p : SweepPlan} {x : SweepShot}

theorem State.shotOut_of_none (h : s.sweep.shot = none) : s.shotOut = s := by simp only [State.shotOut, h]

theorem State.rejoin_of_no_plan (h : s.sweep.plan = none) : s.rejoin = s := by simp only [State.rejoin, h]

theorem State.rejoin_of_connected (h : s.sweep.isolated = false) : s.rejoin = s := by
  unfold State.rejoin
  split
  · rw [h]; rfl
  · rfl

theorem State.snapOpen_of_none (h : s.sweep.collect = none) : s.snapOpen = s := by simp only [State.snapOpen, h]

/-- The snapshot that falls now, as the collector of a sweep opens it (R287, R295). -/
def State.opened (s : State) (p : SweepPlan) : Snapshot :=
  { snap := BitVec.ofNat 16 s.sweep.cnext, ts := p.ts s.sweep.cnext, scope := p.scope, records := [], changed := 0,
    expected := (s.expectedSet s.fab.addr p.scope).filterMap fun e => e.1.addr }

/-- A collector opens the snapshot that falls now, and with the last one its sweep has been collected. -/
theorem State.snapOpen_leaves (hc : s.sweep.collect = some p) (hp : p.has s.sweep.cnext = true) :
    s.snapOpen.sweep.open_ = s.sweep.open_ ++ [s.opened p] ∧ s.snapOpen.sweep.cnext = s.sweep.cnext + 1 ∧
      s.snapOpen.sweep.plan = s.sweep.plan ∧ (p.has (s.sweep.cnext + 1) = false → s.snapOpen.sweep.collect = none) := by
  simp only [State.snapOpen, hc, hp, if_true]
  cases hk : p.has (s.sweep.cnext + 1)
  · exact ⟨rfl, rfl, rfl, fun _ => rfl⟩
  · exact ⟨rfl, rfl, rfl, fun h => nomatch h⟩

theorem snapshotTime_of_down (hu : s.up = false) : snapshotTime s = s := by simp [snapshotTime, hu]

/-- A node that takes part in no sweep does no more than open the snapshot it collects. -/
theorem snapshotTime_of_no_plan (hu : s.up = true) (hplan : s.sweep.plan = none) (hshot : s.sweep.shot = none)
    (hopen : s.snapOpen.sweep.plan = s.sweep.plan) : snapshotTime s = s.snapOpen.sweepShow s.snapOpen.sweepState := by
  simp only [snapshotTime, hu, State.shotOut_of_none hshot, State.rejoin_of_no_plan hplan, hopen, hplan, Bool.not_true, Bool.false_eq_true, if_false]

theorem snapshotTime_of_member (hu : s.up = true) (hplan : s.sweep.plan = some p) (hcollect : s.sweep.collect = none)
    (hiso : s.sweep.isolated = false) (hshot : s.sweep.shot = none) (hstop : s.sweep.stop = false) (hhas : p.has s.sweep.next = true) :
    snapshotTime s =
      (State.wr { s with sweep := { s.sweep with next := s.sweep.next + 1, shot := some (s.shotBegin p s.sweep.next) } } 0x2031
        (BitVec.ofNat 32 (s.sweep.next % 65536))).sweepShow 2 := by
  simp only [snapshotTime, hu, State.shotOut_of_none hshot, State.rejoin_of_connected hiso, State.snapOpen_of_none hcollect, hplan, hstop, hhas, hiso,
    Bool.not_true, Bool.or_self, Bool.false_and, Bool.false_eq_true, if_false]

/-! ## The record of a snapshot leaves (R292, R297) -/

theorem sweepRecordSend_of_none (h : s.sweep.shot = none) : sweepRecordSend s = s := by simp only [sweepRecordSend, h]

/-- A record leaves once its STATUS is known, its sweep has come or a period has passed. -/
theorem sweepRecordSend_of_due (hu : s.up = true) (hshot : s.sweep.shot = some x)
    (hdue : x.status ≠ 0 ∨ 26 ≤ x.got ∨ x.ts.toNat + x.period ≤ s.clk.fabric.toNat) : sweepRecordSend s = s.shotOut := by
  simp only [sweepRecordSend, hshot]
  exact if_pos (by simpa [hu, or_assoc] using hdue)

theorem sweepRecordSend_of_waiting (hshot : s.sweep.shot = some x) (hst : x.status = 0) (hgot : x.got < 26)
    (hts : s.clk.fabric.toNat < x.ts.toNat + x.period) : sweepRecordSend s = s := by
  simp only [sweepRecordSend, hshot]
  exact if_neg (by simp; omega)

theorem State.shotOut_of_connected (hshot : s.sweep.shot = some x) (hplan : s.sweep.plan = some p) (hcoll : x.coll ≠ s.fab.addr)
    (hiso : s.sweep.isolated = false) :
    let sent := State.sendTo { s with sweep := { s.sweep with shot := none } } tyRecord x.coll (s.sweepRecord x false)
    s.shotOut = if p.has s.sweep.next && !s.sweep.stop then sent else sent.sweepEnd := by
  simp only [State.shotOut, hshot, beq_eq_false_iff_ne.mpr hcoll, hiso, Bool.false_eq_true, if_false, State.sendTo_sweep, hplan]
  rfl

/-! ## The layout of a record (R293) -/

theorem SweepShot.length_valueBytes (x : SweepShot) :
    ((List.range 26).flatMap fun c => bytesBE 3 (placeData false false c (nth x.values c 0) 1).toNat).length = 78 := by
  simp only [List.length_flatMap, length_bytesBE]
  rfl

theorem length_sweepRecord (held : Bool) : (s.sweepRecord x held).length = if x.st = 0 then 94 else 16 := by
  unfold State.sweepRecord
  extract_lets flags tags head
  have hhead : head.length = 6 := by simp [head]
  by_cases h : x.st = 0
  · simp [h, hhead, x.length_valueBytes]
  · simp [h, hhead, copies]

/-- The first bytes of a record: flags, STATUS and address, SNAP. -/
theorem sweepRecord_eq_head_append (held : Bool) : ∃ flags rest, s.sweepRecord x held =
    [0x20, flags, BitVec.ofNat 8 (16 * x.st + s.fab.addr.toNat / 256), BitVec.ofNat 8 s.fab.addr.toNat] ++ (bytesBE 2 x.snap ++ rest) := by
  unfold State.sweepRecord
  extract_lets flags tags head
  split
  · exact ⟨_, _, by simp only [head, List.append_assoc]; rfl⟩
  · exact ⟨_, _, by simp only [head, List.append_assoc]; rfl⟩

theorem bytesBE_two (v : Nat) : bytesBE 2 v = [BitVec.ofNat 8 (v / 256), BitVec.ofNat 8 v] := by simp [bytesBE, List.range_succ]

theorem recSnap_sweepRecord (held : Bool) : recSnap (s.sweepRecord x held) = BitVec.ofNat 16 x.snap := by
  obtain ⟨flags, rest, hrec⟩ := sweepRecord_eq_head_append (s := s) (x := x) held
  have hsnap : recSnap (s.sweepRecord x held) = BitVec.ofNat 16 (numBE (bytesBE 2 x.snap)) := by rw [hrec, bytesBE_two]; rfl
  rw [hsnap, numBE_bytesBE]
  exact BitVec.eq_of_toNat_eq (by simp)

theorem recAddr_sweepRecord (held : Bool) : recAddr (s.sweepRecord x held) = s.fab.addr := by
  obtain ⟨flags, rest, hrec⟩ := sweepRecord_eq_head_append (s := s) (x := x) held
  have haddr : recAddr (s.sweepRecord x held) =
      BitVec.ofNat 12 (numBE [BitVec.ofNat 8 (16 * x.st + s.fab.addr.toNat / 256), BitVec.ofNat 8 s.fab.addr.toNat]) := by rw [hrec]; rfl
  rw [haddr]
  refine BitVec.eq_of_toNat_eq ?_
  simp only [numBE, List.foldl_cons, List.foldl_nil, BitVec.toNat_ofNat]
  omega

end

/-! ## A record reaches the collector (R299 to R301, R412) -/

section
variable {s : State} {bytes : List Byte} {p : Fin 4}

theorem sweepRecordReceive_of_record (hu : s.up = true) (hk : nth bytes 0 0 = 0x20) (hl : 16 ≤ bytes.length) :
    ¬ (!(s.up && nth bytes 0 0 == 0x20 && decide (16 ≤ bytes.length))) = true := by
  rw [hu, hk, decide_eq_true hl]
  decide

theorem sweepRecordReceive_of_late (hu : s.up = true) (hk : nth bytes 0 0 = 0x20) (hl : 16 ≤ bytes.length)
    (hheld : (nth bytes 1 0).getLsbD 1 = false) (hlate : s.sweep.open_.find? (fun x => x.snap == recSnap bytes) = none) :
    sweepRecordReceive bytes false p .pass s = (s.destWrite (flagRecord bytes 4)).addSat 0x2038 0 16 1 := by
  unfold sweepRecordReceive
  rw [if_neg (sweepRecordReceive_of_record hu hk hl)]
  simp only [hheld, hlate, reduceCtorEq, Bool.false_eq_true, if_false]

theorem sweepRecordReceive_of_open {x : Snapshot} (hu : s.up = true) (hk : nth bytes 0 0 = 0x20) (hl : 16 ≤ bytes.length)
    (hheld : (nth bytes 1 0).getLsbD 1 = false) (hopen : s.sweep.open_.find? (fun x => x.snap == recSnap bytes) = some x) :
    sweepRecordReceive bytes false p .pass s = s.snapPut x (recAddr bytes) bytes false := by
  unfold sweepRecordReceive
  rw [if_neg (sweepRecordReceive_of_record hu hk hl)]
  simp only [hheld, hopen, reduceCtorEq, Bool.false_eq_true, if_false]

theorem sweepRecordReceive_of_lasting (hu : s.up = true) (hk : nth bytes 0 0 = 0x20) (hl : 16 ≤ bytes.length) :
    sweepRecordReceive bytes false p .lasting s = s.memFault false 12 := by
  unfold sweepRecordReceive
  rw [if_neg (sweepRecordReceive_of_record hu hk hl)]
  rfl

/-- A record enters its snapshot once. -/
theorem State.snapPut_of_known {x : Snapshot} {a : FAddr} (h : ∃ y, y ∈ x.records ∧ y.1 = a) (bs : List Byte) (changed : Bool) :
    s.snapPut x a bs changed = s := by
  unfold State.snapPut
  exact if_pos (by simpa [List.any_eq_true] using h)

end

/-! ## A snapshot closes (R299) -/

section
variable {s : State}

/-- What of a state the statements about a closed snapshot speak of: the sweeps and the pins. -/
def State.closeView (s : State) : Sweep × Pins := (s.sweep, s.pins)

theorem State.wr_closeView (id : Nat) (v : Word) : (s.wr id v).closeView = s.closeView := rfl
theorem State.setBit_closeView (id n : Nat) (b : Bool) : (s.setBit id n b).closeView = s.closeView := rfl
theorem State.addSat_closeView (id lo width n : Nat) : (s.addSat id lo width n).closeView = s.closeView := rfl
theorem State.setStream_closeView (n : Nat) (f : Stream → Stream) : (s.setStream n f).closeView = s.closeView := rfl
theorem State.streamLose_closeView (n k : Nat) : (s.streamLose n k).closeView = s.closeView := rfl

theorem State.raise_closeView (n : Nat) (data : Word) : (s.raise n data).closeView = s.closeView := by simp [State.closeView]
theorem State.raiseSlow_closeView (n u : Nat) (data : Word) : (s.raiseSlow n u data).closeView = s.closeView := by simp [State.closeView]

theorem State.notifyFrom_closeView (old : State) : (old.notifyFrom s).closeView = s.closeView := by simp [State.closeView]

theorem State.tailMoved_closeView (n : Nat) : (s.tailMoved n).closeView = s.closeView := by
  unfold State.tailMoved
  split <;> rfl

theorem State.watermark_closeView (n : Nat) : (s.watermark n).closeView = s.closeView := by
  unfold State.watermark
  extract_lets
  split
  · split
    · exact (State.raise_closeView ..).trans (State.notifyFrom_closeView ..)
    · rfl
  · rfl

theorem State.streamPut_closeView (n : Nat) (ws : List Word) : (s.streamPut n ws).closeView = s.closeView := by
  unfold State.streamPut
  exact foldl_keeps State.closeView _ (fun t x => by simp [State.closeView]) _ s

theorem State.convOvf_closeView (n : Nat) : (s.convOvf n).closeView = s.closeView := State.raise_closeView ..

theorem State.convOvfSlow_closeView (n : Nat) : (s.convOvfSlow n).closeView = s.closeView := by
  unfold State.convOvfSlow
  split
  · rfl
  · exact State.convOvf_closeView n

theorem State.destWrite_closeView (bs : List Byte) : (s.destWrite bs).closeView = s.closeView := by
  unfold State.destWrite
  extract_lets
  split
  · rfl
  · split
    · rw [State.watermark_closeView, State.streamPut_closeView, State.setBit_closeView]
    · split
      · rw [State.watermark_closeView, State.streamPut_closeView, State.convOvfSlow_closeView, State.streamLose_closeView, State.tailMoved_closeView,
          State.wr_closeView, State.setBit_closeView]
      · split
        · rfl
        · rw [State.raise_closeView, State.convOvf_closeView, State.setBit_closeView, State.streamLose_closeView]

theorem State.sredTake_closeView (x : Snapshot) : (s.sredTake x).closeView = s.closeView := by
  unfold State.sredTake
  extract_lets out slots
  exact foldl_keeps State.closeView _ (fun t _ => foldl_keeps State.closeView _ (by intros; rfl) _ t) _ s

/-- A snapshot that closes leaves the open ones, and nothing else of the sweeps. -/
theorem State.snapClose_closeView (x : Snapshot) :
    (s.snapClose x).closeView = ({ s.sweep with open_ := s.sweep.open_.erase x }, s.pins) := by
  unfold State.snapClose
  extract_lets miss w s0 s1 s2 s3
  have hs2 : s2.closeView = ({ s.sweep with open_ := s.sweep.open_.erase x }, s.pins) := by
    rw [State.destWrite_closeView, foldl_keeps State.closeView _ (fun t _ => t.destWrite_closeView _), State.sredTake_closeView]
    rfl
  have hs3 : s3.closeView = s2.closeView := by
    dsimp only [s3]
    split
    · exact State.raise_closeView ..
    · rw [State.raiseSlow_closeView, State.addSat_closeView]
  split
  · exact hs3.trans hs2
  · exact (State.raise_closeView ..).trans (hs3.trans hs2)

theorem snapshotCloseTimeout_of_none (h : s.sweep.open_ = []) : snapshotCloseTimeout s = s := by simp only [snapshotCloseTimeout, h]

theorem snapshotCloseTimeout_of_open {x : Snapshot} {rest : List Snapshot} (hu : s.up = true) (h : s.sweep.open_ = x :: rest) :
    snapshotCloseTimeout s = s.snapClose x := by
  simp only [snapshotCloseTimeout, h, hu, if_true]

theorem State.snapClose_leaves {x : Snapshot} {rest : List Snapshot} (h : s.sweep.open_ = x :: rest) :
    (s.snapClose x).sweep.open_ = rest ∧ (s.snapClose x).pins = s.pins := by
  obtain ⟨hsweep, hpins⟩ := Prod.mk.inj (s.snapClose_closeView x)
  rw [hsweep, hpins, h, List.erase_cons_head]
  exact ⟨rfl, rfl⟩

end

/-- Settles O47: each row by what the model does on its occasion, the record by its layout. -/
theorem snapshotsCollected : Obligations.SnapshotsCollected := by
  unfold Obligations.SnapshotsCollected
  intro s
  refine ⟨fun hu => ?_, fun hu hcollect hplan hshot => ?_, fun p hu hplan hcollect hiso hshot hstop hhas => ?_,
    fun p hu hplan hshot hcollect hhas => ?_, fun p x hu hshot => ⟨fun hdue hplan hcoll hiso => ?_, fun hst hgot hts => ?_⟩, fun hshot => ?_,
    fun x held => ⟨length_sweepRecord held, recSnap_sweepRecord held, recAddr_sweepRecord held⟩,
    fun bytes p hu hk hl hheld => ⟨fun hlate => ?_, fun x hopen => ⟨?_, fun hknown => State.snapPut_of_known hknown bytes false⟩, ?_⟩,
    fun x rest hu hopen => ?_, fun hopen => ?_⟩
  · exact congrArg Host.Outcome.next (snapshotTime_of_down hu)
  · have hopen := State.snapOpen_of_none hcollect
    have ht := snapshotTime_of_no_plan hu hplan hshot (congrArg (·.sweep.plan) hopen)
    rw [hopen] at ht
    exact congrArg Host.Outcome.next ht
  · exact ⟨_, congrArg Host.Outcome.next (snapshotTime_of_member hu hplan hcollect hiso hshot hstop hhas), rfl, rfl, rfl⟩
  · obtain ⟨hopen, hcnext, hp, hlast⟩ := State.snapOpen_leaves hcollect hhas
    exact ⟨_, s.opened p, congrArg Host.Outcome.next (snapshotTime_of_no_plan hu hplan hshot hp), hopen, rfl, rfl, rfl, hcnext, hlast⟩
  · exact congrArg Host.Outcome.next ((sweepRecordSend_of_due hu hshot hdue).trans (State.shotOut_of_connected hshot hplan hcoll hiso))
  · exact congrArg Host.Outcome.next (sweepRecordSend_of_waiting hshot hst hgot hts)
  · exact congrArg Host.Outcome.next (sweepRecordSend_of_none hshot)
  · exact congrArg (fun t : State => Host.Outcome.next t.settle) (sweepRecordReceive_of_late hu hk hl hheld hlate)
  · exact congrArg (fun t : State => Host.Outcome.next t.settle) (sweepRecordReceive_of_open hu hk hl hheld hopen)
  · exact congrArg (fun t : State => Host.Outcome.next t.settle) (sweepRecordReceive_of_lasting hu hk hl)
  · obtain ⟨hrest, hpins⟩ := State.snapClose_leaves hopen
    exact ⟨_, congrArg Host.Outcome.next (snapshotCloseTimeout_of_open hu hopen), hrest, hpins⟩
  · exact congrArg Host.Outcome.next (snapshotCloseTimeout_of_none hopen)

end Sys2Proof.Machine
end

section
/-! PROOFS. Isolated nodes hold their records and send them later (R302, R303); triggers start a capture, and a filled slot freezes (R304, R305). -/
namespace Sys2Proof.Machine

/-! ## Isolated nodes and held records (R302, R303) -/

section
variable {s : State} {p : SweepPlan} {x : SweepShot}

theorem sweepIsolated_of_no_plan (h : s.sweep.plan = none) : sweepIsolated s = s := by simp only [sweepIsolated, h]

theorem sweepIsolated_of_unreachable (hu : s.up = true) (hplan : s.sweep.plan = some p) (hroute : s.route p.coll = none)
    (hcoll : p.coll ≠ s.fab.addr) (hiso : s.sweep.isolated = false) :
    sweepIsolated s =
      State.sweepShow { s with sweep := { s.sweep with isolated := true, holding := true, heldSent := 0, heldTo := p.coll } } 3 := by
  simp only [sweepIsolated, hplan]
  exact if_pos (by simp [hu, hroute, hcoll, hiso])

theorem State.sweepEnd_leaves : s.sweepEnd.sweep.shot = s.sweep.shot ∧ s.sweepEnd.sweep.held = s.sweep.held := by
  simp only [State.sweepEnd, State.slotShow_sweep, State.sweepShow_sweep, and_self]

theorem State.holdRecord_sweep (bs : List Byte) (hroom : s.sweep.held.length < 2730) :
    (s.holdRecord bs).sweep = { s.sweep with held := s.sweep.held ++ [bs] } := by
  have hfull : decide (2730 ≤ s.sweep.held.length) = false := decide_eq_false (Nat.not_le.mpr hroom)
  simp only [State.holdRecord, hfull, Bool.false_eq_true, if_false, State.setFld_sweep]

/-- The record of an isolated node goes into its store; the one of the last snapshot also ends the sweep. -/
theorem State.shotOut_of_isolated (hshot : s.sweep.shot = some x) (hcoll : x.coll ≠ s.fab.addr) (hiso : s.sweep.isolated = true) :
    let kept := State.holdRecord { s with sweep := { s.sweep with shot := none } } (s.sweepRecord x true)
    s.shotOut = kept ∨ s.shotOut = kept.sweepEnd := by
  intro kept
  unfold State.shotOut
  split
  case h_1 hnone => exact absurd (hshot.symm.trans hnone) (Option.some_ne_none x)
  case h_2 y hsome =>
    obtain rfl : x = y := Option.some.inj (hshot.symm.trans hsome)
    extract_lets w t u
    have hu : u = kept := (if_neg (by simpa using hcoll)).trans (if_pos hiso)
    rw [hu]
    split
    · split
      · exact .inl rfl
      · exact .inr rfl
    · exact .inl rfl

theorem State.shotOut_held (hshot : s.sweep.shot = some x) (hcoll : x.coll ≠ s.fab.addr) (hiso : s.sweep.isolated = true)
    (hroom : s.sweep.held.length < 2730) :
    s.shotOut.sweep.shot = none ∧ s.shotOut.sweep.held = s.sweep.held ++ [s.sweepRecord x true] := by
  have hkept := State.holdRecord_sweep (s := { s with sweep := { s.sweep with shot := none } }) (s.sweepRecord x true) hroom
  rcases State.shotOut_of_isolated hshot hcoll hiso with h | h
  · rw [h, hkept]
    exact ⟨rfl, rfl⟩
  · rw [h, State.sweepEnd_leaves.1, State.sweepEnd_leaves.2, hkept]
    exact ⟨rfl, rfl⟩

theorem heldRecordSend_of_empty (hplan : s.sweep.plan = none) (hheld : s.sweep.held = []) : heldRecordSend s = s := by
  simp only [heldRecordSend, State.rejoin_of_no_plan hplan, hheld]

variable {bs : List Byte} {rest : List (List Byte)}

/-- The oldest held record leaves, and the rest are counted (R303, R306). -/
def State.heldOut (s : State) (bs : List Byte) (rest : List (List Byte)) : State :=
  (State.sendTo { s with sweep := { s.sweep with held := rest, heldSent := s.sweep.heldSent + 1, heldAt := s.clk.ref } } tyRecord
    s.sweep.heldTo bs).setFld 0x2037 0 16 rest.length

theorem State.heldOut_held : (s.heldOut bs rest).sweep.held = rest := by simp [State.heldOut]

theorem heldRecordSend_of_turn (hu : s.up = true) (hiso : s.sweep.isolated = false) (hheld : s.sweep.held = bs :: rest)
    (hroute : (s.route s.sweep.heldTo).isSome = true) (hturn : s.heldTurn = true) :
    (heldRecordSend s).sweep.held = rest ∧ (rest ≠ [] → heldRecordSend s = s.heldOut bs rest) := by
  simp only [heldRecordSend, State.rejoin_of_connected hiso, hheld, hu, hroute, hturn, Bool.and_self, if_true]
  cases rest with
  | nil => exact ⟨(congrArg Sweep.held (State.raise_sweep ..)).trans State.heldOut_held, fun h => absurd rfl h⟩
  | cons b t => exact ⟨State.heldOut_held, fun _ => rfl⟩

theorem heldRecordSend_of_no_turn (hiso : s.sweep.isolated = false) (hheld : s.sweep.held = bs :: rest) (hturn : s.heldTurn = false) :
    heldRecordSend s = s := by
  simp only [heldRecordSend, State.rejoin_of_connected hiso, hheld, hturn, Bool.and_false, Bool.false_eq_true, if_false]

end

/-! ## Triggers (R304, R305) -/

section
variable {s : State} {e : BitVec 7} {n : Nat}

theorem snapshotTrigger_of_none (h : e ∉ s.snap.due) : snapshotTrigger e s = s := by
  simp [snapshotTrigger, h]

/-- A trigger is taken from those that wait. -/
def State.triggerTaken (s : State) (e : BitVec 7) : State := { s with snap := { s.snap with due := s.snap.due.erase e } }

/-- A trigger of this node alone starts the fill of the slot that records, or is counted. -/
theorem snapshotTrigger_of_due (hu : s.up = true) (he : e ∈ s.snap.due) (hfab : (s.rd 0x2040).getLsbD 1 = false) :
    (s.armSlot = none → snapshotTrigger e s = (s.triggerTaken e).snapLost) ∧
      (∀ n, s.armSlot = some n →
        snapshotTrigger e s = (s.triggerTaken e).snapArm n (1024 - s.fld 0x2043 0 11) s.srcAddr e false false s.stamp.2) := by
  unfold snapshotTrigger
  rw [if_neg (by simp [hu, he])]
  extract_lets w s1 s2
  have hlocal : (s1.bit 0x2040 1 && s1.fab.valid) = false := by
    rw [show s1.bit 0x2040 1 = false from hfab, Bool.false_and]
  have hs2 : s2 = s.triggerTaken e := if_neg (by rw [hlocal]; exact Bool.false_ne_true)
  have harm : s2.armSlot = s.armSlot := (congrArg State.armSlot hs2).trans rfl
  rw [harm]
  refine ⟨fun h => ?_, fun n h => ?_⟩
  · rw [h, hs2]
  · rw [h, hs2]
    rfl

theorem fabricTriggerReceived_of_disabled {a : FAddr} {time : DWord} (h : (s.rd 0x2040).getLsbD 0 = false) :
    fabricTriggerReceived a e time s = s := by
  have hbit : s.bit 0x2040 0 = false := h
  simp [fabricTriggerReceived, hbit]

/-- The first trigger of another node of the string starts the fill, or is counted; with no sweep held yet the whole post-trigger part is to come. -/
theorem fabricTriggerReceived_of_mate {a : FAddr} {time : DWord} (hu : s.up = true) (hv : s.fab.valid = true)
    (hstr : a.toNat / 64 = s.fab.addr.toNat / 64) (ha : a ≠ s.fab.addr) (hon : (s.rd 0x2040).getLsbD 0 = true)
    (hcat : (s.rd 0x2041).getLsbD 4 = true) (hlast : s.snap.lastFab = none) :
    (s.armSlot = none → fabricTriggerReceived a e time s = s.snapLost) ∧
      (∀ n, s.armSlot = some n → s.snap.times = [] → fabricTriggerReceived a e time s =
        State.snapArm { s with snap := { s.snap with lastFab := some s.clk.ref } } n (1024 - s.fld 0x2043 0 11) a e true false time) := by
  have hbit : s.bit 0x2040 0 = true := hon
  have hbit4 : s.bit 0x2041 4 = true := hcat
  unfold fabricTriggerReceived
  extract_lets mate soon pre ts w s1 late j ahead
  have hmate : mate = true := by simp [mate, hv, hstr, ha]
  have hsoon : ¬ soon = true := by simp [soon, hlast]
  rw [if_neg (by simp [hu, hmate, hbit, hbit4]), if_neg hsoon]
  refine ⟨fun h => ?_, fun n h ht => ?_⟩
  · rw [h]
  · have hlate : ¬ late = true := by simp [late, ts, ht]
    have hahead : ahead = true := by simp [ahead, ts, ht]
    rw [h]
    exact (if_neg hlate).trans (by rw [if_pos hahead])

end

/-! ## A filled slot freezes (R304, R306, R327) -/

section
variable {s : State} {n : Nat}

/-- What of a state the statements about a frozen slot speak of: the goals, the slots, the trigger and the times, and the pins. -/
def State.frozenView (s : State) : List (Option Goal) × Snap × Pins := (s.plc.goals, s.snap, s.pins)

theorem State.turnSlot_frozenView (first : Nat) : (s.turnSlot n first).frozenView = s.frozenView := by
  unfold State.turnSlot
  extract_lets lo len cells clear
  have hclear : clear.frozenView = s.frozenView := foldl_keeps State.frozenView _ (by intros; rfl) _ s
  exact (foldl_keeps State.frozenView _ (by intros; rfl) _ clear).trans hclear

theorem State.stBytes_frozenView (a : Nat) (bs : List Byte) : (s.stBytes a bs).frozenView = s.frozenView := by simp [State.frozenView]

/-- The event of a frozen slot is no trigger (R304). -/
theorem State.triggers_frozen : s.triggers 59 = s := rfl

theorem State.evPlace_frozenView (e : EvEntry) : (s.evPlace e).frozenView = s.frozenView := by simp [State.frozenView]

theorem State.evDiscard_frozenView (fromRing : Bool) : (s.evDiscard fromRing).frozenView = s.frozenView := by simp [State.frozenView]

theorem State.raise_frozen_frozenView (data : Word) : (s.raise 59 data).frozenView = s.frozenView := by
  unfold State.raise State.raiseC
  extract_lets e t _ t1
  have ht : t = s := State.triggers_frozen
  split
  · exact State.evPlace_frozenView e
  · split
    · split
      · rfl
      · exact State.evDiscard_frozenView false
    · rfl

theorem State.sendJob_frozenView (a : FAddr) (kind : Byte) (head bytes : List Byte) : (s.sendJob a kind head bytes).frozenView = s.frozenView := by
  unfold State.sendJob
  exact foldl_keeps State.frozenView _ (fun t x => by simp [State.frozenView]) _ s

theorem State.recStore_frozenView (r : Rec) : (s.recStore r).frozenView = s.frozenView := rfl

theorem State.recSpread_frozenView (r : Rec) : (s.recSpread r).frozenView = s.frozenView := by
  unfold State.recSpread
  refine foldl_keeps State.frozenView _ (fun t a => ?_) _ s
  split
  · exact State.recStore_frozenView r
  · exact State.sendJob_frozenView ..

theorem State.slotFree_leaves (h : s.snap.trigger = none) :
    (s.slotFree n).snap.trigger = none ∧ (s.slotFree n).snap.times = s.snap.times ∧ (s.slotFree n).pins = s.pins := by
  unfold State.slotFree
  dsimp only
  split
  · exact ⟨rfl, rfl, rfl⟩
  · exact ⟨h, rfl, rfl⟩

/-- A SNAPC job that reads a frozen capture stores its record and frees the slot; without one nothing happens (R327). -/
theorem State.snapc_eq : s.snapc n = s ∨ ∃ r, s.snapc n = (s.recSpread r).slotFree n := by
  unfold State.snapc
  split
  · exact .inl rfl
  · extract_lets
    split
    · exact .inl rfl
    · exact .inr ⟨_, rfl⟩

theorem State.snapc_leaves (h : s.snap.trigger = none) :
    (s.snapc n).snap.trigger = none ∧ (s.snapc n).snap.times = s.snap.times ∧ (s.snapc n).pins = s.pins := by
  rcases s.snapc_eq (n := n) with hn | ⟨r, hr⟩
  · rw [hn]
    exact ⟨h, rfl, rfl⟩
  · obtain ⟨-, hrest⟩ := Prod.mk.inj (s.recSpread_frozenView r)
    obtain ⟨hsnap, hpins⟩ := Prod.mk.inj hrest
    have hfree := State.slotFree_leaves (n := n) (hsnap ▸ h : (s.recSpread r).snap.trigger = none)
    rwa [hr, ← hsnap, ← hpins]

/-- The goals of a node are those of its table (R308). -/
theorem State.mem_goals_of_mem_goalList {x : Fin 32 × Goal} (hx : x ∈ s.goalList) : some x.2 ∈ s.plc.goals := by
  obtain ⟨y, hy, hyx⟩ := List.mem_filterMap.mp hx
  obtain ⟨g, hg, rfl⟩ := Option.map_eq_some_iff.mp hyx
  exact hg ▸ List.fst_mem_of_mem_zipIdx hy

theorem State.snapc_of_no_goal (hg : ∀ g, g ∈ s.plc.goals → ∀ h, g = some h → h.kind ≠ 6) : s.snapc n = s := by
  unfold State.snapc
  split
  · rfl
  · extract_lets out on a start all long pre body head
    have hon : on = false := by
      refine List.any_eq_false.mpr fun x hx => ?_
      have hk : (x.2.kind == 6) = false := beq_eq_false_iff_ne.mpr (hg _ (State.mem_goals_of_mem_goalList hx) _ rfl)
      simp only [hk, Bool.false_and, Bool.false_eq_true, not_false_eq_true]
    exact if_pos (by rw [hon]; rfl)

theorem snapshotFrozen_of_no_trigger (h : s.snap.trigger = none) : snapshotFrozen s = s := by
  unfold snapshotFrozen
  split
  case h_1 ht => exact absurd (h.symm.trans ht) (Option.some_ne_none _).symm
  case h_2 => rfl

/-- The slot that fills is full, and the next capture starts anew (R304). -/
def State.captureClosed (s : State) (n : Nat) : State :=
  { s with snap := { s.snap with slots := s.snap.slots.set n .full, pos := 0, skip := 0, put := none, times := [], trigger := none, late := false } }

theorem State.captureClosed_frozenView {t : State} (h : t.frozenView = s.frozenView) :
    (t.captureClosed n).frozenView = (s.captureClosed n).frozenView := by
  obtain ⟨hgoals, hrest⟩ := Prod.mk.inj h
  obtain ⟨hsnap, hpins⟩ := Prod.mk.inj hrest
  simp only [State.frozenView, State.captureClosed, hgoals, hsnap, hpins]

theorem State.setBit_frozenView (id i : Nat) (b : Bool) : (s.setBit id i b).frozenView = s.frozenView := rfl

/-- The slot whose last sweep is written gets its header and freezes, and a SNAPC job may read it. -/
theorem snapshotFrozen_of_filled {p : Nat} {x : FAddr × BitVec 7 × Bool × DWord} (hn : s.recSlot = some n)
    (hs : nth s.snap.slots n .full = .filling 0 p) (hx : s.snap.trigger = some x) :
    ∃ head data, snapshotFrozen s =
      (((((s.turnSlot n s.snap.pos).stBytes (slotBase n) head).captureClosed n).setBit 0x2040 (4 + n) true).raise 59 data).snapc n := by
  obtain ⟨who, ev, fab, time⟩ := x
  unfold snapshotFrozen
  rw [hn, hx]
  dsimp only
  rw [hs]
  exact ⟨_, _, rfl⟩

theorem State.frozen_frozenView (pos : Nat) (head : List Byte) (data : Word) :
    (((((s.turnSlot n pos).stBytes (slotBase n) head).captureClosed n).setBit 0x2040 (4 + n) true).raise 59 data).frozenView =
      (s.captureClosed n).frozenView := by
  rw [State.raise_frozen_frozenView, State.setBit_frozenView, State.captureClosed_frozenView]
  rw [State.stBytes_frozenView, State.turnSlot_frozenView]

theorem nth_set_same {α : Type} {l : List α} {i : Nat} (hi : i < l.length) (x d : α) : nth (l.set i x) i d = x := by
  simp [nth, List.getD_eq_getElem?_getD, hi]

theorem lt_length_of_nth_ne {α : Type} {l : List α} {i : Nat} {d : α} (h : nth l i d ≠ d) : i < l.length :=
  Nat.lt_of_not_le fun hi => h (by simp only [nth, List.getD_eq_getElem?_getD, List.getElem?_eq_none hi, Option.getD_none])

end

/-- Settles O48: each row by what the model does on its occasion. -/
theorem heldRecordsAndCaptures : Obligations.HeldRecordsAndCaptures := by
  unfold Obligations.HeldRecordsAndCaptures
  intro s
  refine ⟨fun p hu hplan hroute hcoll hiso => ?_, fun x hu hiso hshot hcoll hdue hroom => ?_, fun hplan => ⟨?_, fun hheld => ?_⟩, rfl,
    fun a bs rest hu ha hiso hheld hroute => ⟨fun hturn => ?_, fun hturn => ?_⟩,
    fun e => ⟨fun he => ?_, fun hu he hfab => ⟨fun harm => ?_, fun n harm => ?_⟩⟩,
    fun a e time hu hv hstr ha => ⟨fun hoff => ?_, fun hon hcat hlast => ⟨fun harm => ?_, fun n harm htimes => ?_⟩⟩,
    fun ht => ?_, fun n p x hn hslot hx => ?_⟩
  · exact ⟨_, congrArg Host.Outcome.next (sweepIsolated_of_unreachable hu hplan hroute hcoll hiso), rfl, rfl, rfl, rfl⟩
  · obtain ⟨hnone, hkept⟩ := State.shotOut_held hshot hcoll hiso hroom
    exact ⟨_, congrArg Host.Outcome.next (sweepRecordSend_of_due hu hshot hdue), hnone, hkept⟩
  · exact congrArg Host.Outcome.next (sweepIsolated_of_no_plan hplan)
  · exact congrArg Host.Outcome.next (heldRecordSend_of_empty hplan hheld)
  · subst ha
    obtain ⟨hrest, hout⟩ := heldRecordSend_of_turn hu hiso hheld hroute hturn
    exact ⟨_, rfl, hrest, hout⟩
  · exact congrArg Host.Outcome.next (heldRecordSend_of_no_turn hiso hheld hturn)
  · exact congrArg Host.Outcome.next (snapshotTrigger_of_none he)
  · exact congrArg Host.Outcome.next ((snapshotTrigger_of_due hu he hfab).1 harm)
  · exact congrArg Host.Outcome.next ((snapshotTrigger_of_due hu he hfab).2 n harm)
  · exact congrArg Host.Outcome.next (fabricTriggerReceived_of_disabled hoff)
  · exact congrArg Host.Outcome.next ((fabricTriggerReceived_of_mate hu hv hstr ha hon hcat hlast).1 harm)
  · exact congrArg Host.Outcome.next ((fabricTriggerReceived_of_mate hu hv hstr ha hon hcat hlast).2 n harm htimes)
  · exact congrArg Host.Outcome.next (snapshotFrozen_of_no_trigger ht)
  · obtain ⟨head, data, hfrozen⟩ := snapshotFrozen_of_filled hn hslot hx
    obtain ⟨hgoals, hrest⟩ := Prod.mk.inj (State.frozen_frozenView (s := s) (n := n) s.snap.pos head data)
    obtain ⟨hsnap, hpins⟩ := Prod.mk.inj hrest
    obtain ⟨htrigger, htimes, hsame⟩ := State.snapc_leaves (n := n) (congrArg Snap.trigger hsnap)
    refine ⟨_, congrArg Host.Outcome.next hfrozen, htrigger, htimes.trans (congrArg Snap.times hsnap), hsame.trans hpins, fun hkind => ?_⟩
    have hlt : n < s.snap.slots.length := lt_length_of_nth_ne (d := .full) (by simp [hslot])
    rw [State.snapc_of_no_goal (hgoals ▸ hkind), hsnap]
    exact nth_set_same hlt _ _

end Sys2Proof.Machine
end

section
/-! PROOFS. A step takes the command at the front of the queue. -/
namespace Sys2Proof.Machine

/-- Settles O1. -/
theorem stepTakesFrontCommand : Obligations.StepTakesFrontCommand := by
  intro c rest s hp
  unfold step
  rw [hp]

end Sys2Proof.Machine
end

section
/-! PROOFS. What a demand on the output pair does and what it leaves (R353 to R357, R386, R398), with SAFE_ACK and SAFE_STOP (R355, R356). -/
namespace Sys2Proof.Machine

/-! ## What a demand leaves -/

/-- The monitor less what a demand may change of it (R353 to R357, R386). -/
def Safety.apart (x : Safety) : Safety :=
  { x with ramp := none, phase := 0, retryDue := false, testH := ⟨false, false⟩, testL := ⟨false, false⟩, testDue := 0, testWait := 0,
           latched := 0, twinDue := none }

/-- The leads less the output pair. -/
def Pins.apart (p : Pins) : Pins := { p with safeH := false, safeL := false }

/-- What a demand leaves of a state: the rest of the monitor and of the leads, the mode, the sequencer, the timers, and Chisel but for the mark of an
aborted attempt (R398). -/
def State.apart (s : State) : Safety × Pins × Power × Seq × List Timer × Chisel :=
  (s.safe.apart, s.pins.apart, { s.pwr with request := none }, s.seq, s.tmr, { s.chis with aborted := false })

/-- The parameters that a demand writes: `sf.status`, `sf.ramp`, the count of Doffs, `sf.out.state` and the number of the twin frames, and the counts
of events. -/
def demandParams : List Nat := [0x3100, 0x310C, 0x310D, 0x3121, 0x312B] ++ countParams

/-- Both leads are low and no closing sequence stands. -/
def State.OutputsDown (s : State) : Prop := s.pins.safeH = false ∧ s.pins.safeL = false ∧ s.safe.phase = 0

/-- LATCH is set and PERMIT cleared (R355). -/
def State.LatchedOut (s : State) : Prop := s.bit 0x3100 5 = true ∧ s.bit 0x3100 4 = false

section
variable {s : State} {cause : BitVec 4} {immediate : Bool}

theorem State.outputsOn_eq_false_iff : s.outputsOn = false ↔ s.pins.safeH = false ∧ s.pins.safeL = false := by
  simp [State.outputsOn]

theorem State.OutputsDown.outputsOn (h : s.OutputsDown) : s.outputsOn = false := State.outputsOn_eq_false_iff.2 ⟨h.1, h.2.1⟩

@[simp] theorem State.raise_apart (n : Nat) (data : Word) : (s.raise n data).apart = s.apart := by simp [State.apart]
@[simp] theorem State.transient_apart (k n : Nat) : (s.transient k n).apart = s.apart := by simp [State.apart]

theorem State.askRun_apart : s.askRun.apart = s.apart := by
  unfold State.askRun
  split <;> rfl

theorem State.sendTwinCopy_leaves (dst : FAddr) (head : List Byte) (down : Bool) :
    (s.sendTwinCopy dst head down).safe = s.safe ∧ (s.sendTwinCopy dst head down).pins = s.pins ∧
      (s.sendTwinCopy dst head down).par = s.par ∧ (s.sendTwinCopy dst head down).apart = s.apart := by
  unfold State.sendTwinCopy
  extract_lets
  split
  · split <;> exact ⟨rfl, rfl, rfl, rfl⟩
  · exact ⟨rfl, rfl, rfl, rfl⟩

theorem State.sendTwin_leaves (dst : FAddr) (kind : Byte) (c : BitVec 4) :
    (s.sendTwin dst kind c).safe = s.safe ∧ (s.sendTwin dst kind c).pins = s.pins ∧
      (s.sendTwin dst kind c).par = (s.wr 0x312B (s.rd 0x312B + 1)).par ∧ (s.sendTwin dst kind c).apart = s.apart := by
  unfold State.sendTwin
  extract_lets seq t dirs single head up dn
  have hup (x : State) : (up x).safe = x.safe ∧ (up x).pins = x.pins ∧ (up x).par = x.par ∧ (up x).apart = x.apart := by
    dsimp only [up]
    split
    · exact ⟨rfl, rfl, rfl, rfl⟩
    · exact State.sendTwinCopy_leaves ..
  have hdn (x : State) : (dn x).safe = x.safe ∧ (dn x).pins = x.pins ∧ (dn x).par = x.par ∧ (dn x).apart = x.apart := by
    dsimp only [dn]
    split
    · exact ⟨rfl, rfl, rfl, rfl⟩
    · exact State.sendTwinCopy_leaves ..
  obtain ⟨hs, hp, hr, ha⟩ := hdn (up t)
  obtain ⟨hs', hp', hr', ha'⟩ := hup t
  exact ⟨hs.trans hs', hp.trans hp', hr.trans hr', ha.trans ha'⟩

theorem State.sendRampReq_leaves (dst : FAddr) (c : BitVec 4) :
    (s.sendRampReq dst c).safe = s.safe ∧ (s.sendRampReq dst c).pins = s.pins ∧ (s.sendRampReq dst c).apart = s.apart := by
  unfold State.sendRampReq
  split
  · obtain ⟨hs, hp, -, ha⟩ := State.sendTwin_leaves (s := s) dst 0x04 c
    exact ⟨hs, hp, ha⟩
  · simp [State.apart]

theorem State.Stored.rd_sendTwin (h : s.Stored) {j : Nat} (hj : j ≠ 0x312B) (dst : FAddr) (kind : Byte) (c : BitVec 4) :
    (s.sendTwin dst kind c).rd j = s.rd j := by
  obtain ⟨-, -, hpar, -⟩ := State.sendTwin_leaves (s := s) dst kind c
  rw [State.rd_eq_of_par hpar, State.rd_wr h, if_neg hj]

theorem State.Stored.rd_sendRampReq (h : s.Stored) {j : Nat} (hj : j ≠ 0x312B) (hr : j ≠ 0x200F) (dst : FAddr) (c : BitVec 4) :
    (s.sendRampReq dst c).rd j = s.rd j := by
  unfold State.sendRampReq
  split
  · exact h.rd_sendTwin hj ..
  · rw [(h.wr _ _).sendTo.rd_sendTo hr, (h.wr _ _).rd_sendTo hr, State.rd_wr h, if_neg hj]

/-! ## The three ways a demand goes -/

/-- A slice that holds the output path is aborted (R398). -/
def State.pathTaken (s : State) : State := if s.pathHeld then { s with chis := { s.chis with aborted := true } } else s

/-- A demand that finds both leads low keeps them so (R355). -/
def State.barred (s : State) : State :=
  { (s.latch true).permit false with safe := { s.safe with phase := 0, retryDue := false } }.outShow

theorem State.pathTaken_eq : s.pathTaken = { s with chis := s.pathTaken.chis } := by
  unfold State.pathTaken
  split <;> rfl

@[simp] theorem State.pathTaken_pins : s.pathTaken.pins = s.pins := by rw [State.pathTaken_eq]
@[simp] theorem State.pathTaken_safe : s.pathTaken.safe = s.safe := by rw [State.pathTaken_eq]
@[simp] theorem State.pathTaken_rd (id : Nat) : s.pathTaken.rd id = s.rd id := by rw [State.pathTaken_eq]; rfl
theorem State.pathTaken_apart : s.pathTaken.apart = s.apart := by unfold State.pathTaken; split <;> rfl
theorem State.Stored.pathTaken (h : s.Stored) : s.pathTaken.Stored := by rw [State.pathTaken_eq]; exact h

theorem State.demand_eq (s : State) (cause : BitVec 4) (immediate : Bool) : s.demand cause immediate =
    if s.pathTaken.outputsOn then
      if immediate || s.pathTaken.rd 0x1002 == 0 then s.pathTaken.doff cause true false false
      else if s.pathTaken.ramping then s.pathTaken else s.pathTaken.rampStart cause
    else s.pathTaken.barred := rfl

@[simp] theorem State.pathTaken_outputsOn : s.pathTaken.outputsOn = s.outputsOn := by simp [State.outputsOn]

theorem State.demand_of_off (ho : s.outputsOn = false) : s.demand cause immediate = s.pathTaken.barred := by
  rw [State.demand_eq, State.pathTaken_outputsOn, ho, if_neg Bool.false_ne_true]

theorem State.demand_of_immediate (ho : s.outputsOn = true) (hi : immediate = true ∨ s.rd 0x1002 = 0) :
    s.demand cause immediate = s.pathTaken.doff cause true false false := by
  have hc : (immediate || s.rd 0x1002 == 0) = true := by simpa using hi
  rw [State.demand_eq, State.pathTaken_outputsOn, if_pos ho, State.pathTaken_rd, if_pos hc]

theorem State.demand_of_ramp (ho : s.outputsOn = true) (hr : s.rd 0x1002 ≠ 0) :
    s.demand cause false = if s.ramping then s.pathTaken else s.pathTaken.rampStart cause := by
  have hc : ¬ (false || s.rd 0x1002 == 0) = true := by simpa using hr
  have hramp : s.pathTaken.ramping = s.ramping := by simp [State.ramping, State.bit]
  rw [State.demand_eq, State.pathTaken_outputsOn, if_pos ho, State.pathTaken_rd, if_neg hc, hramp]

/-- A demand finds the leads low, turns them off, or lets a ramp run (R354, R355). -/
theorem State.demand_cases (s : State) (cause : BitVec 4) (immediate : Bool) :
    s.demand cause immediate = s.pathTaken.barred ∨ s.demand cause immediate = s.pathTaken.doff cause true false false ∨
      s.demand cause immediate = s.pathTaken ∨ s.demand cause immediate = s.pathTaken.rampStart cause := by
  cases ho : s.outputsOn with
  | false => exact .inl (State.demand_of_off ho)
  | true =>
    by_cases hi : immediate = true ∨ s.rd 0x1002 = 0
    · exact .inr (.inl (State.demand_of_immediate ho hi))
    · obtain ⟨hi, hr⟩ := not_or.1 hi
      rw [Bool.not_eq_true] at hi
      subst hi
      rw [State.demand_of_ramp ho hr]
      split
      · exact .inr (.inr (.inl rfl))
      · exact .inr (.inr (.inr rfl))

/-! ### Doff (R353) -/

theorem State.doff_pins (cause : BitVec 4) (i e r : Bool) :
    (s.doff cause i e r).pins = { s.pins with safeH := false, safeL := false } := by
  unfold State.doff
  rw [State.raise_pins]
  rfl

theorem State.doff_safe (cause : BitVec 4) (i e r : Bool) :
    (s.doff cause i e r).safe = { s.safe with ramp := none, phase := 0, retryDue := false, testH := ⟨false, false⟩, testL := ⟨false, false⟩,
                                              testDue := 0, testWait := 0 } := by
  unfold State.doff
  rw [State.raise_safe]
  rfl

theorem State.doff_apart (cause : BitVec 4) (i e r : Bool) : (s.doff cause i e r).apart = s.apart := by
  unfold State.doff
  rw [State.raise_apart]
  rfl

theorem State.doff_down (cause : BitVec 4) (i e r : Bool) : (s.doff cause i e r).OutputsDown := by
  simp [State.OutputsDown, State.doff_pins, State.doff_safe]

theorem State.Stored.rd_outShow (h : s.Stored) {j : Nat} (hj : j ≠ 0x3121) : s.outShow.rd j = s.rd j := by
  rw [State.outShow, State.rd_wr h, if_neg hj]

theorem State.Stored.rd_leadsOff (h : s.Stored) {j : Nat} (hj : j ≠ 0x3121) : s.leadsOff.rd j = s.rd j :=
  State.Stored.rd_outShow (s := { s with
    pins := { s.pins with safeH := false, safeL := false }
    safe := { s.safe with phase := 0, retryDue := false, testH := ⟨false, false⟩, testL := ⟨false, false⟩, testDue := 0,
                          testWait := 0 } }) h hj

theorem State.Stored.rd_setFld_same (h : s.Stored) (id lo width v : Nat) : (s.setFld id lo width v).rd id = putBits (s.rd id) lo width v := by
  rw [State.setFld, State.rd_wr h, if_pos rfl]

/-- `sf.status` with LATCH set and PERMIT cleared (R355, R364). -/
def latchedStatus (w : Word) : Word := putBits (putBits w 5 1 1) 4 1 0

theorem latchedStatus_bits (w : Word) : (latchedStatus w).getLsbD 5 = true ∧ (latchedStatus w).getLsbD 4 = false := by
  unfold latchedStatus
  refine ⟨?_, ?_⟩
  · rw [getLsbD_putBits, if_neg (by decide), getLsbD_putBits, if_pos (by decide)]
    rfl
  · rw [getLsbD_putBits, if_pos (by decide)]
    rfl

theorem State.Stored.rd_latch_permit (h : s.Stored) {j : Nat} :
    ((s.latch true).permit false).rd j = if j = 0x3100 then latchedStatus (s.rd 0x3100) else s.rd j := by
  have h1 : (s.latch true).Stored := h.latch
  rcases eq_or_ne j 0x3100 with rfl | hj
  · rw [if_pos rfl]
    exact (h1.rd_setFld_same 0x3100 4 1 0).trans (congrArg (putBits · 4 1 0) (h.rd_setFld_same 0x3100 5 1 1))
  · rw [if_neg hj]
    exact (State.rd_setFld_ne h1 _ _ _ _ _ hj).trans (State.rd_setFld_ne h _ _ _ _ _ hj)

theorem doffStatus_not_count : 0x3100 ∉ countParams := by decide

/-- A Doff before its count and its event (R353). -/
def State.doffSet (s : State) (cause : BitVec 4) : State :=
  (((s.leadsOff.latch true).permit false).setBit 0x3100 6 false).setFld 0x3100 8 4 cause.toNat

/-- No ramp goes on. -/
def State.rampEnd (s : State) : State := { s with safe := { s.safe with ramp := none } }

theorem State.doff_eq (s : State) (cause : BitVec 4) (i e r : Bool) : ∃ data : Word,
    s.doff cause i e r = ((s.doffSet cause).rampEnd.addSat 0x310D 0 16 1).raise 76 data := ⟨_, rfl⟩

theorem State.Stored.rampEnd (h : s.Stored) : s.rampEnd.Stored := h

@[simp] theorem State.rampEnd_rd (j : Nat) : s.rampEnd.rd j = s.rd j := rfl

theorem State.Stored.doffSet (h : s.Stored) : (s.doffSet cause).Stored := ((h.leadsOff.latch.permit).setBit _ _ _).setFld _ _ _ _

theorem State.Stored.rd_doffSet (h : s.Stored) {j : Nat} (hj : j ≠ 0x3121) : (s.doffSet cause).rd j =
    if j = 0x3100 then putBits (putBits (latchedStatus (s.rd 0x3100)) 6 1 0) 8 4 cause.toNat else s.rd j := by
  have h1 : ((s.leadsOff.latch true).permit false).Stored := h.leadsOff.latch.permit
  have h2 := h1.setBit 0x3100 6 false
  rcases eq_or_ne j 0x3100 with rfl | hne
  · rw [if_pos rfl, State.doffSet, h2.rd_setFld_same, State.setBit, h1.rd_setFld_same, h.leadsOff.rd_latch_permit, if_pos rfl, h.rd_leadsOff hj]
    rfl
  · rw [if_neg hne, State.doffSet, State.rd_setFld_ne h2 _ _ _ _ _ hne, State.setBit, State.rd_setFld_ne h1 _ _ _ _ _ hne,
      h.leadsOff.rd_latch_permit, if_neg hne, h.rd_leadsOff hj]

theorem State.Stored.rd_doff (h : s.Stored) {j : Nat} (h2 : j ≠ 0x310D) (hc : j ∉ countParams) (i e r : Bool) :
    (s.doff cause i e r).rd j = (s.doffSet cause).rd j := by
  have hs : (s.doffSet cause).rampEnd.Stored := h.doffSet.rampEnd
  obtain ⟨data, hd⟩ := s.doff_eq cause i e r
  rw [hd, (hs.addSat _ _ _ _).rd_raise hc, hs.rd_addSat_ne h2, State.rampEnd_rd]

theorem State.Stored.doff_status (h : s.Stored) (i e r : Bool) : (s.doff cause i e r).LatchedOut ∧
    (s.doff cause i e r).fld 0x3100 8 4 = cause.toNat := by
  have hr := (h.rd_doff (j := 0x3100) (by decide) doffStatus_not_count i e r).trans (h.rd_doffSet (cause := cause) (by decide))
  rw [if_pos rfl] at hr
  refine ⟨?_, ?_⟩
  · rw [State.LatchedOut, State.bit, State.bit, hr, getLsbD_putBits, if_neg (by decide), getLsbD_putBits, if_neg (by decide),
      getLsbD_putBits, if_neg (by decide), getLsbD_putBits, if_neg (by decide)]
    exact latchedStatus_bits _
  · rw [State.fld, hr, bitsOf_putBits_same _ _ _ _ (by decide)]
    exact Nat.mod_eq_of_lt cause.isLt

/-! ### Leads that stay low, and a ramp (R353, R355) -/

theorem State.barred_pins : s.barred.pins = s.pins := rfl
theorem State.barred_safe : s.barred.safe = { s.safe with phase := 0, retryDue := false } := rfl
theorem State.barred_apart : s.barred.apart = s.apart := rfl

theorem State.Stored.rd_barred (h : s.Stored) {j : Nat} (hj : j ≠ 0x3121) :
    s.barred.rd j = if j = 0x3100 then latchedStatus (s.rd 0x3100) else s.rd j :=
  (State.Stored.rd_outShow (s := { (s.latch true).permit false with safe := { s.safe with phase := 0, retryDue := false } })
    (h.latch.permit) hj).trans h.rd_latch_permit

/-- RAMP and RAMPSTART with the ramp of a start (R353). -/
def State.rampOn (s : State) (start : Word) (ramp : Option (Nat × Int × Nat × BitVec 4)) : State :=
  { (s.setBit 0x3100 6 true).wr 0x310C start with safe := { s.safe with ramp := ramp } }

/-- A ramp that has started, before its request to the converter node. -/
def State.rampSet (s : State) (cause : BitVec 4) : State :=
  let i := ratAbs s.current
  (s.rampOn (pack [(16, 16, satNat 16 (ratInt i))]) (some (0, i.num, i.den, cause))).raise 75 (pack [(0, 4, cause.toNat), (16, 12, s.fab.addr.toNat)])

theorem State.rampStart_eq (s : State) (cause : BitVec 4) : s.rampStart cause =
    (if s.bit 0x310B 12 then (s.rampSet cause).sendRampReq (BitVec.ofNat 12 (s.fld 0x310B 0 12)) cause else s.rampSet cause).askRun := rfl

theorem State.rampSet_leaves (s : State) (cause : BitVec 4) : (s.rampSet cause).pins = s.pins ∧ (s.rampSet cause).apart = s.apart ∧
    ∃ (n : Int) (d : Nat), (s.rampSet cause).safe = { s.safe with ramp := some (0, n, d, cause) } :=
  ⟨State.raise_pins .., State.raise_apart .., _, _, State.raise_safe ..⟩

theorem State.Stored.rampOn (h : s.Stored) {start : Word} {ramp : Option (Nat × Int × Nat × BitVec 4)} : (s.rampOn start ramp).Stored :=
  ((h.setBit _ _ _).wr _ _).frame

theorem State.Stored.rampSet (h : s.Stored) : (s.rampSet cause).Stored := h.rampOn.raise

theorem State.Stored.rd_rampOn (h : s.Stored) {j : Nat} (hj : j ≠ 0x310C) {start : Word} {ramp : Option (Nat × Int × Nat × BitVec 4)} :
    (s.rampOn start ramp).rd j = (s.setBit 0x3100 6 true).rd j :=
  (State.rd_wr (h.setBit _ _ _) _ _ _).trans (if_neg hj)

theorem State.Stored.rd_rampSet (h : s.Stored) {j : Nat} (h1 : j ≠ 0x310C) (hc : j ∉ countParams) :
    (s.rampSet cause).rd j = (s.setBit 0x3100 6 true).rd j :=
  (h.rampOn.rd_raise hc).trans (h.rd_rampOn h1)

theorem State.askRun_safe : s.askRun.safe = s.safe := by
  unfold State.askRun
  split <;> rfl

theorem State.askRun_par : s.askRun.par = s.par := by
  unfold State.askRun
  split <;> rfl

theorem State.rampStart_leaves (s : State) (cause : BitVec 4) : (s.rampStart cause).pins = s.pins ∧ (s.rampStart cause).apart = s.apart ∧
    ∃ (n : Int) (d : Nat), (s.rampStart cause).safe = { s.safe with ramp := some (0, n, d, cause) } := by
  obtain ⟨hp, ha, n, d, hs⟩ := s.rampSet_leaves cause
  rw [State.rampStart_eq, State.askRun_apart, State.askRun_safe, (State.askRun_leaves).2.2]
  split
  · obtain ⟨hs', hp', ha'⟩ := State.sendRampReq_leaves (s := s.rampSet cause) (BitVec.ofNat 12 (s.fld 0x310B 0 12)) cause
    exact ⟨hp'.trans hp, ha'.trans ha, n, d, hs'.trans hs⟩
  · exact ⟨hp, ha, n, d, hs⟩

theorem State.Stored.rd_rampStart (h : s.Stored) {j : Nat} (h1 : j ≠ 0x310C) (h2 : j ≠ 0x312B) (hc : j ∉ countParams) :
    (s.rampStart cause).rd j = (s.setBit 0x3100 6 true).rd j := by
  have hroute : j ≠ 0x200F := fun hj => hc (by simp [hj, countParams])
  rw [State.rampStart_eq, State.rd_eq_of_par State.askRun_par]
  split
  · rw [h.rampSet.rd_sendRampReq h2 hroute, h.rd_rampSet h1 hc]
  · exact h.rd_rampSet h1 hc

/-! ### A demand as a whole -/

/-- The demand does not let a ramp run: it is immediate, no shunt is known, or the leads are low (R354, R355). -/
def State.Stops (s : State) (immediate : Bool) : Prop := immediate = true ∨ s.rd 0x1002 = 0 ∨ s.outputsOn = false

theorem State.demand_of_stops (h : s.Stops immediate) : s.outputsOn = false ∧ s.demand cause immediate = s.pathTaken.barred ∨
    s.demand cause immediate = s.pathTaken.doff cause true false false := by
  cases ho : s.outputsOn with
  | false => exact .inl ⟨rfl, State.demand_of_off ho⟩
  | true => exact .inr (State.demand_of_immediate ho (by simpa [State.Stops, ho] using h))

theorem State.demand_down (h : s.Stops immediate) : (s.demand cause immediate).OutputsDown := by
  rcases State.demand_of_stops (cause := cause) h with ⟨ho, hd⟩ | hd
  · obtain ⟨hH, hL⟩ := State.outputsOn_eq_false_iff.1 ho
    rw [hd]
    simp [State.OutputsDown, State.barred_pins, State.barred_safe, hH, hL]
  · rw [hd]
    exact State.doff_down ..

theorem State.Stored.demand_latched (hs : s.Stored) (h : s.Stops immediate) : (s.demand cause immediate).LatchedOut := by
  rcases State.demand_of_stops (cause := cause) h with ⟨-, hd⟩ | hd
  · have hr := hs.pathTaken.rd_barred (j := 0x3100) (by decide)
    rw [hd, State.LatchedOut, State.bit, State.bit, hr, if_pos rfl]
    exact latchedStatus_bits _
  · rw [hd]
    exact (hs.pathTaken.doff_status ..).1

theorem State.demand_apart : (s.demand cause immediate).apart = s.apart := by
  rcases s.demand_cases cause immediate with h | h | h | h <;> rw [h]
  · rw [State.barred_apart, State.pathTaken_apart]
  · rw [State.doff_apart, State.pathTaken_apart]
  · exact State.pathTaken_apart
  · rw [(State.rampStart_leaves ..).2.1, State.pathTaken_apart]

theorem State.Stored.rd_demand (h : s.Stored) {j : Nat} (hj : j ∉ demandParams) : (s.demand cause immediate).rd j = s.rd j := by
  obtain ⟨hstatus, hramp, hcount, hout, htwin, hc⟩ :
      j ≠ 0x3100 ∧ j ≠ 0x310C ∧ j ≠ 0x310D ∧ j ≠ 0x3121 ∧ j ≠ 0x312B ∧ j ∉ countParams := by
    simpa [demandParams] using hj
  have hp := h.pathTaken
  rcases s.demand_cases cause immediate with hd | hd | hd | hd <;> rw [hd]
  · rw [hp.rd_barred hout, if_neg hstatus, State.pathTaken_rd]
  · rw [hp.rd_doff hcount hc, hp.rd_doffSet hout, if_neg hstatus, State.pathTaken_rd]
  · exact State.pathTaken_rd j
  · rw [hp.rd_rampStart hramp htwin hc, State.setBit, State.rd_setFld_ne hp _ _ _ _ _ hstatus, State.pathTaken_rd]

/-- The leads after a demand: as they were, or both low. -/
theorem State.demand_pins (s : State) (cause : BitVec 4) (immediate : Bool) :
    (s.demand cause immediate).pins = s.pins ∨ (s.demand cause immediate).pins = { s.pins with safeH := false, safeL := false } := by
  rcases s.demand_cases cause immediate with h | h | h | h <;> rw [h]
  · exact .inl (by rw [State.barred_pins, State.pathTaken_pins])
  · exact .inr (by rw [State.doff_pins, State.pathTaken_pins])
  · exact .inl State.pathTaken_pins
  · exact .inl (by rw [(State.rampStart_leaves ..).1, State.pathTaken_pins])

/-! ### A demand of the node's own (R346, R386) -/

/-- The monitor once a demand of the node itself is latched and to be told. -/
def State.told (s : State) (cause : BitVec 4) (immediate : Bool) (bits : Half) : State :=
  let due : Byte × BitVec 4 := if immediate then (0x02, cause) else (0x03, cause)
  { s with safe := { s.safe with
    latched := s.safe.latched ||| bits
    twinDue := some (match s.safe.twinDue with | some d => if d.1 == 0x02 then d else due | none => due) } }

variable {bits : Half}

theorem State.ownDemand_eq : s.ownDemand cause immediate bits = (s.told cause immediate bits).demand cause immediate := rfl

theorem State.ownDemand_down (h : s.Stops immediate) : (s.ownDemand cause immediate bits).OutputsDown :=
  State.demand_down (s := s.told cause immediate bits) h

theorem State.Stored.ownDemand_latched (hs : s.Stored) (h : s.Stops immediate) : (s.ownDemand cause immediate bits).LatchedOut :=
  State.Stored.demand_latched (s := s.told cause immediate bits) hs h

theorem State.ownDemand_apart : (s.ownDemand cause immediate bits).apart = s.apart :=
  State.demand_apart (s := s.told cause immediate bits)

theorem State.Stored.rd_ownDemand (h : s.Stored) {j : Nat} (hj : j ∉ demandParams) : (s.ownDemand cause immediate bits).rd j = s.rd j :=
  State.Stored.rd_demand (s := s.told cause immediate bits) h hj

theorem State.ownDemand_pins (s : State) (cause : BitVec 4) (immediate : Bool) (bits : Half) :
    (s.ownDemand cause immediate bits).pins = s.pins ∨
      (s.ownDemand cause immediate bits).pins = { s.pins with safeH := false, safeL := false } :=
  (s.told cause immediate bits).demand_pins cause immediate

end
end Sys2Proof.Machine
end

section
/-! PROOFS. SAFE_ACK and SAFE_STOP (R353, R355, R356). -/
namespace Sys2Proof.Machine

section
variable {s : State} {src : Src} {r : Req}

/-! ## SAFE_ACK (R355) -/

/-- `sf.status` once SAFE_ACK has cleared LATCH and set PERMIT. -/
theorem putBits_ack (w : Word) : putBits (putBits w 5 1 0) 4 1 1 = (w &&& ~~~ 0x20) ||| 0x10 := by
  have hclear : putBits w 5 1 0 = w &&& ~~~ 0x20 := BitVec.or_zero
  have hset (x : Word) : putBits x 4 1 1 = (x &&& ~~~ 0x10) ||| 0x10 := rfl
  rw [hclear, hset]
  ext i hi
  simp only [BitVec.getElem_or, BitVec.getElem_and, BitVec.getElem_not]
  cases (0x10 : Word)[i] <;> simp

/-- SAFE_ACK done: LATCH cleared, PERMIT set, the node's own demands and the failed attempts forgotten. -/
def State.acknowledged (s : State) : State :=
  { (s.latch false).permit true with safe := { s.safe with latched := 0, failures := 0 } }

theorem State.Stored.rd_acknowledged (h : s.Stored) (j : Nat) :
    s.acknowledged.rd j = if j = 0x3100 then (s.rd 0x3100 &&& ~~~ 0x20) ||| 0x10 else s.rd j := by
  have h1 : (s.latch false).Stored := h.latch
  rcases eq_or_ne j 0x3100 with rfl | hj
  · rw [if_pos rfl, ← putBits_ack]
    exact (h1.rd_setFld_same 0x3100 4 1 1).trans (congrArg (putBits · 4 1 1) (h.rd_setFld_same 0x3100 5 1 0))
  · rw [if_neg hj]
    exact (State.rd_setFld_ne h1 _ _ _ _ _ hj).trans (State.rd_setFld_ne h _ _ _ _ _ hj)

/-- A condition that refuses SAFE_ACK (R355). -/
def State.ackRefusing (s : State) : Prop :=
  s.activeBits &&& 0x0F ≠ 0 ∨ s.bit 0x3126 2 = true ∨ s.bit 0x3100 7 = true ∨ s.ramping = true ∨
    ¬ (s.pwr.mode = .run ∨ s.pwr.mode = .watch) ∨ s.pwr.roundDue = true ∨ sealSet s.seal = false ∨
    s.fitted = true ∧ (s.fld 0x3104 0 16 = 0 ∨ s.fld 0x3105 0 16 = 0)

/-- The words that SAFE_ACK carries. -/
def Req.namesAck (r : Req) : Prop := r.a0 = 0xA5C3 ∧ r.a1 = 0 ∧ r.a2 = 0 ∧ r.a3 = 0

theorem State.safeAck_of_not_named (h : ¬ r.namesAck) : s.safeAck r = (s, .done 0x03 []) := by
  refine if_pos ?_
  rw [Req.namesAck] at h
  simp only [Bool.or_eq_true, bne_iff_ne]
  tauto

theorem State.safeAck_of_named (h : r.namesAck) : s.safeAck r =
    if (s.activeBits &&& 0x0F) != 0 || s.bit 0x3126 2 || s.bit 0x3100 7 || s.ramping || !(s.pwr.mode == .run || s.pwr.mode == .watch) || s.pwr.roundDue
        || !sealSet s.seal || (s.fitted && (s.fld 0x3104 0 16 == 0 || s.fld 0x3105 0 16 == 0)) then (s, .done 0x06 [])
    else (s.acknowledged, .done 0x00 []) := by
  obtain ⟨h0, h1, h2, h3⟩ := h
  exact if_neg (by simp [h0, h1, h2, h3])

theorem State.ackRefusing_iff : s.ackRefusing ↔
    ((s.activeBits &&& 0x0F) != 0 || s.bit 0x3126 2 || s.bit 0x3100 7 || s.ramping || !(s.pwr.mode == .run || s.pwr.mode == .watch) || s.pwr.roundDue
        || !sealSet s.seal || (s.fitted && (s.fld 0x3104 0 16 == 0 || s.fld 0x3105 0 16 == 0))) = true := by
  unfold State.ackRefusing
  generalize s.activeBits &&& 0x0F = active
  simp only [Bool.or_eq_true, Bool.and_eq_true, Bool.not_eq_true', bne_iff_ne, beq_iff_eq, Bool.or_eq_false_iff, beq_eq_false_iff_ne, not_or,
    or_assoc]

/-! ## SAFE_STOP (R356) -/

/-- The words that SAFE_STOP carries. -/
def Req.namesStop (r : Req) : Prop := (r.a0 = 0 ∨ r.a0 = 1) ∧ r.a1 = 0 ∧ r.a2 = 0 ∧ r.a3 = 0

theorem masked_eq_zero_iff (w : Word) : w &&& 0xFFFFFFFE = 0 ↔ w = 0 ∨ w = 1 := by
  constructor
  · intro h
    have hw : w = (w &&& 0xFFFFFFFE) ||| (w &&& 1) := by
      rw [← BitVec.and_or_distrib_left]
      exact BitVec.and_allOnes.symm
    have hz (x : Word) : 0 ||| x = x := BitVec.zero_or
    have hlow : w &&& 1 = (BitVec.ofBool (w.getLsbD 0)).setWidth 32 := BitVec.and_one_eq_setWidth_ofBool_getLsbD
    rw [h, hz, hlow] at hw
    rw [hw]
    cases w.getLsbD 0 <;> decide
  · rintro (rfl | rfl) <;> decide

theorem State.safeStop_of_not_named (h : ¬ r.namesStop) : s.safeStop r = (s, .done 0x03 []) := by
  refine if_pos ?_
  rw [Req.namesStop, ← masked_eq_zero_iff] at h
  simp only [Bool.or_eq_true, bne_iff_ne]
  tauto

theorem State.safeStop_of_not_fitted (h : r.namesStop) (hf : s.fitted = false) : s.safeStop r = (s, .done 0x06 []) := by
  obtain ⟨h0, h1, h2, h3⟩ := h
  exact (if_neg (by simpa [h1, h2, h3] using (masked_eq_zero_iff _).2 h0)).trans (if_pos (by simp [hf]))

theorem State.safeStop_of_fitted (h : r.namesStop) (hf : s.fitted = true) : s.safeStop r =
    (s.ownDemand 5 (r.a0 == 1) 0,
      .done 0x00 [if !s.outputsOn then 0 else if (s.ownDemand 5 (r.a0 == 1) 0).outputsOn then 1 else 2]) := by
  obtain ⟨h0, h1, h2, h3⟩ := h
  exact (if_neg (by simpa [h1, h2, h3] using (masked_eq_zero_iff _).2 h0)).trans (if_neg (by simp [hf]))

end

/-- Settles O53. -/
theorem safeCommands : Obligations.SafeCommands := by
  unfold Obligations.SafeCommands
  intro s src r hr
  refine ⟨fun hc => ⟨fun hn => ?_, fun hn href => ?_, fun hn href => ?_⟩,
    fun hc => ⟨fun hn => ?_, fun hn hf => ?_, fun hn hf ho => ?_, fun hn hf ho => ⟨fun hi => ?_, fun h0 hshunt hramp => ?_⟩⟩⟩
  · exact congrArg Host.Outcome.next (hr.serveCode_done hc (State.safeAck_of_not_named hn))
  · exact congrArg Host.Outcome.next (hr.serveCode_done hc ((State.safeAck_of_named hn).trans (if_pos (State.ackRefusing_iff.1 href))))
  · refine ⟨s.acknowledged, congrArg Host.Outcome.next (hr.serveCode_done hc
      ((State.safeAck_of_named hn).trans (if_neg (State.ackRefusing_iff.not.1 href)))), rfl, fun hs => ⟨?_, fun id hid => ?_⟩⟩
    · rw [hs.rd_acknowledged, if_pos rfl]
    · rw [hs.rd_acknowledged, if_neg hid]
  · exact congrArg Host.Outcome.next (hr.serveCode_done hc (State.safeStop_of_not_named hn))
  · exact congrArg Host.Outcome.next (hr.serveCode_done hc (State.safeStop_of_not_fitted hn hf))
  · have hstops : s.Stops (r.a0 == 1) := .inr (.inr ho)
    have hdown := State.ownDemand_down (cause := 5) (bits := 0) hstops
    refine ⟨_, congrArg Host.Outcome.next (hr.serveCode_done hc ((State.safeStop_of_fitted hn hf).trans ?_)), hdown.outputsOn, hdown.2.2,
      fun hs => hs.ownDemand_latched hstops⟩
    rw [ho]
    rfl
  · have himm : (r.a0 == 1) = true ∨ (s.told 5 (r.a0 == 1) 0).rd 0x1002 = 0 := hi.imp_left (fun h => by simp [h])
    have hdoff := State.demand_of_immediate (s := s.told 5 (r.a0 == 1) 0) (cause := 5) ho himm
    have hdown : (s.ownDemand 5 (r.a0 == 1) 0).outputsOn = false := by
      rw [State.ownDemand_eq, hdoff]
      exact (State.doff_down ..).outputsOn
    refine ⟨_, congrArg Host.Outcome.next (hr.serveCode_done hc ((State.safeStop_of_fitted hn hf).trans ?_)), hdown, ?_, fun hs => ?_⟩
    · rw [ho, hdown]
      rfl
    · rw [State.ownDemand_eq, hdoff, State.doff_safe]
    · have hst : (s.told 5 (r.a0 == 1) 0).Stored := hs
      obtain ⟨⟨h5, h4⟩, hcause⟩ := hst.pathTaken.doff_status (cause := 5) true false false
      rw [State.ownDemand_eq, hdoff]
      exact ⟨h5, h4, hcause⟩
  · have hnot : (r.a0 == 1) = false := by simp [h0]
    have hstart : s.ownDemand 5 false 0 = (s.told 5 false 0).pathTaken.rampStart 5 :=
      (State.demand_of_ramp (s := s.told 5 false 0) ho hshunt).trans (if_neg (Bool.not_eq_true _ ▸ hramp))
    obtain ⟨hpins, -, n, d, hsafe⟩ := State.rampStart_leaves (s.told 5 false 0).pathTaken 5
    have hp : (s.ownDemand 5 false 0).pins = s.pins := by
      rw [hstart, hpins, State.pathTaken_pins]
      rfl
    have hon : (s.ownDemand 5 false 0).outputsOn = true := by
      rw [State.outputsOn, hp]
      exact ho
    refine ⟨s.ownDemand 5 false 0, n, d, congrArg Host.Outcome.next (hr.serveCode_done hc ((State.safeStop_of_fitted hn hf).trans ?_)), hp, ?_,
      fun hs => ?_⟩
    · rw [hnot, ho, hon]
      rfl
    · rw [hstart, hsafe]
    · have hst : (s.told 5 false 0).pathTaken.Stored := State.Stored.pathTaken (s := s.told 5 false 0) hs
      rw [hstart, State.bit, hst.rd_rampStart (by decide) (by decide) doffStatus_not_count]
      exact State.bit_setBit_same hst 0x3100 6 true (by decide)

end Sys2Proof.Machine
end

section
/-! PROOFS. The closing sequence, feedback failures and off-tests (R366 to R369). -/
namespace Sys2Proof.Machine

section
variable {s : State} {low commanded level inSeq : Bool}

/-! ## Where a demand lies in an operation -/

theorem State.outShow_pins : s.outShow.pins = s.pins := rfl
theorem State.outShow_safe : s.outShow.safe = s.safe := rfl

theorem State.Stored.fitted_outShow (h : s.Stored) : s.outShow.fitted = s.fitted := by
  rw [State.fitted, State.bit, h.rd_outShow (by decide)]
  rfl

theorem State.leadsOff_pins : s.leadsOff.pins = { s.pins with safeH := false, safeL := false } := rfl

/-- An immediate demand turns the outputs off. -/
theorem State.ownDemand_immediate_down {cause : BitVec 4} {bits : Half} : (s.ownDemand cause true bits).OutputsDown :=
  State.ownDemand_down (.inl rfl)

theorem State.Stored.ownDemand_immediate_latched (h : s.Stored) {cause : BitVec 4} {bits : Half} : (s.ownDemand cause true bits).LatchedOut :=
  h.ownDemand_latched (.inl rfl)

/-! ## A feedback that disagrees (R367, R368) -/

theorem State.fbMismatch_down : (s.fbMismatch low commanded level inSeq).OutputsDown := State.ownDemand_immediate_down
theorem State.Stored.fbMismatch_latched (h : s.Stored) : (s.fbMismatch low commanded level inSeq).LatchedOut := h.raise.ownDemand_immediate_latched

theorem State.fbMismatch_failures : (s.fbMismatch low commanded level inSeq).safe.failures = s.safe.failures := by
  have h : (s.fbMismatch low commanded level inSeq).apart = s.apart := State.ownDemand_apart.trans (State.raise_apart ..)
  exact congrArg (·.1.failures) h

/-- A failing step that is to be tried again (R367). -/
def State.closeAgain (s : State) : State :=
  { s.leadsOff with safe := { s.leadsOff.safe with failures := s.safe.failures + 1, phase := 4, retryDue := true } }.outShow

theorem State.closeFails_eq : s.closeFails low commanded level = if s.safe.failures + 1 < 2 then s.closeAgain
    else { s.leadsOff with safe := { s.leadsOff.safe with failures := 0 } }.fbMismatch low commanded level true := rfl

theorem State.closeFails_first (h : s.safe.failures = 0) : s.closeFails low commanded level = s.closeAgain :=
  State.closeFails_eq.trans (if_pos (by omega))

theorem State.closeFails_second (h : 1 ≤ s.safe.failures) : s.closeFails low commanded level =
    { s.leadsOff with safe := { s.leadsOff.safe with failures := 0 } }.fbMismatch low commanded level true :=
  State.closeFails_eq.trans (if_neg (by omega))

theorem State.closeFails_leads : (s.closeFails low commanded level).pins.safeH = false ∧ (s.closeFails low commanded level).pins.safeL = false := by
  rcases Nat.eq_zero_or_pos s.safe.failures with h | h
  · rw [State.closeFails_first h]
    exact ⟨rfl, rfl⟩
  · rw [State.closeFails_second h]
    exact ⟨State.fbMismatch_down.1, State.fbMismatch_down.2.1⟩

/-! ## CLOSE_SEQUENCE (R367) -/

theorem State.mayClose_conditions (h : s.mayClose = true) :
    (s.pwr.mode = .run ∨ s.pwr.mode = .watch) ∧ s.fitted = true ∧ s.bit 0x3100 4 = true ∧ s.bit 0x3100 5 = false ∧
      s.bit 0x3100 7 = false ∧
      s.ramping = false ∧ s.activeBits &&& 0x1FF = 0 ∧ (∀ p, p ∈ s.safe.peers → p.fresh = true) ∧ s.pwr.roundDue = false := by
  unfold State.mayClose at h
  generalize s.activeBits &&& 0x1FF = active at h ⊢
  simp only [Bool.and_eq_true, Bool.or_eq_true, beq_iff_eq, Bool.not_eq_true', List.all_eq_true] at h
  tauto

/-- The low switch closes (R367). -/
def State.closeLow (s : State) : State :=
  { s with pins := { s.pins with safeL := true }, safe := { s.safe with phase := 1, retryDue := false, feedFail := 0 } }.outShow

theorem State.closeBegin_of_open (hH : s.pins.fbH = false) (hL : s.pins.fbL = false) : s.closeBegin = s.closeLow := by
  simp [State.closeBegin, hH, hL, State.closeLow]

theorem State.closeBegin_of_high (hH : s.pins.fbH = true) : s.closeBegin = s.closeFails false false true := if_pos hH

theorem closeSequence_of_not_mayClose (h : s.mayClose = false) : closeSequence s = s := by simp [closeSequence, h]

theorem closeSequence_of_mayClose (h : s.mayClose = true) (hp : s.safe.phase = 0) (hf : s.pathHeld = false) : closeSequence s = s.closeBegin := by
  simp [closeSequence, h, hp, hf]

/-! ## CLOSE_SEQUENCE_RETRY (R367) -/

/-- No closing sequence waits to be tried again. -/
def State.retryTaken (s : State) : State := { s with safe := { s.safe with phase := 0, retryDue := false } }

theorem closeSequenceRetry_of_none (h : s.safe.retryDue = false) : closeSequenceRetry s = s := by simp [closeSequenceRetry, h]

theorem closeSequenceRetry_of_due (h : s.safe.retryDue = true) (hp : s.pathHeld = false) :
    closeSequenceRetry s = if s.mayClose then s.retryTaken.closeBegin else s.retryTaken.outShow := by
  simp [closeSequenceRetry, h, hp, State.retryTaken]

/-! ## FEEDBACK_CHANGE (R365, R367, R368) -/

/-- A feedback level is accepted. -/
def State.feedSeen (s : State) (low level : Bool) : State :=
  { s with pins := if low then { s.pins with fbL := level } else { s.pins with fbH := level } }.outShow

theorem State.Stored.fitted_feedSeen (h : s.Stored) : (s.feedSeen low level).fitted = s.fitted :=
  State.Stored.fitted_outShow (s := { s with pins := if low then { s.pins with fbL := level } else { s.pins with fbH := level } }) h

theorem feedbackChange_of_asleep (h : s.awake = false) : feedbackChange low level s = s := by simp [feedbackChange, h]

theorem feedbackChange_of_not_fitted (h : s.awake = true) (hs : s.Stored) (hf : s.fitted = false) :
    feedbackChange low level s = s.feedSeen low level := by
  have hfit : (!(s.feedSeen low level).fitted) = true := by rw [hs.fitted_feedSeen, hf, Bool.not_false]
  exact (if_neg (by simp [h])).trans (if_pos hfit)

theorem feedbackChange_of_fitted (h : s.awake = true) (hs : s.Stored) (hf : s.fitted = true) : feedbackChange low level s =
    if s.safe.phase == 1 && low && level then
      { s.feedSeen low level with
        pins := { (s.feedSeen low level).pins with safeH := true }, safe := { s.safe with phase := 2 } }.outShow
    else if s.safe.phase == 2 && !low && level then
      let u := { s.feedSeen low level with safe := { s.safe with phase := 3, failures := 0 } }.outShow
      if s.safe.failures = 0 then u else u.transient 5 1
    else
      let lead := if low then (s.feedSeen low level).pins.safeL else (s.feedSeen low level).pins.safeH
      if lead == level then (s.feedSeen low level).feedGood low else s.feedSeen low level := by
  have hfit : ¬ (!(s.feedSeen low level).fitted) = true := by rw [hs.fitted_feedSeen, hf]; exact Bool.false_ne_true
  exact (if_neg (by simp [h])).trans (if_neg hfit)

/-! ## FEEDBACK_TIMEOUT (R367, R368) -/

/-- The lead, its feedback, and whether an off-test holds it. -/
def State.outLead (s : State) (low : Bool) : Bool := if low then s.pins.safeL else s.pins.safeH
def State.outFeed (s : State) (low : Bool) : Bool := if low then s.pins.fbL else s.pins.fbH
def State.outTesting (s : State) (low : Bool) : Bool := if low then s.safe.testL.busy else s.safe.testH.busy

/-- The number of an output in `feedFail` and `testDue`. -/
def leadBit (low : Bool) : Nat := if low then 1 else 0

theorem feedbackTimeout_of_none (h : s.up = false ∨ s.fitted = false ∨ s.outLead low = s.outFeed low ∨ s.outTesting low = true) :
    feedbackTimeout low s = s := by
  refine if_pos ?_
  rcases h with h | h | h | h
  · simp [h]
  · simp [h]
  · simp [show (if low then s.pins.safeL else s.pins.safeH) = (if low then s.pins.fbL else s.pins.fbH) from h]
  · simp [show (if low then s.safe.testL.busy else s.safe.testH.busy) = true from h]

theorem feedbackTimeout_of_mismatch (hu : s.up = true) (hf : s.fitted = true) (hl : s.outLead low ≠ s.outFeed low) (ht : s.outTesting low = false) :
    feedbackTimeout low s =
      if (s.safe.phase == 1 && low) || (s.safe.phase == 2 && !low) then s.closeFails low (s.outLead low) (s.outFeed low)
      else if s.safe.feedFail.getLsbD (leadBit low) then
        { s with safe := { s.safe with feedFail := setBitV s.safe.feedFail (leadBit low) false } }.fbMismatch low (s.outLead low) (s.outFeed low) false
      else { s with safe := { s.safe with feedFail := setBitV s.safe.feedFail (leadBit low) true } } := by
  have hne : (s.outLead low == s.outFeed low) = false := by simpa using hl
  have hc : ¬ (!(s.up && s.fitted) || s.outLead low == s.outFeed low || s.outTesting low) = true := by simp [hu, hf, hne, ht]
  exact if_neg hc

/-! ## OFFTEST_PULSE_END and OFFTEST_RETRY (R369) -/

theorem offtestPulseEnd_of_none (hH : s.safe.testH.busy = false) (hL : s.safe.testL.busy = false) (d : Option Nat) : offtestPulseEnd d s = s :=
  if_pos (by simp [hH, hL])

/-- The high lead is given back and its delay shown. -/
def State.testHOver (s : State) (delay : Nat) : State :=
  ({ s with pins := { s.pins with safeH := true }, safe := { s.safe with testH := ⟨false, false⟩ } }.setFld 0x3124 0 16 delay).outShow

/-- The high lead did not open: it is to be tested again. -/
def State.testHFailed (s : State) : State := { s with safe := { s.safe with testDue := setBitV s.safe.testDue 0 true } }

theorem State.testHFailed_pins : s.testHFailed.pins = s.pins := rfl

theorem State.fld_testHFailed (id lo width : Nat) : s.testHFailed.fld id lo width = s.fld id lo width := rfl

theorem State.Stored.fld_testHOver (h : s.Stored) (d : Nat) : (s.testHOver d).fld 0x3124 0 16 = d % 2 ^ 16 := by
  have h1 : State.Stored { s with pins := { s.pins with safeH := true }, safe := { s.safe with testH := ⟨false, false⟩ } } := h
  rw [State.testHOver, State.fld, (h1.setFld _ _ _ _).rd_outShow (by decide)]
  exact State.fld_setFld_same h1 0x3124 0 16 d (by decide)

theorem offtestPulseEnd_high (hL : s.safe.testL.busy = false) (hH : s.safe.testH = ⟨true, false⟩) :
    (∀ d, offtestPulseEnd (some d) s = s.testHOver (min 0xFFFE d)) ∧
      offtestPulseEnd none s = (s.testHOver 0xFFFF).testHFailed := by
  simp [offtestPulseEnd, hL, hH, State.testHFailed, State.testHOver, State.outShow_safe]

theorem offtestPulseEnd_low_again (hL : s.safe.testL = ⟨true, true⟩) : ∃ t : State,
    offtestPulseEnd none s = t.ownDemand 13 true 0 ∧ (s.Stored → t.Stored) := by
  have hbusy : ¬ (!(s.safe.testH.busy || s.safe.testL.busy)) = true := by simp [hL]
  have hagain : (if s.safe.testL.busy then s.safe.testL else s.safe.testH).again = true := by simp [hL]
  refine ⟨_, (if_neg hbusy).trans (if_pos hagain), fun h => ?_⟩
  exact (h.frame.setFld _ _ _ _).outShow.raise

theorem offtestRetry_of_none (h : s.safe.testDue = 0 ∨ s.safe.phase ≠ 3 ∨ s.ramping = true) : offtestRetry s = s := by
  unfold offtestRetry
  rcases h with h | h | h
  · simp [h]
  · have hb : (s.safe.phase == 3) = false := by simpa using h
    exact if_neg (by rw [hb]; simp)
  · exact if_neg (by simp [h])

theorem offtestRetry_high (hp : s.safe.phase = 3) (hr : s.ramping = false) (hH : s.safe.testH.busy = false) (hL : s.safe.testL.busy = false)
    (hf : s.pathHeld = false) (hd : s.safe.testDue.getLsbD 0 = true) : offtestRetry s =
      { s with pins := { s.pins with safeH := false },
               safe := { s.safe with testH := ⟨true, true⟩, testDue := setBitV s.safe.testDue 0 false } }.outShow :=
  (if_pos (by simp [hp, hr, hH, hL, hf])).trans (if_pos hd)

end

/-- Settles O54: each row by what the model does on its occasion. -/
theorem closingAndFeedback : Obligations.ClosingAndFeedback := by
  unfold Obligations.ClosingAndFeedback
  intro s
  refine ⟨State.mayClose_conditions, fun h => congrArg Host.Outcome.next (closeSequence_of_not_mayClose h),
    fun h hp hf => ⟨fun hH hL => ?_, fun hH h0 => ?_, fun hH h1 => ?_⟩,
    fun h => congrArg Host.Outcome.next (closeSequenceRetry_of_none h), fun hdue hf => ⟨fun h hH hL => ?_, fun h => ?_⟩,
    fun low level => ⟨fun h => congrArg Host.Outcome.next (feedbackChange_of_asleep h), fun h hs hfit => ?_⟩,
    fun h hs hfit => ⟨fun hp => ?_, fun hp => ?_⟩,
    fun low => ⟨fun h => congrArg Host.Outcome.next (feedbackTimeout_of_none h), fun hu hfit hl ht hw => ⟨fun hb => ?_, fun hb => ?_⟩,
      fun hu hfit hl ht hw => ?_⟩,
    fun hH hL d => congrArg Host.Outcome.next (offtestPulseEnd_of_none hH hL d), fun hL hH => ⟨fun d => ?_, ?_⟩, fun hL => ?_,
    fun h => congrArg Host.Outcome.next (offtestRetry_of_none h), fun hp hr hH hL hf hd => ?_⟩
  · exact congrArg Host.Outcome.next ((closeSequence_of_mayClose h hp hf).trans (State.closeBegin_of_open hH hL))
  · exact ⟨_, congrArg Host.Outcome.next
      (((closeSequence_of_mayClose h hp hf).trans (State.closeBegin_of_high hH)).trans (State.closeFails_first h0)),
      rfl, rfl, rfl, rfl, congrArg (· + 1) h0⟩
  · have hdown := State.fbMismatch_down (s := { s.leadsOff with safe := { s.leadsOff.safe with failures := 0 } })
      (low := false) (commanded := false) (level := true) (inSeq := true)
    exact ⟨_, congrArg Host.Outcome.next
      (((closeSequence_of_mayClose h hp hf).trans (State.closeBegin_of_high hH)).trans (State.closeFails_second h1)),
      hdown.1, hdown.2.1, hdown.2.2, State.fbMismatch_failures, fun hs => hs.leadsOff.frame.fbMismatch_latched⟩
  · exact ⟨_, congrArg Host.Outcome.next
      (((closeSequenceRetry_of_due hdue hf).trans (if_pos h)).trans (State.closeBegin_of_open hH hL)), rfl, rfl, rfl⟩
  · exact ⟨_, congrArg Host.Outcome.next ((closeSequenceRetry_of_due hdue hf).trans (if_neg (Bool.eq_false_iff.1 h))), rfl, rfl, rfl⟩
  · exact ⟨_, congrArg Host.Outcome.next (feedbackChange_of_not_fitted h hs hfit), rfl, rfl⟩
  · exact ⟨_, congrArg Host.Outcome.next ((feedbackChange_of_fitted h hs hfit).trans (if_pos (by simp [hp]))), rfl, rfl⟩
  · refine ⟨_, congrArg Host.Outcome.next ((feedbackChange_of_fitted h hs hfit).trans
      ((if_neg (by simp)).trans (if_pos (by simp [hp])))), ?_⟩
    dsimp only
    split
    · exact ⟨rfl, rfl, rfl⟩
    · rw [State.transient_pins, State.transient_safe]
      exact ⟨rfl, rfl, rfl⟩
  · have hno : ¬ ((s.safe.phase == 1 && low) || (s.safe.phase == 2 && !low)) = true := by simpa [and_comm] using hw
    exact congrArg Host.Outcome.next ((feedbackTimeout_of_mismatch hu hfit hl ht).trans ((if_neg hno).trans (if_neg (Bool.eq_false_iff.1 hb))))
  · have hno : ¬ ((s.safe.phase == 1 && low) || (s.safe.phase == 2 && !low)) = true := by simpa [and_comm] using hw
    have hdown := State.fbMismatch_down (s := { s with safe := { s.safe with feedFail := setBitV s.safe.feedFail (leadBit low) false } })
      (low := low) (commanded := s.outLead low) (level := s.outFeed low) (inSeq := false)
    exact ⟨_, congrArg Host.Outcome.next ((feedbackTimeout_of_mismatch hu hfit hl ht).trans ((if_neg hno).trans (if_pos hb))),
      hdown.1, hdown.2.1, fun hs => hs.frame.fbMismatch_latched⟩
  · have hyes : ((s.safe.phase == 1 && low) || (s.safe.phase == 2 && !low)) = true := by simpa [and_comm] using hw
    exact ⟨_, congrArg Host.Outcome.next ((feedbackTimeout_of_mismatch hu hfit hl ht).trans (if_pos hyes)), State.closeFails_leads⟩
  · refine ⟨_, congrArg Host.Outcome.next ((offtestPulseEnd_high hL hH).1 d), rfl, rfl, fun hs => ?_⟩
    rw [hs.fld_testHOver]
    omega
  · refine ⟨_, congrArg Host.Outcome.next (offtestPulseEnd_high hL hH).2, State.testHFailed_pins,
      getLsbD_setBitV_same _ _ (by decide), fun hs => ?_⟩
    rw [State.fld_testHFailed, hs.fld_testHOver]
    exact Nat.mod_eq_of_lt (by norm_num)
  · obtain ⟨t, ht, hst⟩ := offtestPulseEnd_low_again hL
    have hdown : (t.ownDemand 13 true 0).OutputsDown := State.ownDemand_immediate_down
    exact ⟨_, congrArg Host.Outcome.next ht, hdown.1, hdown.2.1, fun hs => (hst hs).ownDemand_immediate_latched⟩
  · exact ⟨_, congrArg Host.Outcome.next (offtestRetry_high hp hr hH hL hf hd), rfl, rfl⟩

end Sys2Proof.Machine
end

section
/-! PROOFS. Test pulses, blanking and short checks of the dual inputs (R371 to R373). -/
namespace Sys2Proof.Machine

section
variable {s t : State} {b first ok level : Bool}

/-! ## The channels -/

theorem State.channel_setChannel (f : Channel → Channel) : (s.setChannel b f).channel b = f (s.channel b) := by cases b <;> rfl
theorem State.channel_setChannel_other (f : Channel → Channel) : (s.setChannel b f).channel (!b) = s.channel (!b) := by cases b <;> rfl
theorem State.setChannel_pins (f : Channel → Channel) : (s.setChannel b f).pins = s.pins := by cases b <;> rfl
theorem State.setChannel_par (f : Channel → Channel) : (s.setChannel b f).par = s.par := by cases b <;> rfl

theorem State.channel_of_apart (h : t.apart = s.apart) (b : Bool) : t.channel b = s.channel b := by
  cases b with
  | false => exact congrArg (·.1.inA) h
  | true => exact congrArg (·.1.inB) h

/-- A channel after one check of it (R373). -/
def Channel.checked (c : Channel) (first ok : Bool) : Channel :=
  if ok then
    let p1 := if first then c.pass1 + 1 else c.pass1
    let p2 := if first then c.pass2 else c.pass2 + 1
    { c with fail1 := if first then false else c.fail1, fail2 := if first then c.fail2 else false, pass1 := p1, pass2 := p2,
             short := c.short && !(c.short && decide (2 ≤ p1) && decide (2 ≤ p2)) }
  else { c with fail1 := first || c.fail1, fail2 := !first || c.fail2, pass1 := 0, pass2 := 0,
                short := c.short || if first then c.fail1 else c.fail2 }

/-- What a check changes but for its demand: the channel it judges (R373). -/
theorem State.shortCheck_apart : (s.shortCheck b first ok).apart = (s.setChannel b fun _ => (s.channel b).checked first ok).apart := by
  cases ok with
  | true =>
    unfold State.shortCheck
    extract_lets c failed p1 p2 clear u
    rw [if_pos rfl]
    split
    · exact State.transient_apart ..
    · rfl
  | false =>
    unfold State.shortCheck
    extract_lets c failed p1 p2 clear u c1
    rw [if_neg Bool.false_ne_true]
    split
    case isTrue h =>
      obtain ⟨hf, -⟩ := (Bool.and_eq_true_iff ..).1 h
      have hc : ({ c1 with short := true } : Channel) = (s.channel b).checked first false := by
        simp only [Channel.checked, Bool.false_eq_true, if_false, c1, c]
        rw [show (if first then (s.channel b).fail1 else (s.channel b).fail2) = true from hf, Bool.or_true]
      rw [State.ownDemand_apart, State.raise_apart, hc]
    case isFalse h =>
      have hc : c1 = (s.channel b).checked first false := by
        have hshort : (c.short || failed) = c.short := by
          cases hs : c.short <;> cases hf : failed <;> simp_all
        exact congrArg (fun x => { c1 with short := x }) hshort.symm
      rw [hc]

theorem State.channel_shortCheck : (s.shortCheck b first ok).channel b = (s.channel b).checked first ok :=
  (State.channel_of_apart State.shortCheck_apart b).trans (State.channel_setChannel _)

theorem State.channel_shortCheck_other : (s.shortCheck b first ok).channel (!b) = s.channel (!b) :=
  (State.channel_of_apart State.shortCheck_apart (!b)).trans (State.channel_setChannel_other _)

theorem State.shortCheck_pins_apart : (s.shortCheck b first ok).pins.apart = s.pins.apart :=
  (congrArg (·.2.1) State.shortCheck_apart).trans (congrArg Pins.apart (State.setChannel_pins _))

theorem Channel.checked_level (c : Channel) : (c.checked first ok).level = c.level := by cases ok <;> rfl
theorem Channel.fail1_checked_own (c : Channel) : (c.checked true ok).fail1 = !ok := by cases ok <;> rfl
theorem Channel.fail2_checked_other (c : Channel) (h : ok = false) : (c.checked false ok).fail2 = true := by rw [h]; rfl

theorem Channel.short_checked (c : Channel) (hok : ok = false) (h : (if first then c.fail1 else c.fail2) = true) :
    (c.checked first ok).short = true := by
  rw [hok]
  exact (congrArg (c.short || ·) h).trans (Bool.or_true _)

/-! ## INPUT_CHANGE and TP_PULSE (R365, R371, R372) -/

theorem inputChange_of_asleep (h : s.awake = false) : inputChange b level s = s := if_neg (Bool.eq_false_iff.1 h)

theorem inputChange_of_awake (h : s.awake = true) : inputChange b level s =
    s.setChannel b fun c => { c with level := level, closed := if c.blanked then c.closed else level } := if_pos h

/-- TPA, or TPB, low, its channel blanked. -/
def State.pulsed (s : State) (b : Bool) : State :=
  { s.setChannel b fun c => { c with blanked := true } with pins := if b then { s.pins with tpB := false } else { s.pins with tpA := false } }

theorem tpPulse_of_down (h : s.up = false) : tpPulse b s = s := if_neg (Bool.eq_false_iff.1 h)
theorem tpPulse_of_up (h : s.up = true) : tpPulse b s = s.pulsed b := if_pos h

/-! ## TP_PULSE_END (R372, R373) -/

/-- TPA, or TPB, high. -/
def State.pulseOver (s : State) (b : Bool) : State :=
  { s with pins := if b then { s.pins with tpB := true } else { s.pins with tpA := true } }

/-- The state after both checks, before the channel takes its level. -/
def State.pulseChecked (s : State) (b own other around : Bool) : State :=
  ((s.pulseOver b).shortCheck b true (!(s.channel b).closed || own)).shortCheck (!b) false (!other || around)

/-- The blanking ends and the channel takes its level. -/
def State.pulseSeen (s : State) (b : Bool) : State := s.setChannel b fun c => { c with blanked := false, closed := c.level }

variable {own other around : Bool}

theorem State.channel_pulseOver (b : Bool) : (s.pulseOver b).channel b = s.channel b := rfl

theorem tpPulseEnd_of_none (h : s.up = false ∨ (s.channel b).blanked = false) : tpPulseEnd b own other around s = s :=
  if_neg (by rcases h with h | h <;> simp [h])

theorem tpPulseEnd_of_blanked (hu : s.up = true) (hb : (s.channel b).blanked = true) :
    tpPulseEnd b own other around s = ((s.pulseChecked b own other around).pulseSeen b).shortShow :=
  if_pos (by simp [hu, hb])

theorem State.channel_pulseChecked : (s.pulseChecked b own other around).channel b = (s.channel b).checked true (!(s.channel b).closed || own) := by
  have h := State.channel_shortCheck_other (s := (s.pulseOver b).shortCheck b true (!(s.channel b).closed || own)) (b := !b) (first := false)
    (ok := !other || around)
  rw [Bool.not_not] at h
  exact h.trans State.channel_shortCheck

theorem State.channel_pulseChecked_other : (s.pulseChecked b own other around).channel (!b) = (s.channel (!b)).checked false (!other || around) :=
  State.channel_shortCheck.trans (congrArg (Channel.checked · false (!other || around)) State.channel_shortCheck_other)

theorem State.pulseChecked_pins_apart : (s.pulseChecked b own other around).pins.apart = (s.pulseOver b).pins.apart :=
  State.shortCheck_pins_apart.trans State.shortCheck_pins_apart

theorem State.Stored.pulseChecked (h : s.Stored) : (s.pulseChecked b own other around).Stored :=
  State.Stored.shortCheck (State.Stored.shortCheck (s := s.pulseOver b) h)

theorem State.channel_shortShow (b : Bool) : s.shortShow.channel b = s.channel b := rfl
theorem State.shortShow_pins : s.shortShow.pins = s.pins := rfl
theorem State.shortShow_safe : s.shortShow.safe = s.safe := rfl

theorem State.Stored.shortShow_bits (h : s.Stored) : s.shortShow.bit 0x3126 4 = s.safe.inA.short ∧ s.shortShow.bit 0x3126 5 = s.safe.inB.short := by
  have h4 := h.setBit 0x3126 4 s.safe.inA.short
  refine ⟨?_, State.bit_setBit_same h4 0x3126 5 s.safe.inB.short (by decide)⟩
  rw [State.shortShow, State.bit, State.setBit, h4.rd_setFld_same, getLsbD_putBits, if_neg (by decide)]
  exact State.bit_setBit_same h 0x3126 4 s.safe.inA.short (by decide)

end

/-- Settles O55: the two checks of a pulse each judge one channel, and their demand leaves the channels and the pulses alone. -/
theorem inputsAndPulses : Obligations.InputsAndPulses := by
  unfold Obligations.InputsAndPulses
  intro s b
  refine ⟨fun level h => congrArg Host.Outcome.next (inputChange_of_asleep h), fun level h => ?_,
    fun h => congrArg Host.Outcome.next (tpPulse_of_down h),
    fun h => ?_, fun own other around => ⟨fun h => congrArg Host.Outcome.next (tpPulseEnd_of_none h), fun hu hb => ?_⟩⟩
  · exact ⟨_, congrArg Host.Outcome.next (inputChange_of_awake h),
      State.channel_setChannel_other _, State.setChannel_pins _, State.setChannel_par _,
      State.channel_setChannel _⟩
  · exact ⟨_, congrArg Host.Outcome.next (tpPulse_of_up h), State.channel_setChannel _, State.channel_setChannel_other _,
      State.setChannel_par _, rfl⟩
  · have hown : (((s.pulseChecked b own other around).pulseSeen b).shortShow).channel b =
        { (s.channel b).checked true (!(s.channel b).closed || own) with blanked := false, closed := (s.channel b).level } := by
      rw [State.channel_shortShow, State.pulseSeen, State.channel_setChannel, State.channel_pulseChecked]
      dsimp only
      rw [Channel.checked_level]
    have hother : (((s.pulseChecked b own other around).pulseSeen b).shortShow).channel (!b) = (s.channel (!b)).checked false (!other || around) := by
      rw [State.channel_shortShow, State.pulseSeen, State.channel_setChannel_other, State.channel_pulseChecked_other]
    have hpins : (((s.pulseChecked b own other around).pulseSeen b).shortShow).pins.apart = (s.pulseOver b).pins.apart := by
      rw [State.shortShow_pins, State.pulseSeen, State.setChannel_pins, State.pulseChecked_pins_apart]
    refine ⟨_, congrArg Host.Outcome.next (tpPulseEnd_of_blanked hu hb), ?_,
      by rw [hown], by rw [hown], fun hc ho => ⟨?_, fun hf => ?_⟩, fun hc => ?_,
      fun ho ha => ⟨?_, fun hf => ?_⟩, fun hs => ?_⟩
    · cases b with
      | false => exact congrArg (·.tpA) hpins
      | true => exact congrArg (·.tpB) hpins
    · rw [hown]
      exact (Channel.fail1_checked_own _).trans (by simp [hc, ho])
    · rw [hown]
      exact Channel.short_checked _ (by simp [hc, ho]) hf
    · rw [hown]
      refine (Channel.fail1_checked_own _).trans ?_
      rcases hc with hc | hc <;> simp [hc]
    · rw [hother]
      exact Channel.fail2_checked_other _ (by simp [ho, ha])
    · rw [hother]
      exact Channel.short_checked _ (by simp [ho, ha]) hf
    · have hst : ((s.pulseChecked b own other around).pulseSeen b).Stored := State.Stored.setChannel hs.pulseChecked
      exact hst.shortShow_bits

end Sys2Proof.Machine
end

section
/-! PROOFS. Twin frames: their layout, a trip, copies that fail or do not come, and silence (R379 to R384, R386). -/
namespace Sys2Proof.Machine

/-! ## The layout of a copy (R380, R381) -/

section
variable {kind : Byte} {down single isLocal : Bool} {src dst : FAddr} {seq : Word} {time : DWord} {st : Half} {cause : BitVec 4}

theorem length_twinHead : (twinHead kind down single isLocal src dst seq time st cause).length = 26 := by simp [twinHead]

theorem length_twinBytes {head : List Byte} (h : head.length = 26) : (twinBytes head).length = 32 := by simp [twinBytes, h]

theorem take_twinBytes {head : List Byte} (h : head.length = 26) : (twinBytes head).take 26 = head := by
  rw [twinBytes, List.append_assoc]
  exact List.take_left' h

theorem drop_twinBytes {head : List Byte} (h : head.length = 26) :
    (twinBytes head).drop 26 = bytesBE 4 (crc32c head).toNat ++ bytesBE 2 (crc16 (head.map fun b => ~~~ b)).toNat := by
  rw [twinBytes, List.append_assoc]
  exact List.drop_left' h

theorem crc32c_twinBytes {head : List Byte} (h : head.length = 26) : ((twinBytes head).drop 26).take 4 = bytesBE 4 (crc32c head).toNat := by
  rw [drop_twinBytes h]
  exact List.take_left' (length_bytesBE ..)

theorem crc16_twinBytes {head : List Byte} (h : head.length = 26) :
    (twinBytes head).drop 30 = bytesBE 2 (crc16 (head.map fun b => ~~~ b)).toNat := by
  rw [show 30 = 26 + 4 from rfl, ← List.drop_drop, drop_twinBytes h]
  exact List.drop_left' (length_bytesBE ..)

/-! ## The fields of a copy -/

/-- The sender, the number and the direction a copy names, whether it names this node and says LOCAL. -/
def twinSrc (bs : List Byte) : FAddr := BitVec.ofNat 12 (numBE [nth bs 2 0, nth bs 3 0])
def twinDst (bs : List Byte) : FAddr := BitVec.ofNat 12 (numBE [nth bs 4 0, nth bs 5 0])
def twinSeq (bs : List Byte) : Word := BitVec.ofNat 32 (numBE ((bs.drop 6).take 4))
def twinDown (bs : List Byte) : Bool := (nth bs 1 0).getLsbD 0
def twinLocal (bs : List Byte) : Bool := (nth bs 1 0).getLsbD 2

/-- Each CRC of a copy is good. -/
def twinCrc1 (bs : List Byte) : Bool := decide ((bs.drop 26).take 4 = bytesBE 4 (crc32c (bs.take 26)).toNat)
def twinCrc2 (bs : List Byte) : Bool := decide (bs.drop 30 = bytesBE 2 (crc16 ((bs.take 26).map fun b => ~~~ b)).toNat)

theorem twinBytes_twinHead : ∃ tail, twinBytes (twinHead kind down single isLocal src dst seq time st cause) =
    [kind, BitVec.ofNat 8 (b2n down + 2 * b2n single + 4 * b2n isLocal), BitVec.ofNat 8 (src.toNat / 256), BitVec.ofNat 8 src.toNat,
      BitVec.ofNat 8 (dst.toNat / 256), BitVec.ofNat 8 dst.toNat] ++ (bytesBE 4 seq.toNat ++ tail) :=
  ⟨bytesBE 8 time.toNat ++ bytesBE 2 st.toNat ++ [BitVec.ofNat 8 cause.toNat, 0, 0, 0, 0, 0] ++
    bytesBE 4 (crc32c (twinHead kind down single isLocal src dst seq time st cause)).toNat ++
    bytesBE 2 (crc16 ((twinHead kind down single isLocal src dst seq time st cause).map fun b => ~~~ b)).toNat, by
    generalize hc : bytesBE 4 (crc32c (twinHead kind down single isLocal src dst seq time st cause)).toNat = c1
    generalize hd : bytesBE 2 (crc16 ((twinHead kind down single isLocal src dst seq time st cause).map fun b => ~~~ b)).toNat = c2
    rw [twinBytes, hc, hd, twinHead, bytesBE_two, bytesBE_two dst.toNat]
    simp only [List.append_assoc, List.cons_append, List.nil_append]⟩

theorem ofNat_numBE_two (a : FAddr) : BitVec.ofNat 12 (numBE [BitVec.ofNat 8 (a.toNat / 256), BitVec.ofNat 8 a.toNat]) = a := by
  rw [← bytesBE_two]
  exact ofNat_numBE_bytesBE (by decide) a

theorem twinFlags_bits (down single isLocal : Bool) :
    (BitVec.ofNat 8 (b2n down + 2 * b2n single + 4 * b2n isLocal)).getLsbD 0 = down ∧
      (BitVec.ofNat 8 (b2n down + 2 * b2n single + 4 * b2n isLocal)).getLsbD 2 = isLocal := by
  cases down <;> cases single <;> cases isLocal <;> decide

/-- What a receiver reads in a copy. -/
theorem twinFields {bs : List Byte} (h : bs = twinBytes (twinHead kind down single isLocal src dst seq time st cause)) :
    nth bs 0 0 = kind ∧ twinSrc bs = src ∧ twinDst bs = dst ∧ twinSeq bs = seq ∧ twinDown bs = down ∧ twinLocal bs = isLocal ∧
      twinCrc1 bs = true ∧ twinCrc2 bs = true := by
  have hlen := length_twinHead (kind := kind) (down := down) (single := single) (isLocal := isLocal) (src := src) (dst := dst) (seq := seq)
    (time := time) (st := st) (cause := cause)
  have hcrc1 : twinCrc1 bs = true := by
    rw [twinCrc1, h, take_twinBytes hlen, crc32c_twinBytes hlen]
    exact decide_eq_true rfl
  have hcrc2 : twinCrc2 bs = true := by
    rw [twinCrc2, h, take_twinBytes hlen, crc16_twinBytes hlen]
    exact decide_eq_true rfl
  obtain ⟨tail, ht⟩ := twinBytes_twinHead (kind := kind) (down := down) (single := single) (isLocal := isLocal) (src := src)
    (dst := dst) (seq := seq)
    (time := time) (st := st) (cause := cause)
  obtain ⟨h0, h2⟩ := twinFlags_bits down single isLocal
  have hseq : twinSeq bs = seq := by
    have hdrop : bs.drop 6 = bytesBE 4 seq.toNat ++ tail := by
      rw [h, ht]
      exact List.drop_left' rfl
    rw [twinSeq, hdrop, List.take_left' (length_bytesBE ..)]
    exact ofNat_numBE_bytesBE (by decide) seq
  have hn : bs = _ := h.trans ht
  refine ⟨by rw [hn]; rfl, ?_, ?_, hseq, ?_, ?_, hcrc1, hcrc2⟩
  · rw [hn]
    exact ofNat_numBE_two src
  · rw [hn]
    exact ofNat_numBE_two dst
  · rw [hn]
    exact h0
  · rw [hn]
    exact h2

end

/-! ## TWIN_FRAME_SEND (R379) -/

section
variable {s : State}

theorem twinFrameSend_of_none (h : s.up = false ∨ s.fab.valid = false) : twinFrameSend s = s :=
  if_neg (by rcases h with h | h <;> simp [h])

/-- Nothing is due to be told. -/
def State.twinTaken (s : State) : State := { s with safe := { s.safe with twinDue := none } }

theorem twinFrameSend_of_up (hu : s.up = true) (hv : s.fab.valid = true) : ∃ (kind : Byte) (cause : BitVec 4),
    twinFrameSend s = s.contactors.foldl (fun x a => x.sendTwin a kind cause) s.twinTaken :=
  ⟨_, _, if_pos (by simp [hu, hv])⟩

theorem State.foldl_sendTwin_leaves (l : List FAddr) (kind : Byte) (cause : BitVec 4) (s : State) :
    (l.foldl (fun x a => x.sendTwin a kind cause) s).safe = s.safe ∧ (l.foldl (fun x a => x.sendTwin a kind cause) s).pins = s.pins ∧
      (s.Stored → (l.foldl (fun x a => x.sendTwin a kind cause) s).rd 0x312B = s.rd 0x312B + BitVec.ofNat 32 l.length) := by
  induction l generalizing s with
  | nil => exact ⟨rfl, rfl, fun _ => (BitVec.add_zero _).symm⟩
  | cons a l ih =>
    obtain ⟨hs, hp, hr⟩ := ih (s.sendTwin a kind cause)
    obtain ⟨hs1, hp1, hpar, -⟩ := State.sendTwin_leaves (s := s) a kind cause
    refine ⟨hs.trans hs1, hp.trans hp1, fun h => (hr h.sendTwin).trans ?_⟩
    rw [State.rd_eq_of_par hpar, State.rd_wr h, if_pos rfl, List.length_cons, BitVec.add_assoc]
    congr 1
    apply BitVec.eq_of_toNat_eq
    simp [Nat.add_comm]

/-! ## Copies that arrive (R382, R383) -/

variable {port : Fin 4} {bs : List Byte} {src : FAddr} {down : Bool} {reason : Nat} {seq : Word}

/-- A copy is in time (R382). -/
def State.twinTimely (s : State) (bs : List Byte) : Bool :=
  twinLocal bs || !s.fab.hasTime || (decide (s.clk.fabric.toNat ≤ numBE ((bs.drop 10).take 8) + s.fld 0x3128 8 8 * 40000) &&
    decide (numBE ((bs.drop 10).take 8) ≤ s.clk.fabric.toNat + 2000))

/-- A copy with good CRCs meets the record of its sender (R382, R383). -/
def State.twinMeet (s : State) (p : Peer) (bs : List Byte) : State :=
  if (if twinDown bs then p.downSeq else p.upSeq) == some (twinSeq bs) && !p.anySeq then s
  else if p.missed == some (twinDown bs, twinSeq bs) then s.setPeer (twinSrc bs) fun p => { p with missed := none }
  else if !(twinDst bs == s.fab.addr) || !(p.anySeq || decide ((twinSeq bs - p.seq).toNat < 2 ^ 31)) || !s.twinTimely bs then
    s.twinBad (twinSrc bs) (twinDown bs) 2 (twinSeq bs)
  else s.twinAccept p (twinDown bs) bs (twinSeq bs)

theorem twinFrameReceive_of_down (h : s.up = false) : twinFrameReceive port bs s = s := if_pos (by simp [h])

theorem twinFrameReceive_of_bad_crc (hu : s.up = true) (hf : s.fitted = true) (hc : twinCrc1 bs = false) :
    twinFrameReceive port bs s = s.twinBad (twinSrc bs) (twinDown bs) 1 (twinSeq bs) := by
  have h1 : ¬ (!s.up) = true := by simp [hu]
  have h2 : ¬ (nth bs 0 0 == 0x04 && twinCrc1 bs && twinCrc2 bs && twinDst bs == s.fab.addr) = true := by simp [hc]
  have h3 : ¬ (!s.fitted) = true := by simp [hf]
  have h4 : (!twinCrc1 bs || !twinCrc2 bs) = true := by simp [hc]
  exact (if_neg h1).trans ((if_neg h2).trans ((if_neg h3).trans (if_pos h4)))

theorem twinFrameReceive_of_peer {p : Peer} (hu : s.up = true) (hf : s.fitted = true) (hk : nth bs 0 0 ≠ 0x04) (hc1 : twinCrc1 bs = true)
    (hc2 : twinCrc2 bs = true) (hp : s.peerAt (twinSrc bs) = some p) : twinFrameReceive port bs s = s.twinMeet p bs := by
  have h1 : ¬ (!s.up) = true := by simp [hu]
  have h2 : ¬ (nth bs 0 0 == 0x04 && twinCrc1 bs && twinCrc2 bs && twinDst bs == s.fab.addr) = true := by
    rw [beq_eq_false_iff_ne.2 hk]
    exact Bool.false_ne_true
  have h3 : ¬ (!s.fitted) = true := by simp [hf]
  have h4 : ¬ (!twinCrc1 bs || !twinCrc2 bs) = true := by simp [hc1, hc2]
  refine (if_neg h1).trans ((if_neg h2).trans ((if_neg h3).trans ((if_neg h4).trans ?_)))
  change (match s.peerAt (twinSrc bs) with | none => _ | some p => s.twinMeet p bs) = _
  rw [hp]

/-! ### A trip (R386) -/

theorem State.peerAt_of_find (hsrc : src ≠ 0xFFE) : s.peerAt src = s.safe.peers.find? fun x => x.addr == src := if_neg hsrc

theorem State.peerAt_of_none (h : src = 0xFFE ∨ (s.safe.peers.find? fun x => x.addr == src) = none) : s.peerAt src = none := by
  rcases eq_or_ne src 0xFFE with hsrc | hsrc
  · exact if_pos hsrc
  · exact (State.peerAt_of_find hsrc).trans (h.resolve_left hsrc)

theorem State.twinMeet_of_next {p : Peer} (hm : p.missed = none)
    (hseq : p.anySeq = true ∨ p.upSeq ≠ some (twinSeq bs) ∧ p.downSeq ≠ some (twinSeq bs) ∧ (twinSeq bs - p.seq).toNat < 2 ^ 31)
    (hd : twinDst bs = s.fab.addr) (hl : twinLocal bs = true) : s.twinMeet p bs = s.twinAccept p (twinDown bs) bs (twinSeq bs) := by
  have h1 : ¬ ((if twinDown bs then p.downSeq else p.upSeq) == some (twinSeq bs) && !p.anySeq) = true := by
    rcases hseq with h | ⟨hu, hd, -⟩
    · simp [h]
    · cases twinDown bs <;> simp [hu, hd]
  have h2 : ¬ (p.missed == some (twinDown bs, twinSeq bs)) = true := by simp [hm]
  have h3 : ¬ (!(twinDst bs == s.fab.addr) || !(p.anySeq || decide ((twinSeq bs - p.seq).toNat < 2 ^ 31)) || !s.twinTimely bs) = true := by
    have hn : (p.anySeq || decide ((twinSeq bs - p.seq).toNat < 2 ^ 31)) = true := by
      rcases hseq with h | ⟨-, -, h⟩
      · rw [h, Bool.true_or]
      · rw [decide_eq_true h, Bool.or_true]
    rw [hn, hd, State.twinTimely, hl]
    simp
  exact (if_neg h1).trans ((if_neg h2).trans (if_neg h3))

theorem State.twinAct_trip {c : BitVec 4} {st acted : Half} : s.twinAct 0x02 c st acted = s.demand 12 true := rfl

/-- A first copy with a trip is noted and acted on. -/
theorem State.twinAccept_trip {p : Peer} (hf : p.first = none) (hk : nth bs 0 0 = 0x02) : ∃ q : Peer,
    s.twinAccept p down bs seq = ((s.setPeer p.addr fun _ => q).peersShow).demand 12 true := by
  unfold State.twinAccept
  extract_lets st cause both q0 second put
  have hs : second = false := by simp [second, hf]
  rw [hs, if_neg Bool.false_ne_true, hk]
  exact ⟨_, State.twinAct_trip⟩

/-! ### A copy that fails (R382) -/

theorem State.Stored.fld_addSat_same (h : s.Stored) (id lo width n : Nat) (hw : lo + width ≤ 32) :
    (s.addSat id lo width n).fld id lo width = min (2 ^ width - 1) (s.fld id lo width + n) := by
  rw [State.addSat, State.fld_setFld_same h _ _ _ _ hw]
  have := Nat.two_pow_pos width
  exact Nat.mod_eq_of_lt (by omega)

theorem State.twinBad_of_peer {p : Peer} (hp : s.peerAt src = some p) (hu : p.upBad = false) (hd : p.downBad = false) : ∃ f : Peer → Peer,
    s.twinBad src down reason seq = (s.addSat 0x312A 16 16 1).setPeer src f := by
  have ht : (s.addSat 0x312A 16 16 1).peerAt src = some p := hp
  have hb : ¬ (if down then p.downBad else p.upBad) = true := by cases down <;> simp [hu, hd]
  refine ⟨fun p => if down then { p with downBad := true } else { p with upBad := true }, ?_⟩
  unfold State.twinBad
  dsimp only
  rw [ht]
  exact if_neg hb

theorem State.twinBad_of_stranger (hp : s.peerAt src = none) : s.twinBad src down reason seq =
    if s.safe.strangers.contains (src, down) then
      { s.addSat 0x312A 16 16 1 with
        safe := { s.safe with strangers := s.safe.strangers.filter fun x => !(x == (src, down)) } }.safeFrame src reason seq
    else { s.addSat 0x312A 16 16 1 with
      safe := { s.safe with strangers := s.safe.strangers.filter (fun x => !(x == (src, down))) ++ [(src, down)] } } := by
  have ht : (s.addSat 0x312A 16 16 1).peerAt src = none := hp
  unfold State.twinBad
  dsimp only
  rw [ht]
  rfl

/-- The first copy that fails, from a sender that is not expected. -/
def State.strangerNoted (s : State) (x : FAddr × Bool) : State :=
  { s.addSat 0x312A 16 16 1 with safe := { s.safe with strangers := s.safe.strangers ++ [x] } }

theorem State.twinBad_first (hp : s.peerAt src = none) (h : (src, down) ∉ s.safe.strangers) :
    s.twinBad src down reason seq = s.strangerNoted (src, down) := by
  have hrest : (s.safe.strangers.filter fun x => !(x == (src, down))) = s.safe.strangers := by
    refine List.filter_eq_self.2 fun x hx => ?_
    have hne : x ≠ (src, down) := fun he => h (he ▸ hx)
    simpa using hne
  rw [State.twinBad_of_stranger hp, if_neg (by simpa using h), hrest]
  rfl

theorem State.safeFrame_down {a : FAddr} : (s.safeFrame a reason seq).OutputsDown := State.ownDemand_down (.inl rfl)

/-! ## Copies that do not come, and silence (R383, R384) -/

variable {a : FAddr} {p : Peer}

theorem find?_addr_map (l : List Peer) (f : Peer → Peer) (hf : ∀ q, (f q).addr = q.addr) :
    (l.map f).find? (fun x => x.addr == a) = (l.find? fun x => x.addr == a).map f := by
  rw [List.find?_map]
  congr 2
  funext q
  rw [Function.comp_apply, hf]

theorem twinCopyTimeout_of_none (h : s.peerAt a = none) : twinCopyTimeout a s = s := by rw [twinCopyTimeout, h]

theorem twinCopyTimeout_of_no_first (h : s.peerAt a = some p) (hf : p.first = none) : twinCopyTimeout a s = s := by
  rw [twinCopyTimeout, h]
  dsimp only
  rw [hf]

/-- The number of the pair whose first copy came. -/
def missedSeq (f : List Byte) : Word := BitVec.ofNat 32 (numBE ((f.drop 6).take 4))

theorem twinCopyTimeout_of_first {d : Bool} {f : List Byte} (h : s.peerAt a = some p) (hf : p.first = some (d, f)) :
    twinCopyTimeout a s = (s.addSat 0x312A 0 16 1).setPeer a fun p => { p with first := none, missed := some (!d, missedSeq f) } := by
  rw [twinCopyTimeout, h]
  dsimp only
  rw [hf]
  rfl

theorem find?_setPeer (f : Peer → Peer) (hf : ∀ q, (f q).addr = q.addr) (h : s.safe.peers.find? (fun x => x.addr == a) = some p) :
    (s.setPeer a f).safe.peers.find? (fun x => x.addr == a) = some (f p) := by
  have ha : (p.addr == a) = true := List.find?_some (p := fun x : Peer => x.addr == a) h
  have hm := find?_addr_map (a := a) s.safe.peers (fun q => if q.addr == a then f q else q) fun q => by
    split
    · exact hf q
    · rfl
  rw [h, Option.map_some, if_pos ha] at hm
  exact hm

theorem safewdog_of_none (h : (s.safe.peers.find? fun p => p.addr == a && p.unsaid down) = none) : safewdog a down s = s := by
  rw [safewdog, h]

theorem find?_unsaid_of_find? {l : List Peer} (h : l.find? (fun x => x.addr == a) = some p) (hq : p.unsaid down = true) :
    l.find? (fun x => x.addr == a && x.unsaid down) = some p := by
  induction l with
  | nil => exact h
  | cons x l ih =>
    rw [List.find?_cons] at h ⊢
    cases hx : x.addr == a with
    | false =>
      rw [hx] at h
      exact ih h
    | true =>
      rw [hx] at h
      obtain rfl := Option.some.inj h
      rw [Bool.true_and, hq]

/-- The silence of the direction up of a sender. -/
def Peer.silentUp (p : Peer) : Peer := { p with upOk := false, upSaid := true }

/-- A sender is silent. -/
def State.silenced (s : State) (p : Peer) : State :=
  { s with safe := { s.safe with peers := s.safe.peers.map fun (q : Peer) => if q.serial == p.serial then q.silentUp else q } }

theorem safewdog_of_silent (h : s.safe.peers.find? (fun x => x.addr == a) = some p) (hu : s.up = true) (hf : s.fitted = true)
    (hup : p.watchUp = true) (hs : p.upSaid = false) : ∃ data : Word,
    safewdog a false s = ((s.silenced p).peersShow.raise 84 data).ownDemand 8 true 0 := by
  have hq : p.unsaid false = true := by simp [Peer.unsaid, hs]
  have hc : ¬ (!(s.up && s.fitted) || !(p.watchUp || !p.watchDown)) = true := by simp [hu, hf, hup]
  unfold safewdog
  rw [find?_unsaid_of_find? h hq]
  exact ⟨_, if_neg hc⟩

theorem find?_silenced (h : s.safe.peers.find? (fun x => x.addr == a) = some p) :
    (s.silenced p).safe.peers.find? (fun x => x.addr == a) = some p.silentUp := by
  have hm := find?_addr_map (a := a) s.safe.peers (fun q => if q.serial == p.serial then q.silentUp else q) fun q => by
    split <;> rfl
  rw [h, Option.map_some, if_pos (beq_self_eq_true _)] at hm
  exact hm

theorem State.peersShow_safe : s.peersShow.safe = s.safe := rfl

end

/-- Settles O56: each row by what the model does on its occasion. -/
theorem twinFrames : Obligations.TwinFrames := by
  unfold Obligations.TwinFrames
  refine ⟨fun kind down single isLocal src dst seq time st cause => ?_, fun s => ⟨fun h => congrArg Host.Outcome.next (twinFrameSend_of_none h),
    fun hu hv => ?_, fun hu port bs => congrArg Host.Outcome.next (twinFrameReceive_of_down hu),
    fun hu hf port src p hsrc hp => ⟨fun down single seq time st cause hm hfirst hseq => ?_, fun bs hbs hcrc hub hdb => ?_⟩,
    fun hu hf port src bs hsrc hbs hcrc => ⟨fun hnot => ?_, fun hin => ?_⟩,
    fun a => ⟨fun ha => ?_, fun ha => ⟨?_, fun down => ?_⟩, fun ha => ?_, fun ha => ?_, fun p hp => ⟨fun hf => ?_, fun d f ha hf => ?_,
      fun hu hf hup hdown hs => ?_⟩⟩⟩⟩
  · have hlen := length_twinHead (kind := kind) (down := down) (single := single) (isLocal := isLocal) (src := src) (dst := dst) (seq := seq)
      (time := time) (st := st) (cause := cause)
    exact ⟨hlen, length_twinBytes hlen, take_twinBytes hlen, crc32c_twinBytes hlen, crc16_twinBytes hlen⟩
  · obtain ⟨kind, cause, h⟩ := twinFrameSend_of_up hu hv
    obtain ⟨hsafe, hpins, hrd⟩ := State.foldl_sendTwin_leaves s.contactors kind cause s.twinTaken
    exact ⟨_, congrArg Host.Outcome.next h, hsafe, hpins, hrd⟩
  · obtain ⟨hk, hs, hd, hq, hdn, hl, hc1, hc2⟩ := twinFields (kind := 0x02) (down := down) (single := single) (isLocal := true) (src := src)
      (dst := s.fab.addr) (seq := seq) (time := time) (st := st) (cause := cause) rfl
    generalize twinBytes (twinHead 0x02 down single true src s.fab.addr seq time st cause) = bs at hk hs hd hq hdn hl hc1 hc2 ⊢
    subst hs hq
    obtain ⟨q, hacc⟩ := State.twinAccept_trip (s := s) (down := twinDown bs) (seq := twinSeq bs) hfirst hk
    have hrecv : twinFrameReceive port bs s = ((s.setPeer p.addr fun _ => q).peersShow).demand 12 true :=
      calc twinFrameReceive port bs s = s.twinMeet p bs :=
            twinFrameReceive_of_peer hu hf (by rw [hk]; decide) hc1 hc2 ((State.peerAt_of_find hsrc).trans hp)
        _ = s.twinAccept p (twinDown bs) bs (twinSeq bs) := State.twinMeet_of_next hm hseq hd hl
        _ = _ := hacc
    have hdown : (((s.setPeer p.addr fun _ => q).peersShow).demand 12 true).OutputsDown := State.demand_down (.inl rfl)
    exact ⟨_, congrArg Host.Outcome.next hrecv, hdown.1, hdown.2.1, fun h => h.setPeer.peersShow.demand_latched (.inl rfl)⟩
  · have hs : twinSrc bs = src := hbs
    obtain ⟨f, hbad⟩ := State.twinBad_of_peer (s := s) (src := src) (down := twinDown bs) (reason := 1) (seq := twinSeq bs)
      ((State.peerAt_of_find hsrc).trans hp) hub hdb
    rw [← hs] at hbad
    exact ⟨(s.addSat 0x312A 16 16 1).setPeer (twinSrc bs) f,
      congrArg Host.Outcome.next ((twinFrameReceive_of_bad_crc hu hf (decide_eq_false hcrc)).trans hbad), rfl,
      fun h => h.fld_addSat_same 0x312A 16 16 1 (by decide)⟩
  · have hs : twinSrc bs = src := hbs
    have hbad := State.twinBad_first (down := twinDown bs) (reason := 1) (seq := twinSeq bs) (State.peerAt_of_none hsrc) hnot
    rw [← hs] at hbad
    exact ⟨s.strangerNoted (twinSrc bs, twinDown bs),
      congrArg Host.Outcome.next ((twinFrameReceive_of_bad_crc hu hf (decide_eq_false hcrc)).trans hbad), rfl,
      by rw [hs]; rfl, fun h => h.fld_addSat_same 0x312A 16 16 1 (by decide)⟩
  · have hs : twinSrc bs = src := hbs
    have hbad := (State.twinBad_of_stranger (down := twinDown bs) (reason := 1) (seq := twinSeq bs) (State.peerAt_of_none hsrc)).trans
      (if_pos (List.contains_iff_mem.2 hin))
    rw [← hs] at hbad
    exact ⟨_, congrArg Host.Outcome.next ((twinFrameReceive_of_bad_crc hu hf (decide_eq_false hcrc)).trans hbad), State.safeFrame_down.1,
      State.safeFrame_down.2.1⟩
  · exact congrArg Host.Outcome.next (twinCopyTimeout_of_none (State.peerAt_of_none (.inl ha)))
  · exact congrArg Host.Outcome.next (twinCopyTimeout_of_none (State.peerAt_of_none (.inr ha)))
  · exact congrArg Host.Outcome.next (safewdog_of_none (List.find?_eq_none.2 fun q hq => by
      simpa using fun h => absurd h (by simpa using List.find?_eq_none.1 ha q hq)))
  · exact congrArg Host.Outcome.next (safewdog_of_none (List.find?_eq_none.2 fun q hq => by simpa [Peer.unsaid] using ha q hq))
  · exact congrArg Host.Outcome.next (safewdog_of_none (List.find?_eq_none.2 fun q hq => by simpa [Peer.unsaid] using ha q hq))
  · rcases eq_or_ne a 0xFFE with ha | ha
    · exact congrArg Host.Outcome.next (twinCopyTimeout_of_none (State.peerAt_of_none (.inl ha)))
    · exact congrArg Host.Outcome.next (twinCopyTimeout_of_no_first ((State.peerAt_of_find ha).trans hp) hf)
  · refine ⟨_, congrArg Host.Outcome.next (twinCopyTimeout_of_first ((State.peerAt_of_find ha).trans hp) hf), rfl,
      fun h => h.fld_addSat_same 0x312A 0 16 1 (by decide), ?_⟩
    exact find?_setPeer _ (fun _ => rfl) hp
  · obtain ⟨data, hsil⟩ := safewdog_of_silent hp hu hf hup hs
    have hdown : (((s.silenced p).peersShow.raise 84 data).ownDemand 8 true 0).OutputsDown := State.ownDemand_down (.inl rfl)
    refine ⟨_, congrArg Host.Outcome.next hsil, hdown.1, hdown.2.1, fun h => ?_, ?_⟩
    · have hst : (s.silenced p).Stored := h
      exact hst.peersShow.raise.ownDemand_latched (.inl rfl)
    · have hpeers : (((s.silenced p).peersShow.raise 84 data).ownDemand 8 true 0).safe.peers = (s.silenced p).safe.peers :=
        congrArg (·.1.peers) (State.ownDemand_apart.trans (State.raise_apart ..))
      rw [hpeers]
      exact find?_silenced hp

end Sys2Proof.Machine
end

section
/-! PROOFS. The tick of the safety monitor: it raises no lead, a trip turns the outputs off, the inputs are shown (R351, R354, R355, R374 to R376). -/
namespace Sys2Proof.Machine

/-! ## The demand that wins (R354) -/

theorem foldl_lesser_le {α : Type} (l : List (Nat × α)) : ∀ (acc : Option (Nat × α)) (x : Nat × α), x ∈ l ∨ acc = some x →
    ∃ y, l.foldl lesser acc = some y ∧ y.1 ≤ x.1 ∧ (y ∈ l ∨ acc = some y) := by
  induction l with
  | nil => exact fun acc x hx => ⟨x, by simpa using hx, le_refl _, .inr (by simpa using hx)⟩
  | cons b l ih =>
    intro acc x hx
    have hb : ∃ z, lesser acc b = some z ∧ z.1 ≤ b.1 ∧ (z = b ∨ acc = some z) ∧ ∀ a, acc = some a → z.1 ≤ a.1 := by
      cases acc with
      | none => exact ⟨b, rfl, le_refl _, .inl rfl, by simp⟩
      | some a =>
        by_cases hlt : b.1 < a.1
        · exact ⟨b, if_pos hlt, le_refl _, .inl rfl, fun c hc => Option.some.inj hc ▸ hlt.le⟩
        · exact ⟨a, if_neg hlt, Nat.le_of_not_lt hlt, .inr rfl, fun c hc => Option.some.inj hc ▸ le_refl _⟩
    obtain ⟨z, hz, hzb, hzmem, hza⟩ := hb
    have hstep : ∃ w, (w ∈ l ∨ lesser acc b = some w) ∧ w.1 ≤ x.1 := by
      rcases hx with hx | hx
      · rcases List.mem_cons.1 hx with rfl | hx
        · exact ⟨z, .inr hz, hzb⟩
        · exact ⟨x, .inl hx, le_refl _⟩
      · exact ⟨z, .inr hz, hza x hx⟩
    obtain ⟨w, hw, hwx⟩ := hstep
    obtain ⟨y, hy, hyw, hymem⟩ := ih (lesser acc b) w hw
    refine ⟨y, hy, hyw.trans hwx, ?_⟩
    rcases hymem with hymem | hymem
    · exact .inl (List.mem_cons_of_mem _ hymem)
    · rcases hzmem with rfl | hzmem
      · exact .inl (by simp [Option.some.inj (hymem.symm.trans hz)])
      · exact .inr (by rw [hzmem, Option.some.inj (hymem.symm.trans hz)])

/-- An immediate demand of a tick wins over every ramp (R354). -/
theorem chooseDemand_of_immediate {l : List (BitVec 4 × Bool)} {c : BitVec 4} (h : (c, true) ∈ l) : ∃ c', chooseDemand l = some (c', true) := by
  have hmem := List.mem_map_of_mem (f := fun d : BitVec 4 × Bool => ((if d.2 then 0 else 16) + d.1.toNat, d)) h
  obtain ⟨y, hy, hle, hmem⟩ := foldl_lesser_le _ none _ (.inl hmem)
  obtain ⟨d, -, rfl⟩ := List.mem_map.1 (hmem.resolve_right (by simp))
  have hd : chooseDemand l = some d := congrArg (Option.map Prod.snd) hy
  obtain ⟨c', b⟩ := d
  cases b with
  | true => exact ⟨c', hd⟩
  | false =>
    have := c.isLt
    simp only [if_true, Bool.false_eq_true, if_false] at hle
    omega

section
variable {s t : State}

/-! ## The functions judged (R350, R351) -/

/-- What the judging of the functions leaves. -/
def State.judgeView (s : State) : Pins × Seq × List Timer × Power × Nat × List (Nat × Int × Bool) × Channel × Channel :=
  (s.pins, s.seq, s.tmr, s.pwr, s.safe.ticks, s.safe.now, s.safe.inA, s.safe.inB)

/-- A stage of judging: it leaves the view and the shown inputs. -/
def State.Judges (s t : State) : Prop := t.judgeView = s.judgeView ∧ (s.Stored → t.Stored ∧ t.rd 0x3126 = s.rd 0x3126)

theorem State.Judges.trans {u : State} (h : s.Judges t) (h' : t.Judges u) : s.Judges u :=
  ⟨h'.1.trans h.1, fun hs => ⟨(h'.2 (h.2 hs).1).1, (h'.2 (h.2 hs).1).2.trans (h.2 hs).2⟩⟩

theorem State.Judges.refl (s : State) : s.Judges s := ⟨rfl, fun h => ⟨h, rfl⟩⟩

theorem State.Judges.foldl {f : State → Nat → State} (hf : ∀ (s : State) n, s.Judges (f s n)) (l : List Nat) : s.Judges (l.foldl f s) := by
  induction l generalizing s with
  | nil => exact State.Judges.refl s
  | cons n l ih => exact (hf s n).trans ih

theorem State.Judges.raiseC (h : s.Judges t) (n : Nat) (data : Word) (cleared : Bool) (hc : 0x3126 ∉ countParams := by decide) :
    s.Judges (t.raiseC n data cleared) :=
  h.trans ⟨by simp [State.judgeView], fun ht => ⟨ht.raiseC, ht.rd_raiseC hc⟩⟩

/-- An element of SF-OV, or of SF-UV, trips, clears or stays. -/
def State.ovJudged (s : State) (c : Nat) (data : Word) : Option Bool → State
  | some b => ({ s with safe := { s.safe with ov := setBitV s.safe.ov c b } }).raiseC 71 data (!b)
  | none => s
def State.uvJudged (s : State) (c : Nat) (data : Word) : Option Bool → State
  | some b => ({ s with safe := { s.safe with uv := setBitV s.safe.uv c b } }).raiseC 72 data (!b)
  | none => s

theorem State.ovJudged_judges (s : State) (c : Nat) (data : Word) (o : Option Bool) : s.Judges (s.ovJudged c data o) := by
  have hov (v : BitVec 24) : s.Judges { s with safe := { s.safe with ov := v } } := ⟨rfl, fun h => ⟨h, rfl⟩⟩
  cases o with
  | none => exact State.Judges.refl s
  | some b => exact (hov _).raiseC ..

theorem State.uvJudged_judges (s : State) (c : Nat) (data : Word) (o : Option Bool) : s.Judges (s.uvJudged c data o) := by
  have huv (v : BitVec 24) : s.Judges { s with safe := { s.safe with uv := v } } := ⟨rfl, fun h => ⟨h, rfl⟩⟩
  cases o with
  | none => exact State.Judges.refl s
  | some b => exact (huv _).raiseC ..

theorem State.judgeCell_eq (s : State) (c : Nat) : ∃ (o u : Option Bool) (data data' : Word),
    s.judgeCell c = (s.ovJudged c data o).uvJudged c data' u := by
  unfold State.judgeCell
  extract_lets
  exact ⟨_, _, _, _, rfl⟩

theorem State.judgeCell_judges (s : State) (c : Nat) : s.Judges (s.judgeCell c) := by
  obtain ⟨o, u, data, data', h⟩ := s.judgeCell_eq c
  rw [h]
  exact (s.ovJudged_judges c data o).trans (State.uvJudged_judges ..)

/-- An input of SF-OT trips, clears or stays, its run of bad samples noted; SF-OC in one direction. -/
def State.otJudged (s : State) (n run : Nat) (data : Word) : Option Bool → State
  | some b => ({ s with safe := { s.safe with ntcBad := s.safe.ntcBad.set n run, ot := setBitV s.safe.ot n b } }).raiseC 73 data (!b)
  | none => { s with safe := { s.safe with ntcBad := s.safe.ntcBad.set n run } }
def State.ocJudged (s : State) (dir : Nat) (data : Word) : Option Bool → State
  | some b => ({ s with safe := { s.safe with oc := setBitV s.safe.oc dir b } }).raiseC 74 data (!b)
  | none => s

theorem State.otJudged_judges (s : State) (n run : Nat) (data : Word) (o : Option Bool) : s.Judges (s.otJudged n run data o) := by
  have hot (bad : List Nat) (v : BitVec 16) : s.Judges { s with safe := { s.safe with ntcBad := bad, ot := v } } := ⟨rfl, fun h => ⟨h, rfl⟩⟩
  cases o with
  | none => exact hot _ s.safe.ot
  | some b => exact (hot _ _).raiseC ..

theorem State.ocJudged_judges (s : State) (dir : Nat) (data : Word) (o : Option Bool) : s.Judges (s.ocJudged dir data o) := by
  have hoc (v : BitVec 2) : s.Judges { s with safe := { s.safe with oc := v } } := ⟨rfl, fun h => ⟨h, rfl⟩⟩
  cases o with
  | none => exact State.Judges.refl s
  | some b => exact (hoc _).raiseC ..

theorem State.judgeAux_judges (s : State) (n : Nat) : s.Judges (s.judgeAux n) := by
  have h : ∃ (run : Nat) (data : Word) (o : Option Bool), s.judgeAux n = s.otJudged n run data o := by
    unfold State.judgeAux
    extract_lets
    exact ⟨_, _, _, rfl⟩
  obtain ⟨run, data, o, h⟩ := h
  rw [h]
  exact s.otJudged_judges n run data o

theorem State.judgeCurrent_judges (s : State) (dir : Nat) : s.Judges (s.judgeCurrent dir) := by
  have h : ∃ (data : Word) (o : Option Bool), s.judgeCurrent dir = s.ocJudged dir data o := by
    unfold State.judgeCurrent
    extract_lets
    exact ⟨_, _, rfl⟩
  obtain ⟨data, o, h⟩ := h
  rw [h]
  exact s.ocJudged_judges dir data o

/-- A tick counts, with the samples that waited in its window. -/
def State.counted (s : State) : State :=
  { s.takeTick.restTick with safe := { s.takeTick.restTick.safe with ticks := s.safe.ticks + 1 } }

theorem State.restTick_leaves (s : State) : s.restTick = { s with bal := s.restTick.bal } := by
  unfold State.restTick
  extract_lets
  split
  · rfl
  · split <;> rfl

/-- The state once every function of a tick is judged. -/
def State.judged (s : State) : State :=
  [0, 1].foldl State.judgeCurrent ((List.range 16).foldl State.judgeAux ((List.range 24).foldl State.judgeCell s))

theorem State.judged_judges (s : State) : s.Judges s.judged :=
  ((State.Judges.foldl State.judgeCell_judges _).trans (State.Judges.foldl State.judgeAux_judges _)).trans
    (State.Judges.foldl State.judgeCurrent_judges _)

/-! ## The inputs (R374 to R376) -/

/-- The count D of a tick (R375), whether the inputs trip for their disagreement, whether the cycle that stands ends, whether one stands after the
tick (R376), and DEMAND (R374). -/
def State.inputCount (s : State) : Nat := if s.safe.inA.on != s.safe.inB.on then min 0xFFFF (s.fld 0x3126 16 16 + 1) else 0
def State.inputTrips (s : State) : Bool := decide (0 < s.fld 0x3127 0 12) && s.inputCount == s.fld 0x3127 0 12 && !s.bit 0x3126 3
def State.inputEnds (s : State) : Bool := s.bit 0x3126 6 && s.safe.cycleOpen && s.safe.inA.on && s.safe.inB.on
def State.inputCycle (s : State) : Bool := (s.bit 0x3126 6 || s.inputTrips) && !s.inputEnds
def State.inputDemand (s : State) : Bool :=
  if !s.safe.inA.on || !s.safe.inB.on then true else if s.inputCycle then s.bit 0x3126 2 else false

/-- `sf.di.status` (R388). -/
def inputWord (d : Nat) (cycle shortB shortA demand b a : Bool) : Word :=
  pack [(16, 16, d), (6, 1, b2n cycle), (5, 1, b2n shortB), (4, 1, b2n shortA), (3, 1, b2n cycle), (2, 1, b2n demand), (1, 1, b2n b), (0, 1, b2n a)]

/-- The inputs shown, with what is kept of their cycle. -/
def State.inputsShown (s : State) (firstB cycleOpen : Bool) (w : Word) : State :=
  { s with safe := { s.safe with firstB := firstB, cycleOpen := cycleOpen } }.wr 0x3126 w

theorem State.inputTick_eq (s : State) : ∃ (firstB cycleOpen : Bool) (data : Word) (l : List (BitVec 4 × Bool)) (u : State),
    s.inputTick = (if s.inputTrips then u.raise 80 data else if s.inputEnds then u.raiseC 80 data true else u, l) ∧
      u = s.inputsShown firstB cycleOpen
        (inputWord s.inputCount s.inputCycle s.safe.inB.short s.safe.inA.short s.inputDemand s.safe.inB.on s.safe.inA.on) := by
  unfold State.inputTick
  extract_lets
  exact ⟨_, _, _, _, _, rfl, rfl⟩

theorem State.inputsShown_leaves (s : State) (firstB cycleOpen : Bool) (w : Word) :
    (s.inputsShown firstB cycleOpen w).judgeView = s.judgeView ∧ (s.inputsShown firstB cycleOpen w).safe.ov = s.safe.ov ∧
      (s.inputsShown firstB cycleOpen w).safe.uv = s.safe.uv ∧ (s.inputsShown firstB cycleOpen w).safe.ot = s.safe.ot ∧
      (s.inputsShown firstB cycleOpen w).safe.oc = s.safe.oc := ⟨rfl, rfl, rfl, rfl, rfl⟩

/-- What the inputs of a tick leave, and the word they show. -/
theorem State.inputTick_leaves (s : State) : s.inputTick.1.judgeView = s.judgeView ∧
    (s.inputTick.1.safe.ov = s.safe.ov ∧ s.inputTick.1.safe.uv = s.safe.uv ∧ s.inputTick.1.safe.ot = s.safe.ot ∧
      s.inputTick.1.safe.oc = s.safe.oc) ∧
    (s.Stored → s.inputTick.1.rd 0x3126 =
      inputWord s.inputCount s.inputCycle s.safe.inB.short s.safe.inA.short s.inputDemand s.safe.inB.on s.safe.inA.on) := by
  obtain ⟨firstB, cycleOpen, data, l, u, h, hu⟩ := s.inputTick_eq
  obtain ⟨hview, hov, huv, hot, hoc⟩ := s.inputsShown_leaves firstB cycleOpen
    (inputWord s.inputCount s.inputCycle s.safe.inB.short s.safe.inA.short s.inputDemand s.safe.inB.on s.safe.inA.on)
  have hst (hs : s.Stored) : (s.inputsShown firstB cycleOpen
      (inputWord s.inputCount s.inputCycle s.safe.inB.short s.safe.inA.short s.inputDemand s.safe.inB.on s.safe.inA.on)).Stored := hs.frame.wr _ _
  have hrd (hs : s.Stored) (w : Word) : (s.inputsShown firstB cycleOpen w).rd 0x3126 = w := by
    have hs' : State.Stored { s with safe := { s.safe with firstB := firstB, cycleOpen := cycleOpen } } := hs
    rw [State.inputsShown, State.rd_wr hs', if_pos rfl]
  rw [h, hu]
  generalize hw : inputWord s.inputCount s.inputCycle s.safe.inB.short s.safe.inA.short s.inputDemand s.safe.inB.on s.safe.inA.on = w at *
  have key : ∀ c, ((s.inputsShown firstB cycleOpen w).raiseC 80 data c).judgeView = s.judgeView ∧
      (((s.inputsShown firstB cycleOpen w).raiseC 80 data c).safe.ov = s.safe.ov ∧
        ((s.inputsShown firstB cycleOpen w).raiseC 80 data c).safe.uv = s.safe.uv ∧
        ((s.inputsShown firstB cycleOpen w).raiseC 80 data c).safe.ot = s.safe.ot ∧
        ((s.inputsShown firstB cycleOpen w).raiseC 80 data c).safe.oc = s.safe.oc) ∧
      (s.Stored → ((s.inputsShown firstB cycleOpen w).raiseC 80 data c).rd 0x3126 = w) := fun c => by
    refine ⟨(((State.Judges.refl _).raiseC 80 data c).1).trans hview, ?_, fun hs => ((hst hs).rd_raiseC (by decide)).trans (hrd hs w)⟩
    rw [State.raiseC_safe]
    exact ⟨hov, huv, hot, hoc⟩
  dsimp only
  split
  · exact key false
  · split
    · exact key true
    · exact ⟨hview, ⟨hov, huv, hot, hoc⟩, fun hs => hrd hs w⟩

theorem inputWord_fields {d : Nat} (hd : d < 65536) (cycle shortB shortA demand b a : Bool) :
    (inputWord d cycle shortB shortA demand b a).getLsbD 0 = a ∧ (inputWord d cycle shortB shortA demand b a).getLsbD 1 = b ∧
      (inputWord d cycle shortB shortA demand b a).getLsbD 2 = demand ∧ bitsOf (inputWord d cycle shortB shortA demand b a) 16 16 = d := by
  have hb (x : Bool) : (b2n x).testBit 0 = x := by cases x <;> rfl
  simp only [inputWord, pack, List.foldl_cons, List.foldl_nil]
  refine ⟨?_, ?_, ?_, ?_⟩
  · rw [getLsbD_putBits, if_pos (by decide)]
    exact hb a
  · rw [getLsbD_putBits, if_neg (by decide), getLsbD_putBits, if_pos (by decide)]
    exact hb b
  · rw [getLsbD_putBits, if_neg (by decide), getLsbD_putBits, if_neg (by decide), getLsbD_putBits, if_pos (by decide)]
    exact hb demand
  · iterate 7 rw [bitsOf_putBits_other _ _ _ _ _ _ (by decide)]
    rw [bitsOf_putBits_same _ _ _ _ (by decide)]
    exact Nat.mod_eq_of_lt hd

theorem State.inputDemand_of_open (h : s.safe.inA.on = false ∨ s.safe.inB.on = false) : s.inputDemand = true := by
  rcases h with h | h <;> simp [State.inputDemand, h]

theorem State.inputDemand_of_closed (hA : s.safe.inA.on = true) (hB : s.safe.inB.on = true) (hc : s.bit 0x3126 6 = false) :
    s.inputDemand = false := by
  have hcount : s.inputCount = 0 := by simp [State.inputCount, hA, hB]
  have htrips : s.inputTrips = false := by
    rw [State.inputTrips, hcount]
    rcases Nat.eq_zero_or_pos (s.fld 0x3127 0 12) with h0 | h0
    · simp [h0]
    · simp [h0.ne]
  simp [State.inputDemand, State.inputCycle, hA, hB, hc, htrips]

/-- What the word of the inputs shows (R374 to R376). -/
theorem State.inputs_of_word (h : t.rd 0x3126 =
      inputWord s.inputCount s.inputCycle s.safe.inB.short s.safe.inA.short s.inputDemand s.safe.inB.on s.safe.inA.on) :
    t.bit 0x3126 0 = s.safe.inA.on ∧ t.bit 0x3126 1 = s.safe.inB.on ∧
      t.fld 0x3126 16 16 = (if s.safe.inA.on = s.safe.inB.on then 0 else min 65535 (s.fld 0x3126 16 16 + 1)) ∧
      (s.safe.inA.on = false ∨ s.safe.inB.on = false → t.bit 0x3126 2 = true) ∧
      (s.safe.inA.on = true → s.safe.inB.on = true → s.bit 0x3126 6 = false → t.bit 0x3126 2 = false) := by
  have hcount : s.inputCount = if s.safe.inA.on = s.safe.inB.on then 0 else min 65535 (s.fld 0x3126 16 16 + 1) := by
    unfold State.inputCount
    cases s.safe.inA.on <;> cases s.safe.inB.on <;> rfl
  have hlt : s.inputCount < 65536 := by
    rw [hcount]
    split <;> omega
  obtain ⟨h0, h1, h2, hd⟩ := inputWord_fields hlt s.inputCycle s.safe.inB.short s.safe.inA.short s.inputDemand s.safe.inB.on s.safe.inA.on
  refine ⟨?_, ?_, ?_, fun ho => ?_, fun hA hB hc => ?_⟩
  · rw [State.bit, h, h0]
  · rw [State.bit, h, h1]
  · rw [State.fld, h, hd, hcount]
  · rw [State.bit, h, h2]
    exact State.inputDemand_of_open ho
  · rw [State.bit, h, h2]
    exact State.inputDemand_of_closed hA hB hc

/-! ## What follows the judging: demands, the ramp, off-tests (R353 to R355, R369) -/

/-- An act of the tick: it leaves what a demand leaves, raises no lead, and keeps the shown inputs. -/
def State.Acts (s t : State) : Prop :=
  t.apart = s.apart ∧ (t.pins.safeH = true → s.pins.safeH = true) ∧ (t.pins.safeL = true → s.pins.safeL = true) ∧
    (s.Stored → t.Stored ∧ t.rd 0x3126 = s.rd 0x3126)

theorem State.Acts.refl (s : State) : s.Acts s := ⟨rfl, id, id, fun h => ⟨h, rfl⟩⟩

theorem State.Acts.trans {u : State} (h : s.Acts t) (h' : t.Acts u) : s.Acts u := by
  obtain ⟨ha, hH, hL, hr⟩ := h
  obtain ⟨ha', hH', hL', hr'⟩ := h'
  exact ⟨ha'.trans ha, hH ∘ hH', hL ∘ hL', fun hs => ⟨(hr' (hr hs).1).1, (hr' (hr hs).1).2.trans (hr hs).2⟩⟩

theorem State.acts_setFld (s : State) {j : Nat} (hj : 0x3126 ≠ j) (lo width v : Nat) : s.Acts (s.setFld j lo width v) :=
  ⟨rfl, id, id, fun h => ⟨h.setFld _ _ _ _, State.rd_setFld_ne h _ _ _ _ _ hj⟩⟩

theorem State.acts_doff (s : State) (cause : BitVec 4) (i e r : Bool) : s.Acts (s.doff cause i e r) := by
  obtain ⟨hH, hL, -⟩ := s.doff_down cause i e r
  refine ⟨State.doff_apart .., by simp [hH], by simp [hL], fun h => ⟨h.doff, ?_⟩⟩
  rw [h.rd_doff (by decide) (by decide), h.rd_doffSet (by decide), if_neg (by decide)]

theorem State.acts_ownDemand (s : State) (cause : BitVec 4) (immediate : Bool) (bits : Half) : s.Acts (s.ownDemand cause immediate bits) := by
  have hpins := s.ownDemand_pins cause immediate bits
  refine ⟨State.ownDemand_apart, fun hH => ?_, fun hL => ?_, fun h => ⟨h.ownDemand, h.rd_ownDemand (by decide)⟩⟩
  · rcases hpins with hp | hp <;> rw [hp] at hH
    · exact hH
    · exact absurd hH Bool.false_ne_true
  · rcases hpins with hp | hp <;> rw [hp] at hL
    · exact hL
    · exact absurd hL Bool.false_ne_true

/-- The ramp at a tick: none, a Doff, or one tick more. -/
theorem State.rampTick_cases (s : State) : s.rampTick = s ∨ ∃ v : Nat,
    (∃ cause e r, s.rampTick = (s.setFld 0x310C 0 16 v).doff cause false e r) ∨
      ∃ ramp, s.rampTick = { s.setFld 0x310C 0 16 v with safe := { s.safe with ramp := ramp } } := by
  unfold State.rampTick
  split
  · exact .inl rfl
  · extract_lets tr mag margin rel i0 lim s1 out reached
    split
    · exact .inr ⟨_, .inl ⟨_, _, _, rfl⟩⟩
    · exact .inr ⟨_, .inr ⟨_, rfl⟩⟩

theorem State.acts_rampTick (s : State) : s.Acts s.rampTick := by
  rcases s.rampTick_cases with h | ⟨v, ⟨cause, e, r, h⟩ | ⟨ramp, h⟩⟩ <;> rw [h]
  · exact State.Acts.refl s
  · exact (s.acts_setFld (by decide) 0 16 v).trans (State.acts_doff ..)
  · have hset (t : State) : t.Acts { t with safe := { t.safe with ramp := ramp } } := ⟨rfl, id, id, fun h => ⟨h, rfl⟩⟩
    exact (s.acts_setFld (by decide) 0 16 v).trans (hset _)

theorem State.acts_offTestTick (s : State) : s.Acts s.offTestTick := by
  have hshow (t : State) (h : s.Acts t) : s.Acts t.outShow := h.trans ⟨rfl, id, id, fun ht => ⟨ht.outShow, ht.rd_outShow (by decide)⟩⟩
  unfold State.offTestTick
  extract_lets quiet
  split
  · exact ⟨rfl, id, id, fun h => ⟨h, rfl⟩⟩
  · split
    · exact hshow _ ⟨rfl, fun h => absurd h Bool.false_ne_true, id, fun h => ⟨h, rfl⟩⟩
    · split
      · exact hshow _ ⟨rfl, id, fun h => absurd h Bool.false_ne_true, fun h => ⟨h, rfl⟩⟩
      · exact State.Acts.refl s

theorem State.acts_injectAfter (s : State) (seen : List Nat) : s.Acts (s.injectAfter seen) := ⟨rfl, id, id, fun h => ⟨h, rfl⟩⟩

theorem State.acts_askRun (s : State) : s.Acts s.askRun := by
  obtain ⟨-, -, hpins⟩ := State.askRun_leaves (s := s)
  exact ⟨State.askRun_apart, by rw [hpins]; exact id, by rw [hpins]; exact id, fun h => ⟨h.askRun, State.rd_eq_of_par State.askRun_par _⟩⟩

theorem State.latchedOut_of_rd (h : t.rd 0x3100 = s.rd 0x3100) (hs : s.LatchedOut) : t.LatchedOut := by
  rw [State.LatchedOut, State.bit, State.bit, h]
  exact hs

theorem State.Stored.rampTick_halted (hs : s.Stored) (hd : s.OutputsDown) (hl : s.LatchedOut) : s.rampTick.OutputsDown ∧ s.rampTick.LatchedOut := by
  rcases s.rampTick_cases with hr | ⟨v, ⟨cause, e, r, hr⟩ | ⟨ramp, hr⟩⟩
  · rw [hr]
    exact ⟨hd, hl⟩
  · rw [hr]
    exact ⟨State.doff_down .., ((hs.setFld ..).doff_status ..).1⟩
  · rw [hr]
    exact ⟨hd, State.latchedOut_of_rd (State.rd_setFld_ne hs _ _ _ _ _ (by decide)) hl⟩

theorem State.offTestTick_of_open (h : s.safe.phase = 0) : s.offTestTick = s := by
  simp [State.offTestTick, h]

/-! ## The tick as a whole (R351) -/

/-- A function that trips now demands at once. -/
def newTrip (cause : BitVec 4) {w : Nat} (now old : BitVec w) : List (BitVec 4 × Bool) := if (now &&& ~~~ old) != 0 then [(cause, true)] else []

theorem mem_newTrip {cause : BitVec 4} {w : Nat} {now old : BitVec w} (h : now &&& ~~~ old ≠ 0) : (cause, true) ∈ newTrip cause now old := by
  rw [newTrip, if_pos (bne_iff_ne.2 h)]
  exact List.mem_singleton_self _

/-- The demands of a tick between two states of the functions, those of the inputs last. -/
def State.trips (s1 s4 : State) : List (BitVec 4 × Bool) :=
  newTrip 1 s4.safe.ov s1.safe.ov ++ newTrip 2 s4.safe.uv s1.safe.uv ++ newTrip 3 s4.safe.ot s1.safe.ot ++ newTrip 4 s4.safe.oc s1.safe.oc
    ++ s4.inputTick.2

/-- `sf.status` shows which functions are tripped (R364). -/
def State.tripsShown (s : State) : State :=
  (((s.setBit 0x3100 0 (s.safe.ov != 0)).setBit 0x3100 1 (s.safe.uv != 0)).setBit 0x3100 2 (s.safe.ot != 0)).setBit 0x3100 3 (s.safe.oc != 0)

/-- The demand that wins is made. -/
def State.demanded (s : State) (l : List (BitVec 4 × Bool)) : State :=
  match chooseDemand l with
  | some d => s.ownDemand d.1 d.2 s.activeBits
  | none => s

/-- The tick after its demand. -/
def State.tickEnd (s : State) (seen : List Nat) : State := (s.rampTick.offTestTick).injectAfter seen

theorem safetyTick_of_down (h : s.up = false) : safetyTick s = s := if_pos (by simp [h])

theorem safetyTick_of_up (h : s.up = true) : ∃ seen : List Nat, safetyTick s =
    let s7 := (s.counted.judged.inputTick.1.tripsShown.demanded (State.trips s.counted s.counted.judged)).tickEnd seen
    if (State.trips s.counted s.counted.judged).isEmpty then s7 else s7.askRun :=
  by
  unfold safetyTick
  rw [if_neg (by simp [h])]
  extract_lets seen s0 src s1 s2 s3 s4 i new fresh trips s5 s6 s7
  have h1 : s1 = s.counted := rfl
  have h4 : s4 = s1.judged := rfl
  have htrips : trips = State.trips s1 s4 := rfl
  have h5 : s5 = s4.inputTick.1.tripsShown := rfl
  have h6 : s6 = s5.demanded trips := rfl
  have h7 : s7 = s6.tickEnd seen := rfl
  refine ⟨seen, ?_⟩
  rw [← h1, ← h4, ← htrips, ← h5, ← h6, ← h7]

theorem State.acts_tripsShown (s : State) : s.Acts s.tripsShown :=
  (((s.acts_setFld (by decide) _ _ _).trans (State.acts_setFld _ (by decide) _ _ _)).trans (State.acts_setFld _ (by decide) _ _ _)).trans
    (State.acts_setFld _ (by decide) _ _ _)

theorem State.acts_demanded (s : State) (l : List (BitVec 4 × Bool)) : s.Acts (s.demanded l) := by
  unfold State.demanded
  split
  · exact State.acts_ownDemand ..
  · exact State.Acts.refl s

theorem State.acts_tickEnd (s : State) (seen : List Nat) : s.Acts (s.tickEnd seen) :=
  (s.acts_rampTick.trans (State.acts_offTestTick _)).trans (State.acts_injectAfter _ _)

/-- After the inputs a tick only acts. -/
theorem safetyTick_acts (h : s.up = true) : s.counted.judged.inputTick.1.Acts (safetyTick s) := by
  obtain ⟨seen, ht⟩ := safetyTick_of_up h
  have h7 := (s.counted.judged.inputTick.1.acts_tripsShown.trans
    (State.acts_demanded _ (State.trips s.counted s.counted.judged))).trans (State.acts_tickEnd _ seen)
  rw [ht]
  dsimp only
  split
  · exact h7
  · exact h7.trans (State.acts_askRun _)

theorem State.demanded_of_immediate {l : List (BitVec 4 × Bool)} {c : BitVec 4} (h : (c, true) ∈ l) :
    ∃ c', s.demanded l = s.ownDemand c' true s.activeBits := by
  obtain ⟨c', hc⟩ := chooseDemand_of_immediate h
  exact ⟨c', by rw [State.demanded, hc]⟩

theorem State.Stored.tickEnd_halted (hs : s.Stored) (hd : s.OutputsDown) (hl : s.LatchedOut) (seen : List Nat) :
    (s.tickEnd seen).OutputsDown ∧ (s.tickEnd seen).LatchedOut := by
  obtain ⟨hd', hl'⟩ := hs.rampTick_halted hd hl
  rw [State.tickEnd, State.offTestTick_of_open hd'.2.2]
  exact ⟨hd', hl'⟩

theorem State.askRun_halted (hd : s.OutputsDown) (hl : s.LatchedOut) : s.askRun.OutputsDown ∧ s.askRun.LatchedOut := by
  obtain ⟨-, -, hpins⟩ := State.askRun_leaves (s := s)
  refine ⟨?_, State.latchedOut_of_rd (State.rd_eq_of_par State.askRun_par _) hl⟩
  rw [State.OutputsDown, hpins, State.askRun_safe]
  exact hd

/-- A trip turns the outputs off, and in Watch asks for Run (R48, R354, R355). -/
theorem safetyTick_of_trip (hu : s.up = true) (hs : s.counted.judged.inputTick.1.Stored) {c : BitVec 4}
    (hc : (c, true) ∈ State.trips s.counted s.counted.judged) : (safetyTick s).OutputsDown ∧ (safetyTick s).LatchedOut ∧
      ∃ u : State, u.apart = s.counted.judged.inputTick.1.apart ∧ safetyTick s = u.askRun := by
  obtain ⟨seen, ht⟩ := safetyTick_of_up hu
  obtain ⟨c', hd⟩ := State.demanded_of_immediate (s := s.counted.judged.inputTick.1.tripsShown) hc
  have hne : ¬ (State.trips s.counted s.counted.judged).isEmpty = true := by
    rw [List.isEmpty_iff]
    exact List.ne_nil_of_mem hc
  have hshown := State.acts_tripsShown s.counted.judged.inputTick.1
  have hst : s.counted.judged.inputTick.1.tripsShown.Stored := (hshown.2.2.2 hs).1
  have hacts := (hshown.trans (State.acts_demanded _ (State.trips s.counted s.counted.judged))).trans (State.acts_tickEnd _ seen)
  rw [ht]
  dsimp only
  rw [if_neg hne]
  have hlatched : (s.counted.judged.inputTick.1.tripsShown.demanded (State.trips s.counted s.counted.judged)).OutputsDown ∧
      (s.counted.judged.inputTick.1.tripsShown.demanded (State.trips s.counted s.counted.judged)).LatchedOut ∧
      (s.counted.judged.inputTick.1.tripsShown.demanded (State.trips s.counted s.counted.judged)).Stored := by
    rw [hd]
    exact ⟨State.ownDemand_down (.inl rfl), hst.ownDemand_latched (.inl rfl), hst.ownDemand⟩
  obtain ⟨hdown, hlatch, hstored⟩ := hlatched
  obtain ⟨hdown', hlatch'⟩ := hstored.tickEnd_halted hdown hlatch seen
  obtain ⟨hend, hendl⟩ := State.askRun_halted hdown' hlatch'
  exact ⟨hend, hendl, _, hacts.1, rfl⟩

theorem State.mem_trips {s1 s4 : State} (h : s4.safe.ov &&& ~~~ s1.safe.ov ≠ 0 ∨ s4.safe.uv &&& ~~~ s1.safe.uv ≠ 0 ∨
    s4.safe.ot &&& ~~~ s1.safe.ot ≠ 0 ∨ s4.safe.oc &&& ~~~ s1.safe.oc ≠ 0) : ∃ c, (c, true) ∈ State.trips s1 s4 := by
  simp only [State.trips, List.mem_append]
  rcases h with h | h | h | h
  · exact ⟨1, .inl (.inl (.inl (.inl (mem_newTrip h))))⟩
  · exact ⟨2, .inl (.inl (.inl (.inr (mem_newTrip h))))⟩
  · exact ⟨3, .inl (.inl (.inr (mem_newTrip h)))⟩
  · exact ⟨4, .inl (.inr (mem_newTrip h))⟩

/-- What stands of the state before a tick once its samples are taken. -/
theorem State.counted_leaves (s : State) :
    s.counted.judgeView = (s.pins, s.seq, s.tmr, s.pwr, s.safe.ticks + 1, [], s.safe.inA, s.safe.inB) ∧
      (s.counted.safe.ov = s.safe.ov ∧ s.counted.safe.uv = s.safe.uv ∧ s.counted.safe.ot = s.safe.ot ∧ s.counted.safe.oc = s.safe.oc) ∧
      s.counted.par = s.par := by
  have h := s.takeTick.restTick_leaves
  unfold State.counted
  rw [h]
  exact ⟨rfl, ⟨rfl, rfl, rfl, rfl⟩, rfl⟩

theorem State.Stored.counted (h : s.Stored) : s.counted.Stored := h.takeTick.restTick.frame

end

/-- Settles O52: the judging leaves the leads, the tick after it only acts, and a trip's demand wins. -/
theorem safetyTicks : Obligations.SafetyTicks := by
  unfold Obligations.SafetyTicks
  intro s
  refine ⟨fun h => congrArg Host.Outcome.next (safetyTick_of_down h), fun hu hs => ?_⟩
  obtain ⟨hcview, ⟨hov, huv, hot, hoc⟩, hpar⟩ := s.counted_leaves
  obtain ⟨hjview, hjudged⟩ := s.counted.judged_judges
  obtain ⟨hjst, hjrd⟩ := hjudged hs.counted
  obtain ⟨hiview, ⟨hiov, hiuv, hiot, hioc⟩, hiword⟩ := s.counted.judged.inputTick_leaves
  have hist := hjst.inputTick_fst
  obtain ⟨hap, hH, hL, hkeep⟩ := safetyTick_acts hu
  have hview : s.counted.judged.inputTick.1.judgeView = (s.pins, s.seq, s.tmr, s.pwr, s.safe.ticks + 1, [], s.safe.inA, s.safe.inB) :=
    hiview.trans (hjview.trans hcview)
  have hpins : s.counted.judged.inputTick.1.pins = s.pins := congrArg (·.1) hview
  have hpwr : s.counted.judged.inputTick.1.pwr = s.pwr := congrArg (·.2.2.2.1) hview
  have hjin : s.counted.judged.safe.inA = s.safe.inA ∧ s.counted.judged.safe.inB = s.safe.inB :=
    ⟨congrArg (·.2.2.2.2.2.2.1) (hjview.trans hcview), congrArg (·.2.2.2.2.2.2.2) (hjview.trans hcview)⟩
  have hjrd' : s.counted.judged.rd 0x3126 = s.rd 0x3126 := hjrd.trans (State.rd_eq_of_par hpar _)
  have hword := (hkeep hist).2.trans (hiword hjst)
  refine ⟨_, rfl, ?_, ?_, fun h => ?_, fun h => ?_, ?_, ?_, ?_, fun htrip => ?_, ?_⟩
  · exact (congrArg (·.1.ticks) hap).trans (congrArg (·.2.2.2.2.1) hview)
  · exact (congrArg (·.1.now) hap).trans (congrArg (·.2.2.2.2.2.1) hview)
  · rw [← hpins]
    exact hH h
  · rw [← hpins]
    exact hL h
  · exact (congrArg (·.2.1.tmpOut) hap).trans (congrArg (·.1.tmpOut) hview)
  · exact (congrArg (·.2.2.2.1) hap).trans (congrArg (·.2.1) hview)
  · exact (congrArg (·.2.2.2.2.1) hap).trans (congrArg (·.2.2.1) hview)
  · have htov : (safetyTick s).safe.ov = s.counted.judged.safe.ov := (congrArg (·.1.ov) hap).trans hiov
    have htuv : (safetyTick s).safe.uv = s.counted.judged.safe.uv := (congrArg (·.1.uv) hap).trans hiuv
    have htot : (safetyTick s).safe.ot = s.counted.judged.safe.ot := (congrArg (·.1.ot) hap).trans hiot
    have htoc : (safetyTick s).safe.oc = s.counted.judged.safe.oc := (congrArg (·.1.oc) hap).trans hioc
    rw [htov, htuv, htot, htoc, ← hov, ← huv, ← hot, ← hoc] at htrip
    obtain ⟨c, hc⟩ := State.mem_trips htrip
    obtain ⟨⟨h1, h2, h3⟩, ⟨h5, h4⟩, u, hua, ht⟩ := safetyTick_of_trip hu hist hc
    refine ⟨h1, h2, h3, h5, h4, fun hw hh => ?_⟩
    have hmode : u.pwr.mode = .watch := ((congrArg (·.2.2.1.mode) hua).trans (congrArg Power.mode hpwr)).trans hw
    have hhat : u.pwr.hatbox = .none := ((congrArg (·.2.2.1.hatbox) hua).trans (congrArg Power.hatbox hpwr)).trans hh
    rw [ht, State.askRun_request, if_pos ⟨hmode, hhat⟩]
  · have hshown := State.inputs_of_word hword
    have hcount : s.counted.judged.fld 0x3126 16 16 = s.fld 0x3126 16 16 := congrArg (bitsOf · 16 16) hjrd'
    have hcycle : s.counted.judged.bit 0x3126 6 = s.bit 0x3126 6 := congrArg (·.getLsbD 6) hjrd'
    rw [hjin.1, hjin.2, hcount, hcycle] at hshown
    exact hshown

end Sys2Proof.Machine
end

section
/-! PROOFS. Chisel slices: start, pass, repeat, not run, and a lasting failure of the converter checks (R389 to R396, R405). -/
namespace Sys2Proof.Machine

section
variable {s t : State}

/-! ## What leaves Chisel alone -/

@[simp] theorem State.balRefresh_chis (s : State) : s.balRefresh.chis = s.chis := rfl
@[simp] theorem State.outShow_chis (s : State) : s.outShow.chis = s.chis := rfl
@[simp] theorem State.leadsOff_chis (s : State) : s.leadsOff.chis = s.chis := rfl
@[simp] theorem State.seqPhase_chis (p : SeqPhase) : (s.seqPhase p).chis = s.chis := rfl
@[simp] theorem State.takeTc_chis (es : List Entry) : (s.takeTc es).chis = s.chis := rfl
@[simp] theorem State.seqLoadEvent_chis (when_ watch : Bool) : (s.seqLoadEvent when_ watch).chis = s.chis := State.raise_chis ..
@[simp] theorem State.stateChg_chis (old new : Mode) (gc : BitVec 4) : (s.stateChg old new gc).chis = s.chis := State.raise_chis ..
@[simp] theorem State.thermRestart_chis : s.thermRestart.chis = s.chis := rfl
@[simp] theorem State.reqRun_chis : s.reqRun.chis = s.chis := rfl
@[simp] theorem State.patinaStop_chis : s.patinaStop.chis = s.chis := rfl
@[simp] theorem State.shortNone_chis : s.shortNone.chis = s.chis := rfl

@[simp] theorem State.unblank_chis : s.unblank.chis = s.chis := by
  unfold State.unblank
  extract_lets t
  split <;> rfl

@[simp] theorem State.seqStop_chis : s.seqStop.chis = s.chis := State.unblank_chis

@[simp] theorem State.tableStart_chis (p : SeqPhase) (gap : Bool) : (s.tableStart p gap).chis = s.chis := State.unblank_chis

@[simp] theorem State.activeStart_chis (gap : Bool) : (s.activeStart gap).chis = s.chis := by
  unfold State.activeStart
  split <;> simp

@[simp] theorem State.activeAgain_chis : s.activeAgain.chis = s.chis := by
  unfold State.activeAgain
  extract_lets t
  split <;> simp [t]

@[simp] theorem State.patinaAbort_chis (status : Byte) : (s.patinaAbort status).chis = s.chis := by
  unfold State.patinaAbort
  split
  · rfl
  · extract_lets _ t u
    have hu : u.chis = s.chis := by
      dsimp only [u]
      split
      · exact State.activeAgain_chis
      · rfl
    rw [State.complete_chis, State.raise_chis, hu]

@[simp] theorem State.impStop_chis : s.impStop.chis = s.chis := by
  unfold State.impStop
  extract_lets claims stopped shown
  have hstop : stopped.chis = s.chis := by
    dsimp only [stopped]
    refine foldl_keeps State.chis _ ?_ _ _
    exact fun _ _ => rfl
  have hshown : shown.chis = stopped.chis := by
    dsimp only [shown]
    refine foldl_keeps State.chis _ ?_ _ _
    exact fun _ _ => rfl
  exact hshown.trans hstop

/-- The mode of an entry to Guard (R46). -/
def State.guardTurn (s : State) (cause : BitVec 4) : State :=
  { s with pwr := { s.pwr with mode := .guard, gcause := cause, request := none, hatbox := .none, stopping := false }
           nv := { s.nv with hold := false } }

theorem State.guardTurn_chis (cause : BitVec 4) (old : Mode) :
    (((s.guardTurn cause).reqRun.seqStop.impStop.thermRestart).stateChg old .guard cause).chis = s.chis := by
  rw [State.stateChg_chis, State.thermRestart_chis, State.impStop_chis, State.seqStop_chis, State.reqRun_chis]
  rfl

theorem State.enterGuard_chis (hm : s.pwr.mode = .run ∨ s.pwr.mode = .watch) (cause : BitVec 4) : (s.enterGuard cause).chis = s.chis := by
  have hu : ((s.leadsOff.patinaAbort stRefused).patinaStop).chis = s.chis := by simp
  unfold State.enterGuard
  rcases hm with hm | hm <;> rw [hm] <;> exact (State.guardTurn_chis cause _).trans hu

/-! ## The records of the slices -/

theorem nth_alter_same {α : Type} (l : List α) (i : Nat) (f : α → α) (d : α) (hi : i < l.length) : nth (alter l i f) i d = f (nth l i d) := by
  induction l generalizing i with
  | nil => exact absurd hi (Nat.not_lt_zero i)
  | cons x l ih =>
    cases i with
    | zero => rfl
    | succ i => exact ih i (Nat.lt_of_succ_lt_succ hi)

theorem length_alter {α : Type} (l : List α) (i : Nat) (f : α → α) : (alter l i f).length = l.length := by
  induction l generalizing i with
  | nil => rfl
  | cons x l ih =>
    cases i with
    | zero => rfl
    | succ i => exact congrArg (· + 1) (ih i)

theorem State.slice_of_slices (h : t.chis.slices = s.chis.slices) (i : Nat) : t.slice i = s.slice i := congrArg (nth · i _) h

theorem State.slice_setSlice {i : Nat} (f : Slice → Slice) (hi : i < s.chis.slices.length) : (s.setSlice i f).slice i = f (s.slice i) :=
  nth_alter_same _ _ _ _ hi

theorem State.length_setSlice (i : Nat) (f : Slice → Slice) : (s.setSlice i f).chis.slices.length = s.chis.slices.length := length_alter ..

/-! ## CHISEL_SLICE_START (R389 to R393) -/

theorem chiselSliceStart_of_idle (h : s.up = false ∨ s.chis.busy = true) : chiselSliceStart s = s :=
  if_pos (by rcases h with h | h <;> simp [h])

theorem State.sliceWaits (h0 : s.chis.next ≠ 0) (h : s.clk.ref.toNat < s.sliceDue s.chis.next) : chiselSliceStart s = s := by
  refine if_pos ?_
  have hdue : (if s.chis.next = 0 ∧ s.chis.fullDue = true then 0 else s.sliceDue s.chis.next) = s.sliceDue s.chis.next :=
    if_neg fun hc => h0 hc.1
  simp [hdue, h]

/-- An attempt of slice `i` begins. -/
def State.attemptBegin (s : State) (i : Nat) : State :=
  ({ s with chis := { s.chis with busy := true, repeat_ := false, aborted := false, found := [] } }.chisShow i).sliceHold i

theorem chiselSliceStart_eq (s : State) : chiselSliceStart s =
    let i := s.chis.next
    let due := if i = 0 ∧ s.chis.fullDue = true then 0 else s.sliceDue i
    let s1 := if i = 0 then s.roundBegin else s
    if !(s.up && !s.chis.busy) || decide (s.clk.ref.toNat < due) || s.shortsWait i then s
    else if (s1.slice i).retired then s1.sliceNext i else s1.attemptBegin i := rfl

theorem chiselSliceStart_of_due (hu : s.up = true) (hb : s.chis.busy = false) (h0 : s.chis.next ≠ 0)
    (hd : s.sliceDue s.chis.next ≤ s.clk.ref.toNat)
    (hw : s.shortsWait s.chis.next = false) : chiselSliceStart s =
      if (s.slice s.chis.next).retired then s.sliceNext s.chis.next else s.attemptBegin s.chis.next := by
  have hdue : (if s.chis.next = 0 ∧ s.chis.fullDue = true then 0 else s.sliceDue s.chis.next) = s.sliceDue s.chis.next :=
    if_neg fun hc => h0 hc.1
  rw [chiselSliceStart_eq]
  dsimp only
  rw [hdue, if_neg h0]
  exact if_neg (by simp [hu, hb, hw, hd])

theorem State.sliceNext_chis (s : State) (i : Nat) : (s.sliceNext i).chis.busy = s.chis.busy ∧ (s.sliceNext i).chis.slices = s.chis.slices ∧
    (s.sliceNext i).chis.next = (if i < 47 then i + 1 else 0) := by
  unfold State.sliceNext
  by_cases h : i + 1 < 48
  · rw [if_pos h, if_pos (by omega)]
    exact ⟨rfl, rfl, rfl⟩
  · have h47 : ¬ i < 47 := by omega
    rw [if_neg h, if_neg h47]
    exact ⟨rfl, rfl, rfl⟩

/-! ## What an attempt's end goes through -/

/-- Chisel, the leads and the mode. -/
def State.endView (s : State) : Chisel × Pins × Power := (s.chis, s.pins, s.pwr)

theorem State.balRefresh_endView (s : State) : s.balRefresh.endView = s.endView := rfl

theorem State.raiseC_endView (s : State) (n : Nat) (data : Word) (cleared : Bool) : (s.raiseC n data cleared).endView = s.endView := by
  simp [State.endView]

theorem State.lineClean_endView (s : State) (k : Nat) (pattern : Bool) : (s.lineClean k pattern).endView = s.endView := by
  unfold State.lineClean
  split
  · rfl
  · split
    · rfl
    · extract_lets n
      split
      · rfl
      · exact State.raiseC_endView ..

theorem State.lineRound_endView (i res : Nat) (finds : List Nat) : (s.lineRound i res finds).endView = s.endView := by
  unfold State.lineRound
  split
  · exact foldl_keeps State.endView _ (fun t k => t.lineClean_endView k _) _ _
  · rfl

theorem State.sliceBit_endView (id i : Nat) (b : Bool) : (s.sliceBit id i b).endView = s.endView := rfl

/-- The result of an attempt noted in its record. -/
def State.attemptNoted (s : State) (r : SliceIn) : State :=
  s.setSlice s.chis.next fun x => { x with
    result := BitVec.ofNat 2 (s.sliceResult s.chis.next r), count := r.outcomes.length, sig := sliceSig r.outcomes, time := s.stamp.2,
    timeLocal := s.stamp.1, notruns := if s.sliceResult s.chis.next r = 3 then min 4 (x.notruns + 1) else 0 }

/-- An attempt judged, before what its result brings. -/
def State.attemptJudged (s : State) (r : SliceIn) : State :=
  ((s.attemptNoted r).lineRound s.chis.next (s.sliceResult s.chis.next r) (s.sliceFinds s.chis.next r)).sliceBit 0x3208 s.chis.next
    (decide (s.sliceResult s.chis.next r = 3))

variable {r : SliceIn}

theorem State.attemptJudged_endView : (s.attemptJudged r).endView = (s.attemptNoted r).endView :=
  (State.sliceBit_endView ..).trans (State.lineRound_endView ..)

/-- An attempt that was not run (R396). -/
def State.attemptMissed (s : State) (r : SliceIn) : State :=
  (s.attemptJudged r).raise 87 (pack [(0, 6, s.chis.next), (8, 3, ((s.attemptJudged r).slice s.chis.next).notruns)])

theorem State.attemptEnd_eq (s : State) (r : SliceIn) : s.attemptEnd r =
    if s.sliceResult s.chis.next r = 3 then
      (if ((s.attemptJudged r).slice s.chis.next).notruns = 4 then (s.attemptMissed r).lastingFail s.chis.next 3 r [] else s.attemptMissed r).sliceDone
        s.chis.next
    else
      let s3 := (s.attemptJudged r).sliceBit 0x3204 s.chis.next (decide (s.sliceResult s.chis.next r = 0))
      if s.sliceResult s.chis.next r = 0 then
        let s4 := s3.setSlice s.chis.next fun x => { x with lasting := false }
        (if s.chis.repeat_ then s4.transient 5 1 else s4).sliceDone s.chis.next
      else if s.chis.repeat_ then
        (s3.lastingFail s.chis.next (s.sliceResult s.chis.next r) r ((s.sliceFinds s.chis.next r).filter fun e =>
          s.chis.found.contains e || !(decide (10 ≤ s.chis.next) && decide (s.chis.next ≤ 18)))).sliceDone s.chis.next
      else { s3 with chis := { s3.chis with repeat_ := true, found := s.sliceFinds s.chis.next r } } := rfl

/-! ## The result of an attempt (R393 to R395) -/

variable {i : Nat}

theorem State.sliceResult_of_aborted (h : s.chis.aborted = true) : s.sliceResult i r = 3 := if_pos h

theorem State.sliceResult_of_short (h : s.chis.aborted = false) (hl : r.outcomes.length < s.sliceSteps i) : s.sliceResult i r = 2 :=
  (if_neg (Bool.eq_false_iff.1 h)).trans (if_pos hl)

theorem State.sliceResult_of_good (h : s.chis.aborted = false) (ho : r.outcomes = copies (s.sliceSteps i) 0) (hf : s.sliceFinds i r = []) :
    s.sliceResult i r = 0 := by
  have hlen : r.outcomes.length = s.sliceSteps i := by simp [ho, copies]
  refine (if_neg (Bool.eq_false_iff.1 h)).trans ((if_neg (by omega)).trans (if_pos ?_))
  rw [hlen, ho, hf]
  simp

theorem State.slice_attemptJudged (hi : s.chis.next < s.chis.slices.length) : (s.attemptJudged r).slice s.chis.next =
    { s.slice s.chis.next with
      result := BitVec.ofNat 2 (s.sliceResult s.chis.next r), count := r.outcomes.length, sig := sliceSig r.outcomes, time := s.stamp.2,
      timeLocal := s.stamp.1, notruns := if s.sliceResult s.chis.next r = 3 then min 4 ((s.slice s.chis.next).notruns + 1) else 0 } :=
  (State.slice_of_slices (congrArg (·.1.slices) State.attemptJudged_endView) _).trans (State.slice_setSlice _ hi)

theorem State.length_attemptJudged (s : State) (r : SliceIn) : (s.attemptJudged r).chis.slices.length = s.chis.slices.length :=
  (congrArg (·.1.slices.length) State.attemptJudged_endView).trans (State.length_setSlice ..)

/-! ## The end of a slice (R389, R391, R398) -/

theorem State.sliceFree_endView (s : State) (i : Nat) : (s.sliceFree i).endView = s.endView := by
  unfold State.sliceFree
  extract_lets _ t
  split <;> rfl

theorem State.marchOn_endView (s : State) (i : Nat) : (s.marchOn i).endView = s.endView := by
  unfold State.marchOn
  split
  · rfl
  · split
    · rfl
    · split
      · rfl
      · split <;> rfl

/-- The place in a round after a slice that was not its last. -/
def Chisel.moved (c : Chisel) (i : Nat) : Chisel := { c with busy := false, repeat_ := false, aborted := false, found := [], next := i + 1 }

theorem State.testResume_leaves (s : State) : s.testResume.chis = s.chis ∧ s.testResume.pwr = s.pwr ∧
    (s.pins.safeH = false → s.testResume.pins.safeH = false) ∧ (s.pins.safeL = false → s.testResume.pins.safeL = false) := by
  unfold State.testResume
  extract_lets w _ t
  split
  · split
    · exact ⟨rfl, rfl, fun _ => rfl, id⟩
    · split
      · exact ⟨rfl, rfl, id, fun _ => rfl⟩
      · exact ⟨rfl, rfl, id, id⟩
  · exact ⟨rfl, rfl, id, id⟩

theorem State.sliceDone_leaves (s : State) (hi : i < 47) : (s.sliceDone i).chis = s.chis.moved i ∧ (s.sliceDone i).pwr = s.pwr ∧
    (s.pins.safeH = false → (s.sliceDone i).pins.safeH = false) ∧ (s.pins.safeL = false → (s.sliceDone i).pins.safeL = false) := by
  unfold State.sliceDone
  extract_lets t
  have ht : t.endView = s.endView := (State.marchOn_endView ..).trans (State.sliceFree_endView ..)
  have hpins : t.pins = s.pins := congrArg (·.2.1) ht
  have hnext (u : State) : u.sliceNext i = { u with chis := { u.chis with next := i + 1 } }.chisShow i := if_pos (by omega)
  rw [hnext]
  obtain ⟨hc, hp, hH, hL⟩ := State.testResume_leaves (({ t with
    chis := { t.chis with busy := false, repeat_ := false, aborted := false, found := [], next := i + 1 } } : State).chisShow i)
  refine ⟨hc.trans (congrArg (·.1.moved i) ht), hp.trans (congrArg (·.2.2) ht), fun h => hH ?_, fun h => hL ?_⟩
  · rw [← hpins] at h
    exact h
  · rw [← hpins] at h
    exact h

theorem State.slice_sliceDone (s : State) (hi : i < 47) (k : Nat) : (s.sliceDone i).slice k = s.slice k := by
  obtain ⟨hc, -⟩ := s.sliceDone_leaves hi
  exact State.slice_of_slices (congrArg (·.slices) hc) k

/-! ## A lasting failure of the converter checks (R392, R395, R405) -/

theorem State.channelFault_leaves (hm : s.pwr.mode = .run ∨ s.pwr.mode = .watch) (row detail : Nat) :
    (s.channelFault row detail).chis.slices = s.chis.slices ∧ (s.channelFault row detail).pwr.mode = .guard ∧
      (s.channelFault row detail).pwr.gcause = 4 ∧ (s.channelFault row detail).pins.safeH = false ∧
      (s.channelFault row detail).pins.safeL = false := by
  have hap := State.ownDemand_apart (s := s.raise 77 (pack [(0, 5, row), (8, 8, detail)])) (cause := 9) (immediate := true) (bits := 0x100)
  rw [State.raise_apart] at hap
  have hmode := congrArg (·.2.2.1.mode) hap
  have hslices := congrArg (·.2.2.2.2.2.slices) hap
  unfold State.channelFault
  generalize (s.raise 77 (pack [(0, 5, row), (8, 8, detail)])).ownDemand 9 true 0x100 = u at hmode hslices ⊢
  have hon : u.pwr.mode = .run ∨ u.pwr.mode = .watch := by
    rcases hm with hm | hm
    · exact .inl (Eq.trans hmode hm)
    · exact .inr (Eq.trans hmode hm)
  have hst := State.enterGuard_stands hon 4
  simp only [State.Stands, Prod.mk.injEq] at hst
  obtain ⟨-, hg, hc, hH, hL⟩ := hst
  exact ⟨(congrArg Chisel.slices (State.enterGuard_chis hon 4)).trans hslices, hg, hc, hH, hL⟩

theorem State.reaction_of_converter (h6 : 6 ≤ i) (h9 : i ≤ 9) (result : Nat) (both : List Nat) :
    s.reaction i result r both = (s.chiselFail i result false 1).channelFault 2 i := by
  unfold State.reaction
  rw [if_neg (by omega), if_neg (by omega), if_neg (by omega), if_neg (by omega), if_pos (.inl h9)]

theorem State.ownReaction_of_converter (h9 : i ≤ 9) (both : List Nat) : s.ownReaction i both = s := by
  unfold State.ownReaction
  rw [if_neg (by omega), if_neg (by omega), if_neg (by omega)]

/-- A first lasting failure of the converter checks: its mark, and the channel fault. -/
theorem State.lastingFail_of_converter (h6 : 6 ≤ i) (h9 : i ≤ 9) (hl : (s.slice i).lasting = false) (result : Nat) (both : List Nat) :
    s.lastingFail i result r both =
      (((s.sliceBit 0x3206 i true).setSlice i fun x => { x with lasting := true }).chiselFail i result false 1).channelFault 2 i := by
  have hl' : ¬ ((s.sliceBit 0x3206 i true).slice i).lasting = true := Bool.eq_false_iff.1 hl
  unfold State.lastingFail
  rw [State.ownReaction_of_converter h9]
  dsimp only
  rw [if_neg hl', State.reaction_of_converter h6 h9]

theorem chiselSliceEnd_of_none (h : s.up = false ∨ s.chis.busy = false) : chiselSliceEnd r s = s := if_neg (by rcases h with h | h <;> simp [h])
theorem exec_chiselSliceEnd (h : chiselSliceEnd r s = t) : exec (.chiselSliceEnd r) s = .next t.settle := by
  rw [← h]
  rfl

theorem chiselSliceEnd_of_busy (hu : s.up = true) (hb : s.chis.busy = true) : chiselSliceEnd r s = s.attemptEnd r := if_pos (by simp [hu, hb])

/-! ## The four ends of an attempt -/

theorem State.attemptEnd_of_pass (h : s.sliceResult s.chis.next r = 0) : ∃ u : State, s.attemptEnd r = u.sliceDone s.chis.next ∧
    u.chis = ((s.attemptJudged r).setSlice s.chis.next fun x => { x with lasting := false }).chis := by
  rw [State.attemptEnd_eq, if_neg (by omega)]
  dsimp only
  rw [if_pos h]
  refine ⟨_, rfl, ?_⟩
  split
  · exact State.transient_chis ..
  · rfl

theorem State.attemptEnd_of_first (h : s.sliceResult s.chis.next r = 2) (hr : s.chis.repeat_ = false) : ∃ u : State,
    s.attemptEnd r = { u with chis := { u.chis with repeat_ := true, found := s.sliceFinds s.chis.next r } } ∧
      u.endView = (s.attemptJudged r).endView := by
  rw [State.attemptEnd_eq, if_neg (by omega)]
  dsimp only
  rw [if_neg (by omega), if_neg (Bool.eq_false_iff.1 hr)]
  exact ⟨_, rfl, rfl⟩

theorem State.attemptEnd_of_repeat (h : s.sliceResult s.chis.next r = 2) (hr : s.chis.repeat_ = true) : ∃ (u : State) (both : List Nat),
    s.attemptEnd r = (u.lastingFail s.chis.next 2 r both).sliceDone s.chis.next ∧ u.endView = (s.attemptJudged r).endView := by
  rw [State.attemptEnd_eq, if_neg (by omega)]
  dsimp only
  rw [if_neg (by omega), if_pos hr, h]
  exact ⟨_, _, rfl, rfl⟩

theorem State.attemptEnd_of_missed (h : s.sliceResult s.chis.next r = 3) (hk : ((s.attemptJudged r).slice s.chis.next).notruns ≠ 4) :
    s.attemptEnd r = (s.attemptMissed r).sliceDone s.chis.next := by
  rw [State.attemptEnd_eq, if_pos h, if_neg hk]

theorem State.attemptMissed_chis (s : State) (r : SliceIn) : (s.attemptMissed r).chis = (s.attemptJudged r).chis := State.raise_chis ..

end

/-- Settles O57: the records by what an attempt's end notes, the rest by what the end of a slice and a channel fault leave. -/
theorem slicesRun : Obligations.SlicesRun := by
  unfold Obligations.SlicesRun
  intro s
  refine ⟨fun h => congrArg Host.Outcome.next (chiselSliceStart_of_idle h), fun h0 h => congrArg Host.Outcome.next (State.sliceWaits h0 h),
    fun hu hb h0 hd hw => ⟨fun hr => ?_, fun hr => ?_⟩,
    fun r => ⟨fun h => exec_chiselSliceEnd (chiselSliceEnd_of_none h), fun hu hb hlen hn => ⟨fun ha ho hf => ?_, fun ha hrep hl => ?_,
      fun ha hk => ?_, fun ha hrep hl hlast h69 hm => ?_⟩⟩⟩
  · exact ⟨_, congrArg Host.Outcome.next ((chiselSliceStart_of_due hu hb h0 hd hw).trans (if_neg (Bool.eq_false_iff.1 hr))),
      rfl, rfl, rfl, rfl, rfl, rfl⟩
  · obtain ⟨hbusy, hslices, hnext⟩ := s.sliceNext_chis s.chis.next
    exact ⟨_, congrArg Host.Outcome.next ((chiselSliceStart_of_due hu hb h0 hd hw).trans (if_pos hr)), hbusy.trans hb, hslices, hnext⟩
  · have hi : s.chis.next < s.chis.slices.length := by omega
    obtain ⟨u, he, huc⟩ := State.attemptEnd_of_pass (State.sliceResult_of_good ha ho hf)
    obtain ⟨hc, -⟩ := u.sliceDone_leaves hn
    have hslice : (u.sliceDone s.chis.next).slice s.chis.next = { (s.attemptJudged r).slice s.chis.next with lasting := false } := by
      rw [u.slice_sliceDone hn, State.slice_of_slices (congrArg (·.slices) huc), State.slice_setSlice _ (s.length_attemptJudged r ▸ hi)]
    refine ⟨_, exec_chiselSliceEnd ((chiselSliceEnd_of_busy hu hb).trans he), ?_⟩
    rw [hslice, State.slice_attemptJudged hi, State.sliceResult_of_good ha ho hf, hc]
    exact ⟨rfl, rfl, rfl, by simp [ho, copies], rfl, rfl⟩
  · have hi : s.chis.next < s.chis.slices.length := by omega
    obtain ⟨u, he, huv⟩ := State.attemptEnd_of_first (State.sliceResult_of_short ha hl) hrep
    have hv := huv.trans (State.attemptJudged_endView (r := r))
    refine ⟨_, exec_chiselSliceEnd ((chiselSliceEnd_of_busy hu hb).trans he), ?_⟩
    have hslice := (State.slice_of_slices (congrArg (·.1.slices) huv) s.chis.next).trans (State.slice_attemptJudged hi)
    rw [State.sliceResult_of_short ha hl] at hslice
    refine ⟨congrArg Slice.result hslice, rfl, (congrArg (·.1.busy) hv).trans hb, congrArg (·.1.next) hv, rfl, congrArg (·.2.1.safeH) hv,
      congrArg (·.2.1.safeL) hv, congrArg (·.2.2) hv⟩
  · have hi : s.chis.next < s.chis.slices.length := by omega
    have hres := State.sliceResult_of_aborted (i := s.chis.next) (r := r) ha
    have hslice := State.slice_attemptJudged (r := r) hi
    rw [hres, if_pos rfl] at hslice
    have hn4 : ((s.attemptJudged r).slice s.chis.next).notruns = (s.slice s.chis.next).notruns + 1 := by
      rw [hslice]
      exact Nat.min_eq_right (by omega)
    have he := State.attemptEnd_of_missed hres (by omega)
    obtain ⟨hc, -⟩ := (s.attemptMissed r).sliceDone_leaves hn
    have hsl : ((s.attemptMissed r).sliceDone s.chis.next).slice s.chis.next = (s.attemptJudged r).slice s.chis.next := by
      rw [State.slice_sliceDone _ hn]
      exact State.slice_of_slices (congrArg (·.slices) (s.attemptMissed_chis r)) _
    refine ⟨_, exec_chiselSliceEnd ((chiselSliceEnd_of_busy hu hb).trans he), ?_, ?_, ?_⟩
    · rw [hsl, hslice]
      rfl
    · rw [hsl, hn4]
    · rw [hc]
      exact ⟨rfl, rfl, rfl⟩
  · have hi : s.chis.next < s.chis.slices.length := by omega
    obtain ⟨h6, h9⟩ := h69
    obtain ⟨u, both, he, huv⟩ := State.attemptEnd_of_repeat (State.sliceResult_of_short ha hl) hrep
    have hv := huv.trans (State.attemptJudged_endView (r := r))
    have hslice := (State.slice_of_slices (congrArg (·.1.slices) huv) s.chis.next).trans (State.slice_attemptJudged hi)
    have hul : (u.slice s.chis.next).lasting = false := (congrArg Slice.lasting hslice).trans hlast
    have hum : u.pwr.mode = .run ∨ u.pwr.mode = .watch := by rwa [show u.pwr = s.pwr from congrArg (·.2.2) hv]
    rw [State.lastingFail_of_converter h6 h9 hul] at he
    obtain ⟨hfs, hfm, hfc, hfH, hfL⟩ := State.channelFault_leaves (s := ((u.sliceBit 0x3206 s.chis.next true).setSlice s.chis.next fun x =>
      { x with lasting := true }).chiselFail s.chis.next 2 false 1) (by rw [State.chiselFail, State.raise_pwr]; exact hum) 2 s.chis.next
    rw [State.chiselFail, State.raise_chis] at hfs
    have hui : s.chis.next < u.chis.slices.length := by
      rw [show u.chis.slices.length = (s.attemptJudged r).chis.slices.length from congrArg (·.1.slices.length) huv, s.length_attemptJudged r]
      exact hi
    have hlasting := (State.slice_of_slices hfs s.chis.next).trans
      (State.slice_setSlice (s := u.sliceBit 0x3206 s.chis.next true) (fun x => { x with lasting := true }) hui)
    obtain ⟨-, hpwr, hH, hL⟩ := State.sliceDone_leaves (i := s.chis.next) (((u.sliceBit 0x3206 s.chis.next true).setSlice s.chis.next fun x =>
      { x with lasting := true }).chiselFail s.chis.next 2 false 1 |>.channelFault 2 s.chis.next) hn
    refine ⟨_, exec_chiselSliceEnd ((chiselSliceEnd_of_busy hu hb).trans he), ?_, hH hfH, hL hfL, (congrArg Power.mode hpwr).trans hfm,
      (congrArg Power.gcause hpwr).trans hfc⟩
    exact (congrArg Slice.lasting (State.slice_sliceDone _ hn _)).trans (congrArg Slice.lasting hlasting)

end Sys2Proof.Machine
end

section
/-! PROOFS. The key check, attestation, acceptance by an owner and the event log (R423, R427, R428, R432). -/
namespace Sys2Proof.Machine

section
variable {s : State} {src : Src} {q : Req}

/-! ## KEY_CHECK (R427) -/

theorem State.Stored.rd_transient (h : s.Stored) {j k : Nat} (hk : j ≠ 0x0118 + k) (hj : j ∉ countParams) (n : Nat) :
    (s.transient k n).rd j = s.rd j := by
  unfold State.transient
  extract_lets s1 times _ s2 rise lim
  have h2 : s2.Stored := (h.addSat _ _ _ _).frame
  have hr : s2.rd j = s.rd j := h.rd_addSat_ne hk
  split
  · exact (State.Stored.rd_raise h2.frame hj).trans hr
  · exact hr

/-- KEYCHECKED set, KEYOK as the check found (R427). -/
def State.keyNoted (s : State) (ok : Bool) : State := (s.setBit 0x4000 4 true).setBit 0x4000 3 ok

theorem State.Stored.bits_keyNoted (h : s.Stored) (ok : Bool) : (s.keyNoted ok).bit 0x4000 4 = true ∧ (s.keyNoted ok).bit 0x4000 3 = ok := by
  have h4 : (s.setBit 0x4000 4 true).Stored := h.setBit _ _ _
  refine ⟨?_, State.bit_setBit_same h4 0x4000 3 ok (by decide)⟩
  rw [State.keyNoted, State.bit, State.setBit, h4.rd_setFld_same, getLsbD_putBits, if_neg (by decide)]
  exact State.bit_setBit_same h 0x4000 4 true (by decide)

theorem keyCheck_of_none {chk : Check} {cause : Fin 3} (h : s.up = false ∨ s.bit 0x4000 4 = true) : keyCheck chk cause s = s :=
  if_neg (by rcases h with h | h <;> simp [h])

/-- What a check makes known, besides its two bits. -/
theorem keyCheck_of_due (hu : s.up = true) (hb : s.bit 0x4000 4 = false) (chk : Check) (cause : Fin 3) : keyCheck chk cause s =
    if chk = .lasting then (s.keyNoted (chk != .lasting)).raise 94 (BitVec.ofNat 32 cause.val)
    else if chk = .transient then (s.keyNoted (chk != .lasting)).transient (if cause = 0 then 2 else 5) 1
    else s.keyNoted (chk != .lasting) := if_pos (by simp [hu, hb])

/-- The check's event or count leaves the bits and the leads alone. -/
theorem keyCheck_leaves (hu : s.up = true) (hb : s.bit 0x4000 4 = false) (chk : Check) (cause : Fin 3) :
    (keyCheck chk cause s).pins = s.pins ∧ (s.Stored → (keyCheck chk cause s).rd 0x4000 = (s.keyNoted (chk != .lasting)).rd 0x4000) := by
  have hst (h : s.Stored) (ok : Bool) : (s.keyNoted ok).Stored := (h.setBit _ _ _).setBit _ _ _
  rw [keyCheck_of_due hu hb]
  split
  · exact ⟨State.raise_pins .., fun h => (hst h _).rd_raise (by decide)⟩
  · split
    · refine ⟨State.transient_pins .., fun h => (hst h _).rd_transient ?_ (by decide) 1⟩
      split <;> decide
    · exact ⟨rfl, fun _ => rfl⟩

/-! ## ATTEST (R428) -/

/-- The words that ATTEST carries. -/
def Req.namesPart (q : Req) : Prop := bitsOf q.a3 3 29 = 0 ∧ (bitsOf q.a3 0 3 = 0 ∨ (q.a0 = 0 ∧ q.a1 = 0 ∧ q.a2 = 0))

/-- What ATTEST does with its words. -/
def State.attestReply (s : State) (q : Req) (x y : BitVec 256) : State × Reply :=
  if bitsOf q.a3 3 29 != 0 || (bitsOf q.a3 0 3 != 0 && (q.a0 != 0 || q.a1 != 0 || q.a2 != 0)) then s.fail stBadValue
  else if !s.bit 0x4000 3 then s.fail stRefused
  else if bitsOf q.a3 0 3 = 0 then
    ({ s with nv := { s.nv with attest := some (s.statement q, bytesBE 32 x.toNat, bytesBE 32 y.toNat) } },
      .done stOk (wordsOf32 (bytesBE 32 x.toNat)))
  else if 4 ≤ bitsOf q.a3 0 3 then (s, .done stOk (wordsOf32 (((Config.factory s.serial).drop (32 * (bitsOf q.a3 0 3 - 4))).take 32)))
  else match s.nv.attest with
    | none => s.fail stRefused
    | some z => (s, .done stOk (wordsOf32 (if bitsOf q.a3 0 3 = 1 then z.2.2 else (z.1.drop (32 * (bitsOf q.a3 0 3 - 2))).take 32)))

theorem attest_eq (x y : BitVec 256) : attest src x y s = s.serveCode src 0x60 fun s q => s.attestReply q x y := rfl

variable {x y : BitVec 256}

theorem State.attestReply_of_not_named (h : ¬ q.namesPart) : s.attestReply q x y = (s, .done 0x03 []) := by
  refine if_pos ?_
  rw [Req.namesPart] at h
  simp only [Bool.or_eq_true, Bool.and_eq_true, bne_iff_ne]
  tauto

theorem State.attestReply_of_named (h : q.namesPart) : s.attestReply q x y =
    if !s.bit 0x4000 3 then s.fail stRefused
    else if bitsOf q.a3 0 3 = 0 then
      ({ s with nv := { s.nv with attest := some (s.statement q, bytesBE 32 x.toNat, bytesBE 32 y.toNat) } },
        .done stOk (wordsOf32 (bytesBE 32 x.toNat)))
    else if 4 ≤ bitsOf q.a3 0 3 then (s, .done stOk (wordsOf32 (((Config.factory s.serial).drop (32 * (bitsOf q.a3 0 3 - 4))).take 32)))
    else match s.nv.attest with
      | none => s.fail stRefused
      | some z => (s, .done stOk (wordsOf32 (if bitsOf q.a3 0 3 = 1 then z.2.2 else (z.1.drop (32 * (bitsOf q.a3 0 3 - 2))).take 32))) := by
  refine if_neg ?_
  obtain ⟨h0, h1⟩ := h
  simp only [Bool.or_eq_true, Bool.and_eq_true, bne_iff_ne]
  tauto

theorem State.attestReply_sign (h : q.namesPart) (hk : s.bit 0x4000 3 = true) (hp : bitsOf q.a3 0 3 = 0) : s.attestReply q x y =
    ({ s with nv := { s.nv with attest := some (s.statement q, bytesBE 32 x.toNat, bytesBE 32 y.toNat) } },
      .done 0x00 (wordsOf32 (bytesBE 32 x.toNat))) :=
  (State.attestReply_of_named h).trans ((if_neg (by simp [hk])).trans (if_pos hp))

theorem State.attestReply_factory (h : q.namesPart) (hk : s.bit 0x4000 3 = true) (hp : 4 ≤ bitsOf q.a3 0 3) : s.attestReply q x y =
    (s, .done 0x00 (wordsOf32 (((Config.factory s.serial).drop (32 * (bitsOf q.a3 0 3 - 4))).take 32))) :=
  (State.attestReply_of_named h).trans ((if_neg (by simp [hk])).trans ((if_neg (by omega)).trans (if_pos hp)))

theorem State.attestReply_none (h : q.namesPart) (hk : s.bit 0x4000 3 = true) (h1 : 1 ≤ bitsOf q.a3 0 3) (h3 : bitsOf q.a3 0 3 ≤ 3)
    (hn : s.nv.attest = none) : s.attestReply q x y = (s, .done 0x06 []) := by
  rw [State.attestReply_of_named h, if_neg (by simp [hk]), if_neg (by omega), if_neg (by omega), hn]
  rfl

theorem State.attestReply_signed (h : q.namesPart) (hk : s.bit 0x4000 3 = true) (h1 : 1 ≤ bitsOf q.a3 0 3) (h3 : bitsOf q.a3 0 3 ≤ 3)
    {st u v : List Byte} (hn : s.nv.attest = some (st, u, v)) : s.attestReply q x y =
      (s, .done 0x00 (wordsOf32 (if bitsOf q.a3 0 3 = 1 then v else (st.drop (32 * (bitsOf q.a3 0 3 - 2))).take 32))) := by
  rw [State.attestReply_of_named h, if_neg (by simp [hk]), if_neg (by omega), if_neg (by omega), hn]
  rfl

/-! ## OWNER_ACCEPT (R432) -/

/-- The node, the serial number and the form that OWNER_ACCEPT carries. -/
def Req.acceptAddr (q : Req) : FAddr := BitVec.ofNat 12 (bitsOf q.a0 0 12)
def Req.acceptSerial (q : Req) : DWord := q.a2 ++ q.a1
def Req.namesAccept (q : Req) : Prop := bitsOf q.a0 12 20 = 0 ∧ q.a3 = 0

theorem ofNat_words (lo hi : Word) : BitVec.ofNat 64 (lo.toNat + 2 ^ 32 * hi.toNat) = hi ++ lo := by
  apply BitVec.eq_of_toNat_eq
  have h1 := lo.isLt
  have h2 := hi.isLt
  rw [BitVec.toNat_append, BitVec.toNat_ofNat, ← Nat.shiftLeft_add_eq_or_of_lt h1, Nat.shiftLeft_eq]
  omega

/-- What OWNER_ACCEPT does with its words. -/
def State.acceptReply (s : State) (r : Req) : State × Reply :=
  if bitsOf r.a0 12 20 != 0 || r.a3 != 0 then s.fail stBadValue
  else match nodeAt s.fab.nodes r.acceptAddr with
    | none => s.fail stNoRoute
    | some n =>
      if !n.pending then s.fail stRefused
      else if !(n.topo.serial == r.acceptSerial) then s.fail stBadValue
      else ((s.floodTopo (.accept r.acceptAddr r.acceptSerial)).takeAccept r.acceptAddr r.acceptSerial, .done stOk [])

theorem ownerAccept_eq : ownerAccept src s = s.serveCode src 0x61 fun s r => s.acceptReply r := by
  unfold ownerAccept
  congr 1
  funext s r
  dsimp only
  rw [ofNat_words]
  rfl

theorem State.acceptReply_of_not_named (h : ¬ q.namesAccept) : s.acceptReply q = (s, .done 0x03 []) := by
  refine if_pos ?_
  rw [Req.namesAccept] at h
  simp only [Bool.or_eq_true, bne_iff_ne]
  tauto

theorem State.acceptReply_of_none (h : q.namesAccept) (hn : nodeAt s.fab.nodes q.acceptAddr = none) : s.acceptReply q = (s, .done 0x08 []) := by
  obtain ⟨h0, h3⟩ := h
  rw [State.acceptReply, if_neg (by simp [h0, h3]), hn]
  rfl

theorem State.acceptReply_of_some {n : Node} (h : q.namesAccept) (hn : nodeAt s.fab.nodes q.acceptAddr = some n) : s.acceptReply q =
    if !n.pending then s.fail stRefused
    else if !(n.topo.serial == q.acceptSerial) then s.fail stBadValue
    else ((s.floodTopo (.accept q.acceptAddr q.acceptSerial)).takeAccept q.acceptAddr q.acceptSerial, .done stOk []) := by
  obtain ⟨h0, h3⟩ := h
  rw [State.acceptReply, if_neg (by simp [h0, h3]), hn]

/-! ## LOG_READ (R423) -/

/-- The number that LOG_READ names. -/
def State.logNumber (s : State) (q : Req) : Word := if q.a0 = 0 then s.rd 0x4009 else if q.a0 = 0xFFFFFFFF then s.rd 0x4008 else q.a0

/-- The bytes of an entry of the log. -/
def State.logBytes (s : State) (n : Nat) : List Byte := s.ldSoon (logBase + 32 * ((n - 1) % 2048)) 32

/-- The words LOG_READ carries besides its number. -/
def Req.namesLog (q : Req) : Prop := q.a1 = 0 ∧ q.a2 = 0 ∧ q.a3 = 0

/-- What LOG_READ does for a number. -/
def State.logReply (s : State) (r : Req) (chk : Check) (n : Nat) : State × Reply :=
  if r.a1 != 0 || r.a2 != 0 || r.a3 != 0 || n = 0 || n < (s.rd 0x4009).toNat || (s.rd 0x4008).toNat < n then s.fail stBadValue
  else
    let word (k : Nat) : Word := BitVec.ofNat 32 (numBE (((s.logBytes n).drop (4 * k)).take 4))
    let tail := [BitVec.ofNat 32 (s.rd 0x4009).toNat, BitVec.ofNat 32 (s.rd 0x4008).toNat]
    if chk != .lasting && sealedOk (s.logBytes n) && word 4 == BitVec.ofNat 32 n then
      (s.nvRead chk, .done stOk ([word 0, word 1, word 2, word 3, BitVec.ofNat 32 n, pack [(0, 16, bitsOf (word 5) 16 16)]] ++ tail))
    else (s, .done stOk ([0, 0, 0, 0, BitVec.ofNat 32 n, pack [(16, 1, 1)]] ++ tail))

variable {chk : Check}

theorem logRead_eq : logRead src chk s = s.serveCode src 0x62 fun s r => s.logReply r chk (s.logNumber r).toNat := by
  have hn (s : State) (r : Req) : (s.logNumber r).toNat =
      if r.a0 = 0 then (s.rd 0x4009).toNat else if r.a0 = 0xFFFFFFFF then (s.rd 0x4008).toNat else r.a0.toNat := by
    unfold State.logNumber
    split
    · rfl
    · split <;> rfl
  simp only [hn]
  rfl

theorem State.logReply_of_outside (h : ¬ q.namesLog ∨ s.logNumber q = 0 ∨ s.logNumber q < s.rd 0x4009 ∨ s.rd 0x4008 < s.logNumber q) :
    s.logReply q chk (s.logNumber q).toNat = (s, .done 0x03 []) := by
  refine if_pos ?_
  simp only [Bool.or_eq_true, bne_iff_ne, decide_eq_true_eq]
  rcases h with h | h | h | h
  · rw [Req.namesLog] at h
    tauto
  · exact .inl (.inl (.inr (by rw [h]; rfl)))
  · exact .inl (.inr h)
  · exact .inr h

/-- An entry that is not there, or cannot be read. -/
def absentEntry (n oldest newest : Word) : List Word := [0, 0, 0, 0, n, 0x10000, oldest, newest]

theorem State.logReply_of_inside (h : q.namesLog) (h0 : s.logNumber q ≠ 0) (ho : s.rd 0x4009 ≤ s.logNumber q)
    (hn : s.logNumber q ≤ s.rd 0x4008) :
    (∃ r0 r1 r2 r3 r5 : Word, chk ≠ .lasting ∧ sealedOk (s.logBytes (s.logNumber q).toNat) = true ∧
      s.logReply q chk (s.logNumber q).toNat = (s.nvRead chk, .done 0x00 [r0, r1, r2, r3, s.logNumber q, r5, s.rd 0x4009, s.rd 0x4008])) ∨
    s.logReply q chk (s.logNumber q).toNat = (s, .done 0x00 (absentEntry (s.logNumber q) (s.rd 0x4009) (s.rd 0x4008))) := by
  obtain ⟨h1, h2, h3⟩ := h
  have hz : (s.logNumber q).toNat ≠ 0 := fun hz => h0 (BitVec.eq_of_toNat_eq hz)
  have hc : ¬ (q.a1 != 0 || q.a2 != 0 || q.a3 != 0 || (s.logNumber q).toNat = 0 || (s.logNumber q).toNat < (s.rd 0x4009).toNat ||
      (s.rd 0x4008).toNat < (s.logNumber q).toNat) = true := by
    have h4 := Nat.not_lt.2 ho
    have h5 := Nat.not_lt.2 hn
    simp [h1, h2, h3, hz, h4, h5]
  unfold State.logReply
  rw [if_neg hc]
  extract_lets word tail
  have htail : tail = [s.rd 0x4009, s.rd 0x4008] := by simp [tail]
  have hnum : BitVec.ofNat 32 (s.logNumber q).toNat = s.logNumber q := BitVec.ofNat_toNat ..
  split
  case isTrue hg =>
    simp only [Bool.and_eq_true, bne_iff_ne] at hg
    obtain ⟨⟨hl, hs⟩, -⟩ := hg
    refine .inl ⟨word 0, word 1, word 2, word 3, pack [(0, 16, bitsOf (word 5) 16 16)], hl, hs, ?_⟩
    rw [htail, hnum]
    rfl
  case isFalse =>
    refine .inr ?_
    rw [htail, hnum]
    rfl

end

/-- Settles O59. -/
theorem identityAndLog : Obligations.IdentityAndLog := by
  unfold Obligations.IdentityAndLog
  intro s
  refine ⟨fun chk cause => ⟨fun h => congrArg Host.Outcome.next (keyCheck_of_none h), fun hu hb hs => ?_⟩,
    fun src q hq => ⟨fun hc x y => ⟨fun hn => ?_, fun hn hk => ?_, fun hn hk => ⟨fun hp => ?_, fun h1 h3 ha => ?_,
      fun st u v ha => ⟨fun hp => ?_,
      fun hp => ?_, fun hp => ?_⟩, fun hp => ?_⟩⟩,
      fun hc => ⟨fun hn => ?_, fun hn ha => ?_, fun n hn ha => ⟨fun hp => ?_, fun hp hs => ?_, fun hp hs => ?_⟩⟩,
      fun hc chk => ⟨fun h => ?_, fun h h0 ho hn => ?_⟩⟩⟩
  · obtain ⟨hpins, hrd⟩ := keyCheck_leaves hu hb chk cause
    obtain ⟨h4, h3⟩ := hs.bits_keyNoted (chk != .lasting)
    refine ⟨_, rfl, ?_, ?_, hpins, fun hp => ?_⟩
    · rw [State.bit, hrd hs]
      exact h4
    · rw [State.bit, hrd hs]
      exact h3
    · have he := keyCheck_of_due hu hb chk cause
      rw [if_neg (by simp [hp]), if_neg (by simp [hp])] at he
      rw [he]
      rfl
  · exact congrArg Host.Outcome.next (attest_eq x y ▸ hq.serveCode_done hc (State.attestReply_of_not_named hn))
  · exact congrArg Host.Outcome.next (attest_eq x y ▸ hq.serveCode_done hc ((State.attestReply_of_named hn).trans (if_pos (by simp [hk]))))
  · exact congrArg Host.Outcome.next (attest_eq x y ▸ hq.serveCode_done hc (State.attestReply_sign hn hk hp))
  · exact congrArg Host.Outcome.next (attest_eq x y ▸ hq.serveCode_done hc (State.attestReply_none hn hk h1 h3 ha))
  · have hr := State.attestReply_signed (x := x) (y := y) hn hk (by omega) (by omega) ha
    rw [if_pos hp] at hr
    exact congrArg Host.Outcome.next (attest_eq x y ▸ hq.serveCode_done hc hr)
  · have hr := State.attestReply_signed (x := x) (y := y) hn hk (by omega) (by omega) ha
    rw [if_neg (by omega), hp] at hr
    exact congrArg Host.Outcome.next (attest_eq x y ▸ hq.serveCode_done hc hr)
  · have hr := State.attestReply_signed (x := x) (y := y) hn hk (by omega) (by omega) ha
    rw [if_neg (by omega), hp] at hr
    exact congrArg Host.Outcome.next (attest_eq x y ▸ hq.serveCode_done hc hr)
  · exact congrArg Host.Outcome.next (attest_eq x y ▸ hq.serveCode_done hc (State.attestReply_factory hn hk hp))
  · exact congrArg Host.Outcome.next (ownerAccept_eq.trans (hq.serveCode_done hc (State.acceptReply_of_not_named hn)))
  · exact congrArg Host.Outcome.next (ownerAccept_eq.trans (hq.serveCode_done hc (State.acceptReply_of_none hn ha)))
  · exact congrArg Host.Outcome.next (ownerAccept_eq.trans (hq.serveCode_done hc ((State.acceptReply_of_some hn ha).trans (if_pos (by simp [hp])))))
  · exact congrArg Host.Outcome.next (ownerAccept_eq.trans (hq.serveCode_done hc ((State.acceptReply_of_some hn ha).trans
      ((if_neg (by simp [hp])).trans (if_pos (by simpa [Req.acceptSerial] using hs))))))
  · exact congrArg Host.Outcome.next (ownerAccept_eq.trans (hq.serveCode_done hc ((State.acceptReply_of_some hn ha).trans
      ((if_neg (by simp [hp])).trans (if_neg (by simpa [Req.acceptSerial] using hs))))))
  · exact congrArg Host.Outcome.next (logRead_eq.trans (hq.serveCode_done hc (State.logReply_of_outside h)))
  · rcases State.logReply_of_inside (chk := chk) h h0 ho hn with ⟨r0, r1, r2, r3, r5, hl, hs, hr⟩ | hr
    · refine ⟨s.nvRead chk, r0, r1, r2, r3, r5, congrArg Host.Outcome.next (logRead_eq.trans (hq.serveCode_done hc hr)), fun ht => if_neg ht,
        fun ht => .inr (if_pos ht), fun hb => ?_⟩
      rcases hb with hb | hb
      · exact absurd (hs.symm.trans hb) (by decide)
      · exact absurd hb hl
    · exact ⟨s, 0, 0, 0, 0, 0x10000, congrArg Host.Outcome.next (logRead_eq.trans (hq.serveCode_done hc hr)), fun _ => rfl, fun _ => .inl rfl,
        fun _ => ⟨rfl, rfl, rfl, rfl, rfl⟩⟩

end Sys2Proof.Machine
end

section
/-! PROOFS. The goal table: GOAL_SET, GOAL_CLEAR, their forwarding, and tables that arrive (R308 to R311). -/
namespace Sys2Proof.Machine

section
variable {s t : State}

/-! ## What leaves the table alone -/

/-- From one state to the other the goals stand, and the number of their table. -/
def State.Tables (s t : State) : Prop := t.plc.goals = s.plc.goals ∧ (s.Stored → t.Stored ∧ t.rd 0x2104 = s.rd 0x2104)

theorem State.Tables.refl (s : State) : s.Tables s := ⟨rfl, fun h => ⟨h, rfl⟩⟩

theorem State.Tables.trans {u : State} (h : s.Tables t) (h' : t.Tables u) : s.Tables u :=
  ⟨h'.1.trans h.1, fun hs => ⟨(h'.2 (h.2 hs).1).1, (h'.2 (h.2 hs).1).2.trans (h.2 hs).2⟩⟩

theorem State.Tables.ite {c : Prop} {_ : Decidable c} {a b : State} (ha : s.Tables a) (hb : s.Tables b) : s.Tables (if c then a else b) := by
  split
  · exact ha
  · exact hb

theorem State.Tables.foldl {α : Type} {f : State → α → State} (hf : ∀ (t : State) x, t.Tables (f t x)) (l : List α) :
    s.Tables (l.foldl f s) := by
  induction l generalizing s with
  | nil => exact State.Tables.refl s
  | cons x l ih => exact (hf s x).trans ih

theorem State.tables_wr (s : State) {j : Nat} (hj : 0x2104 ≠ j) (w : Word) : s.Tables (s.wr j w) :=
  ⟨rfl, fun h => ⟨h.wr _ _, (State.rd_wr h _ _ _).trans (if_neg hj)⟩⟩

theorem State.tables_setFld (s : State) {j : Nat} (hj : 0x2104 ≠ j) (lo width v : Nat) : s.Tables (s.setFld j lo width v) :=
  ⟨rfl, fun h => ⟨h.setFld _ _ _ _, State.rd_setFld_ne h _ _ _ _ _ hj⟩⟩

theorem State.tables_raiseC (s : State) (n : Nat) (data : Word) (cleared : Bool) : s.Tables (s.raiseC n data cleared) :=
  ⟨by rw [State.raiseC_plc], fun h => ⟨h.raiseC, h.rd_raiseC (by decide)⟩⟩

theorem State.tables_raise (s : State) (n : Nat) (data : Word) : s.Tables (s.raise n data) := s.tables_raiseC n data false

theorem State.tables_sendTo (s : State) (ty : Byte) (a : FAddr) (bs : List Byte) : s.Tables (s.sendTo ty a bs) :=
  ⟨by rw [State.sendTo_plc], fun h => ⟨h.sendTo, h.rd_sendTo (by decide)⟩⟩

theorem State.tables_sendJob (s : State) (a : FAddr) (kind : Byte) (head bytes : List Byte) : s.Tables (s.sendJob a kind head bytes) :=
  State.Tables.foldl (fun t _ => t.tables_sendTo _ _ _) _

theorem State.tables_balRefresh (s : State) : s.Tables s.balRefresh :=
  ⟨rfl, fun h => ⟨h.balRefresh, h.rd_balRefresh (by decide) (by decide)⟩⟩

/-! ## The Maquette (R314) -/

theorem State.tables_startJob (s : State) (k : JobKey) (str : BitVec 6) (cost : Nat) (seq : Word) (rerun : Bool) :
    s.Tables (s.startJob k str cost seq rerun) := ⟨rfl, fun h => ⟨h, rfl⟩⟩

/-- An update of the hosted jobs' fits and of the measurement. -/
theorem State.tables_frame (s : State) (fits : List FitJob) (imp : Imp) : s.Tables { s with plc := { s.plc with fits := fits }, imp := imp } :=
  ⟨rfl, fun h => ⟨h, rfl⟩⟩

theorem State.tables_takeFit (s : State) (f : FitJob) : s.Tables (s.takeFit f) := by
  unfold State.takeFit
  extract_lets mine g
  split
  · refine (s.tables_frame _ _).trans (State.Tables.foldl (fun t n => ?_) _)
    split
    · exact State.Tables.refl t
    · exact t.tables_sendJob ..
  · exact s.tables_frame _ _

theorem State.tables_takeBody (s : State) (k : JobKey) (b : Option JobBody) : s.Tables (s.takeBody k b) := by
  unfold State.takeBody
  extract_lets keep
  split
  · exact ⟨rfl, fun h => ⟨h, rfl⟩⟩
  · split
    · split
      · exact s.tables_takeFit _
      · exact ⟨rfl, fun h => ⟨h, rfl⟩⟩
    · exact State.Tables.refl s

theorem State.tables_restartJob (s : State) (k : JobKey) (str : BitVec 6) (cost : Nat) (host : FAddr) : s.Tables (s.restartJob k str cost host) := by
  unfold State.restartJob
  extract_lets c u
  exact (((s.tables_startJob ..).trans (State.tables_takeBody ..)).trans (State.tables_setFld _ (by decide) _ _ _)).trans (State.tables_raise ..)

theorem State.tables_handOver (s : State) (k : JobKey) (lost new : FAddr) : s.Tables (s.handOver k lost new) := by
  unfold State.handOver
  dsimp only
  split
  · split
    · exact (s.tables_sendJob ..).trans (State.tables_sendJob ..)
    · exact s.tables_sendJob ..
  · exact s.tables_sendJob ..

theorem State.tables_jobsFollow (s : State) (old : List Placed) : s.Tables (s.jobsFollow old) := by
  unfold State.jobsFollow
  extract_lets new strOf kept _ t gone hold
  have ht : s.Tables t := ⟨rfl, fun h => ⟨h, rfl⟩⟩
  refine ht.trans (State.Tables.foldl (fun u p => ?_) _)
  extract_lets here moved
  split
  · exact State.Tables.refl u
  · split
    · split
      · exact State.Tables.refl u
      · exact (u.tables_startJob ..).trans (State.tables_takeBody ..)
    · split
      · exact State.Tables.refl u
      · exact u.tables_restartJob ..
    · split
      · split
        · exact u.tables_handOver ..
        · exact State.Tables.refl u
      · exact State.Tables.refl u
    · exact State.Tables.refl u

theorem State.tables_capacityCheck (s : State) : s.Tables s.capacityCheck := by
  unfold State.capacityCheck
  extract_lets waits pinsOut slots short data _ t
  have ht : s.Tables t := ⟨rfl, fun h => ⟨h, rfl⟩⟩
  exact ht.ite ((ht.trans (State.tables_raise ..)).ite ((ht.trans (State.tables_raiseC ..)).ite ht))

theorem State.tables_impStop (s : State) : s.Tables s.impStop := by
  unfold State.impStop
  extract_lets claims stopped shown
  have hstop : s.Tables stopped := by
    dsimp only [stopped]
    refine State.Tables.foldl (fun t u => ?_) _
    have hu : 0x2104 ≠ 0x1610 + 16 * u := by omega
    exact State.Tables.trans (t := { t with tmr := _ }) ⟨rfl, fun h => ⟨h, rfl⟩⟩ (State.tables_setFld _ hu _ _ _)
  have hshown : stopped.Tables shown := by
    dsimp only [shown]
    refine State.Tables.foldl (fun t u => ?_) _
    have hu : 0x2104 ≠ 0x1616 + 16 * u := by omega
    exact (t.tables_setFld hu _ _ _).trans (State.tables_setFld _ hu _ _ _)
  refine ((hstop.trans hshown).trans ?_).trans (State.tables_balRefresh _)
  exact State.Tables.trans (t := { shown with imp := _, bal := _ }) ⟨rfl, fun h => ⟨h, rfl⟩⟩ (State.tables_wr _ (by decide) _)

theorem State.tables_impFollow (s : State) : s.Tables s.impFollow := by
  unfold State.impFollow
  extract_lets on
  split
  · unfold State.impDrop
    extract_lets u
    exact (s.tables_impStop.trans (u.tables_frame u.plc.fits _)).trans (State.tables_setFld _ (by decide) _ _ _)
  · exact State.Tables.refl s

theorem State.tables_plcShow (s : State) : s.Tables s.plcShow := by
  unfold State.plcShow
  extract_lets own resv s1 wait s2
  exact (((s.tables_wr (by decide) _).trans (State.tables_wr _ (by decide) _)).trans (State.tables_wr _ (by decide) _)).trans
    (State.tables_wr _ (by decide) _)

theorem State.tables_maquette (s : State) : s.Tables s.maquette := by
  have hplace : s.Tables { s with plc := { s.plc with placed := s.placement } } := ⟨rfl, fun h => ⟨h, rfl⟩⟩
  have hfits (t : State) : t.Tables t.fitsWatch := ⟨rfl, fun h => ⟨h, rfl⟩⟩
  exact ((((hplace.trans (State.tables_jobsFollow _ _)).trans (State.tables_capacityCheck _)).trans (hfits _)).trans
    (State.tables_impFollow _)).trans (State.tables_plcShow _)

/-! ## A table put into force (R308, R311) -/

/-- The table put into force, before the Maquette is computed anew. -/
def State.goalsPut (s : State) (goals : List (Option Goal)) : State :=
  let t := s.goalList.foldl (fun t x =>
    match nth goals x.1.val none with
    | some g => if jobKind g == jobKind x.2 && g.string == x.2.string then t else t.planStop x.1 x.2
    | none => t.planStop x.1 x.2) s
  let gone := (List.range 32).filter fun i => (nth goals i none).isNone
  { t with plc := { t.plc with goals := goals, placed := t.plc.placed.filter fun p => !(gone.contains p.key.slot.val) },
           bal := { t.bal with goals := t.bal.goals.filter fun i => !(gone.contains i.val) } }

theorem State.goalsTake_eq (s : State) (goals : List (Option Goal)) (seq : Word) :
    s.goalsTake goals seq = ((s.goalsPut goals).wr 0x2104 seq).maquette := rfl

theorem State.Stored.goalsPut (h : s.Stored) (goals : List (Option Goal)) : (s.goalsPut goals).Stored := by
  unfold State.goalsPut
  extract_lets t gone
  have ht : t.Stored := h.foldl fun u x hu => by
    split
    · exact hu.ite hu.planStop
    · exact hu.planStop
  exact ht.frame

theorem State.goalsTake_goals (s : State) (goals : List (Option Goal)) (seq : Word) : (s.goalsTake goals seq).plc.goals = goals := by
  rw [State.goalsTake_eq, (State.tables_maquette _).1]
  rfl

theorem State.Stored.rd_goalsTake (h : s.Stored) (goals : List (Option Goal)) (seq : Word) : (s.goalsTake goals seq).rd 0x2104 = seq := by
  have hw : ((s.goalsPut goals).wr 0x2104 seq).Stored := (h.goalsPut goals).wr _ _
  rw [State.goalsTake_eq, ((State.tables_maquette _).2 hw).2, State.rd_wr (h.goalsPut goals), if_pos rfl]

theorem State.goalsChange_goals (s : State) (goals : List (Option Goal)) : (s.goalsChange goals).plc.goals = goals := by
  rw [State.goalsChange, State.goalFlood, State.sendAll_plc, State.goalSave, State.nvPut_plc, s.goalsTake_goals]

/-! ## GOAL_TABLE_FRAME (R308) -/

variable {sender : FAddr} {n : Word} {slots : List (Option Goal)}

/-- The node a table came from. -/
def State.tableFrom (s : State) (sender : FAddr) : State := { s with plc := { s.plc with goalFrom := sender } }

/-- A table of another node, with the node it came from, saved. -/
def State.tableTaken (s : State) (sender : FAddr) (n : Word) (slots : List (Option Goal)) : State :=
  ((s.goalsTake slots n).tableFrom sender).goalSave

theorem goalTableFrame_eq (h : slots.length = 32) : goalTableFrame sender n slots s =
    if s.up && (decide ((s.rd 0x2104).toNat < n.toNat) ||
        ((s.rd 0x2104).toNat == n.toNat && (!s.isAnchor || decide (sender.toNat < s.plc.goalFrom.toNat)))) &&
        !(slots == s.plc.goals && n == s.rd 0x2104) then
      if (s.tableTaken sender n slots).isAnchor then (s.tableTaken sender n slots).goalFlood else s.tableTaken sender n slots
    else s := by
  have hs : slots.take 32 ++ copies (32 - slots.length) none = slots := by simp [h, copies, List.take_of_length_le]
  unfold goalTableFrame
  rw [hs]
  rfl

theorem goalTableFrame_of_lower (h : n.toNat < (s.rd 0x2104).toNat) : goalTableFrame sender n slots s = s := by
  unfold goalTableFrame
  extract_lets g own better
  have hb : better = false := by
    have h1 : ¬ own < n.toNat := by dsimp only [own]; omega
    have h2 : own ≠ n.toNat := by dsimp only [own]; omega
    simp [better, h1, h2]
  exact if_neg (by simp [hb])

theorem goalTableFrame_of_equal (hn : n = s.rd 0x2104) (ha : s.isAnchor = true) (hf : s.plc.goalFrom.toNat ≤ sender.toNat) :
    goalTableFrame sender n slots s = s := by
  unfold goalTableFrame
  extract_lets g own better
  have hb : better = false := by
    have h1 : ¬ own < n.toNat := by simp [own, hn]
    have h2 : ¬ sender.toNat < s.plc.goalFrom.toNat := by omega
    simp [better, h1, h2, ha]
  exact if_neg (by simp [hb])

theorem goalTableFrame_of_higher (hu : s.up = true) (hn : (s.rd 0x2104).toNat < n.toNat) (hl : slots.length = 32) :
    goalTableFrame sender n slots s =
      if (s.tableTaken sender n slots).isAnchor then (s.tableTaken sender n slots).goalFlood else s.tableTaken sender n slots := by
  have hne : (n == s.rd 0x2104) = false := by
    rw [beq_eq_false_iff_ne]
    rintro rfl
    omega
  rw [goalTableFrame_eq hl]
  exact if_pos (by rw [hu, hne]; simp [hn])

theorem State.goalFlood_plc (s : State) : s.goalFlood.plc = s.plc := State.sendAll_plc ..

theorem State.rd_goalFlood (s : State) (j : Nat) : s.goalFlood.rd j = s.rd j := State.rd_eq_of_par (State.sendAll_par ..) j

theorem State.tableFrom_plc (s : State) (sender : FAddr) : (s.tableFrom sender).plc = { s.plc with goalFrom := sender } := rfl
theorem State.tableFrom_par (s : State) (sender : FAddr) : (s.tableFrom sender).par = s.par := rfl

theorem State.tableTaken_plc (s : State) (sender : FAddr) (n : Word) (slots : List (Option Goal)) :
    (s.tableTaken sender n slots).plc = { (s.goalsTake slots n).plc with goalFrom := sender } := State.nvPut_plc ..

theorem State.Stored.rd_tableTaken (h : s.Stored) : (s.tableTaken sender n slots).rd 0x2104 = n := by
  have hpar : (s.tableTaken sender n slots).par = (s.goalsTake slots n).par := (State.nvPut_par ..).trans (State.tableFrom_par ..)
  rw [State.rd_eq_of_par hpar, h.rd_goalsTake]

/-! ## GOAL_SET and GOAL_CLEAR at the anchor (R309 to R311) -/

variable {r : Req} {src : Src} {i : Nat}

/-- The goal that a command names, for the node that executes it. -/
def Req.goal (r : Req) (who : FAddr) : Goal := ⟨BitVec.ofNat 4 (bitsOf r.a0 0 4), BitVec.ofNat 6 (bitsOf r.a0 8 6), r.a1, r.a2, who⟩

/-- The lowest free slot. -/
theorem find?_free (goals : List (Option Goal)) (hi : i < 32) (hn : nth goals i none = none) (hk : ∀ k, k < i → (nth goals k none).isSome = true) :
    ((List.range 32).find? fun k => (nth goals k none).isNone) = some i := by
  rw [List.find?_range_eq_some]
  exact ⟨by simp [hn], by simpa using hi, fun k h => by simpa using hk k h⟩

theorem State.goalSetAt_of_bad {who : FAddr} (h : goalOk r = false) : s.goalSetAt who r = (s, .done 0x03 []) := if_pos (by simp [h])

/-- A goal that replaces none is judged for the lowest free slot. -/
theorem State.goalSetAt_of_new {who : FAddr} (hok : goalOk r = true)
    (hsame : ∀ x, x ∈ s.goalList → sameScope x.2 (r.goal who) = false) (hi : i < 32)
    (hn : nth s.plc.goals i none = none) (hk : ∀ k, k < i → (nth s.plc.goals k none).isSome = true) :
    (s.goalRefuse (r.goal who) (some i) = none →
      ∃ rsp, s.goalSetAt who r = (s.goalsChange (s.plc.goals.set i (some (r.goal who))), .done 0x00 rsp)) ∧
    (∀ reason, s.goalRefuse (r.goal who) (some i) = some reason → s.goalSetAt who r = (s.goalRej i (r.goal who) reason, .done 0x06 [])) := by
  have hfind : (s.goalList.find? fun x => sameScope x.2 (r.goal who)) = none :=
    List.find?_eq_none.2 fun x hx => by simp [hsame x hx]
  unfold State.goalSetAt
  rw [if_neg (by simp [hok])]
  extract_lets g same slot
  have hslot : slot = some i := by
    have hs : same = none := hfind
    dsimp only [slot]
    rw [hs]
    exact find?_free _ hi hn hk
  rw [hslot]
  refine ⟨fun href => ?_, fun reason href => ?_⟩
  · have hg : s.goalRefuse g (some i) = none := href
    rw [hg]
    exact ⟨_, rfl⟩
  · have hg : s.goalRefuse g (some i) = some reason := href
    rw [hg]
    rfl

theorem clearBits (hi : i < 32) : (BitVec.ofNat 32 i).getLsbD 8 = false ∧ bitsOf (BitVec.ofNat 32 i) 0 5 = i ∧
    BitVec.ofNat 32 i &&& 0xFFFFFEE0 = (0 : Word) := by
  revert i
  decide

theorem State.goalClearAt_of_slot (hi : i < 32) (h0 : r.a0 = BitVec.ofNat 32 i) (h1 : r.a1 = 0) (h2 : r.a2 = 0) (h3 : r.a3 = 0) :
    s.goalClearAt r = if (nth s.plc.goals i none).isNone then (s, .done 0x00 []) else (s.goalsChange (s.plc.goals.set i none), .done 0x00 []) := by
  obtain ⟨hall, hbits, hmask⟩ := clearBits hi
  unfold State.goalClearAt
  extract_lets all k
  have hall' : all = false := by
    dsimp only [all]
    rw [h0, hall]
  have hk : k = i := by
    dsimp only [k]
    rw [h0, hbits]
  have hc : ((r.a0 &&& 0xFFFFFEE0) != 0 || (all && k != 0) || r.a1 != 0 || r.a2 != 0 || r.a3 != 0) = false := by
    rw [h0, hmask, hall', h1, h2, h3]
    rfl
  rw [hc, hall', hk, if_neg Bool.false_ne_true, if_neg Bool.false_ne_true]
  rfl

theorem State.goalClearAt_of_all (h0 : r.a0 = 0x100) (h1 : r.a1 = 0) (h2 : r.a2 = 0) (h3 : r.a3 = 0) (hl : s.goalList ≠ []) :
    s.goalClearAt r = (s.goalsChange (copies 32 none), .done 0x00 []) := by
  unfold State.goalClearAt
  extract_lets all k
  have hall : all = true := by
    dsimp only [all]
    rw [h0]
    decide
  have hk : k = 0 := by
    dsimp only [k]
    rw [h0]
    decide
  have hc : ((r.a0 &&& 0xFFFFFEE0) != 0 || (all && k != 0) || r.a1 != 0 || r.a2 != 0 || r.a3 != 0) = false := by
    rw [h0, hall, hk, h1, h2, h3]
    decide
  rw [hc, hall, if_neg Bool.false_ne_true, if_pos rfl, if_neg (by simpa using hl)]
  rfl

/-! ## Forwarding (R308) -/

theorem State.toAnchor_of_anchor {at_ : State → State × Reply} (h : s.isAnchor = true) : s.toAnchor src r at_ = at_ s := if_pos h

theorem State.toAnchor_of_other {a : FAddr} {at_ : State → State × Reply} (h : s.isAnchor = false) (ha : s.anchor = some a) :
    s.toAnchor src r at_ = s.relayTo src r a (if s.sweep.collect.isSome then s.fab.addr else noAddr) := by
  rw [State.toAnchor, if_neg (Bool.eq_false_iff.1 h), ha]

end
/-- Settles O49: the Maquette leaves the table alone, so a table put into force stands. -/
theorem goalTable : Obligations.GoalTable := by
  unfold Obligations.GoalTable
  intro s
  refine ⟨s.goalsChange_goals, fun src r hr ha => ⟨fun hc hok => ?_, fun hc hok hsame i hi hn hk => ⟨fun href => ?_, fun reason href => ?_⟩,
      fun hc h1 h2 h3 => ⟨fun i hi h0 => ⟨fun hn => ?_, fun hn => ?_⟩, fun h0 hl => ?_⟩⟩,
    fun r a hr hna ha => ⟨fun hc => ?_, fun hc => ?_⟩, fun r a hr hna ha => ⟨fun hc => ?_, fun hc => ?_⟩,
    fun sender n slots => ⟨fun hn => congrArg Host.Outcome.next (goalTableFrame_of_lower hn),
      fun hn ha hf => congrArg Host.Outcome.next (goalTableFrame_of_equal hn ha hf), fun hu hn hl => ?_⟩⟩
  · exact congrArg Host.Outcome.next (hr.serveCode_done hc ((State.toAnchor_of_anchor ha).trans (State.goalSetAt_of_bad hok)))
  · obtain ⟨rsp, hset⟩ := (State.goalSetAt_of_new hok hsame hi hn hk).1 href
    exact ⟨rsp, congrArg Host.Outcome.next (hr.serveCode_done hc ((State.toAnchor_of_anchor ha).trans hset))⟩
  · have hset := (State.goalSetAt_of_new hok hsame hi hn hk).2 reason href
    exact congrArg Host.Outcome.next (hr.serveCode_done hc ((State.toAnchor_of_anchor ha).trans hset))
  · exact congrArg Host.Outcome.next (hr.serveCode_done hc ((State.toAnchor_of_anchor ha).trans
      ((State.goalClearAt_of_slot hi h0 h1 h2 h3).trans (if_pos (by simp [hn])))))
  · exact congrArg Host.Outcome.next (hr.serveCode_done hc ((State.toAnchor_of_anchor ha).trans
      ((State.goalClearAt_of_slot hi h0 h1 h2 h3).trans (if_neg (by simpa [Option.isSome_iff_ne_none] using hn)))))
  · exact congrArg Host.Outcome.next (hr.serveCode_done hc ((State.toAnchor_of_anchor ha).trans (State.goalClearAt_of_all h0 h1 h2 h3 hl)))
  · exact congrArg Host.Outcome.next (hr.serveCode_later hc (State.toAnchor_of_other hna ha))
  · exact congrArg Host.Outcome.next (hr.serveCode_later hc (State.toAnchor_of_other hna ha))
  · exact congrArg Host.Outcome.next (hr.serveCode_later hc (State.toAnchor_of_other hna ha))
  · exact congrArg Host.Outcome.next (hr.serveCode_later hc (State.toAnchor_of_other hna ha))
  · refine ⟨_, congrArg Host.Outcome.next (goalTableFrame_of_higher hu hn hl), ?_⟩
    have htable : (s.tableTaken sender n slots).plc.goals = slots ∧ (s.tableTaken sender n slots).plc.goalFrom = sender := by
      rw [State.tableTaken_plc]
      exact ⟨s.goalsTake_goals slots n, rfl⟩
    split
    · rw [State.goalFlood_plc, State.rd_goalFlood]
      exact ⟨htable.1, htable.2, fun hs => hs.rd_tableTaken⟩
    · exact ⟨htable.1, htable.2, fun hs => hs.rd_tableTaken⟩

end Sys2Proof.Machine
end

section
/-! PROOFS. Checkpoints, JOB frames and the move of a job (R319, R320, R322). -/
namespace Sys2Proof.Machine

section
variable {s : State} {key : JobKey}

/-! ## A checkpoint (R319) -/

/-- The body in force of a checkpoint is that of the half not last taken into. -/
theorem Checkpoint.take_body (c : Checkpoint) (h : FAddr) (n : Word) (body : JobBody) :
    (c.take h n true body).body = some body ∧ (c.take h n false body).body = c.body ∧ (c.take h n false body).seq = c.seq ∧
      (c.take h n true body).seq = n := by
  unfold Checkpoint.take Checkpoint.body
  cases c.inHalf1 <;> simp

theorem checkpoint_of_none {body : List Byte} (h : s.hosted key = none) : checkpoint key body s = s := by
  unfold checkpoint
  rw [h]

/-- A checkpoint of a job here is stored (R319). -/
def State.ckptKept (s : State) (key : JobKey) (j : Job) (body : List Byte) : State :=
  s.ckptStore key s.fab.addr j.seq true (s.jobBody key body)

theorem checkpoint_of_hosted {j : Job} {body : List Byte} (h : s.hosted key = some j) (hu : s.up = true) (hv : s.fab.valid = true)
    (hp : j.paused = false) (hl : body.length ≤ 8192) :
    (j.moving = none → checkpoint key body s = ((s.holders s.fab.addr).filter fun a => !(a == s.fab.addr)).foldl
      (fun (t : State) a => t.sendJob a 1 (s.ckptHead j) body) (s.ckptKept key j body)) ∧
    (∀ a, j.moving = some a → s.pwr.gcause ≠ 2 → checkpoint key body s =
      ((s.ckptKept key j body).sendJob a 2 (s.ckptHead j) body).jobSet key fun x => { x with paused := true }) := by
  have hc : ¬ (!(s.up && s.fab.valid) || j.paused || decide (8192 < body.length)) = true := by simp [hu, hv, hp, hl]
  unfold checkpoint
  rw [h]
  dsimp only
  rw [if_neg hc]
  refine ⟨fun hm => ?_, fun a hm hg => ?_⟩
  · rw [hm]
    rfl
  · rw [hm]
    exact if_neg (by simpa using hg)

/-! ## What the frames of jobs leave -/

/-- The jobs a node hosts, what its jobs have counted, and the leads. -/
def State.jobsView (s : State) : List Job × List SocJob × List Sred × Pins := (s.plc.jobs, s.plc.soc, s.plc.sred, s.pins)

/-- The jobs a node hosts, and the leads. -/
def State.hostView (s : State) : List Job × Pins := (s.plc.jobs, s.pins)

theorem State.sendJob_plc (a : FAddr) (kind : Byte) (head bytes : List Byte) : (s.sendJob a kind head bytes).plc = s.plc :=
  foldl_keeps State.plc _ (by intros; simp) _ s

theorem State.sendJob_pins (a : FAddr) (kind : Byte) (head bytes : List Byte) : (s.sendJob a kind head bytes).pins = s.pins :=
  foldl_keeps State.pins _ (by intros; simp) _ s

theorem State.sendJob_imp (a : FAddr) (kind : Byte) (head bytes : List Byte) : (s.sendJob a kind head bytes).imp = s.imp :=
  foldl_keeps State.imp _ (by intros; simp) _ s

theorem State.sendJob_jobsView (s : State) (a : FAddr) (kind : Byte) (head bytes : List Byte) :
    (s.sendJob a kind head bytes).jobsView = s.jobsView := by
  simp [State.jobsView, State.sendJob_plc, State.sendJob_pins]

theorem State.hostView_of_jobsView {t : State} (h : t.jobsView = s.jobsView) : t.hostView = s.hostView := congrArg (fun v => (v.1, v.2.2.2)) h

theorem State.plcShow_jobsView (s : State) : s.plcShow.jobsView = s.jobsView := rfl

theorem State.raise_jobsView (s : State) (n : Nat) (data : Word) : (s.raise n data).jobsView = s.jobsView := by simp [State.jobsView]

theorem State.ckptStore_jobsView (s : State) (key : JobKey) (host : FAddr) (seq : Word) (ok : Bool) (body : JobBody) :
    (s.ckptStore key host seq ok body).jobsView = s.jobsView := by
  unfold State.ckptStore
  extract_lets l
  split
  · rfl
  · split <;> rfl

theorem State.takeFit_hostView (s : State) (f : FitJob) : (s.takeFit f).hostView = s.hostView := by
  unfold State.takeFit
  extract_lets mine g
  split
  · refine (foldl_keeps State.hostView _ (fun t n => ?_) _ _).trans rfl
    split
    · rfl
    · exact State.hostView_of_jobsView (t.sendJob_jobsView ..)
  · rfl

theorem State.takeBody_hostView (s : State) (k : JobKey) (b : Option JobBody) : (s.takeBody k b).hostView = s.hostView := by
  unfold State.takeBody
  extract_lets keep
  split
  · rfl
  · split
    · split
      · exact s.takeFit_hostView _
      · rfl
    · rfl

theorem State.hosted_of_hostView {t : State} (h : t.hostView = s.hostView) (key : JobKey) : t.hosted key = s.hosted key :=
  congrArg (fun v => v.1.find? fun j => j.key == key) h

/-! ## A job that arrives (R320) -/

theorem State.hosted_startJob (s : State) (str : BitVec 6) (cost : Nat) (seq : Word) (rerun : Bool) :
    ((s.startJob key str cost seq rerun).hosted key).isSome = true := by
  unfold State.hosted
  rw [List.find?_isSome]
  exact ⟨⟨key, str, cost, seq, rerun, none, false⟩, List.mem_append_right _ (List.mem_singleton_self _), beq_self_eq_true key⟩

theorem State.jobArrives_leaves {host : FAddr} {n : Word} {guard : Bool} {body : JobBody} (hneed : (s.needOf key).isSome = true)
    (hh : s.hosted key = none) :
    ((s.jobArrives key host n guard body).hosted key).isSome = true ∧ (s.jobArrives key host n guard body).pins = s.pins := by
  obtain ⟨⟨str, cost⟩, hn⟩ := Option.isSome_iff_exists.1 hneed
  have hstart : ((((s.ckptStore key s.fab.addr n true body).startJob key str cost n false).takeBody key (some body)).plcShow).hostView =
      ((s.ckptStore key s.fab.addr n true body).startJob key str cost n false).hostView :=
    (State.hostView_of_jobsView (State.plcShow_jobsView _)).trans (State.takeBody_hostView ..)
  have hpins : (s.ckptStore key s.fab.addr n true body).pins = s.pins := congrArg (·.2.2.2) (s.ckptStore_jobsView ..)
  unfold State.jobArrives
  rw [hn]
  dsimp only
  rw [hh, if_neg (by simp)]
  have hend (t : State) (data : Word) : (((t.sendJob host 4 (keyBytes key) []).addSat 0x210A 0 16 1).raise 61 data).hostView = t.hostView :=
    (State.hostView_of_jobsView (State.raise_jobsView ..)).trans (State.hostView_of_jobsView (t.sendJob_jobsView ..))
  refine ⟨?_, (congrArg (·.2) ((hend _ _).trans hstart)).trans hpins⟩
  rw [State.hosted_of_hostView ((hend _ _).trans hstart)]
  exact State.hosted_startJob ..

/-! ## JOB frames -/

theorem jobFrame_checkpoint (hu : s.up = true) (hv : s.fab.valid = true) {host : FAddr} {n : Word} {ok : Bool} {body : JobBody}
    (hl : body.bytes.length ≤ 8192) : jobFrame (.checkpoint key host n ok body) s = s.ckptStore key host n ok body := by
  simp [jobFrame, hu, hv, hl]

theorem jobFrame_move_bad (hu : s.up = true) (hv : s.fab.valid = true) {host : FAddr} {n : Word} {guard : Bool} {body : JobBody} :
    jobFrame (.move key host n false guard body) s = s := by
  simp [jobFrame, hu, hv]

theorem jobFrame_move_good (hu : s.up = true) (hv : s.fab.valid = true) {host : FAddr} {n : Word} {guard : Bool} {body : JobBody}
    (hl : body.bytes.length ≤ 8192) : jobFrame (.move key host n true guard body) s = s.jobArrives key host n guard body := by
  simp [jobFrame, hu, hv, hl]

theorem jobFrame_copy (hu : s.up = true) (hv : s.fab.valid = true) (r : Rec) : jobFrame (.copy r) s = s.recStore r := by
  simp [jobFrame, hu, hv]

theorem jobFrame_release (hu : s.up = true) (hv : s.fab.valid = true) (t0 : DWord) : jobFrame (.release t0) s = s.impRelease t0 := by
  simp [jobFrame, hu, hv]

theorem jobFrame_resend (hu : s.up = true) (hv : s.fab.valid = true) (t0 : DWord) (host : FAddr) :
    jobFrame (.resend t0 host) s = s.impResend t0 host := by
  simp [jobFrame, hu, hv]

theorem jobFrame_restart_of_none (hu : s.up = true) (hv : s.fab.valid = true) (hn : s.needOf key = none) (host : FAddr) :
    jobFrame (.restart key host) s = s := by
  simp [jobFrame, hu, hv, hn]

theorem State.frameOut_fit (s : State) (p : SegIn) : (s.frameOut p).imp.fit = s.imp.fit := by
  unfold State.frameOut
  split
  · rfl
  · split
    · rfl
    · rw [State.sendJob_imp]

theorem State.impResend_of_live {t0 : DWord} {host : FAddr} (hf : s.imp.fit.isSome = true) (ht : s.imp.t0 = t0) :
    (s.impResend t0 host).imp.fit = some host := by
  have hc : (s.impLive && s.imp.t0 == t0) = true := by simp [State.impLive, hf, ht]
  unfold State.impResend
  rw [if_pos hc]
  exact foldl_keeps (fun t : State => t.imp.fit) _ (fun t p => t.frameOut_fit p) _ _

/-! ## The end of a move (R320, R322) -/

theorem jobMoveAck_of_hosted {j : Job} {host : FAddr} (h : s.hosted key = some j) :
    jobMoveAck key host s = if j.moving == some host && j.paused then s.jobDrop key else s := by
  unfold jobMoveAck
  rw [h]

theorem State.jobDrop_jobs (s : State) (key : JobKey) : (s.jobDrop key).plc.jobs = s.plc.jobs.filter fun j => !(j.key == key) := rfl

theorem State.hosted_jobDrop (s : State) (key : JobKey) : (s.jobDrop key).hosted key = none := by
  unfold State.hosted
  rw [State.jobDrop_jobs, List.find?_eq_none]
  intro j hj
  simpa using (List.mem_filter.1 hj).2

/-- The job resumed here, and placed here. -/
def State.jobResumed (s : State) (key : JobKey) : State :=
  let t := s.jobSet key fun x => { x with moving := none, paused := false }
  { t with plc := { t.plc with placed := t.plc.placed.map fun (p : Placed) => if p.key == key then { p with host := some s.fab.addr } else p } }

theorem jobMoveTimeout_of_hosted {j : Job} (h : s.hosted key = some j) :
    jobMoveTimeout key s = if j.moving.isSome && j.paused then (s.jobResumed key).maquette else s := by
  unfold jobMoveTimeout
  rw [h]
  rfl

theorem find?_key_map (l : List Job) (f : Job → Job) (hf : ∀ j, (f j).key = j.key) :
    (l.map fun j => if j.key == key then f j else j).find? (fun j => j.key == key) = (l.find? fun j => j.key == key).map f := by
  induction l with
  | nil => rfl
  | cons j l ih =>
    rw [List.map_cons, List.find?_cons, List.find?_cons]
    cases hj : j.key == key with
    | true => simp [hf, hj]
    | false => simpa [hj] using ih

theorem State.hosted_jobSet (s : State) (f : Job → Job) (hf : ∀ j, (f j).key = j.key) : (s.jobSet key f).hosted key = (s.hosted key).map f :=
  find?_key_map s.plc.jobs f hf

theorem State.hosted_jobResumed {j : Job} (h : s.hosted key = some j) :
    (s.jobResumed key).hosted key = some { j with moving := none, paused := false } := by
  have hset := s.hosted_jobSet (key := key) (fun x => { x with moving := none, paused := false }) fun _ => rfl
  rw [h] at hset
  exact hset

end

/-- Settles O50: each row by what the model does on its occasion. -/
theorem jobsMove : Obligations.JobsMove := by
  unfold Obligations.JobsMove
  refine ⟨fun c h n body => c.take_body h n body, fun s key => ⟨fun body h => congrArg Host.Outcome.next (checkpoint_of_none h),
    fun j body h hu hv hp hl => ⟨fun hm => congrArg Host.Outcome.next ((checkpoint_of_hosted h hu hv hp hl).1 hm),
      fun a hm hg => congrArg Host.Outcome.next ((checkpoint_of_hosted h hu hv hp hl).2 a hm hg)⟩,
    fun hu hv host n guard body hl => ⟨fun ok => congrArg Host.Outcome.next (jobFrame_checkpoint hu hv hl),
      congrArg Host.Outcome.next (jobFrame_move_bad hu hv), fun hneed hh => ?_,
      fun r => congrArg Host.Outcome.next (jobFrame_copy hu hv r), fun t0 hf ht => ?_, fun t0 hf ht => ?_, fun t0 hf => ?_, fun hn => ?_⟩,
    fun j host h => ⟨fun hm hp => ?_, fun hm => ?_, fun hm hp => ?_, fun hp => ?_⟩⟩⟩
  · obtain ⟨hhost, hpins⟩ := State.jobArrives_leaves (host := host) (n := n) (guard := guard) (body := body) hneed hh
    exact ⟨_, congrArg Host.Outcome.next (jobFrame_move_good hu hv hl), hhost, hpins⟩
  · exact congrArg Host.Outcome.next ((jobFrame_release hu hv t0).trans (if_pos (by simp [State.impLive, hf, ht])))
  · exact ⟨_, congrArg Host.Outcome.next (jobFrame_resend hu hv t0 _), State.impResend_of_live hf ht⟩
  · exact congrArg Host.Outcome.next ((jobFrame_resend hu hv t0 _).trans (if_neg (by simp [State.impLive, hf])))
  · exact congrArg Host.Outcome.next (jobFrame_restart_of_none hu hv hn _)
  · refine ⟨_, congrArg Host.Outcome.next ((jobMoveAck_of_hosted h).trans (if_pos (by simp [hm, hp]))), s.hosted_jobDrop key, fun i hi hne => ?_⟩
    rw [State.jobDrop_jobs]
    exact List.mem_filter.2 ⟨hi, by simpa using hne⟩
  · exact congrArg Host.Outcome.next ((jobMoveAck_of_hosted h).trans (if_neg (by simp [hm])))
  · refine ⟨s.jobResumed key, congrArg Host.Outcome.next ((jobMoveTimeout_of_hosted h).trans (if_pos (by simp [hm, hp]))), ?_, ?_, rfl⟩
    · rw [State.hosted_jobResumed h]
      rfl
    · rw [State.hosted_jobResumed h]
      rfl
  · exact congrArg Host.Outcome.next ((jobMoveTimeout_of_hosted h).trans (if_neg (by simp [hp])))

end Sys2Proof.Machine
end

section
/-! PROOFS. Copies of records, reads of records and digests, and the records of jobs (R317, R318, R326 to R329). -/
namespace Sys2Proof.Machine

section
variable {s : State} {src : Src} {r : Req}

/-! ## What the sending of records leaves -/

theorem State.sendRec_plc (s : State) (a : FAddr) (r : Rec) : (s.sendRec a r).plc = s.plc := State.sendJob_plc ..

theorem State.recSpread_jobsView (s : State) (r : Rec) : (s.recSpread r).jobsView = s.jobsView := by
  unfold State.recSpread
  refine foldl_keeps State.jobsView _ (fun t a => ?_) _ s
  split
  · rfl
  · exact t.sendJob_jobsView ..

/-! ## RECORD_COPY (R318) -/

variable {owner : FAddr}

theorem recordCopy_of_dropped (hu : s.up = true) (hv : s.fab.valid = true) (hh : s.fab.addr ∉ s.holders owner) : recordCopy owner s =
    ({ s with plc := { s.plc with
      recs := s.plc.recs.filter (fun r => !(r.owner == owner)), low := s.plc.low.erase owner,
      hold := s.plc.hold.filter (fun (h : FAddr × List FAddr) => !(h.1 == owner)) } }.recShow) := by
  unfold recordCopy
  rw [if_neg (by simp [hu, hv])]
  exact if_neg (by simpa using hh)

/-- A holder's copies to the holders that came new. -/
def State.recsSent (s : State) (owner : FAddr) : State :=
  ((s.holders owner).filter fun a => !(a == s.fab.addr) && !((s.remaining owner).contains a)).foldl (fun (t : State) a =>
    (s.plc.recs.filter fun r => r.owner == owner).foldl (fun (t : State) r => t.sendRec a r) t) s

theorem State.recsSent_plc (s : State) (owner : FAddr) : (s.recsSent owner).plc = s.plc :=
  foldl_keeps State.plc _ (fun t a => foldl_keeps State.plc _ (fun u r => u.sendRec_plc a r) _ t) _ s

/-- The holders of an owner noted. -/
def State.holdNoted (s t : State) (owner : FAddr) : State :=
  { t with plc := { t.plc with hold := (s.plc.hold.filter fun h => !(h.1 == owner)) ++ [(owner, s.holders owner)] } }

theorem State.holdNoted_low (s t : State) (owner : FAddr) : (s.holdNoted t owner).plc.low = t.plc.low := rfl

theorem recordCopy_of_holder (hu : s.up = true) (hv : s.fab.valid = true) (hh : s.fab.addr ∈ s.holders owner) (hl : owner ∉ s.plc.low) :
    recordCopy owner s = s.holdNoted (s.recsSent owner) owner := by
  have hlow : ¬ ((s.holdNoted (s.recsSent owner) owner).plc.low.contains owner && decide (s.nCopies ≤ (s.holders owner).length)) = true := by
    rw [State.holdNoted_low, State.recsSent_plc]
    simp [hl]
  unfold recordCopy
  rw [if_neg (by simp [hu, hv])]
  exact (if_pos (by simpa using hh)).trans (if_neg hlow)

/-! ## Reads (R326, R329) -/

theorem State.readRecord_here {kind : Byte} {n : Word} {off : Nat} (h : s.fab.addr ∈ s.holders owner ∨ s.holders owner = []) :
    s.readRecord src r .pass kind owner n off = (s, .done 0x00 (recReply (s.recFind kind owner n) off)) ∧
      s.readRecord src r .lasting kind owner n off = (s.memFault true 6, .done 0x11 []) := by
  have hc : ((s.holders owner).contains s.fab.addr || (s.holders owner).isEmpty) = true := by
    rcases h with h | h <;> simp [h]
  exact ⟨if_pos hc, if_pos hc⟩

/-- The words that RECORD_READ carries. -/
def Req.namesRecord (r : Req) : Prop := bitsOf r.a0 20 12 = 0 ∧ bitsOf r.a2 16 16 = 0 ∧ r.a3 = 0

theorem recordRead_of_named {chk : Check} {t : State} {st : Byte} {rsp : List Word} (h : s.Requests src r) (hc : r.code = 0x42) (hn : r.namesRecord)
    (hr : s.readRecord src r chk (BitVec.ofNat 8 (bitsOf r.a0 0 8)) (BitVec.ofNat 12 (bitsOf r.a0 8 12)) r.a1 (bitsOf r.a2 0 16) = (t, .done st rsp)) :
    exec (.recordRead src chk) s = .next (t.complete src st rsp).settle := by
  obtain ⟨h0, h2, h3⟩ := hn
  have hserve : recordRead src chk s = t.complete src st rsp := h.serveCode_done hc ((if_neg (by simp [h0, h2, h3])).trans hr)
  rw [← hserve]
  rfl

/-- The words that DIGEST_READ carries. -/
def Req.namesDigest (r : Req) : Prop := bitsOf r.a1 16 16 = 0 ∧ r.a2 = 0 ∧ r.a3 = 0

/-- What DIGEST_READ does with its words. -/
def State.digestReply (s : State) (src : Src) (r : Req) (chk : Check) : State × Reply :=
  match s.anchor with
  | some a => s.readRecord src r chk 0x34 a r.a0 (bitsOf r.a1 0 16)
  | none => s.fail stNoRoute

theorem digestRead_of_named {chk : Check} {t : State} {st : Byte} {rsp : List Word} (h : s.Requests src r) (hc : r.code = 0x43) (hn : r.namesDigest)
    (hr : s.digestReply src r chk = (t, .done st rsp)) : exec (.digestRead src chk) s = .next (t.complete src st rsp).settle := by
  obtain ⟨h1, h2, h3⟩ := hn
  have hserve : digestRead src chk s = t.complete src st rsp := h.serveCode_done hc ((if_neg (by simp [h1, h2, h3])).trans hr)
  rw [← hserve]
  rfl

end

/-! ## Digests (R328) -/

theorem length_insertKey {α : Type} (key : α → Nat) (x : α) (l : List α) : (insertKey key x l).length = l.length + 1 := by
  induction l with
  | nil => rfl
  | cons y l ih =>
    unfold insertKey
    split
    · rfl
    · rw [List.length_cons, ih, List.length_cons]

theorem length_sortKey {α : Type} (key : α → Nat) (l : List α) : (sortKey key l).length = l.length := by
  have h (acc : List α) : (l.foldl (fun acc x => insertKey key x acc) acc).length = acc.length + l.length := by
    induction l generalizing acc with
    | nil => rfl
    | cons x l ih => rw [List.foldl_cons, ih, length_insertKey, List.length_cons]; omega
  exact (h []).trans (Nat.zero_add _)

theorem length_flatMap_of_const {α : Type} (f : α → List Byte) (n : Nat) (hf : ∀ x, (f x).length = n) (l : List α) :
    (l.flatMap f).length = n * l.length := by
  induction l with
  | nil => rfl
  | cons x l ih => rw [List.flatMap_cons, List.length_append, hf, ih, List.length_cons, Nat.mul_succ, Nat.add_comm]

theorem length_digestLines (es : List DigestEvent) : (digestLines es).length ≤ 24 := by
  rw [digestLines, List.length_take]
  exact Nat.min_le_left ..

theorem length_digestBody (d : DigestIn) : (digestBody d).length = 12 + 12 * d.strings.length + 8 * (digestLines d.events).length := by
  have hs (b : DigestString) : (digestStringBytes b).length = 12 := by simp [digestStringBytes]
  have he (e : DigestEvent) : (digestEventBytes e).length = 8 := by simp [digestEventBytes]
  unfold digestBody
  extract_lets strs lines
  simp only [List.length_append, length_flatMap_of_const _ _ hs, length_flatMap_of_const _ _ he, length_bytesBE, List.length_cons, List.length_nil]
  rw [show strs.length = d.strings.length from length_sortKey ..]

section
variable {s : State} {slot : Fin 32} {d : DigestIn}

/-! ## The records of jobs (R327, R328) -/

theorem State.jobWrote_eq (s : State) (key : JobKey) (n : Word) :
    s.jobWrote key n = s.jobSet key fun j => { j with seq := n + 1, rerun := false } := rfl

theorem State.hosted_jobWrote (s : State) (key : JobKey) (n : Word) :
    (s.jobWrote key n).hosted key = (s.hosted key).map fun j => { j with seq := n + 1, rerun := false } :=
  s.hosted_jobSet (fun j => { j with seq := n + 1, rerun := false }) fun _ => rfl

theorem State.jobWrote_leaves (s : State) (key : JobKey) (n : Word) :
    (s.jobWrote key n).pins = s.pins ∧ (s.jobWrote key n).plc.soc = s.plc.soc := ⟨rfl, rfl⟩

theorem digestClose_of_long {j : Job} {a : FAddr} (hj : s.hosted ⟨6, slot⟩ = some j) (ha : s.anchor = some a) (hl : 64 < d.strings.length) :
    digestClose slot d s = s := by
  unfold digestClose
  dsimp only
  rw [hj, ha]
  exact if_pos (by simp [hl])

theorem digestClose_of_due {j : Job} {a : FAddr} (hu : s.up = true) (hv : s.fab.valid = true) (hj : s.hosted ⟨6, slot⟩ = some j)
    (ha : s.anchor = some a) (hp : j.paused = false) (hl : d.strings.length ≤ 64) : ∃ (rec_ : Rec) (data : Word),
    digestClose slot d s = ((s.recSpread rec_).jobWrote ⟨6, slot⟩ (s.jobSeq j 0x34 a)).raise 64 data := by
  unfold digestClose
  dsimp only
  rw [hj, ha]
  exact ⟨_, _, if_neg (by simp [hu, hv, hp, hl])⟩

variable {charge : Int} {rests : List RestIn} {g : Goal}

theorem jobRecordInterval_of_none (h : nth s.plc.goals slot.val none = none) : jobRecordInterval slot charge rests s = s := by
  unfold jobRecordInterval
  rw [h]

/-- A REDUCE goal's records written, its counts begin anew. -/
def Sred.anew (x : Sred) : Sred := { x with cells := [], count := 0, part := false, seq := x.seq + 1 }

theorem jobRecordInterval_of_reduce (hg : nth s.plc.goals slot.val none = some g) (hu : s.up = true) (hv : s.fab.valid = true) (hk : g.kind = 5) :
    (jobRecordInterval slot charge rests s).plc.sred = s.plc.sred.map fun x => if x.slot == slot then x.anew else x := by
  unfold jobRecordInterval
  rw [hg]
  dsimp only
  rw [if_neg (by simp [hu, hv]), if_neg (by simp [hk]), if_pos (by simp [hk])]
  exact congrArg (fun v => v.2.2.1.map fun x => if x.slot == slot then x.anew else x)
    (foldl_keeps State.jobsView _ (fun t x => t.recSpread_jobsView _) _ s)

/-- What a STATE job has counted so far. -/
def State.socOld (s : State) (slot : Fin 32) : SocJob := (s.plc.soc.find? fun x => x.slot == slot).getD ⟨slot, 0, []⟩

theorem State.socOld_slot (s : State) (slot : Fin 32) : (s.socOld slot).slot = slot := by
  unfold State.socOld
  cases h : s.plc.soc.find? fun x => x.slot == slot with
  | none => rfl
  | some x => exact beq_iff_eq.1 (List.find?_some (p := fun x : SocJob => x.slot == slot) h)

theorem State.socOld_charge (s : State) (slot : Fin 32) :
    (s.socOld slot).charge = match s.plc.soc.find? fun x => x.slot == slot with | some x => x.charge | none => 0 := by
  unfold State.socOld
  cases s.plc.soc.find? fun x => x.slot == slot <;> rfl

/-- The job's new count. -/
def State.socCounted (s : State) (slot : Fin 32) (g : Goal) (charge : Int) (rests : List RestIn) : State :=
  { s with plc := { s.plc with
    soc := (s.plc.soc.filter fun x => !(x.slot == slot)) ++ [s.socStep g (s.socOld slot) charge rests] } }

theorem jobRecordInterval_of_state {j : Job} (hg : nth s.plc.goals slot.val none = some g) (hu : s.up = true) (hv : s.fab.valid = true)
    (hk : g.kind = 4) (hj : s.hosted ⟨2, slot⟩ = some j) (hp : j.paused = false) : ∃ (rec_ : SocRow → Rec) (rows : List SocRow) (n : Word),
    jobRecordInterval slot charge rests s =
      (rows.foldl (fun (t : State) r => t.recSpread (rec_ r)) (s.socCounted slot g charge rests)).jobWrote ⟨2, slot⟩ n := by
  unfold jobRecordInterval
  rw [hg]
  dsimp only
  rw [if_neg (by simp [hu, hv]), if_pos (by simp [hk]), hj]
  dsimp only
  rw [if_neg (by simp [hp])]
  exact ⟨_, _, _, rfl⟩

theorem State.foldl_recSpread_jobsView (rec_ : SocRow → Rec) (rows : List SocRow) (s : State) :
    (rows.foldl (fun (t : State) r => t.recSpread (rec_ r)) s).jobsView = s.jobsView :=
  foldl_keeps State.jobsView _ (fun t r => t.recSpread_jobsView (rec_ r)) rows s

end

/-- Settles O51: each row by what the model does on its occasion. -/
theorem recordsKept : Obligations.RecordsKept := by
  unfold Obligations.RecordsKept
  intro s
  refine ⟨fun owner hu hv hh => congrArg Host.Outcome.next (recordCopy_of_dropped hu hv hh),
    fun owner hu hv hh hl => congrArg Host.Outcome.next (recordCopy_of_holder hu hv hh hl),
    fun src r hr => ⟨fun hc h0 h2 h3 hh => ?_, fun hc h1 h2 h3 => ⟨fun ha chk => ?_, fun a ha hh => ?_⟩⟩, fun off => rfl,
    fun d => ⟨length_digestLines d.events, length_digestBody d⟩,
    fun slot j a d hu hv hj ha hp => ⟨fun hl => congrArg Host.Outcome.next (digestClose_of_long hj ha hl), fun hl => ?_⟩,
    fun slot charge rests => ⟨fun hn => congrArg Host.Outcome.next (jobRecordInterval_of_none hn),
      fun g hg hu hv => ⟨fun hk => ?_, fun j hk hj hp => ?_⟩⟩⟩
  · exact ⟨recordRead_of_named hr hc ⟨h0, h2, h3⟩ (State.readRecord_here hh).1,
      recordRead_of_named hr hc ⟨h0, h2, h3⟩ (State.readRecord_here hh).2⟩
  · refine digestRead_of_named hr hc ⟨h1, h2, h3⟩ ?_
    rw [State.digestReply, ha]
    rfl
  · refine digestRead_of_named hr hc ⟨h1, h2, h3⟩ ?_
    rw [State.digestReply, ha]
    exact (State.readRecord_here hh).1
  · obtain ⟨rec_, data, h⟩ := digestClose_of_due hu hv hj ha hp hl
    have hview := State.raise_jobsView ((s.recSpread rec_).jobWrote ⟨6, slot⟩ (s.jobSeq j 0x34 a)) 64 data
    have hspread := s.recSpread_jobsView rec_
    have hhost : (digestClose slot d s).hosted ⟨6, slot⟩ = some { j with seq := s.jobSeq j 0x34 a + 1, rerun := false } := by
      rw [h, State.hosted_of_hostView (State.hostView_of_jobsView hview), State.hosted_jobWrote,
        State.hosted_of_hostView (State.hostView_of_jobsView hspread), hj]
      rfl
    have hpins : (digestClose slot d s).pins = s.pins := by
      rw [h]
      exact (congrArg (·.2.2.2) hview).trans (congrArg (·.2.2.2) hspread)
    refine ⟨_, rfl, ?_, ?_, hpins⟩
    · rw [hhost]
      rfl
    · rw [hhost]
      rfl
  · have hsred := jobRecordInterval_of_reduce (charge := charge) (rests := rests) hg hu hv hk
    refine ⟨_, rfl, ?_, fun x hx hs => ?_⟩
    · rw [hsred, List.length_map]
    · rw [hsred] at hx
      obtain ⟨y, -, rfl⟩ := List.mem_map.1 hx
      by_cases hy : (y.slot == slot) = true
      · rw [if_pos hy]
        exact ⟨rfl, rfl, rfl⟩
      · rw [if_neg hy] at hs
        exact absurd (beq_iff_eq.2 hs) hy
  · obtain ⟨rec_, rows, n, h⟩ := jobRecordInterval_of_state (charge := charge) (rests := rests) hg hu hv hk hj hp
    have hview := State.foldl_recSpread_jobsView rec_ rows (s.socCounted slot g charge rests)
    have hhost : (jobRecordInterval slot charge rests s).hosted ⟨2, slot⟩ = some { j with seq := n + 1, rerun := false } := by
      have hcount : (s.socCounted slot g charge rests).hosted ⟨2, slot⟩ = some j := hj
      rw [h, State.hosted_jobWrote, State.hosted_of_hostView (State.hostView_of_jobsView hview), hcount]
      rfl
    refine ⟨_, rfl, ?_, ?_, s.socStep g (s.socOld slot) charge rests, ?_, s.socOld_slot slot, ?_⟩
    · rw [hhost]
      rfl
    · rw [h]
      exact congrArg (·.2.2.2) hview
    · have hsoc := congrArg (fun v => v.2.1) hview
      dsimp only [State.jobsView] at hsoc
      rw [h, (State.jobWrote_leaves ..).2, hsoc]
      exact List.mem_append_right _ (List.mem_singleton_self _)
    · exact (add_comm _ _).trans (congrArg (charge + ·) (s.socOld_charge slot))

end Sys2Proof.Machine
end

section
/-! PROOFS. No command changes the queue of waiting commands or the serial number, and no command hands a free value back. Only `draw` and the
five operations that draw inline move the counter of the free values, and each moves it up; no operation writes the queue or the serial number. So
there is one lemma per operation, in the order of the model's files, named `State.Since.op` after the operation `op` (`op_fst`, `op_snd` where it
answers a pair), and its proof is the composition `op` is made of. -/
namespace Sys2Proof.Machine

/-- The state has the queue and the serial number of `z`, and none of the free values that `z` had drawn is to be drawn again. -/
def State.Since (s z : State) : Prop := s.pending = z.pending ∧ s.serial = z.serial ∧ z.free ≤ s.free

section
variable {s z : State}

theorem State.Since.refl (s : State) : s.Since s := ⟨rfl, rfl, Nat.le_refl _⟩

/-! ## The shapes operations are built from -/

/-- A record update that leaves the queue, the serial number and the counter of free values as they are. -/
theorem State.Since.frame {clk pwr par mem host ev nv sense conv seq pat imp bal tmr ports fab sweep snap plc therm safe chis pins}
    (h : s.Since z) :
    (State.mk clk pwr par mem host ev nv sense conv seq pat imp bal tmr ports fab sweep snap plc therm safe chis pins s.serial s.free
      s.pending).Since z := h

/-- A record update that draws free values. -/
theorem State.Since.drawn {n : Nat} (h : s.Since z) : { s with free := s.free + n }.Since z := by
  obtain ⟨hpending, hserial, hfree⟩ := h
  exact ⟨hpending, hserial, Nat.le_add_right_of_le hfree⟩

theorem State.Since.fst {β : Type} {r : β} (h : s.Since z) : ((s, r) : State × β).1.Since z := h

theorem State.Since.ite {c : Prop} {_ : Decidable c} {a b : State} (ha : a.Since z) (hb : b.Since z) : (if c then a else b).Since z := by
  split
  · exact ha
  · exact hb

theorem State.Since.foldl {α : Type} {f : State → α → State} {l : List α} (h : s.Since z) (hf : ∀ t x, t.Since z → (f t x).Since z) :
    (l.foldl f s).Since z := by
  induction l generalizing s with
  | nil => exact h
  | cons x l ih => exact ih (hf s x h)

theorem State.Since.foldl_fst {α β : Type} {f : State × β → α → State × β} {l : List α} {a : State × β} (h : a.1.Since z)
    (hf : ∀ a x, a.1.Since z → (f a x).1.Since z) : (l.foldl f a).1.Since z := by
  induction l generalizing a with
  | nil => exact h
  | cons x l ih => exact ih (hf a x h)

/-- A fold that carries a list beside the state. -/
theorem State.Since.foldl_pair {α β : Type} {g : State × β → α → State} {k : State × β → α → β} {l : List α} {b : β}
    (h : s.Since z) (hg : ∀ a x, a.1.Since z → (g a x).Since z) : (l.foldl (fun a x => (g a x, k a x)) (s, b)).1.Since z := .foldl_fst h hg

/-- What an operation that may answer no state leaves. -/
theorem State.Since.getD {o : Option State} (h : s.Since z) (ho : ∀ t ∈ o, t.Since z) : (o.getD s).Since z := by
  cases o with
  | none => exact h
  | some t => exact ho t rfl

/-! ## The named writes (Machine/Store.lean) -/

theorem State.Since.wr {id : Nat} {v : Word} (h : s.Since z) : (s.wr id v).Since z := by simpa [State.Since] using h
theorem State.Since.setFld {id lo width v : Nat} (h : s.Since z) : (s.setFld id lo width v).Since z := by simpa [State.Since] using h
theorem State.Since.setBit {id n : Nat} {b : Bool} (h : s.Since z) : (s.setBit id n b).Since z := by simpa [State.Since] using h
theorem State.Since.addSat {id lo width n : Nat} (h : s.Since z) : (s.addSat id lo width n).Since z := by simpa [State.Since] using h
theorem State.Since.addWord {id n : Nat} (h : s.Since z) : (s.addWord id n).Since z := by simpa [State.Since] using h
theorem State.Since.stByte {a : Nat} {b : Byte} (h : s.Since z) : (s.stByte a b).Since z := by simpa [State.Since] using h
theorem State.Since.stBytes {a : Nat} {bs : List Byte} (h : s.Since z) : (s.stBytes a bs).Since z := by simpa [State.Since] using h
theorem State.Since.stWord {a : Nat} {w : Word} (h : s.Since z) : (s.stWord a w).Since z := by simpa [State.Since] using h
theorem State.Since.stWords {a : Nat} {ws : List Word} (h : s.Since z) : (s.stWords a ws).Since z := by simpa [State.Since] using h

/-! ## Links and frames (Machine/Net.lean) -/

theorem State.Since.setPort {p : Fin 4} {f : Port → Port} (h : s.Since z) : (s.setPort p f).Since z := h.frame
theorem State.Since.enqueue {p : Fin 4} {f : Frame} (h : s.Since z) : (s.enqueue p f).Since z := h.setPort
theorem State.Since.noRoute (h : s.Since z) : s.noRoute.Since z := h.addSat

theorem State.Since.forward {f : Frame} (h : s.Since z) : (s.forward f).Since z := by
  unfold State.forward
  split
  · exact h.enqueue
  · exact h.noRoute

theorem State.Since.flood {f : Frame} {from_ : Option (Fin 4)} (h : s.Since z) : (s.flood f from_).Since z := by
  unfold State.flood
  exact h.foldl fun _ _ ht => by
    split
    · exact ht.enqueue.ite ht
    · exact ht

theorem State.Since.sendTo {ty : Byte} {dst : FAddr} {payload : List Byte} (h : s.Since z) : (s.sendTo ty dst payload).Since z := h.frame.forward
theorem State.Since.sendAll {ty : Byte} {payload : List Byte} (h : s.Since z) : (s.sendAll ty payload).Since z := h.frame.flood
theorem State.Since.control {p : Fin 4} {code a1 a2 : Byte} (h : s.Since z) : (s.control p code a1 a2).Since z := h.setPort

/-! ## Host notices, events, and how a command ends (Machine/Ops.lean) -/

theorem State.Since.draw_snd (h : s.Since z) : s.draw.2.Since z := h.drawn
theorem State.Since.advanceTo {t : DWord} (h : s.Since z) : (s.advanceTo t).Since z := h.frame.ite h
theorem State.Since.canSend {offset : Nat} {payload : List Byte} (h : s.Since z) : (s.canSend offset payload).Since z := h.frame.ite h
theorem State.Since.uartSend {payload : List Byte} (h : s.Since z) : (s.uartSend payload).Since z := h.frame.ite h
theorem State.Since.sendNotice (h : s.Since z) : s.sendNotice.Since z := h.canSend.uartSend.frame
theorem State.Since.notifyFrom {old : State} (h : s.Since z) : (old.notifyFrom s).Since z := (h.frame.ite h.sendNotice).ite h
theorem State.Since.nvPut {job : NvJob} {a : Nat} {bs : List Byte} (h : s.Since z) : (s.nvPut job a bs).Since z := h.frame
theorem State.Since.ringPut {ws : List Word} {n : Nat} (h : s.Since z) : (s.ringPut ws n).Since z := h.stWords.frame.notifyFrom
theorem State.Since.evDiscard {fromRing : Bool} (h : s.Since z) : (s.evDiscard fromRing).Since z := h.addSat.frame
theorem State.Since.ringAdd {ws : List Word} {n : Nat} (h : s.Since z) : (s.ringAdd ws n).Since z := h.evDiscard.ite h.ringPut
theorem State.Since.evForward {e : EvEntry} (h : s.Since z) : (s.evForward e).Since z := (h.foldl fun _ _ ht => ht.sendTo).ite h
theorem State.Since.evPlace {e : EvEntry} (h : s.Since z) : (s.evPlace e).Since z := h.ringAdd.evForward.ite h

theorem State.Since.logPut {e : EvEntry} (h : s.Since z) : (s.logPut e).Since z :=
  (h.frame.wr.wr.nvPut.evPlace.ite h.frame.wr.wr.nvPut).ite h.addSat

theorem State.Since.triggers {n : Nat} (h : s.Since z) : (s.triggers n).Since z := by
  unfold State.triggers
  dsimp only
  split
  · exact h.frame.ite h
  · exact h

theorem State.Since.raiseC {s0 : State} {n : Nat} {data : Word} {cleared : Bool} (h : s0.Since z) : (s0.raiseC n data cleared).Since z := by
  unfold State.raiseC
  extract_lets _ s _ s1
  have hs : s.Since z := h.ite h.triggers
  have hs1 : s1.Since z := hs.frame.ite hs
  exact (hs.logPut.ite hs).evPlace.ite ((hs1.frame.ite hs1.evDiscard).ite hs1)

theorem State.Since.raise {n : Nat} {data : Word} (h : s.Since z) : (s.raise n data).Since z := h.raiseC
theorem State.Since.ringOverflow (h : s.Since z) : s.ringOverflow.Since z := h.frame.ringPut.evForward
theorem State.Since.raiseSlow {n unit : Nat} {data : Word} (h : s.Since z) : (s.raiseSlow n unit data).Since z := h.ite h.frame.raise
theorem State.Since.transient {k n : Nat} (h : s.Since z) : (s.transient k n).Since z := by
  unfold State.transient
  extract_lets s1 _ _ s2
  have hs1 : s1.Since z := h.addSat
  have hs2 : s2.Since z := hs1.frame
  exact hs2.frame.raise.ite hs2

theorem State.Since.mbxDone {tag status : Byte} {rsp : List Word} (h : s.Since z) : (s.mbxDone tag status rsp).Since z := h.frame.notifyFrom

theorem State.Since.complete {src : Src} {status : Byte} {rsp : List Word} (h : s.Since z) : (s.complete src status rsp).Since z := by
  unfold State.complete
  extract_lets
  split
  · split
    · exact h.mbxDone
    · exact h
  · split
    · exact h.frame.sendTo
    · exact h

theorem State.Since.markStarted {src : Src} (h : s.Since z) : (s.markStarted src).Since z := by
  unfold State.markStarted
  extract_lets
  split <;> exact h.frame

theorem State.Since.serve {src : Src} {want : Req → Bool} {f : State → Req → State × Reply} (h : s.Since z)
    (hf : ∀ {t : State} {r : Req}, t.Since z → (f t r).1.Since z) : (s.serve src want f).Since z := by
  unfold State.serve
  split
  · split
    · dsimp only
      split
      · exact (hf h).complete
      · exact (hf h).markStarted
    · exact h
  · exact h

theorem State.Since.serveCode {src : Src} {code : Byte} {f : State → Req → State × Reply} (h : s.Since z)
    (hf : ∀ {t : State} {r : Req}, t.Since z → (f t r).1.Since z) : (s.serveCode src code f).Since z := h.serve hf

theorem State.Since.fail_fst {status : Byte} (h : s.Since z) : (s.fail status).1.Since z := h

/-! ## Balancing (Machine/Balance.lean) -/

theorem State.Since.balRefresh (h : s.Since z) : s.balRefresh.Since z := h.setFld.setFld.frame
theorem State.Since.applyBudget (h : s.Since z) : s.applyBudget.Since z := (h.frame.raise.ite h.frame).balRefresh

theorem State.Since.budgetRound (h : s.Since z) : s.budgetRound.Since z :=
  h.setBit.applyBudget.setFld.frame.raiseC.ite h.setBit.applyBudget.setFld

theorem State.Since.swFault {k cause : Nat} (h : s.Since z) : (s.swFault k cause).Since z :=
  (h.setBit.raise.frame.ite h.setBit.raise).balRefresh

theorem State.Since.shtFault {j cause : Nat} (h : s.Since z) : (s.shtFault j cause).Since z := h.setBit.raise.balRefresh.frame

theorem State.Since.balOvercurrentTrip {cell : Fin 24} (h : s.Since z) : (balOvercurrentTrip cell s).Since z :=
  (h.frame.swFault.ite h.frame.balRefresh).ite h

theorem State.Since.balReclose {cell : Fin 24} (h : s.Since z) : (balReclose cell s).Since z := h.frame.transient.balRefresh.ite h

theorem State.Since.shuttleFrameSend {j : Fin 23} {sense : BitVec 2} (h : s.Since z) : (shuttleFrameSend j sense s).Since z :=
  h.ite ((h.frame.shtFault.ite h.frame).ite (h.frame.transient.ite h.frame))

theorem State.Since.balAssignmentReceived {items : List BalItem} (h : s.Since z) : (balAssignmentReceived items s).Since z :=
  h.frame.setBit.ite h

theorem State.Since.balAssignmentApply (h : s.Since z) : (balAssignmentApply s).Since z := by
  unfold Machine.balAssignmentApply
  extract_lets
  split
  · exact h.ite h.frame.setBit.applyBudget
  · exact h

theorem State.Since.balLeaseLapse (h : s.Since z) : (balLeaseLapse s).Since z := h.frame.setBit.setBit.balRefresh.ite h
theorem State.Since.balReport {plan : FAddr} (h : s.Since z) : (balReport plan s).Since z := h.sendTo.ite h
theorem State.Since.probeAll (h : s.Since z) : s.probeAll.Since z := h.frame
theorem State.Since.probeRound (h : s.Since z) : s.probeRound.Since z := (h.frame.probeAll.ite h).frame.probeAll.ite (h.frame.probeAll.ite h)
theorem State.Since.probeStart {cell : Fin 24} (h : s.Since z) : (probeStart cell s).Since z := h.frame.setBit.balRefresh.ite h
theorem State.Since.probeEnd (h : s.Since z) : s.probeEnd.Since z := h.frame.setBit.balRefresh
theorem State.Since.lineCheck {line : Nat} {r : Rat} (h : s.Since z) : (s.lineCheck line r).Since z := h.frame.raise.ite h.frame

theorem State.Since.probeJudge {p : Probe} (h : s.Since z) : (s.probeJudge p).Since z := by
  unfold State.probeJudge
  extract_lets _ _ _ _ _ _ _ _ s0 _ _ _ _ s2
  have hs0 : s0.Since z := h.transient.ite h
  have hs2 : s2.Since z := hs0.wr.setBit.setFld
  exact (hs0.probeEnd.swFault.ite hs2.lineCheck.lineCheck.probeEnd).ite (h.probeEnd.ite h.frame.balRefresh)

theorem State.Since.probeCycleEnd {off on : List Int} (h : s.Since z) : (probeCycleEnd off on s).Since z := by
  unfold Machine.probeCycleEnd
  extract_lets
  split
  · exact h
  · exact h.frame.balRefresh.ite ((h.frame.balRefresh.probeJudge.ite h.frame.balRefresh).ite h.frame.balRefresh)

theorem State.Since.sendItems {a : FAddr} {items : List BalItem} (h : s.Since z) : (s.sendItems a items).Since z :=
  h.balAssignmentReceived.ite h.sendTo

theorem State.Since.planSend {slot : Fin 32} {a : FAddr} {items : List BalItem} (h : s.Since z) : (s.planSend slot a items).Since z :=
  h.frame.sendItems

theorem State.Since.goalCheck {slot : Fin 32} {g : Goal} {spread : Int} (h : s.Since z) : (s.goalCheck slot g spread).Since z :=
  (h.frame.raiseC.ite h).ite (h.frame.raise.ite h)

theorem State.Since.balPlanEvaluate {slot : Fin 32} {reports : List BalReport} (h : s.Since z) : (balPlanEvaluate slot reports s).Since z := by
  unfold Machine.balPlanEvaluate
  split
  · exact h
  · extract_lets
    split
    · exact h
    · split
      · exact h.foldl fun _ _ ht => ht.sendItems
      · split
        · exact h
        · exact (h.foldl fun _ _ ht => ht.planSend).goalCheck

/-! ## Conversions, filters and streams (Machine/Lanes.lean) -/

theorem State.Since.patinaPlan {lane : Fin 5} {clk : Nat} (h : s.Since z) : (s.patinaPlan lane clk).Since z := h.drawn.frame
theorem State.Since.patinaSweep (h : s.Since z) : s.patinaSweep.Since z := (h.foldl fun _ _ ht => ht.patinaPlan).ite h
theorem State.Since.takeGain (h : s.Since z) : s.takeGain.Since z := h.frame

theorem State.Since.planPass {s0 : State} {e : Entry} {start : Nat} (h : s0.Since z) : (s0.planPass e start).Since z :=
  (h.takeGain.ite h).frame.patinaSweep.ite (h.takeGain.ite h).frame

theorem State.Since.replan {c : Nat} (h : s.Since z) : (s.replan c).Since z := h.ite h.frame
theorem State.Since.setStream {n : Nat} {f : Stream → Stream} (h : s.Since z) : (s.setStream n f).Since z := h.frame
theorem State.Since.stageAll {w : StageWord} (h : s.Since z) : (s.stageAll w).Since z := h.foldl fun _ _ ht => ht.setStream.ite ht
theorem State.Since.tailMoved {n : Nat} (h : s.Since z) : (s.tailMoved n).Since z := h.setStream.ite h
theorem State.Since.watermark {n : Nat} (h : s.Since z) : (s.watermark n).Since z := (h.setStream.frame.notifyFrom.raise.ite h).ite h.setStream
theorem State.Since.streamPut {n : Nat} {ws : List Word} (h : s.Since z) : (s.streamPut n ws).Since z := (h.foldl fun _ _ ht => ht.stWord).wr
theorem State.Since.streamLose {n k : Nat} (h : s.Since z) : (s.streamLose n k).Since z := h.addSat.setStream
theorem State.Since.convOvf {n : Nat} (h : s.Since z) : (s.convOvf n).Since z := h.setStream.raise
theorem State.Since.convOvfSlow {n : Nat} (h : s.Since z) : (s.convOvfSlow n).Since z := h.ite h.frame.convOvf

theorem State.Since.pieceWrite {n pass : Nat} {t : Stream} {words : List StageWord} (h : s.Since z) : (s.pieceWrite n pass t words).Since z := by
  unfold State.pieceWrite
  extract_lets _ _ _ _ _ _ _ _ _ _ s1'
  have hs1' : s1'.Since z := h.setStream.streamLose.setBit
  split
  · exact h.setStream.streamPut.watermark
  · exact h.setStream.wr.tailMoved.streamLose.convOvfSlow.streamPut.watermark.ite hs1'.convOvf.raise.streamLose

theorem State.Since.streamBurstWrite {st : Fin 8} (h : s.Since z) : (streamBurstWrite st s).Since z := by
  unfold Machine.streamBurstWrite
  extract_lets
  split
  · exact h
  · split
    · exact h
    · exact h.ite (h.setStream.ite ((h.setBit.pieceWrite.ite h.setStream.streamLose).ite h.pieceWrite))

theorem State.Since.auxRun {n i cause : Nat} {bad : Bool} {v : Int} (h : s.Since z) : (s.auxRun n i cause bad v).Since z := by
  unfold State.auxRun
  extract_lets
  split
  · exact h.frame
  · exact h.frame.raiseC

theorem State.Since.auxSample {n : Nat} {v : Int} {gain : Nat} {clipped : Bool} (h : s.Since z) : (s.auxSample n v gain clipped).Since z :=
  (h.setFld.ite h).auxRun.auxRun

theorem State.Since.cellSample {c : Nat} {v : Int} {settling : Bool} (h : s.Since z) : (s.cellSample c v settling).Since z := by
  unfold State.cellSample
  extract_lets
  split
  · exact h
  · split
    · exact h.frame
    · exact h.frame.raiseC

theorem State.Since.clipSample {c : Nat} {clipped : Bool} (h : s.Since z) : (s.clipSample c clipped).Since z := by
  unfold State.clipSample
  extract_lets
  split
  · exact h.frame
  · exact (h.frame.setBit.ite h.frame.setBit).raiseC

theorem State.Since.safeSample {c : Nat} {v : Int} {bad : Bool} (h : s.Since z) : (s.safeSample c v bad).Since z := h.frame
theorem State.Since.compPut {k pass : Nat} {v : Int} (h : s.Since z) : (s.compPut k pass v).Since z := h.frame

theorem State.Since.emit {k : Conversion} {out : Tag × Int × Nat} (h : s.Since z) : (s.emit k out).Since z :=
  (h.stageAll.frame.ite h.stageAll.frame).ite h.stageAll

theorem State.Since.filterSample {k : Conversion} {v : Int} {tag : Tag} (h : s.Since z) : (s.filterSample k v tag).Since z := by
  unfold State.filterSample
  extract_lets _ _ _ _ s1 s2
  have hs1 : s1.Since z := h.drawn.frame
  have hs2 : s2.Since z := by
    dsimp only [s2]
    split
    · exact hs1.raise
    · exact hs1
  split
  · exact hs2.emit
  · exact hs2

theorem State.Since.prunePast (h : s.Since z) : s.prunePast.Since z := h.frame

theorem State.Since.snapSweep {pass : Nat} {time : DWord} (h : s.Since z) : (s.snapSweep pass time).Since z := by
  unfold State.snapSweep
  extract_lets
  split
  · exact h.frame
  · exact h.frame.ite (h.frame.ite h.frame)

theorem State.Since.snapSample {k : Conversion} {v : Int} {tag : Tag} (h : s.Since z) : (s.snapSample k v tag).Since z := by
  unfold State.snapSample
  extract_lets _ _ _ s2
  have hs2 : s2.Since z := (h.ite h.snapSweep).frame
  split
  · exact hs2.stWord
  · exact hs2

theorem State.Since.patinaTake {k : Conversion} {code v : Int} {tag : Tag} (h : s.Since z) : (s.patinaTake k code v tag).Since z := h.frame
theorem State.Since.patinaSample {k : Conversion} {code : Int} (h : s.Since z) : (s.patinaSample k code).Since z := (h.frame.ite h).ite h.frame

theorem State.Since.setSample {k : Conversion} {v : Int} {clipped : Bool} (h : s.Since z) : (s.setSample k v clipped).Since z := by
  unfold State.setSample
  extract_lets
  split
  · exact h.frame.ite h
  · exact h

theorem State.Since.impTake {k : Conversion} {v : Int} {tag : Tag} (h : s.Since z) : (s.impTake k v tag).Since z := h.frame.ite h

theorem State.Since.tableResult {k : Conversion} {code : BitVec 16} {v comp : Int} {clipped : Bool} {safe : Int × Bool} (h : s.Since z) :
    (s.tableResult k code v comp clipped safe).Since z := by
  unfold State.tableResult
  extract_lets _ _ s2 _ _ s3 s4
  have hs2 : s2.Since z := h.clipSample
  have hs3 : s3.Since z := hs2.cellSample.compPut.patinaTake.setSample.impTake.ite hs2
  have hs4 : s4.Since z := hs3.safeSample.ite hs3
  exact (hs4.snapSample.ite hs4).filterSample

theorem State.Since.handOn {s0 : State} {k : Conversion} {code : BitVec 16} (h : s0.Since z) : (s0.handOn k code).Since z := by
  unfold State.handOn
  extract_lets _ _ _ _ _ _ _ _ s1 s2
  have hs1 : s1.Since z := h.frame.auxSample.ite h.frame
  have hs2 : s2.Since z := hs1.wr
  split
  · exact h.patinaSample
  · exact h.ite h.safeSample
  · exact hs1.setStream.ite hs1
  · split
    · exact hs2.complete
    · exact hs2
  · exact hs1.tableResult

theorem State.Since.unplan {k : Conversion} (h : s.Since z) : (s.unplan k).Since z := h.frame

theorem State.Since.conversionResult {lane : Fin 5} {code : BitVec 16} (h : s.Since z) : (conversionResult lane code s).Since z := by
  unfold Machine.conversionResult
  extract_lets
  split
  · exact h.unplan.handOn.prunePast
  · exact h.frame.handOn.ite h

theorem State.Since.inject_fst {i : Injection} {isHost : Bool} (h : s.Since z) : (s.inject i isHost).1.Since z := by
  unfold State.inject
  extract_lets
  split
  · exact h.frame.fst
  · exact h.addSat.raise.fst

theorem State.Since.injectionStart {edge : Nat} (h : s.Since z) : (injectionStart edge s).Since z := by
  unfold Machine.injectionStart
  extract_lets
  split
  · exact h
  · extract_lets
    split
    · exact h
    · exact ((h.frame.ite h).addSat.ite (h.frame.ite h)).frame

theorem State.Since.trackLost (h : s.Since z) : s.trackLost.Since z := h.frame.raise.ite h.frame

theorem State.Since.trackCapture {p : Nat} (h : s.Since z) : (s.trackCapture p).Since z :=
  (h.frame.wr.frame.raiseC.ite h.frame.wr).ite h.trackLost

theorem State.Since.wintrackTimeout (h : s.Since z) : (wintrackTimeout s).Since z := h.ite h.trackLost

/-! ## Modes and boundaries (Machine/Modes.lean) -/

theorem State.Since.takeTc {es : List Entry} (h : s.Since z) : (s.takeTc es).Since z := h.frame
theorem State.Since.seqShow {entry pass : Nat} (h : s.Since z) : (s.seqShow entry pass).Since z := h.wr
theorem State.Since.seqPhase {p : SeqPhase} (h : s.Since z) : (s.seqPhase p).Since z := h.frame.seqShow
theorem State.Since.unblank (h : s.Since z) : s.unblank.Since z := h.frame.setBit.balRefresh.ite h.frame
theorem State.Since.blankSpan (h : s.Since z) : s.blankSpan.Since z := h.frame.setBit.balRefresh
theorem State.Since.seqStop (h : s.Since z) : s.seqStop.Since z := h.seqPhase.unblank
theorem State.Since.tableStart {p : SeqPhase} {gap : Bool} (h : s.Since z) : (s.tableStart p gap).Since z := h.frame.unblank.seqShow
theorem State.Since.refreshAll (h : s.Since z) : s.refreshAll.Since z := h.frame
theorem State.Since.activeStart {gap : Bool} (h : s.Since z) : (s.activeStart gap).Since z := h.takeTc.tableStart.ite h.seqStop
theorem State.Since.seqLoadEvent {when_ watch : Bool} (h : s.Since z) : (s.seqLoadEvent when_ watch).Since z := h.raise
theorem State.Since.activeAgain (h : s.Since z) : s.activeAgain.Since z := h.activeStart.seqLoadEvent.ite h.activeStart

theorem State.Since.gridCheck (h : s.Since z) : s.gridCheck.Since z := by
  unfold State.gridCheck
  extract_lets
  split
  · exact h.frame.setBit
  · exact h

theorem State.Since.swapBanks {when_ start : Bool} (h : s.Since z) : (s.swapBanks when_ start).Since z := by
  unfold State.swapBanks
  extract_lets _ _ _ u
  have hu : u.Since z := h.frame.setBit.setBit
  exact (hu.takeTc.tableStart.ite hu).gridCheck.seqLoadEvent

theorem State.Since.seqEvent {u ch : Nat} {capture : Bool} (h : s.Since z) : (s.seqEvent u ch capture).Since z := h.frame
theorem State.Since.trigWait (h : s.Since z) : s.trigWait.Since z := h.frame
theorem State.Since.shortNone (h : s.Since z) : s.shortNone.Since z := h.setFld

theorem State.Since.patinaAbort {status : Byte} (h : s.Since z) : (s.patinaAbort status).Since z := by
  unfold State.patinaAbort
  extract_lets _ t
  have ht : t.Since z := h.frame.shortNone.setBit
  split
  · exact h
  · exact (ht.activeAgain.ite ht).raise.complete

theorem State.Since.rearm (h : s.Since z) : s.rearm.Since z := h.setFld.setBit.frame
theorem State.Since.patinaStop (h : s.Since z) : s.patinaStop.Since z := h.frame

theorem State.Since.impStop (h : s.Since z) : s.impStop.Since z := by
  unfold State.impStop
  extract_lets _ stopped
  have hstopped : stopped.Since z := h.foldl fun _ _ ht => ht.frame.setFld
  exact (hstopped.foldl fun _ _ ht => ht.setBit.setBit).frame.wr.balRefresh

theorem State.Since.impDrop (h : s.Since z) : s.impDrop.Since z := h.impStop.frame.setFld
theorem State.Since.thermRestart (h : s.Since z) : s.thermRestart.Since z := h.frame
theorem State.Since.stateChg {old new : Mode} {gc : BitVec 4} (h : s.Since z) : (s.stateChg old new gc).Since z := h.raise
theorem State.Since.reqRun (h : s.Since z) : s.reqRun.Since z := h.setFld
theorem State.Since.outShow (h : s.Since z) : s.outShow.Since z := h.wr
theorem State.Since.leadsOff (h : s.Since z) : s.leadsOff.Since z := h.frame.outShow
theorem State.Since.askRun (h : s.Since z) : s.askRun.Since z := h.frame.ite h
theorem State.Since.toRun {old : Mode} (h : s.Since z) : (s.toRun old).Since z := h.frame.reqRun.rearm.stateChg

theorem State.Since.enterGuard {cause : BitVec 4} (h : s.Since z) : (s.enterGuard cause).Since z := by
  unfold State.enterGuard
  extract_lets u
  have hu : u.Since z := h.leadsOff.patinaAbort.patinaStop
  split
  · exact hu.frame.reqRun.seqStop.impStop.thermRestart.stateChg
  · exact hu.frame.reqRun.seqStop.impStop.thermRestart.stateChg
  · exact h.frame.ite h
  · exact h.frame
  · exact h
  · exact h

/-! ## The safety monitor and its outputs (Machine/SafetyMonitor.lean) -/

theorem State.Since.latch {b : Bool} (h : s.Since z) : (s.latch b).Since z := h.setBit
theorem State.Since.permit {b : Bool} (h : s.Since z) : (s.permit b).Since z := h.setBit

theorem State.Since.doff {cause : BitVec 4} {immediate envelope reached : Bool} (h : s.Since z) : (s.doff cause immediate envelope reached).Since z :=
  h.leadsOff.latch.permit.setBit.setFld.frame.addSat.raise

theorem State.Since.sendTwinCopy {dst : FAddr} {head : List Byte} {down : Bool} (h : s.Since z) : (s.sendTwinCopy dst head down).Since z := by
  unfold State.sendTwinCopy
  extract_lets
  split
  · exact h.frame.enqueue.ite h.frame
  · exact h.frame

theorem State.Since.sendTwin {dst : FAddr} {kind : Byte} {cause : BitVec 4} (h : s.Since z) : (s.sendTwin dst kind cause).Since z :=
  (h.wr.ite h.wr.sendTwinCopy).ite (h.wr.ite h.wr.sendTwinCopy).sendTwinCopy

theorem State.Since.sendRampReq {dst : FAddr} {cause : BitVec 4} (h : s.Since z) : (s.sendRampReq dst cause).Since z :=
  h.sendTwin.ite h.wr.sendTo.sendTo

theorem State.Since.rampStart {cause : BitVec 4} (h : s.Since z) : (s.rampStart cause).Since z :=
  (h.setBit.wr.frame.raise.sendRampReq.ite h.setBit.wr.frame.raise).askRun

theorem State.Since.demand {s0 : State} {cause : BitVec 4} {immediate : Bool} (h : s0.Since z) : (s0.demand cause immediate).Since z := by
  unfold State.demand
  extract_lets _ s
  have hs : s.Since z := h.frame.ite h
  exact (hs.doff.ite (hs.ite hs.rampStart)).ite hs.latch.permit.frame.outShow

theorem State.Since.ownDemand {cause : BitVec 4} {immediate : Bool} {bits : Half} (h : s.Since z) : (s.ownDemand cause immediate bits).Since z :=
  h.frame.demand

theorem State.Since.channelFault {row detail : Nat} (h : s.Since z) : (s.channelFault row detail).Since z := h.raise.ownDemand.enterGuard
theorem State.Since.takeTick (h : s.Since z) : s.takeTick.Since z := h.frame

theorem State.Since.judgeCell {c : Nat} (h : s.Since z) : (s.judgeCell c).Since z := by
  unfold State.judgeCell
  dsimp only
  split
  · split
    · exact h.frame.raiseC.frame.raiseC
    · exact h.frame.raiseC
  · split
    · exact h.frame.raiseC
    · exact h

theorem State.Since.judgeAux {n : Nat} (h : s.Since z) : (s.judgeAux n).Since z := by
  unfold State.judgeAux
  dsimp only
  split
  · exact h.frame.raiseC
  · exact h.frame

theorem State.Since.judgeCurrent {dir : Nat} (h : s.Since z) : (s.judgeCurrent dir).Since z := by
  unfold State.judgeCurrent
  dsimp only
  split
  · exact h.frame.raiseC
  · exact h

theorem State.Since.inputTick_fst (h : s.Since z) : s.inputTick.1.Since z :=
  (h.frame.wr.raise.ite (h.frame.wr.raiseC.ite h.frame.wr)).fst

theorem State.Since.rampTick (h : s.Since z) : s.rampTick.Since z := by
  unfold State.rampTick
  extract_lets
  split
  · exact h
  · exact h.setFld.doff.ite h.setFld.frame

theorem State.Since.offTestTick (h : s.Since z) : s.offTestTick.Since z := h.frame.ite (h.frame.outShow.ite (h.frame.outShow.ite h))
theorem State.Since.injectAfter {seen : List Nat} (h : s.Since z) : (s.injectAfter seen).Since z := h.frame

theorem State.Since.restTick (h : s.Since z) : s.restTick.Since z := by
  unfold State.restTick
  extract_lets
  split
  · exact h.frame
  · split
    · exact h
    · exact h.frame

theorem State.Since.safetyTick (h : s.Since z) : (safetyTick s).Since z := by
  unfold Machine.safetyTick
  extract_lets _ s0 _ s1 s2 s3 s4 i _ _ _ s5 s6 s7
  have hs2 : s2.Since z := h.takeTick.restTick.frame.foldl fun _ _ ht => ht.judgeCell
  have hs4 : s4.Since z := (hs2.foldl fun _ _ ht => ht.judgeAux).foldl fun _ _ ht => ht.judgeCurrent
  have hs5 : s5.Since z := hs4.inputTick_fst.setBit.setBit.setBit.setBit
  have hs6 : s6.Since z := by
    dsimp only [s6]
    split
    · exact hs5.ownDemand
    · exact hs5
  have hs7 : s7.Since z := hs6.rampTick.offTestTick.injectAfter
  exact h.ite (hs7.ite hs7.askRun)

theorem State.Since.peersShow (h : s.Since z) : s.peersShow.Since z := h.setBit.wr

theorem State.Since.fbMismatch {low commanded level inSeq : Bool} (h : s.Since z) : (s.fbMismatch low commanded level inSeq).Since z :=
  h.raise.ownDemand

theorem State.Since.closeFails {low commanded level : Bool} (h : s.Since z) : (s.closeFails low commanded level).Since z :=
  h.leadsOff.frame.outShow.ite h.leadsOff.frame.fbMismatch

theorem State.Since.closeBegin (h : s.Since z) : s.closeBegin.Since z := h.closeFails.ite (h.closeFails.ite h.frame.outShow)
theorem State.Since.closeSequence (h : s.Since z) : (closeSequence s).Since z := h.closeBegin.ite h
theorem State.Since.closeSequenceRetry (h : s.Since z) : (closeSequenceRetry s).Since z := (h.ite (h.frame.closeBegin.ite h.frame.outShow)).ite h
theorem State.Since.feedGood {low : Bool} (h : s.Since z) : (s.feedGood low).Since z := h.frame.transient.ite h

theorem State.Since.feedbackChange {low level : Bool} (h : s.Since z) : (feedbackChange low level s).Since z := by
  unfold Machine.feedbackChange
  extract_lets _ t _ _ u
  have ht : t.Since z := h.frame.outShow
  have hu : u.Since z := ht.frame.outShow
  exact h.ite (ht.ite (ht.frame.outShow.ite ((hu.ite hu.transient).ite (ht.feedGood.ite ht))))

theorem State.Since.feedbackTimeout {low : Bool} (h : s.Since z) : (feedbackTimeout low s).Since z :=
  h.ite (h.closeFails.ite (h.frame.fbMismatch.ite h.frame))

theorem State.Since.offtestPulseEnd {delay : Option Nat} (h : s.Since z) : (offtestPulseEnd delay s).Since z := by
  unfold Machine.offtestPulseEnd
  extract_lets
  split
  · exact h
  · split
    · exact h.frame.setFld.outShow.transient.ite h.frame.setFld.outShow
    · exact h.frame.setFld.outShow.raise.ownDemand.ite h.frame.setFld.outShow.frame

theorem State.Since.offtestRetry (h : s.Since z) : (offtestRetry s).Since z := (h.frame.outShow.ite (h.frame.outShow.ite h)).ite h
theorem State.Since.setChannel {b : Bool} {f : Channel → Channel} (h : s.Since z) : (s.setChannel b f).Since z := h.frame.ite h.frame
theorem State.Since.tpPulse {b : Bool} (h : s.Since z) : (tpPulse b s).Since z := h.setChannel.frame.ite h

theorem State.Since.shortCheck {b first ok : Bool} (h : s.Since z) : (s.shortCheck b first ok).Since z :=
  (h.setChannel.transient.ite h.setChannel).ite (h.setChannel.raise.ownDemand.ite h.setChannel)

theorem State.Since.shortShow (h : s.Since z) : s.shortShow.Since z := h.setBit.setBit

theorem State.Since.tpPulseEnd {b ownLow otherLow otherAround : Bool} (h : s.Since z) : (tpPulseEnd b ownLow otherLow otherAround s).Since z :=
  h.frame.shortCheck.shortCheck.setChannel.shortShow.ite h

theorem State.Since.inputChange {b level : Bool} (h : s.Since z) : (inputChange b level s).Since z := h.setChannel.ite h
theorem State.Since.twinFrameSend (h : s.Since z) : (twinFrameSend s).Since z := (h.frame.foldl fun _ _ ht => ht.sendTwin).ite h
theorem State.Since.setPeer {a : FAddr} {f : Peer → Peer} (h : s.Since z) : (s.setPeer a f).Since z := h.frame
theorem State.Since.safeFrame {a : FAddr} {reason : Nat} {seq : Word} (h : s.Since z) : (s.safeFrame a reason seq).Since z := h.raise.ownDemand

theorem State.Since.twinBad {a : FAddr} {down : Bool} {reason : Nat} {seq : Word} (h : s.Since z) : (s.twinBad a down reason seq).Since z := by
  unfold State.twinBad
  extract_lets t
  have ht : t.Since z := h.addSat
  split
  · exact ht.frame.safeFrame.ite ht.frame
  · exact ht.setPeer.safeFrame.ite ht.setPeer

theorem State.Since.twinAct {kind : Byte} {cause : BitVec 4} {st acted : Half} (h : s.Since z) : (s.twinAct kind cause st acted).Since z := by
  unfold State.twinAct
  extract_lets
  split
  · exact h.demand
  · split
    · exact h.demand
    · split
      · exact h.demand
      · split
        · exact h.demand
        · exact h

theorem State.Since.twinAccept {p : Peer} {down : Bool} {bs : List Byte} {seq : Word} (h : s.Since z) : (s.twinAccept p down bs seq).Since z := by
  unfold State.twinAccept
  extract_lets
  split
  · split
    · exact h.setPeer.peersShow.ite (h.setPeer.peersShow.safeFrame.ite h.setPeer.peersShow)
    · exact h
  · exact h.setPeer.peersShow.twinAct

theorem State.Since.twinFrameReceive {_port : Fin 4} {bs : List Byte} (h : s.Since z) : (twinFrameReceive _port bs s).Since z := by
  unfold Machine.twinFrameReceive
  extract_lets
  split
  · exact h
  · split
    · exact h.ite h.frame.raise
    · split
      · exact h
      · split
        · exact h.twinBad
        · split
          · exact h.twinBad
          · exact h.ite (h.setPeer.ite (h.twinBad.ite h.twinAccept))

theorem State.Since.twinCopyTimeout {sender : FAddr} (h : s.Since z) : (twinCopyTimeout sender s).Since z := by
  unfold Machine.twinCopyTimeout
  split
  · split
    · exact h.addSat.setPeer
    · exact h
  · exact h

theorem State.Since.safewdog {sender : FAddr} {down : Bool} (h : s.Since z) : (safewdog sender down s).Since z := by
  unfold Machine.safewdog
  extract_lets
  split
  · exact h
  · exact h.ite h.frame.peersShow.raise.ownDemand

theorem State.Since.peersRefresh (h : s.Since z) : s.peersRefresh.Since z := by
  unfold State.peersRefresh
  extract_lets
  split <;> exact h.frame.peersShow

theorem State.Since.freshSeq {old : List Node} (h : s.Since z) : (State.freshSeq old s).Since z := h.frame

theorem State.Since.safeAck_fst {r : Req} (h : s.Since z) : (s.safeAck r).1.Since z := by
  unfold State.safeAck
  extract_lets
  split
  · exact h.fail_fst
  · split
    · exact h.fail_fst
    · exact h.latch.permit.frame.fst

theorem State.Since.safeStop_fst {r : Req} (h : s.Since z) : (s.safeStop r).1.Since z := by
  unfold State.safeStop
  extract_lets
  split
  · exact h.fail_fst
  · split
    · exact h.fail_fst
    · exact h.ownDemand

/-! ## The Armature and its tree (Machine/Armature.lean) -/

theorem State.Since.putMe (h : s.Since z) : s.putMe.Since z := h.frame
theorem State.Since.setNode {x : DWord} {f : Node → Node} (h : s.Since z) : (s.setNode x f).Since z := h.frame
theorem State.Since.floodTopo {m : TopoMsg} (h : s.Since z) : (s.floodTopo m).Since z := h.sendAll
theorem State.Since.cacheSync (h : s.Since z) : s.cacheSync.Since z := h.foldl fun _ _ ht => ht.ite ht.nvPut

theorem State.Since.ownerCheck {atDisc : Bool} (h : s.Since z) : (s.ownerCheck atDisc).Since z :=
  (h.foldl fun _ _ ht => ht.setNode.raise.ite ht.setNode).setFld

theorem State.Since.alignAlarm {off : Int} (h : s.Since z) : (s.alignAlarm off).Since z := h.ite h.frame.raise

theorem State.Since.treeShow (h : s.Since z) : s.treeShow.Since z := by
  unfold State.treeShow
  extract_lets
  split
  · exact h.frame.wr.alignAlarm.ite h.frame.wr
  · exact h.frame.wr

theorem State.Since.takeKeeper {k : Node} {cut : Bool} (h : s.Since z) : (s.takeKeeper k cut).Since z :=
  ((h.frame.ite h.frame.setBit).raise.ite (h.frame.ite h.frame.setBit)).ite h.frame

theorem State.Since.chooseKeeper {atDisc : Bool} (h : s.Since z) : (s.chooseKeeper atDisc).Since z := by
  unfold State.chooseKeeper
  split
  · exact h.takeKeeper.frame.ite h.takeKeeper
  · exact h

theorem State.Since.keepKeeper (h : s.Since z) : s.keepKeeper.Since z := by
  unfold State.keepKeeper
  dsimp only
  split
  · split
    · exact h.takeKeeper
    · exact h.frame
  · exact h.takeKeeper.ite h
  · exact h

theorem State.Since.wireCheck (h : s.Since z) : s.wireCheck.Since z := h.frame

theorem State.Since.fabShow {s0 : State} (h : s0.Since z) : s0.fabShow.Since z := by
  unfold State.fabShow
  extract_lets _ _ _ _ _ _ _ _ _ _ _ s4
  have hs4 : s4.Since z := h.wireCheck.setBit.setBit.setBit.setBit.wr.wr.wr.wr
  split
  · exact hs4.setFld
  · exact hs4

theorem State.Since.takeAddress (h : s.Since z) : s.takeAddress.Since z := by
  unfold State.takeAddress
  extract_lets
  split <;> exact h.frame

theorem State.Since.topoChg {code : Nat} {a : FAddr} (h : s.Since z) : (s.topoChg code a).Since z := h.raise

theorem State.Since.lossCheck (h : s.Since z) : s.lossCheck.Since z := by
  unfold State.lossCheck
  extract_lets
  exact h.foldl fun _ _ ht => by
    extract_lets _ u
    have hu : u.Since z := ht.setNode
    split
    · exact ht
    · split
      · exact ht.setNode
      · split
        · exact ht
        · split
          · exact hu.topoChg.ite hu
          · exact hu

theorem State.Since.stageDrop (h : s.Since z) : s.stageDrop.Since z := by
  unfold State.stageDrop
  extract_lets
  split
  · split
    · exact h.ite (h.frame.complete.ite h.frame)
    · exact h
  · exact h

theorem State.Since.slotShow (h : s.Since z) : s.slotShow.Since z := by
  unfold State.slotShow
  split <;> exact h.wr

theorem State.Since.sayAgain (h : s.Since z) : s.sayAgain.Since z := h.frame.sendAll.ite h

/-! ## Placement (Machine/Maquette.lean) -/

theorem State.Since.plcShow (h : s.Since z) : s.plcShow.Since z := h.wr.wr.wr.wr

theorem State.Since.startJob {k : JobKey} {str : BitVec 6} {cost : Nat} {seq : Word} {rerun : Bool} (h : s.Since z) :
    (s.startJob k str cost seq rerun).Since z := h.frame

theorem State.Since.sendJob {a : FAddr} {kind : Byte} {head bytes : List Byte} (h : s.Since z) : (s.sendJob a kind head bytes).Since z :=
  h.foldl fun _ _ ht => ht.sendTo

theorem State.Since.takeFit {f : FitJob} (h : s.Since z) : (s.takeFit f).Since z := (h.frame.foldl fun _ _ ht => ht.ite ht.sendJob).ite h.frame

theorem State.Since.takeBody {k : JobKey} {b : Option JobBody} (h : s.Since z) : (s.takeBody k b).Since z := by
  unfold State.takeBody
  extract_lets
  split
  · exact h.frame
  · split
    · split
      · exact h.takeFit
      · exact h.frame
    · exact h

theorem State.Since.restartJob {k : JobKey} {str : BitVec 6} {cost : Nat} {host : FAddr} (h : s.Since z) : (s.restartJob k str cost host).Since z :=
  h.startJob.takeBody.addSat.raise

theorem State.Since.handOver {k : JobKey} {lost new : FAddr} (h : s.Since z) : (s.handOver k lost new).Since z := by
  unfold State.handOver
  dsimp only
  split
  · split
    · exact h.sendJob.sendJob
    · exact h.sendJob
  · exact h.sendJob

theorem State.Since.jobsFollow {old : List Placed} (h : s.Since z) : (s.jobsFollow old).Since z := by
  unfold State.jobsFollow
  extract_lets
  exact h.frame.foldl fun _ _ ht => by
    extract_lets
    split
    · exact ht
    · split
      · exact ht.ite ht.startJob.takeBody
      · exact ht.ite ht.restartJob
      · split
        · exact ht.handOver.ite ht
        · exact ht
      · exact ht

theorem State.Since.capacityCheck (h : s.Since z) : s.capacityCheck.Since z := h.frame.ite (h.frame.raise.ite (h.frame.raiseC.ite h.frame))
theorem State.Since.fitsWatch (h : s.Since z) : s.fitsWatch.Since z := h.frame
theorem State.Since.impFollow (h : s.Since z) : s.impFollow.Since z := h.impDrop.ite h
theorem State.Since.maquette (h : s.Since z) : s.maquette.Since z := h.frame.jobsFollow.capacityCheck.fitsWatch.impFollow.plcShow
theorem State.Since.settle (h : s.Since z) : s.settle.Since z := h.frame.floodTopo.maquette.ite h
theorem State.Since.recShow (h : s.Since z) : s.recShow.Since z := h.wr
theorem State.Since.recStore {r : Rec} (h : s.Since z) : (s.recStore r).Since z := h.frame.addSat.recShow
theorem State.Since.sendRec {a : FAddr} {r : Rec} (h : s.Since z) : (s.sendRec a r).Since z := h.sendJob
theorem State.Since.recSpread {r : Rec} (h : s.Since z) : (s.recSpread r).Since z := h.foldl fun _ _ ht => ht.recStore.ite ht.sendRec
theorem State.Since.jobWrote {key : JobKey} {seq : Word} (h : s.Since z) : (s.jobWrote key seq).Since z := h.frame
theorem State.Since.replicaCheck (h : s.Since z) : s.replicaCheck.Since z := h.foldl fun _ _ ht => (ht.frame.raise.ite ht.frame).ite ht

theorem State.Since.armatureChanged {s0 : State} (h : s0.Since z) : s0.armatureChanged.Since z := by
  unfold State.armatureChanged
  extract_lets _ _ t
  have ht : t.Since z := h.frame.lossCheck.freshSeq.stageDrop.ownerCheck.cacheSync.keepKeeper
  exact ht.treeShow.fabShow.slotShow.peersRefresh.maquette.replicaCheck.sayAgain

theorem State.Since.portsChanged (h : s.Since z) : s.portsChanged.Since z := h.putMe.fabShow.ite h.putMe.floodTopo.armatureChanged

/-! ## Goals (Machine/Goals.lean) -/

theorem State.Since.stringSave (h : s.Since z) : s.stringSave.Since z := h.nvPut
theorem State.Since.goalSave (h : s.Since z) : s.goalSave.Since z := h.nvPut
theorem State.Since.goalFlood (h : s.Since z) : s.goalFlood.Since z := h.sendAll

theorem State.Since.goalOffer (h : s.Since z) : s.goalOffer.Since z := by
  unfold State.goalOffer
  extract_lets
  split
  · exact h.frame
  · split
    · exact h.frame.goalFlood
    · split
      · exact h.frame.ite h.frame.sendTo
      · exact h.frame

theorem State.Since.planStop {i : Fin 32} {g : Goal} (h : s.Since z) : (s.planStop i g).Since z := (h.foldl fun _ _ ht => ht.sendItems).ite h

theorem State.Since.goalsTake {goals : List (Option Goal)} {seq : Word} (h : s.Since z) : (s.goalsTake goals seq).Since z := by
  unfold State.goalsTake
  extract_lets t
  have ht : t.Since z := h.foldl fun _ _ ht => by
    split
    · exact ht.ite ht.planStop
    · exact ht.planStop
  exact ht.frame.wr.maquette

theorem State.Since.goalsChange {goals : List (Option Goal)} (h : s.Since z) : (s.goalsChange goals).Since z := h.goalsTake.goalSave.goalFlood
theorem State.Since.goalRej {slot : Nat} {g : Goal} {reason : Nat} (h : s.Since z) : (s.goalRej slot g reason).Since z := h.raise
theorem State.Since.goalsDrop (h : s.Since z) : s.goalsDrop.Since z := h.ite (h.foldl fun _ _ ht => ht.goalRej).goalsChange

theorem State.Since.goalsRenumber {num : Nat → Nat} {addr : FAddr → FAddr} (h : s.Since z) : (s.goalsRenumber num addr).Since z :=
  (h.foldl fun _ _ ht => ht.goalRej).goalsChange.ite h

theorem State.Since.goalSetAt_fst {exec_ : FAddr} {r : Req} (h : s.Since z) : (s.goalSetAt exec_ r).1.Since z := by
  unfold State.goalSetAt
  extract_lets
  split
  · exact h.fail_fst
  · split
    · exact h.goalsChange.fst
    · exact h.goalRej.fst
    · exact h.fail_fst

theorem State.Since.goalClearAt_fst {r : Req} (h : s.Since z) : (s.goalClearAt r).1.Since z := by
  unfold State.goalClearAt
  extract_lets
  split
  · exact h.fail_fst
  · split
    · split
      · exact h
      · exact h.goalsChange.fst
    · split
      · exact h
      · exact h.goalsChange.fst

theorem State.Since.relayTo_fst {src : Src} {r : Req} {a target : FAddr} (h : s.Since z) : (s.relayTo src r a target).1.Since z := by
  unfold State.relayTo
  extract_lets
  split <;> exact h.sendTo.frame.fst

theorem State.Since.toAnchor_fst {src : Src} {r : Req} {at_ : State → State × Reply} (h : s.Since z)
    (hf : ∀ {t : State}, t.Since z → (at_ t).1.Since z) : (s.toAnchor src r at_).1.Since z := by
  unfold State.toAnchor
  split
  · exact hf h
  · split
    · exact h
    · exact h.relayTo_fst

theorem State.Since.goalSet {src : Src} (h : s.Since z) : (goalSet src s).Since z := h.serveCode fun ht => ht.toAnchor_fst fun hu => hu.goalSetAt_fst

theorem State.Since.goalClear {src : Src} (h : s.Since z) : (goalClear src s).Since z :=
  h.serveCode fun ht => ht.toAnchor_fst fun hu => hu.goalClearAt_fst

theorem State.Since.goalTableFrame {sender : FAddr} {seq : Word} {slots : List (Option Goal)} (h : s.Since z) :
    (goalTableFrame sender seq slots s).Since z := (h.goalsTake.frame.goalSave.goalFlood.ite h.goalsTake.frame.goalSave).ite h

/-! ## Links, discovery and fabric time (Machine/Fabric.lean) -/

theorem State.Since.linkErr {p : Fin 4} {ty : Byte} (h : s.Since z) : (s.linkErr p ty).Since z := h.ite h.raiseSlow.setPort
theorem State.Since.linkDrop {p : Fin 4} {u : Unacked} (h : s.Since z) : (s.linkDrop p u).Since z := h.setPort.addSat.linkErr

theorem State.Since.linkLost {p : Fin 4} {lseq : Byte} (h : s.Since z) : (s.linkLost p lseq).Since z := by
  unfold State.linkLost
  split
  · exact h
  · split
    · exact h
    · exact h.setPort.linkDrop

theorem State.Since.linkFail {p : Fin 4} {lseq : Byte} (h : s.Since z) : (s.linkFail p lseq).Since z := by
  unfold State.linkFail
  split
  · exact h
  · split
    · exact h
    · exact h.linkDrop.ite h.setPort.setPort

theorem State.Since.linkAck {p : Fin 4} {lseq free : Byte} (h : s.Since z) : (s.linkAck p lseq free).Since z := by
  unfold State.linkAck
  split
  · exact h
  · split
    · exact h.setPort
    · exact h.setPort.addSat.transient.ite h.setPort

theorem State.Since.linkControlReceived {p : Fin 4} {code a1 a2 : Byte} (h : s.Since z) : (linkControlReceived p code a1 a2 s).Since z := by
  unfold Machine.linkControlReceived
  split
  · split
    · exact h.linkAck
    · exact h.linkFail
    · exact h.setPort
    · exact h.setPort.ite h
    · exact h
  · exact h

theorem State.Since.keepaliveSend {p : Fin 4} (h : s.Since z) : (keepaliveSend p s).Since z := h.control.ite h

theorem State.Since.linkUp {p : Fin 4} (h : s.Since z) : (s.linkUp p).Since z := by
  unfold State.linkUp
  extract_lets t
  have ht : t.Since z := h.setPort.wireCheck
  split
  · exact h
  · exact ((ht.raise.ite ht.raise.raise).control.topoChg.ite (ht.raise.ite ht.raise.raise).control).frame.portsChanged

theorem State.Since.linkTrainBlock {p : Fin 4} {block : List Byte} (h : s.Since z) : (linkTrainBlock p block s).Since z := by
  unfold Machine.linkTrainBlock
  extract_lets
  split
  · exact h
  · exact (h.setPort.linkUp.ite h.setPort).ite h

theorem State.Since.unrouted {f : Frame} (h : s.Since z) : (s.unrouted f).Since z :=
  h.noRoute.ite ((h.noRoute.complete.ite (h.noRoute.frame.complete.ite h.noRoute)).ite h.noRoute.sendTo)

theorem State.Since.reroute {fs : List Frame} (h : s.Since z) : (s.reroute fs).Since z := by
  unfold State.reroute
  exact h.foldl fun _ _ ht => by
    split
    · exact ht
    · split
      · exact ht.enqueue
      · exact ht.unrouted

theorem State.Since.portDown {p : Fin 4} {cause : Nat} (h : s.Since z) : (s.portDown p cause).Since z := by
  unfold State.portDown
  extract_lets
  split
  · exact h
  · extract_lets _ t2
    have ht2 : t2.Since z := h.setPort.addSat.raise.putMe.reroute
    exact (ht2.topoChg.ite ht2).portsChanged.ite h

theorem State.Since.linkDown {p cause : Fin 4} (h : s.Since z) : (linkDown p cause s).Since z := h.portDown.ite h
theorem State.Since.linkRetrainDelay {p : Fin 4} (h : s.Since z) : (linkRetrainDelay p s).Since z := h.setPort
theorem State.Since.remember {f : Frame} (h : s.Since z) : (s.remember f).Since z := h.frame

theorem State.Since.transit {f : Frame} (h : s.Since z) : (s.transit f).Since z := by
  unfold State.transit
  extract_lets
  split
  · exact h.noRoute
  · split
    · exact h.enqueue
    · exact h.unrouted

theorem State.Since.frameReceive {p : Fin 4} {bytes : List Byte} {aborted : Bool} (h : s.Since z) : (frameReceive p bytes aborted s).Since z := by
  unfold Machine.frameReceive
  extract_lets _ _ t
  have ht : t.Since z := h.control
  split
  · exact h
  · split
    · exact h.control
    · split
      · exact h.control
      · exact ht.ite ((ht.ite (ht.remember.noRoute.ite ht.remember.flood)).ite ((ht.ite ht.remember).ite ht.transit))

theorem State.Since.floodCrc (h : s.Since z) : s.floodCrc.Since z := h.floodTopo

theorem State.Since.discoverStart {by_ : Option Src} {flag : Bool} (h : s.Since z) : (s.discoverStart by_ flag).Since z :=
  h.putMe.frame.setBit.floodTopo.floodCrc

theorem State.Since.discover {src : Src} (h : s.Since z) : (discover src s).Since z := by
  unfold Machine.discover
  exact h.serveCode fun ht => by
    split
    · exact ht.fail_fst
    · split
      · exact ht.fail_fst
      · exact ht.discoverStart.fst

theorem State.Since.dupStrap {str : Nat} {ok : Bool} {strap : BitVec 6} (h : s.Since z) : (s.dupStrap str ok strap).Since z := h.raise.ite h
theorem State.Since.dupStraps (h : s.Since z) : s.dupStraps.Since z := h.foldl fun _ _ ht => ht.dupStrap

theorem State.Since.discdone (h : s.Since z) : (discdone s).Since z := by
  unfold Machine.discdone
  extract_lets _ _ _ _ _ t0 _ _ _ _ _ t4 t5 t6 _ _ t9 t10
  have ht0 : t0.Since z := h.putMe.frame
  have ht4 : t4.Since z := (ht0.setBit.stringSave.ite ht0).takeAddress.frame.chooseKeeper.treeShow.fabShow.raise
  have ht5 : t5.Since z := ht4.topoChg.ite ht4
  have ht6 : t6.Since z := ht5.topoChg.ite ht5
  have ht9 : t9.Since z := ht6.dupStraps.ownerCheck.cacheSync.peersRefresh.goalsDrop.maquette.replicaCheck.slotShow.sayAgain.goalOffer
  have ht10 : t10.Since z := ht9.floodTopo.ite ht9
  split
  · exact h
  · split
    · exact ht10.complete
    · exact ht10

theorem State.Since.renumberHeld {new : FAddr → FAddr} (h : s.Since z) : (s.renumberHeld new).Since z := h.frame

theorem State.Since.takeNumber {serial : DWord} {num : BitVec 6} {clear : Bool} (h : s.Since z) : (s.takeNumber serial num clear).Since z := by
  unfold State.takeNumber
  extract_lets _ _ _ _ _ _ _ t0 _ t2 _ t4
  have ht0 : t0.Since z := h.frame.renumberHeld
  have ht2 : t2.Since z := (ht0.wr.stringSave.ite ht0).freshSeq.takeAddress
  have ht4 : t4.Since z := (ht2.ite ht2.topoChg).cacheSync.chooseKeeper.treeShow.fabShow
  exact (ht4.foldl fun _ _ ht => ht.dupStrap).peersRefresh.goalsRenumber.maquette.replicaCheck

theorem State.Since.stringAssign {src : Src} {outputOn : Bool} (h : s.Since z) : (stringAssign src outputOn s).Since z :=
  h.serveCode fun ht => by
    dsimp only
    split
    · exact ht
    · split
      · exact ht
      · split
        · exact ht
        · exact ht.floodTopo.takeNumber.fst

theorem State.Since.takeTopo {n : TopoNode} {disc : Bool} (h : s.Since z) : (s.takeTopo n disc).Since z := by
  unfold State.takeTopo
  extract_lets _ _ _ _ t0 t
  have ht0 : t0.Since z := h.frame.freshSeq.armatureChanged
  have ht : t.Since z := ht0.dupStrap.ite ht0
  split
  · exact h
  · split
    · exact h.frame.discoverStart
    · exact h.frame.floodCrc.ite (h.frame.freshSeq.armatureChanged.ite ht.floodTopo.floodTopo.floodTopo)

theorem State.Since.bootTopo {m : TopoMsg} (h : s.Since z) : (s.bootTopo m).Since z := by
  unfold State.bootTopo
  extract_lets
  split
  · exact h.ite h.frame.putMe.lossCheck.frame
  · exact h.frame
  · exact h
  · exact h
  · exact h

theorem State.Since.takeAccept {a : FAddr} {serial : DWord} (h : s.Since z) : (s.takeAccept a serial).Since z := by
  unfold State.takeAccept
  extract_lets
  split
  · exact h.setNode.cacheSync.setFld.maquette.settle.ite h
  · exact h

theorem State.Since.topoFrame {_p : Fin 4} {m : TopoMsg} (h : s.Since z) : (topoFrame _p m s).Since z := by
  unfold Machine.topoFrame
  extract_lets
  split
  · exact h.bootTopo
  · split
    · exact h
    · split
      · exact h.takeTopo
      · exact h.frame
      · exact h.takeNumber
      · exact h.takeAccept
      · exact h.ite h.frame.peersRefresh.maquette

theorem State.Since.wakeFrame {target : FAddr} (h : s.Since z) : (wakeFrame target s).Since z := by
  unfold Machine.wakeFrame
  extract_lets
  split
  · split
    · exact h.frame.ite h
    · exact h
  · exact h

theorem State.Since.wakeWrite {a : FAddr} (h : s.Since z) : ∀ t ∈ s.wakeWrite a, t.Since z := by
  intro t ht
  unfold State.wakeWrite at ht
  split at ht
  · split at ht
    · split at ht
      · split at ht
        · cases ht
          exact h.wakeFrame
        · cases ht
          split
          · exact h.sendTo
          · exact h.noRoute
      · cases ht
        exact h.noRoute
    · cases ht
  · cases ht

theorem State.Since.sendTime {p : Fin 4} {kind : Byte} {stamp : Int} (h : s.Since z) : (s.sendTime p kind stamp).Since z := h.frame.enqueue
theorem State.Since.timeSyncSend (h : s.Since z) : (timeSyncSend s).Since z := (h.foldl fun _ _ ht => ht.sendTime).ite h
theorem State.Since.followFabric (h : s.Since z) : s.followFabric.Since z := h.setFld.ite h
theorem State.Since.gainTime {fabric : DWord} (h : s.Since z) : (s.gainTime fabric).Since z := h.frame.setBit

theorem State.Since.judgeOffset {off : Int} (h : s.Since z) : (s.judgeOffset off).Since z := by
  unfold State.judgeOffset
  extract_lets _ _ _ _ _ _ _ u
  have hu : u.Since z := h.frame.setBit.ite h.frame
  exact hu.alignAlarm.ite (hu.frame.raiseC.ite hu)

theorem State.Since.exchange {p : Fin 4} {t1 t2 t3 t4 : Int} (h : s.Since z) : (s.exchange p t1 t2 t3 t4).Since z := by
  unfold State.exchange
  extract_lets _ _ _ _ _ s1 _ _ s2
  have hs1 : s1.Since z := h.followFabric.wr.wr
  have hs2 : s2.Since z := hs1.frame.draw_snd.wr
  exact hs1.gainTime.ite (hs2.frame.wr.raise.ite hs2.judgeOffset)

theorem State.Since.timeFrame {p : Fin 4} {m : TimeMsg} {stamp : Int} (h : s.Since z) : (timeFrame p m stamp s).Since z := by
  unfold Machine.timeFrame
  extract_lets
  split
  · exact h
  · split
    · exact h.sendTime.ite h
    · exact h.setPort.sendTime.ite h
    · split
      · split
        · exact h.setPort.exchange.ite h
        · exact h
      · exact h

theorem State.Since.reffail (h : s.Since z) : (reffail s).Since z := h.setFld.raise.putMe.ite h

theorem State.Since.reflock {gained : Bool} (h : s.Since z) : (reflock gained s).Since z :=
  (h.setBit.ite (h.setBit.setFld.ite h.setBit).raise).ite h

/-! ## Timers (Machine/Timers.lean) -/

theorem State.Since.setUnit {u : Nat} {f : Timer → Timer} (h : s.Since z) : (s.setUnit u f).Since z := h.frame
theorem State.Since.setChan {u c : Nat} {f : TimerChan → TimerChan} (h : s.Since z) : (s.setChan u c f).Since z := h.setUnit

theorem State.Since.tmrShow {u : Nat} (h : s.Since z) : (s.tmrShow u).Since z := by
  unfold State.tmrShow
  extract_lets _ t1
  have ht1 : t1.Since z := h.setBit.setBit.setBit
  exact ht1.setBit.ite ht1

theorem State.Since.pinsFollow (h : s.Since z) : s.pinsFollow.Since z := h.frame.ite (h.ite h.frame)
theorem State.Since.gatesFollow (h : s.Since z) : s.gatesFollow.Since z := h.foldl fun _ _ ht => ht.ite ht.setUnit.tmrShow
theorem State.Since.setLevel {u c : Nat} {b : Bool} (h : s.Since z) : (s.setLevel u c b).Since z := h.setChan.pinsFollow

theorem State.Since.act {u c code : Nat} (h : s.Since z) : (s.act u c code).Since z := by
  unfold State.act
  split
  · exact h.setLevel
  · exact h.setLevel
  · exact h.setLevel
  · exact h.setLevel
  · exact h

theorem State.Since.impWrap {u : Nat} (h : s.Since z) : (s.impWrap u).Since z := h.frame.balRefresh.ite h
theorem State.Since.impMatch {u c : Nat} (h : s.Since z) : (s.impMatch u c).Since z := h.frame.balRefresh.ite h
theorem State.Since.injEvent {u c : Nat} (h : s.Since z) : (s.injEvent u c).Since z := h.inject_fst.ite h
theorem State.Since.ringEvent {u c : Nat} {capture : Bool} {v : Word} (h : s.Since z) : (s.ringEvent u c capture v).Since z := h.frame.raise.ite h
theorem State.Since.preload {u : Nat} (h : s.Since z) : (s.preload u).Since z := h.wr.setUnit
theorem State.Since.loadNow {u : Nat} (h : s.Since z) : (s.loadNow u).Since z := h.wr.setUnit

theorem State.Since.matches_fst {u : Nat} (h : s.Since z) : (s.matches_ u).1.Since z := by
  unfold State.matches_
  exact h.foldl_fst fun _ _ ht => by
    extract_lets
    split
    · exact ht.act.ringEvent.injEvent.seqEvent.impMatch.fst
    · exact ht

theorem State.Since.wrapActs {u : Nat} (h : s.Since z) : (s.wrapActs u).Since z := h.foldl fun _ _ ht => ht.act.ite ht

theorem State.Since.wrap_fst {u : Nat} {early : Bool} (h : s.Since z) : (s.wrap u early).1.Since z :=
  (h.wr.preload.wrapActs.setBit.raise.ite h.wr.preload.wrapActs).impWrap.matches_fst.fst

theorem State.Since.tickOne_fst {u : Nat} (h : s.Since z) : (s.tickOne u).1.Since z := by
  unfold State.tickOne
  extract_lets t
  have ht : t.Since z := h.ite h.loadNow
  split
  · exact ht.setUnit.wr.matches_fst
  · split
    · exact ht.wrap_fst
    · exact ht.wr.matches_fst

theorem State.Since.loadPsc {u : Nat} (h : s.Since z) : (s.loadPsc u).Since z := h.setUnit

theorem State.Since.tickHalf_fst {u : Nat} (h : s.Since z) : (s.tickHalf u).1.Since z := by
  unfold State.tickHalf
  extract_lets t
  have ht : t.Since z := h.loadNow
  split
  · exact ht.wr.loadPsc.wrapActs.impWrap.matches_fst
  · exact ht.wr.matches_fst

theorem State.Since.counterTick_fst {u : Nat} (h : s.Since z) : (s.counterTick u).1.Since z := by
  unfold State.counterTick
  extract_lets _ a
  have ha : a.1.Since z := h.tickHalf_fst
  split
  · exact h
  · split
    · split
      · exact ha.tickHalf_fst
      · exact ha
    · exact h.tickOne_fst

theorem State.Since.prescale_fst {u : Nat} (h : s.Since z) : (s.prescale u).1.Since z := by
  unfold State.prescale
  extract_lets
  split
  · exact h.setUnit.counterTick_fst
  · exact h.setUnit.fst

theorem State.Since.resetOne_fst {u : Nat} (h : s.Since z) : (s.resetOne u).1.Since z := h.wr.preload.setUnit.matches_fst

theorem State.Since.resetUnit_fst {u : Nat} (h : s.Since z) : (s.resetUnit u).1.Since z := by
  unfold State.resetUnit
  extract_lets _ a
  have ha : a.1.Since z := (h.setUnit.setFld.tmrShow.ite h).resetOne_fst
  split
  · exact ha.resetOne_fst
  · exact ha

theorem State.Since.unitTick_fst {evs : List TimerEvent} {free : Bool} {u : Nat} (h : s.Since z) : (s.unitTick evs free u).1.Since z := by
  unfold State.unitTick
  extract_lets
  split
  · exact h
  · split
    · exact h.resetUnit_fst
    · split
      · exact h.prescale_fst
      · exact h

theorem State.Since.keepEvents {x : Ticked} (h : x.1.Since z) : (keepEvents x).Since z := h.foldl fun _ _ ht => ht.setUnit

theorem State.Since.unitsAct_fst {free : Bool} (h : s.Since z) : (s.unitsAct free).1.Since z := by
  unfold State.unitsAct
  exact .foldl_pair (.gatesFollow (h.foldl fun _ _ ht => ht.setUnit)) fun _ _ ht => ht.unitTick_fst

theorem State.Since.settleEvents (h : s.Since z) : s.settleEvents.Since z := h.unitsAct_fst.keepEvents
theorem State.Since.trackEvent {u c : Nat} {v : Word} (h : s.Since z) : (s.trackEvent u c v).Since z := h.trackCapture.ite h

theorem State.Since.capture_fst {u c : Nat} (h : s.Since z) : (s.capture u c).1.Since z := by
  unfold State.capture
  extract_lets _ _ _ _ _ _ _ t t1
  have ht : t.Since z := h.setChan.wr
  have ht1 : t1.Since z := ht.setBit.raise.ite ht
  exact (ht1.ite ht1.setBit.trackEvent).ringEvent.injEvent.seqEvent.fst

theorem State.Since.acceptEdge_fst {u c : Nat} {level : Bool} (h : s.Since z) : (s.acceptEdge u c level).1.Since z := by
  unfold State.acceptEdge
  extract_lets t
  have ht : t.Since z := h.setChan
  split
  · split
    · exact ht.setChan.fst
    · exact ht.capture_fst
  · exact ht

theorem State.Since.runUp {u : Nat} (h : s.Since z) : (s.runUp u).Since z := by
  unfold State.runUp
  extract_lets t
  have ht : t.Since z := h.setUnit
  split
  · exact ht
  · split
    · exact ht.wr
    · exact ht

theorem State.Since.runTo_fst {goal : TimerEvent} {u n : Nat} {x y : Ticked} (h : x.1.Since z)
    (hy : State.runTo goal u n x = some y) : y.1.Since z := by
  induction n generalizing x with
  | zero => cases hy
  | succ n ih =>
    have hr : ((x.1.runUp u).counterTick u).1.Since z := h.runUp.counterTick_fst
    unfold State.runTo at hy
    dsimp only at hy
    split at hy
    · cases hy
      exact hr
    · refine ih ?_ hy
      exact hr

theorem State.Since.runToEvent {goal : TimerEvent} {high : Word} (h : s.Since z) : (s.runToEvent goal high).Since z := by
  unfold State.runToEvent
  dsimp only
  split
  · exact h
  · split
    · exact h.settleEvents.loadNow.wr.wr.setUnit.counterTick_fst.keepEvents
    · split
      next r hr => exact (runTo_fst h.settleEvents.fst hr).keepEvents
      next => exact h

theorem State.Since.timerWrap {u : Fin 8} (h : s.Since z) : (timerWrap u s).Since z := h.runToEvent
theorem State.Since.timerMatch {u : Fin 8} {c : Fin 4} (h : s.Since z) : (timerMatch u c s).Since z := h.runToEvent.ite h

theorem State.Since.timerCapture {u : Fin 8} {c : Fin 4} (h : s.Since z) : (timerCapture u c s).Since z :=
  h.ite (h.settleEvents.ite h.settleEvents.frame).acceptEdge_fst.keepEvents

theorem State.Since.timerGatePinChange {pin : Fin 8} {level : Bool} (h : s.Since z) : (timerGatePinChange pin level s).Since z :=
  h.settleEvents.frame.ite h

theorem State.Since.tmrStart {u : Nat} (h : s.Since z) : (s.tmrStart u).Since z := h.setUnit.setFld.tmrShow
theorem State.Since.tmrStop {u : Nat} (h : s.Since z) : (s.tmrStop u).Since z := h.setUnit.setFld.tmrShow
theorem State.Since.atStart (h : s.Since z) : s.atStart.Since z := h.wr.foldl fun _ _ ht => ht.tmrStart
theorem State.Since.timerAtStart (h : s.Since z) : (timerAtStart s).Since z := h.advanceTo.atStart.ite h
theorem State.Since.modeFollow {u : Nat} (h : s.Since z) : (s.modeFollow u).Since z := h.setUnit.tmrShow
theorem State.Since.chanMode {u c old : Nat} (h : s.Since z) : (s.chanMode u c old).Since z := h.ite (h.setChan.setLevel.ite (h.setChan.ite h))

theorem State.Since.catchUp {e u : Nat} (h : s.Since z) : (s.catchUp e u).Since z := by
  unfold State.catchUp
  extract_lets _ _ _ s0 pair _ _ one s1
  have hone {t : State} {v from_ adv len : Nat} (ht : t.Since z) : (one t v from_ adv len).Since z := by
    unfold one
    extract_lets _ _ t1 t2 t3
    have ht1 : t1.Since z := ht.wr
    have ht2 : t2.Since z := (ht1.loadNow.loadPsc.ite ht1.preload).wrapActs.setBit.ite ht1
    have ht3 : t3.Since z := ht2.foldl fun _ _ hu => hu.act.setBit.ringEvent
    exact ht3.raise.ite ht3
  have hs1 : s1.Since z := hone h.setUnit
  exact (hone hs1).ite hs1

theorem State.Since.timerCatchUp {n : Nat} (h : s.Since z) : (s.timerCatchUp n).Since z :=
  (h.wr.wr.ite h.wr).foldl fun _ _ ht => ht.catchUp

/-! ## Impedance (Machine/Impedance.lean) -/

theorem State.Since.impShow {st : Nat} (h : s.Since z) : (s.impShow st).Since z := h.setFld.setFld

theorem State.Since.impAnnounced {t0 : DWord} {fit : FAddr} {plan : List Word} (h : s.Since z) : (s.impAnnounced t0 fit plan).Since z :=
  (h.impDrop.frame.tmrStop.setBit.tmrStop.setBit.ite h.impDrop.frame).impShow

theorem State.Since.impAnnounceReceived {t0 : DWord} {fit : FAddr} {plan : List Word} (h : s.Since z) : (impAnnounceReceived t0 fit plan s).Since z :=
  h.impAnnounced.ite h

theorem State.Since.fitTempsOff {f : FitJob} (h : s.Since z) : (s.fitTempsOff f).Since z := h.frame.foldl fun _ _ ht => ht.raiseC
theorem State.Since.tempsOff (h : s.Since z) : s.tempsOff.Since z := h.foldl fun _ _ ht => ht.fitTempsOff

theorem State.Since.impMeasurementStart {slot : Fin 32} {plan : List Word} (h : s.Since z) : (impMeasurementStart slot plan s).Since z := by
  unfold Machine.impMeasurementStart
  split
  · exact h
  · extract_lets _ _ _ _ _ _ old s1 _ _ _ _ s2 s3
    have hs1 : s1.Since z := by
      dsimp only [s1]
      clear_value old
      split
      · exact h.fitTempsOff.ite h
      · exact h
    have hs2 : s2.Since z := hs1.drawn.frame.fitsWatch
    have hs3 : s3.Since z := hs2.foldl fun _ _ ht => ht.ite ht.sendJob
    exact (hs3.impAnnounced.ite hs3).ite h

theorem State.Since.impTimer {u n : Nat} (h : s.Since z) : (s.impTimer u n).Since z :=
  h.wr.wr.wr.wr.wr.setFld.preload.setUnit.tmrStart

theorem State.Since.driveOff (h : s.Since z) : s.driveOff.Since z := h.frame.balRefresh

theorem State.Since.impPassStart (h : s.Since z) : (impPassStart s).Since z := by
  unfold Machine.impPassStart
  extract_lets
  split
  · exact h
  · extract_lets _ _ _ s2 s2'
    have hs2 : s2.Since z := h.frame.frame
    have hs2' : s2'.Since z := h.frame.frame
    exact h.ite ((hs2.impTimer.impShow.balRefresh.ite h).ite (hs2'.impTimer.impShow.balRefresh.ite h.frame.impShow))

theorem State.Since.passEnd (h : s.Since z) : s.passEnd.Since z := h.driveOff.frame.impShow.ite h.driveOff.frame.impShow

theorem State.Since.frameOut {p : SegIn} (h : s.Since z) : (s.frameOut p).Since z := by
  unfold State.frameOut
  extract_lets
  split
  · exact h
  · exact h.frame.ite h.sendJob

theorem State.Since.frameKeep {p : SegIn} (h : s.Since z) : (s.frameKeep p).Since z := h.frame.frameOut

theorem State.Since.chopPassBudgetTimeout (h : s.Since z) : (chopPassBudgetTimeout s).Since z := by
  unfold Machine.chopPassBudgetTimeout
  extract_lets
  split
  · split
    · exact h.frame.frameKeep.passEnd
    · exact h.frame.passEnd
  · exact h

theorem State.Since.betweenSegments (h : s.Since z) : s.betweenSegments.Since z := h.frame.balAssignmentApply.frame

theorem State.Since.impSegmentEnd {entry : Fin 16} (h : s.Since z) : (impSegmentEnd entry s).Since z := by
  unfold Machine.impSegmentEnd
  extract_lets
  split
  · exact h
  · extract_lets _ s1
    have hs1 : s1.Since z := h.frame.frameKeep
    exact h.ite (h.frame.betweenSegments.ite (h.ite (hs1.passEnd.betweenSegments.ite hs1.betweenSegments)))

theorem State.Since.fitSet {slot : Fin 32} {g : FitJob → FitJob} (h : s.Since z) : (s.fitSet slot g).Since z := h.frame

theorem State.Since.impPhasorReceived {p : SegIn} (h : s.Since z) : (impPhasorReceived p s).Since z := by
  unfold Machine.impPhasorReceived
  split
  · exact h.fitSet.ite h
  · exact h

theorem State.Since.impPhasorTimeout {node : FAddr} (h : s.Since z) : (impPhasorTimeout node s).Since z := by
  unfold Machine.impPhasorTimeout
  split
  · exact h.fitSet.ite h
  · exact h

theorem State.Since.impResend {t0 : DWord} {host : FAddr} (h : s.Since z) : (s.impResend t0 host).Since z :=
  (h.frame.foldl fun _ _ ht => ht.frameOut).ite h

theorem State.Since.tempJudge {slot : Fin 32} {a : FAddr} {k : Nat} {lim : Int} {t : Option Int} (h : s.Since z) :
    (s.tempJudge slot a k lim t).Since z := h.fitSet.raiseC.ite h.fitSet

theorem State.Since.impEnd (h : s.Since z) : s.impEnd.Since z := h.impDrop.addSat.wr.wr
theorem State.Since.impRelease {t0 : DWord} (h : s.Since z) : (s.impRelease t0).Since z := h.impEnd.ite h

theorem State.Since.impFitDone (h : s.Since z) : (impFitDone s).Since z := by
  unfold Machine.impFitDone
  split
  · exact h
  · extract_lets _ _ _ _ _ _ _ _ s2 _ s3
    have hs2 : s2.Since z := (h.foldl fun _ _ ht => ht.recSpread).foldl fun _ _ ht => ht.ite ht.raise
    have hs3 : s3.Since z := hs2.ite (hs2.foldl fun _ _ ht => ht.foldl fun _ _ hu => hu.tempJudge)
    exact h.ite (hs3.raise.foldl fun _ _ ht => ht.ite ht.sendJob).fitSet.jobWrote.impRelease

/-! ## Temperatures (Machine/Thermal.lean) -/

theorem State.Since.paceCheck {mhz : Nat} (h : s.Since z) : (s.paceCheck mhz).Since z :=
  h.wr.frame.raise.ownDemand.enterGuard.ite (h.wr.frame.transient.ite h.wr.frame)

theorem State.Since.railCheck {i v : Nat} (h : s.Since z) : (s.railCheck i v).Since z := h.frame.channelFault.ite (h.frame.transient.ite h.frame)
theorem State.Since.refCheck {v : Nat} (h : s.Since z) : (s.refCheck v).Since z := h.frame.channelFault.ite (h.frame.transient.ite h.frame)

theorem State.Since.stackCheck {code : Nat} (h : s.Since z) : (s.stackCheck code).Since z := by
  unfold State.stackCheck
  extract_lets _ _ _ _ s1
  have hs1 : s1.Since z := h.wr.frame
  split
  · exact hs1.raiseC.balRefresh
  · exact hs1

theorem State.Since.vminCheck (h : s.Since z) : s.vminCheck.Since z := h.frame.balRefresh

theorem State.Since.exclude {n : Nat} {out : Bool} (h : s.Since z) : (s.exclude n out).Since z :=
  h.setBit.frame.raise.channelFault.ite h.setBit.frame.raise

theorem State.Since.dieJudge {die : List Int} (h : s.Since z) : (s.dieJudge die).Since z :=
  h.foldl fun _ _ ht => ht.frame.exclude.ite (ht.frame.ite (ht.frame.transient.ite ht))

theorem State.Since.thermShow (h : s.Since z) : s.thermShow.Since z := h.setBit.setBit.setBit

theorem State.Since.warnCheck {max : Int} {hot : Nat} (h : s.Since z) : (s.warnCheck max hot).Since z := by
  unfold State.warnCheck
  extract_lets
  split
  · exact h.frame
  · exact h.frame.raiseC.askRun.ite h.frame.raiseC

theorem State.Since.rateCheck {max : Int} (h : s.Since z) : (s.rateCheck max).Since z := by
  unfold State.rateCheck
  extract_lets _ _ _ _ _ _ s1
  have hs1 : s1.Since z := h.frame.setFld
  split
  · exact h.frame.setFld
  · split
    · exact hs1.raiseC
    · exact hs1

theorem State.Since.stopSet {max : Int} {hot : Nat} (h : s.Since z) : (s.stopSet max hot).Since z :=
  h.raise.balRefresh.ite (h.raise.balRefresh.ite h.raise.frame.impStop.ownDemand.settle)

theorem State.Since.stopClear {max : Int} {hot : Nat} (h : s.Since z) : (s.stopClear max hot).Since z := h.raiseC.balRefresh
theorem State.Since.stopReturn (h : s.Since z) : s.stopReturn.Since z := h.toRun.activeStart.frame.balRefresh.settle.ite h

theorem State.Since.stopCheck {max : Int} {hot : Nat} (h : s.Since z) : (s.stopCheck max hot).Since z := by
  unfold State.stopCheck
  extract_lets
  split
  · exact h.frame.stopSet.stopReturn
  · exact h.frame.stopClear.stopReturn
  · exact h.frame.stopReturn

theorem State.Since.setFast {fast : Bool} (h : s.Since z) : (s.setFast fast).Since z := h.setBit.wr

theorem State.Since.refreshCheck {max : Int} (h : s.Since z) : (s.refreshCheck max).Since z :=
  (h.frame.setFast.raise.ite h).ite ((h.frame.setFast.raise.ite h.frame).ite h.frame)

theorem State.Since.thermRound {die : List Int} (h : s.Since z) : (s.thermRound die).Since z := by
  unfold State.thermRound
  extract_lets _ _ s2
  have hs2 : s2.Since z := h.wr.wr.wr.dieJudge.setBit
  split
  · exact hs2
  · exact (hs2.wr.setFld.ite hs2.wr).warnCheck.rateCheck.stopCheck.refreshCheck.thermShow

theorem State.Since.roundResult {k : Conversion} {code : BitVec 16} {v : Int} (h : s.Since z) : (s.roundResult k code v).Since z :=
  h.frame.clipSample.ite h.frame.clipSample.frame.filterSample

theorem State.Since.monitors {pace stack : Nat} {die : List Int} {refchk : Nat} {rails : List Nat} (h : s.Since z) :
    (s.monitors pace stack die refchk rails).Since z := by
  unfold State.monitors
  extract_lets s1
  have hs1 : s1.Since z := h.paceCheck.foldl fun _ _ ht => ht.railCheck
  exact hs1.refCheck.stackCheck.thermRound.vminCheck.budgetRound.probeRound.settle

theorem State.Since.housekeepingRound {r : RoundIn} (h : s.Since z) : (housekeepingRound r s).Since z :=
  h.ite (h.frame.foldl fun _ _ ht => ht.roundResult).monitors

theorem State.Since.guardEntryAfterStop (h : s.Since z) : (guardEntryAfterStop s).Since z := h.enterGuard.frame.settle.ite h

/-! ## The self-test (Machine/Chisel.lean) -/

theorem State.Since.setSlice {i : Nat} {f : Slice → Slice} (h : s.Since z) : (s.setSlice i f).Since z := h.frame
theorem State.Since.sliceBit {id i : Nat} {b : Bool} (h : s.Since z) : (s.sliceBit id i b).Since z := h.setBit
theorem State.Since.chisShow {last : Nat} (h : s.Since z) : (s.chisShow last).Since z := h.wr
theorem State.Since.sliceHold {i : Nat} (h : s.Since z) : (s.sliceHold i).Since z := h.frame.setFld.balRefresh
theorem State.Since.sliceFree {i : Nat} (h : s.Since z) : (s.sliceFree i).Since z := (h.frame.setFld.ite h.frame).balRefresh
theorem State.Since.sliceNext {i : Nat} (h : s.Since z) : (s.sliceNext i).Since z := h.frame.chisShow.ite h.frame.addWord.chisShow
theorem State.Since.roundBegin (h : s.Since z) : s.roundBegin.Since z := h.frame

theorem State.Since.chiselSliceStart (h : s.Since z) : (chiselSliceStart s).Since z :=
  h.ite ((h.roundBegin.ite h).sliceNext.ite (h.roundBegin.ite h).frame.chisShow.sliceHold)

theorem State.Since.chiselFail {i result : Nat} {repaired : Bool} {reaction : Nat} (h : s.Since z) :
    (s.chiselFail i result repaired reaction).Since z := h.raise

theorem State.Since.guardNoSpare (h : s.Since z) : s.guardNoSpare.Since z := h.leadsOff.enterGuard
theorem State.Since.memFault {ed : Bool} {bank : Nat} (h : s.Since z) : (s.memFault ed bank).Since z := h.guardNoSpare.ite h.frame
theorem State.Since.openWire {k : Nat} (h : s.Since z) : (s.openWire k).Since z := h.ite h.setBit.frame.raise.balRefresh

theorem State.Since.lineClean {k : Nat} {pattern : Bool} (h : s.Since z) : (s.lineClean k pattern).Since z :=
  h.ite (h.frame.ite (h.frame.ite h.frame.setBit.raiseC.balRefresh))

theorem State.Since.shortEvents {r : SliceIn} {both : List Nat} (h : s.Since z) : (s.shortEvents r both).Since z := h.foldl fun _ _ ht => ht.raise

theorem State.Since.ownReaction {i : Nat} {both : List Nat} (h : s.Since z) : (s.ownReaction i both).Since z := by
  unfold State.ownReaction
  split
  · exact h.foldl fun _ _ ht => ht.openWire
  · exact (h.foldl fun _ _ ht => ht.ite ht.swFault).ite ((h.foldl fun _ _ ht => ht.ite ht.shtFault).ite h)

theorem State.Since.reaction {i result : Nat} {r : SliceIn} {both : List Nat} (h : s.Since z) : (s.reaction i result r both).Since z := by
  unfold State.reaction
  have hc {j : Nat} {open_ : Bool} {p : Nat} : (s.chiselFail j result open_ p).Since z := h.chiselFail
  split
  · exact hc.raise.frame.ownDemand
  · exact (h.frame.ite hc.channelFault).ite (h.frame.chiselFail.setBit.setBit.setSlice.ite
      (h.shortEvents.chiselFail.channelFault.ite (hc.channelFault.ite (hc.ite (hc.portDown.setPort.setSlice.ite
        ((hc.guardNoSpare.ite hc).ite ((hc.guardNoSpare.ite hc.memFault).ite hc.guardNoSpare)))))))

theorem State.Since.marchOn {i : Nat} (h : s.Since z) : (s.marchOn i).Since z :=
  h.ite (h.setFld.ite (h.setFld.ite (h.setFld.ite h)))

theorem State.Since.testResume (h : s.Since z) : s.testResume.Since z := (h.frame.outShow.ite (h.frame.outShow.ite h.frame)).ite h.frame

theorem State.Since.lastingFail {i result : Nat} {r : SliceIn} {both : List Nat} (h : s.Since z) : (s.lastingFail i result r both).Since z :=
  h.sliceBit.ownReaction.ite h.sliceBit.ownReaction.setSlice.reaction

theorem State.Since.sliceDone {i : Nat} (h : s.Since z) : (s.sliceDone i).Since z := h.sliceFree.marchOn.frame.sliceNext.testResume

theorem State.Since.lineRound {i res : Nat} {finds : List Nat} (h : s.Since z) : (s.lineRound i res finds).Since z :=
  (h.foldl fun _ _ ht => ht.lineClean).ite h

theorem State.Since.attemptEnd {r : SliceIn} (h : s.Since z) : (s.attemptEnd r).Since z := by
  unfold State.attemptEnd
  extract_lets _ _ _ _ s2 _ s3 s3' s4
  have hs2 : s2.Since z := h.setSlice.lineRound.sliceBit
  have hs3 : s3.Since z := hs2.raise
  have hs3' : s3'.Since z := hs2.sliceBit
  have hs4 : s4.Since z := hs3'.setSlice
  split
  · exact (hs3.lastingFail.ite hs3).sliceDone
  · exact (hs4.transient.ite hs4).sliceDone.ite (hs3'.lastingFail.sliceDone.ite hs3'.frame)

theorem State.Since.chiselSliceEnd {r : SliceIn} (h : s.Since z) : (chiselSliceEnd r s).Since z := h.attemptEnd.ite h

theorem State.Since.attemptPass {i : Nat} (h : s.Since z) : (s.attemptPass i).Since z :=
  (h.setSlice.sliceBit.transient.ite h.setSlice.sliceBit).sliceDone

theorem State.Since.fullRound {l : List (Fin 48 × List SliceIn)} (h : s.Since z) : (s.fullRound l).Since z := by
  unfold State.fullRound
  extract_lets one
  have hone {t : State} {i : Nat} (ht : t.Since z) : (one t i).Since z := by
    unfold one
    extract_lets _ _ _ v
    have hv : v.Since z := ht.frame.foldl fun _ _ hu => hu.attemptEnd.ite hu
    exact hv.attemptPass.ite hv
  exact h.frame.foldl fun _ _ ht => hone ht

theorem State.Since.laneRepair (h : s.Since z) : (laneRepair s).Since z := by
  unfold Machine.laneRepair
  extract_lets
  split
  · exact h
  · exact h.frame.setFld.setBit.setBit.rearm.setSlice.raise.chiselFail

theorem State.Since.memoryRepairDone (h : s.Since z) : (memoryRepairDone s).Since z := by
  unfold Machine.memoryRepairDone
  extract_lets
  split
  · exact h
  · exact h.frame.wr.raise

theorem State.Since.chiselStatus {src : Src} (h : s.Since z) : (chiselStatus src s).Since z := by
  unfold Machine.chiselStatus
  exact h.serveCode fun ht => by
    split
    · exact ht.fail_fst
    · exact ht

/-! ## Sweeps and snapshots (Machine/Collector.lean) -/

theorem State.Since.sweepShow {st : Nat} (h : s.Since z) : (s.sweepShow st).Since z := h.wr.wr
theorem State.Since.sweepEnd (h : s.Since z) : s.sweepEnd.Since z := h.frame.sweepShow.slotShow

theorem State.Since.announced {p : SweepPlan} {stop : Bool} (h : s.Since z) : (s.announced p stop).Since z := by
  unfold State.announced
  extract_lets
  split
  · split
    · exact (h.sweepEnd.ite h.frame).ite h
    · exact h
  · split
    · exact h
    · exact h.askRun.slotShow.ite (h.frame.askRun.gridCheck.sweepShow.slotShow.ite h)

theorem State.Since.sweepAnnounce {bytes : List Byte} (h : s.Since z) : (sweepAnnounce bytes s).Since z := h.announced.ite h
theorem State.Since.sweepAnnounceRepeat (h : s.Since z) : (sweepAnnounceRepeat s).Since z := h.frame.sendAll.ite h
theorem State.Since.announce {bs : List Byte} (h : s.Since z) : (s.announce bs).Since z := h.frame.sendAll

theorem State.Since.sweepStart {src : Src} (h : s.Since z) : (sweepStart src s).Since z := by
  unfold Machine.sweepStart
  exact h.serve fun ht => by
    extract_lets
    split
    · exact ht.fail_fst
    · split
      · exact ht.fail_fst
      · exact ht.frame.announce.announced.wr.sweepShow.fst

theorem State.Since.sweepStop {src : Src} (h : s.Since z) : (sweepStop src s).Since z := by
  unfold Machine.sweepStop
  exact h.serve fun ht => by
    extract_lets
    split
    · exact ht.fail_fst
    · split
      · exact ht.fail_fst
      · exact ht.frame.announce.announced.wr.sweepShow.fst

theorem State.Since.destWrite {bs : List Byte} (h : s.Since z) : (s.destWrite bs).Since z := by
  unfold State.destWrite
  extract_lets _ _ _ s1 s1'
  have hs1 : s1.Since z := h.setBit.wr.tailMoved
  have hs1' : s1'.Since z := h.streamLose.setBit
  split
  · exact h
  · split
    · exact h.setBit.streamPut.watermark
    · exact hs1.streamLose.convOvfSlow.streamPut.watermark.ite (h.streamLose.ite hs1'.convOvf.raise)

theorem State.Since.sredTake {x : Snapshot} (h : s.Since z) : (s.sredTake x).Since z := h.foldl fun _ _ ht => ht.foldl fun _ _ hu => hu.frame

theorem State.Since.snapClose {x : Snapshot} (h : s.Since z) : (s.snapClose x).Since z := by
  unfold State.snapClose
  extract_lets _ _ _ _ s2 s3
  have hs2 : s2.Since z := (h.frame.sredTake.foldl fun _ _ ht => ht.destWrite).destWrite
  have hs3 : s3.Since z := hs2.raise.ite hs2.addSat.raiseSlow
  exact hs3.ite hs3.raise

theorem State.Since.snapPut {x : Snapshot} {a : FAddr} {bs : List Byte} {changed : Bool} (h : s.Since z) : (s.snapPut x a bs changed).Since z := by
  have hlost : (s.addSat 0x2038 16 16 1).Since z := h.addSat
  exact h.ite ((h.frame.snapClose.ite h.frame).ite (hlost.frame.ite hlost.frame.raiseSlow))

theorem State.Since.snapshotCloseTimeout (h : s.Since z) : (snapshotCloseTimeout s).Since z := by
  unfold Machine.snapshotCloseTimeout
  split
  · exact h
  · exact h.snapClose.ite h

theorem State.Since.sweepRecordReceive {bytes : List Byte} {rerouted : Bool} {_port : Fin 4} {chk : Check} (h : s.Since z) :
    (sweepRecordReceive bytes rerouted _port chk s).Since z := by
  unfold Machine.sweepRecordReceive
  extract_lets s0
  have hs0 : s0.Since z := h.transient.ite h
  split
  · exact h
  · split
    · exact hs0.memFault
    · split
      · exact hs0.destWrite.ite hs0.addSat
      · split
        · exact hs0.snapPut
        · exact hs0.destWrite.addSat

theorem State.Since.holdRecord {bs : List Byte} (h : s.Since z) : (s.holdRecord bs).Since z := (h.frame.addSat.ite h.frame).setFld

theorem State.Since.rejoin (h : s.Since z) : s.rejoin.Since z := by
  unfold State.rejoin
  extract_lets
  split
  · exact h.frame.sweepShow.ite h
  · exact h

theorem State.Since.shotOut (h : s.Since z) : s.shotOut.Since z := by
  unfold State.shotOut
  extract_lets
  split
  · exact h
  · dsimp only
    split
    · split
      · split
        · exact h.frame.snapPut.ite h.frame.snapPut.sweepEnd
        · exact h.frame.ite h.frame.sweepEnd
      · exact (h.frame.holdRecord.ite h.frame.sendTo).ite (h.frame.holdRecord.ite h.frame.sendTo).sweepEnd
    · split
      · split
        · exact h.frame.snapPut
        · exact h.frame
      · exact h.frame.holdRecord.ite h.frame.sendTo

theorem State.Since.snapOpen (h : s.Since z) : s.snapOpen.Since z := by
  unfold State.snapOpen
  extract_lets
  split
  · exact h
  · exact (h.frame.ite h.frame.wr).ite h

theorem State.Since.snapshotTime (h : s.Since z) : (snapshotTime s).Since z := by
  unfold Machine.snapshotTime
  extract_lets s1
  have hs1 : s1.Since z := h.shotOut.rejoin.snapOpen
  split
  · exact h
  · split
    · exact hs1.sweepShow
    · exact hs1.sweepEnd.ite (hs1.ite hs1.frame.wr.sweepShow)

theorem State.Since.sweepRecordSend (h : s.Since z) : (sweepRecordSend s).Since z := by
  unfold Machine.sweepRecordSend
  split
  · exact h.shotOut.ite h
  · exact h

theorem State.Since.sweepIsolated (h : s.Since z) : (sweepIsolated s).Since z := by
  unfold Machine.sweepIsolated
  extract_lets
  split
  · exact h.frame.sweepShow.ite h
  · exact h

theorem State.Since.sweepHoldExpiry (h : s.Since z) : (sweepHoldExpiry s).Since z := h.frame.ite h

theorem State.Since.heldRecordSend (h : s.Since z) : (heldRecordSend s).Since z := by
  unfold Machine.heldRecordSend
  extract_lets
  split
  · exact (h.rejoin.frame.sendTo.setFld.frame.raise.ite h.rejoin.frame.sendTo.setFld).ite h.rejoin
  · exact h.rejoin

theorem State.Since.snapLost (h : s.Since z) : s.snapLost.Since z := h.addSat

theorem State.Since.snapArm {n left : Nat} {who : FAddr} {ev : BitVec 7} {fabric late : Bool} {time : DWord} (h : s.Since z) :
    (s.snapArm n left who ev fabric late time).Since z := h.frame

theorem State.Since.snapshotTrigger {event : BitVec 7} (h : s.Since z) : (snapshotTrigger event s).Since z := by
  unfold Machine.snapshotTrigger
  extract_lets _ _ s2
  have hs2 : s2.Since z := h.frame.sendAll.ite h.frame
  split
  · exact h
  · split
    · exact hs2.snapLost
    · exact hs2.snapArm

theorem State.Since.fabricTriggerReceived {sender : FAddr} {event : BitVec 7} {time : DWord} (h : s.Since z) :
    (fabricTriggerReceived sender event time s).Since z := by
  unfold Machine.fabricTriggerReceived
  extract_lets
  split
  · exact h
  · split
    · exact h.snapLost
    · split
      · exact h.snapLost
      · exact h.frame.snapArm.ite h.frame.snapArm

theorem State.Since.turnSlot {n first : Nat} (h : s.Since z) : (s.turnSlot n first).Since z :=
  (h.foldl fun _ _ ht => ht.stByte).foldl fun _ _ ht => ht.stByte

theorem State.Since.slotFree {n : Nat} (h : s.Since z) : (s.slotFree n).Since z := by
  unfold State.slotFree
  dsimp only
  split
  · exact h.frame.setBit.frame
  · exact h.frame.setBit

/-! ## Jobs, records and snapshot slots (Machine/Placement.lean) -/

theorem State.Since.jobSet {key : JobKey} {f : Job → Job} (h : s.Since z) : (s.jobSet key f).Since z := h.frame
theorem State.Since.jobDrop {key : JobKey} (h : s.Since z) : (s.jobDrop key).Since z := h.frame.plcShow

theorem State.Since.ckptStore {key : JobKey} {host : FAddr} {seq : Word} {ok : Bool} {body : JobBody} (h : s.Since z) :
    (s.ckptStore key host seq ok body).Since z := h.frame.ite (h.frame.plcShow.ite h)

theorem State.Since.checkpoint {key : JobKey} {body : List Byte} (h : s.Since z) : (checkpoint key body s).Since z := by
  unfold Machine.checkpoint
  extract_lets
  split
  · exact h
  · split
    · exact h
    · split
      · exact h.sendJob.jobDrop.ite h.ckptStore.sendJob.jobSet
      · exact h.ckptStore.foldl fun _ _ ht => ht.sendJob

theorem State.Since.jobArrives {key : JobKey} {host : FAddr} {seq : Word} {guard : Bool} {body : JobBody} (h : s.Since z) :
    (s.jobArrives key host seq guard body).Since z := by
  unfold State.jobArrives
  split
  · exact h
  · exact h.ite h.ckptStore.startJob.takeBody.plcShow.sendJob.addSat.raise

theorem State.Since.jobFrame {m : JobMsg} (h : s.Since z) : (jobFrame m s).Since z := by
  unfold Machine.jobFrame
  split
  · exact h
  · split
    · exact h.ckptStore.ite h
    · exact h.jobArrives.ite h
    · exact h.recStore
    · exact h.impRelease
    · exact h.impResend
    · split
      · exact h.ite h.restartJob.plcShow
      · exact h

theorem State.Since.jobMoveAck {key : JobKey} {host : FAddr} (h : s.Since z) : (jobMoveAck key host s).Since z := by
  unfold Machine.jobMoveAck
  split
  · exact h.jobDrop.ite h
  · exact h

theorem State.Since.jobMoveTimeout {key : JobKey} (h : s.Since z) : (jobMoveTimeout key s).Since z := by
  unfold Machine.jobMoveTimeout
  extract_lets
  split
  · exact h.jobSet.frame.maquette.ite h
  · exact h

theorem State.Since.recordCopy {owner : FAddr} (h : s.Since z) : (recordCopy owner s).Since z := by
  unfold Machine.recordCopy
  extract_lets _ _ _ _ _ _ t
  have ht : t.Since z := (h.foldl fun _ _ ht => ht.foldl fun _ _ hu => hu.sendRec).frame
  exact h.ite (((ht.frame.raiseC.ite ht.frame).ite ht).ite h.frame.recShow)

theorem State.Since.readRecord_fst {src : Src} {r : Req} {chk : Check} {kind : Byte} {owner : FAddr} {seq : Word} {off : Nat} (h : s.Since z) :
    (s.readRecord src r chk kind owner seq off).1.Since z := by
  unfold State.readRecord
  extract_lets _ s1
  have hs1 : s1.Since z := h.transient.ite h
  split
  · split
    · exact hs1.memFault.fail_fst
    · exact hs1
  · split
    · exact h.fail_fst
    · exact h.relayTo_fst

theorem State.Since.recordRead {src : Src} {chk : Check} (h : s.Since z) : (recordRead src chk s).Since z := by
  unfold Machine.recordRead
  exact h.serveCode fun ht => by
    split
    · exact ht.fail_fst
    · exact ht.readRecord_fst

theorem State.Since.digestRead {src : Src} {chk : Check} (h : s.Since z) : (digestRead src chk s).Since z := by
  unfold Machine.digestRead
  exact h.serveCode fun ht => by
    split
    · exact ht.fail_fst
    · split
      · exact ht.readRecord_fst
      · exact ht.fail_fst

theorem State.Since.jobRecordInterval {slot : Fin 32} {charge : Int} {rests : List RestIn} (h : s.Since z) :
    (jobRecordInterval slot charge rests s).Since z := by
  unfold Machine.jobRecordInterval
  extract_lets
  split
  · exact h
  · extract_lets _ _ _ _ t
    have ht : t.Since z := h.foldl fun _ _ ht => ht.recSpread
    split
    · exact h
    · split
      · split
        · exact h
        · exact h.ite (h.frame.foldl fun _ _ ht => ht.recSpread).jobWrote
      · exact ht.drawn.frame.ite h

theorem State.Since.digestClose {slot : Fin 32} {d : DigestIn} (h : s.Since z) : (digestClose slot d s).Since z := by
  unfold Machine.digestClose
  extract_lets
  split
  · exact h.ite h.recSpread.jobWrote.raise
  · exact h

theorem State.Since.snapc {n : Nat} (h : s.Since z) : (s.snapc n).Since z := by
  unfold State.snapc
  extract_lets
  split
  · exact h
  · exact h.ite h.recSpread.slotFree

theorem State.Since.snapshotFrozen (h : s.Since z) : (snapshotFrozen s).Since z := by
  unfold Machine.snapshotFrozen
  split
  · extract_lets
    split
    · exact h.turnSlot.stBytes.frame.setBit.raise.snapc
    · exact h
  · exact h

/-! ## Memory, page writes and the log (Machine/Memory.lean) -/

theorem State.Since.linkAckTimeout {p : Fin 4} {lseq : Byte} {chk : Check} (h : s.Since z) : (linkAckTimeout p lseq chk s).Since z := by
  unfold Machine.linkAckTimeout
  split
  · split
    · exact h.linkFail
    · exact h.transient.linkFail
    · exact h.linkLost.memFault
  · exact h

theorem State.Since.nvRead {chk : Check} (h : s.Since z) : (s.nvRead chk).Since z := h.transient.ite h
theorem State.Since.nvMetCount {met : List (Nat × Check)} (h : s.Since z) : (s.nvMetCount met).Since z := h.ite h.transient
theorem State.Since.edramRefresh (h : s.Since z) : (edramRefresh s).Since z := h.frame
theorem State.Since.streamEmpty {n : Nat} (h : s.Since z) : (s.streamEmpty n).Since z := h.wr.streamLose.watermark.ite h

theorem State.Since.edramLost (h : s.Since z) : s.edramLost.Since z := by
  unfold State.edramLost
  extract_lets
  exact (h.foldl fun _ _ ht => ht.streamEmpty).slotFree.slotFree.frame.setFld.addSat.recShow.plcShow

theorem State.Since.edramRefreshLate {groups : Nat} (h : s.Since z) : (edramRefreshLate groups s).Since z := by
  unfold Machine.edramRefreshLate
  extract_lets t
  have ht : t.Since z := h.edramLost.setBit.addSat.addSat
  exact (ht.frame.ite ht.raise).ite h

theorem State.Since.refreshSet {fast : Bool} (h : s.Since z) : (s.refreshSet fast).Since z := h.setBit.setFld

theorem State.Since.hatboxRefreshComparatorRead {tripped : BitVec 6} (h : s.Since z) : (hatboxRefreshComparatorRead tripped s).Since z :=
  (h.frame.refreshSet.ite (h.frame.refreshSet.ite h.frame)).ite h

theorem State.Since.calStored {bank : Bool} (h : s.Since z) : (s.calStored bank).Since z := h.frame.wr.wr.wr.wr.raise

theorem State.Since.nvFinish {job : NvJob} (h : s.Since z) : (s.nvFinish job).Since z := by
  unfold State.nvFinish
  extract_lets
  split
  · exact h
  · exact h
  · exact h
  · exact h
  · split
    · exact h.complete
    · exact h
  · exact h.raise.complete
  · exact h.calStored.complete
  · dsimp only
    split
    · exact (h.setFld.ite h).complete
    · exact h.complete
  · exact h.setFld.complete.frame
  · exact h.setFld.raise.complete

theorem State.Since.nvStop {job : NvJob} {status : Byte} (h : s.Since z) : (s.nvStop job status).Since z := by
  unfold State.nvStop
  extract_lets
  split
  · exact h
  · exact h
  · exact h
  · exact h
  · split
    · exact h.complete
    · exact h
  · exact h.complete
  · exact h.frame.complete
  · exact h.complete
  · exact h.complete
  · exact h.complete

theorem State.Since.nvPageWriteDone {chk : Check} (h : s.Since z) : (nvPageWriteDone chk s).Since z := by
  unfold Machine.nvPageWriteDone
  split
  · exact h
  · extract_lets _ s0 _ _ s1 s2 s1' s2'
    have hs0 : s0.Since z := h.frame
    have hs1 : s1.Since z := hs0.frame.addSat.raise
    have hs2 : s2.Since z := by
      dsimp only [s2]
      split
      · exact hs1.raise
      all_goals exact hs1
    have hs1' : s1'.Since z := hs0.stBytes.addWord
    have hs2' : s2'.Since z := hs1'.transient.ite hs1'
    exact h.ite (hs2.nvStop.ite (hs2'.nvFinish.ite (hs2'.frame.nvStop.ite hs2')))

theorem State.Since.logRead {src : Src} {chk : Check} {s0 : State} (h : s0.Since z) : (logRead src chk s0).Since z := by
  unfold Machine.logRead
  exact h.serveCode fun ht => by
    extract_lets
    split
    · exact ht.fail_fst
    · split
      · exact ht.nvRead.fst
      · exact ht

theorem State.Since.keyCheck {chk : Check} {cause : Fin 3} (h : s.Since z) : (keyCheck chk cause s).Since z := by
  unfold Machine.keyCheck
  extract_lets t
  have ht : t.Since z := h.setBit.setBit
  exact (ht.raise.ite (ht.transient.ite ht)).ite h

theorem State.Since.attest {src : Src} {r s' : BitVec 256} (h : s.Since z) : (attest src r s' s).Since z := by
  unfold Machine.attest
  exact h.serveCode fun ht => by
    extract_lets
    split
    · exact ht.fail_fst
    · split
      · exact ht.fail_fst
      · split
        · exact ht.frame.fst
        · split
          · exact ht
          · split
            · exact ht.fail_fst
            · exact ht

theorem State.Since.ownerAccept {src : Src} (h : s.Since z) : (ownerAccept src s).Since z := by
  unfold Machine.ownerAccept
  exact h.serveCode fun ht => by
    extract_lets
    split
    · exact ht.fail_fst
    · split
      · exact ht.fail_fst
      · split
        · exact ht.fail_fst
        · split
          · exact ht.fail_fst
          · exact ht.floodTopo.takeAccept.fst

/-! ## Parameters (Machine/Params.lean) -/

theorem State.Since.readEffect {id : Nat} (h : s.Since z) : (s.readEffect id).Since z := by
  unfold State.readEffect
  extract_lets _ s1
  have hs1 : s1.Since z := h.ite h.wr
  split
  · exact hs1
  · exact (hs1.wr.ite hs1).ite ((hs1.setBit.ite hs1).ite hs1)

theorem State.Since.store {id : Nat} {v : Word} (h : s.Since z) : (s.store id v).Since z :=
  (h.frame.setBit.ite h.frame).ite (h.frame.ite h.wr)

theorem State.Since.request {req : Nat} (h : s.Since z) : (s.request req).Since z := by
  unfold State.request
  extract_lets
  split
  · exact h
  · split <;> exact h.frame

theorem State.Since.streamSwitch {i : Nat} {was now : Bool} (h : s.Since z) : (s.streamSwitch i was now).Since z :=
  h.ite (h.setStream.wr.wr.setBit.ite h.setStream)

theorem State.Since.startStop {w : Word} (h : s.Since z) : (s.startStop w).Since z :=
  (h.foldl fun _ _ ht => ht.tmrStart).foldl fun _ _ ht => ht.tmrStop

theorem State.Since.timerWritten {o : State} {u k : Nat} {new : Word} (h : o.Since z) (h' : s.Since z) : (o.timerWritten s u k new).Since z := by
  unfold State.timerWritten
  extract_lets t
  have ht : t.Since z := (h'.ite h'.modeFollow).tmrShow
  split
  · exact ht.wr.ite ht
  · exact h'.ite h'.setUnit
  · exact h.setUnit.ite h'
  · exact h'
  · exact h'
  · exact h'
  · exact h'
  · exact h'
  · exact h'.chanMode.ite h'

theorem State.Since.portsSwitched {o : State} (h : s.Since z) : (o.portsSwitched s).Since z := h.foldl fun _ _ ht => ht.portDown.ite ht

theorem State.Since.snapWritten {o : State} {w : Word} (h : s.Since z) : (o.snapWritten s w).Since z := by
  unfold State.snapWritten
  extract_lets _ t t1
  have ht : t.Since z := h.frame.ite h
  have ht1 : t1.Since z := ht.foldl fun _ _ ht => ht.slotFree
  exact ht1.frame.ite ht1

theorem State.Since.readmit {id : Nat} {w : Word} (h : s.Since z) : (s.readmit id w).Since z := (h.frame.ite h).balRefresh
theorem State.Since.auxSet {i : Nat} (h : s.Since z) : (s.auxSet i).Since z := h.ite h.setFld

theorem State.Since.written {o : State} {src : Option Src} {id : Nat} {value mask new : Word} (ho : o.Since z) (h : s.Since z) :
    (o.written s src id value mask new).Since z := by
  unfold State.written
  extract_lets w
  split
  · exact h.streamSwitch.ite (h.tailMoved.ite h)
  · exact ho.timerWritten h
  · split
    · exact h.request
    · exact h.balRefresh
    · exact h.balRefresh.settle
    · exact h.balRefresh.settle
    · exact h.balRefresh.settle
    · exact h.peersRefresh.peersShow.settle
    · exact h.peersRefresh.peersShow
    · exact h.inject_fst.ite h
    · exact (h.frame.setBit.ite h).rearm.ite (h.frame.setBit.ite h)
    · exact h.tempsOff.ite h
    · exact h.balRefresh.probeAll.ite h.balRefresh
    · exact h.balRefresh
    · exact h.readmit
    · exact h.readmit
    · exact h.startStop
    · exact h.foldl fun _ _ ht => ht.tmrShow
    · exact h.portsSwitched
    · split
      · exact getD h fun _ ht => h.wakeWrite _ ht
      · exact h
    · exact h.snapWritten
    · exact h.replicaCheck
    · exact h.pinsFollow.ite (h.auxSet.replan.ite (h.replan.ite h))

theorem State.Since.writeParam {src : Option Src} {id : Nat} {value mask : Word} (h : s.Since z) : (s.writeParam src id value mask).Since z :=
  h.written h.store

theorem State.Since.refusedNote {id : Nat} {value mask : Word} (h : s.Since z) : (s.refusedNote id value mask).Since z := h.inject_fst.ite h

theorem State.Since.paramGet {src : Src} {chk : Check} (h : s.Since z) : (paramGet src chk s).Since z := by
  unfold Machine.paramGet
  exact h.serveCode fun ht => by
    extract_lets
    split
    · exact ht.fail_fst
    · split
      · exact ht.fail_fst
      · split
        · exact ht.memFault.fail_fst
        · exact ((ht.transient.ite ht).foldl fun _ _ hu => hu.readEffect).fst

theorem State.Since.tickNote {src : Src} {r : Req} {ids : List Nat} (h : s.Since z) : (s.tickNote src r ids).Since z := h.frame

theorem State.Since.paramSetAt_fst {src : Src} {r : Req} (h : s.Since z) : (s.paramSetAt src r).1.Since z := by
  unfold State.paramSetAt
  extract_lets
  split
  · exact h.fail_fst
  · split
    · exact (h.refusedNote.ite h).fail_fst
    · split
      · exact h.fail_fst
      · split <;> exact h.tickNote.writeParam

theorem State.Since.paramSet {src : Src} (h : s.Since z) : (paramSet src s).Since z := h.serveCode fun ht => ht.paramSetAt_fst

theorem State.Since.serveSet {src : Src} {want : Nat → Word → Bool} (h : s.Since z) : (s.serveSet src want).Since z :=
  h.serve fun ht => ht.paramSetAt_fst

theorem State.Since.paramStage {src : Src} (h : s.Since z) : (paramStage src s).Since z := by
  unfold Machine.paramStage
  exact h.serveCode fun ht => by
    extract_lets
    split
    · exact ht.fail_fst
    · split
      · exact ht.fail_fst
      · split
        · exact ht.fail_fst
        · split
          · exact ht.fail_fst
          · exact ht.frame.fst

theorem State.Since.stageClear (h : s.Since z) : s.stageClear.Since z := h.frame

theorem State.Since.applyStaged_fst {src : Src} {r : Req} (h : s.Since z) : (s.applyStaged src r).1.Since z := by
  unfold State.applyStaged
  extract_lets
  split
  · exact h.refusedNote.stageClear.fst
  · exact (h.tickNote.foldl fun _ _ ht => ht.writeParam).stageClear.fst

theorem State.Since.paramApply {src : Src} (h : s.Since z) : (paramApply src s).Since z := by
  unfold Machine.paramApply
  exact h.serveCode fun ht => by
    extract_lets
    split
    · exact ht.fail_fst
    · split
      · exact ht.fail_fst
      · split
        · exact ht.applyStaged_fst
        · exact ht.frame.fst

theorem State.Since.applyAtBoundary (h : s.Since z) : s.applyAtBoundary.Since z := by
  unfold State.applyAtBoundary
  extract_lets
  split
  · extract_lets o
    have ho : o.1.Since z := h.frame.applyStaged_fst
    split
    · exact ho.complete
    · exact ho
  · exact h

theorem State.Since.paramDiscard {src : Src} (h : s.Since z) : (paramDiscard src s).Since z := by
  unfold Machine.paramDiscard
  exact h.serveCode fun ht => by
    split
    · exact ht.fail_fst
    · split
      · exact ht.fail_fst
      · exact ht.stageClear.fst

theorem State.Since.cfgSave {src : Src} (h : s.Since z) : (cfgSave src s).Since z := by
  unfold Machine.cfgSave
  exact h.serveCode fun ht => by
    extract_lets
    split
    · exact ht.fail_fst
    · exact ht.nvPut.fst

theorem State.Since.cfgDefaults {src : Src} (h : s.Since z) : (cfgDefaults src s).Since z := by
  unfold Machine.cfgDefaults
  exact h.serveCode fun ht => by
    split
    · exact ht.fail_fst
    · split
      · exact ht.fail_fst
      · exact (ht.foldl fun _ _ hu => hu.ite hu.writeParam).fst

theorem State.Since.cfgRestore {met : List (Nat × Check)} (h : s.Since z) : (s.cfgRestore met).Since z := by
  unfold State.cfgRestore
  split
  · exact h
  · exact (h.foldl fun _ _ ht => ht.ite ht.writeParam).frame

theorem State.Since.portsInForce (h : s.Since z) : s.portsInForce.Since z := h.frame

/-! ## Host ports and mailbox (Machine/HostPorts.lean) -/

theorem State.Since.winMove (h : s.Since z) : s.winMove.Since z := h.ite (h.frame.ite (h.ite h.addWord.tailMoved))

theorem State.Since.regReadEffect {addr : Nat} (h : s.Since z) : (s.regReadEffect addr).Since z := by
  unfold State.regReadEffect
  extract_lets
  split
  · exact h.winMove
  · exact h.frame
  · exact h

theorem State.Since.tailWrite_fst {v : Half} (h : s.Since z) : (s.tailWrite v).1.Since z := by
  unfold State.tailWrite
  extract_lets
  split
  · exact h.frame.fst
  · exact (h.frame.ringOverflow.ite h.frame).fst

theorem State.Since.go {port : HostPort} (h : s.Since z) : (s.go port).Since z := by
  unfold State.go
  extract_lets
  split
  · exact h.frame
  · split
    · split
      · exact h.frame.mbxDone
      · exact h.frame.mbxDone.ite h.frame.relayTo_fst
    · split
      · exact h.frame.mbxDone
      · exact h.frame

theorem State.Since.mbxAborted (h : s.Since z) : s.mbxAborted.Since z := by
  unfold State.mbxAborted
  split
  · exact h.mbxDone
  · exact h

theorem State.Since.abort (h : s.Since z) : s.abort.Since z := by
  unfold State.abort
  extract_lets
  split
  · exact (h.ite h.mbxAborted).ite (h.frame.mbxAborted.ite ((h.patinaAbort.ite h.mbxAborted).ite h))
  · exact h

theorem State.Since.doorbell {port : HostPort} {v : Word} (h : s.Since z) : (s.doorbell port v).Since z := (h.abort.ite h).go.ite (h.abort.ite h)

theorem State.Since.selWrite_fst {v : Word} (h : s.Since z) : (s.selWrite v).1.Since z := by
  unfold State.selWrite
  extract_lets
  split
  · exact h
  · exact h.frame.fst

theorem State.Since.regWrite_fst {port : HostPort} {addr : Nat} {v : Word} (h : s.Since z) : (s.regWrite port addr v).1.Since z := by
  unfold State.regWrite
  extract_lets
  split
  · exact (h.frame.frame.ite h.frame.frame).fst
  · exact (h.frame.frame.ite h.frame.frame).fst
  · exact (h.frame.frame.ite h.frame.frame).fst
  · exact (h.frame.frame.ite h.frame.frame).fst
  · exact (h.frame.frame.ite h.frame.frame).fst
  · exact h.frame.frame.fst
  · exact h.frame.doorbell.fst
  · exact h.frame.tailWrite_fst
  · exact h.frame.frame.fst
  · exact h.frame.frame.fst
  · exact h.frame.selWrite_fst
  · exact h.frame.frame.fst
  · exact h.frame.frame.fst
  · exact h.frame.fst

theorem State.Since.access_fst {port : HostPort} {op addr : Byte} {data : Word} (h : s.Since z) : (s.access port op addr data).1.Since z := by
  unfold State.access
  extract_lets
  split
  · exact h
  · split
    · exact h
    · split
      · exact h
      · split
        · exact h.regReadEffect
        · exact h.regWrite_fst

theorem State.Since.hostSeen {port : HostPort} (h : s.Since z) : (s.hostSeen port).Since z := h.ite h.setBit.raise
theorem State.Since.frameBad {port : HostPort} {crc : Bool} (h : s.Since z) : (s.frameBad port crc).Since z := h.frame

theorem State.Since.spiFrame {cycles : Nat} {bits : BitVec 56} (h : s.Since z) : (spiFrame cycles bits s).Since z :=
  h.frame.ite (h.frame.frameBad.ite (h.frame.hostSeen.access_fst.frame.ite h.frame.frameBad.frame))

theorem State.Since.records_fst {port : HostPort} {n : Nat} {bs : List Byte} (h : s.Since z) : (s.records port n bs).1.Since z := by
  induction n generalizing s bs with
  | zero => exact h
  | succ n ih => exact ih h.access_fst

theorem State.Since.request68_fst {port : HostPort} {bs : List Byte} (h : s.Since z) : (s.request68 port bs).1.Since z := h.hostSeen.records_fst.fst

theorem State.Since.canFdRequest {ident : BitVec 11} {bytes : List Byte} (h : s.Since z) : (canFdRequest ident bytes s).Since z :=
  h.ite (h.frameBad.ite h.request68_fst.canSend)

theorem State.Since.uartFrame {bytes : List Byte} (h : s.Since z) : (uartFrame bytes s).Since z := by
  unfold Machine.uartFrame
  split
  · exact h
  · split
    · exact h.frameBad
    · exact h.frameBad.ite (h.frameBad.ite (h.ite (h.frameBad.ite h.request68_fst.uartSend)))

theorem State.Since.uartFrameTimeout (h : s.Since z) : (uartFrameTimeout s).Since z := h.frameBad.ite h
theorem State.Since.hosterr (h : s.Since z) : (hosterr s).Since z := h.frame.raise.ite h
theorem State.Since.hostPortReconfig (h : s.Since z) : (hostPortReconfig s).Since z := h.portsInForce.ite h
theorem State.Since.intNoticeHoldoffEnd (h : s.Since z) : (intNoticeHoldoffEnd s).Since z := h.frame.sendNotice.ite h.frame

theorem State.Since.registerWrite {port : HostPort} {addr : Byte} {value : Word} (h : s.Since z) : (registerWrite port addr value s).Since z :=
  h.regWrite_fst.ite h

theorem State.Since.readClear {port : HostPort} {addr : Byte} (h : s.Since z) : (readClear port addr s).Since z := h.regReadEffect.frame.ite h

theorem State.Since.streamWinRead {port : HostPort} {chk : Check} (h : s.Since z) : (streamWinRead port chk s).Since z := by
  unfold Machine.streamWinRead
  dsimp only
  split
  · split
    · exact h.regReadEffect.frame
    · split
      · exact h.regReadEffect.frame
      · exact h.transient.regReadEffect.frame
      · exact h.memFault.regReadEffect.frame
  · exact h

theorem State.Since.evtTailWrite {port : HostPort} {value : Word} (h : s.Since z) : (evtTailWrite port value s).Since z := h.regWrite_fst.ite h
theorem State.Since.doorbellGo {port : HostPort} (h : s.Since z) : (doorbellGo port s).Since z := h.regWrite_fst.ite h
theorem State.Since.doorbellAbort {port : HostPort} (h : s.Since z) : (doorbellAbort port s).Since z := h.regWrite_fst.ite h

theorem State.Since.nop {src : Src} (h : s.Since z) : (nop src s).Since z := by
  unfold Machine.nop
  exact h.serveCode fun ht => by
    split
    · exact ht
    · exact ht.fail_fst

theorem State.Since.identify {src : Src} (h : s.Since z) : (identify src s).Since z := by
  unfold Machine.identify
  exact h.serveCode fun ht => by
    split
    · exact ht
    · exact ht.fail_fst

theorem State.Since.sysReset {src : Src} (h : s.Since z) : (sysReset src s).Since z := by
  unfold Machine.sysReset
  exact h.serveCode fun ht => by
    extract_lets
    split
    · exact ht.fail_fst
    · exact ht.frame.fst

theorem State.Since.remoteRequest {sender : FAddr} {fid : Half} {bytes : List Byte} (h : s.Since z) : (remoteRequest sender fid bytes s).Since z := by
  unfold Machine.remoteRequest
  extract_lets
  split
  · exact h
  · split
    · exact h.sendTo
    · exact h.frame.ite h.sendTo

theorem State.Since.remoteResponse {sender : FAddr} {bytes : List Byte} (h : s.Since z) : (remoteResponse sender bytes s).Since z :=
  h.ite (h.complete.ite (h.frame.complete.ite h))

theorem State.Since.remoteTimeout (h : s.Since z) : (remoteTimeout s).Since z := h.ite (h.complete.ite (h.frame.complete.ite h))
theorem State.Since.eventFrame {w0 w1 w2 w3 : Word} (h : s.Since z) : (eventFrame w0 w1 w2 w3 s).Since z := h.ringAdd.ite h
theorem State.Since.slotIs {b valid : Bool} {sec : Nat} (h : s.Since z) : (s.slotIs b valid sec).Since z := h.setFld.frame

theorem State.Since.fwBegin {src : Src} (h : s.Since z) : (fwBegin src s).Since z := by
  unfold Machine.fwBegin
  exact h.serveCode fun ht => by
    extract_lets
    split
    · exact ht.fail_fst
    · exact ht.frame.slotIs.wr.nvPut.fst

theorem State.Since.fwData {src : Src} (h : s.Since z) : (fwData src s).Since z := by
  unfold Machine.fwData
  exact h.serveCode fun ht => by
    extract_lets
    split
    · exact ht.fail_fst
    · split
      · exact ht.fail_fst
      · split
        · exact ht.setFld.fst
        · exact ht.nvPut.fst

theorem State.Since.fwEnd {src : Src} {sign : Bool} {chk : Check} (h : s.Since z) : (fwEnd src sign chk s).Since z := by
  unfold Machine.fwEnd
  exact h.serveCode fun ht => by
    extract_lets
    split
    · exact ht.fail_fst
    · split
      · exact ht.fail_fst
      · split
        · exact ht.setFld.slotIs.raise.fst
        · exact ht.setFld.slotIs.raise.fst
        · exact ht.setFld.slotIs.raise.fst
        · exact ht.nvRead.setFld.slotIs.raise.fst

theorem State.Since.idPut {job : NvJob} {pair value : Nat} (h : s.Since z) : (s.idPut job pair value).Since z := h.nvPut

theorem State.Since.fwActivate {src : Src} (h : s.Since z) : (fwActivate src s).Since z := by
  unfold Machine.fwActivate
  exact h.serveCode fun ht => by
    split
    · exact ht.fail_fst
    · split
      · exact ht.fail_fst
      · exact ht.idPut.fst

theorem State.Since.fwCommit {src : Src} (h : s.Since z) : (fwCommit src s).Since z := by
  unfold Machine.fwCommit
  exact h.serveCode fun ht => by
    split
    · exact ht.fail_fst
    · split
      · exact ht.fail_fst
      · split
        · exact ht.idPut.fst
        · exact ht

theorem State.Since.fwAbort {src : Src} (h : s.Since z) : (fwAbort src s).Since z := by
  unfold Machine.fwAbort
  exact h.serveCode fun ht => by
    split
    · exact ht.fail_fst
    · split
      · exact ht
      · exact ht.setFld.slotIs.fst

/-! ## Commands that are writes of one parameter (Machine/Writes.lean) -/

theorem State.Since.stateReqRun {src : Src} (h : s.Since z) : (stateReqRun src s).Since z := h.serveSet
theorem State.Since.stateReqWatch {src : Src} (h : s.Since z) : (stateReqWatch src s).Since z := h.serveSet
theorem State.Since.stateReqHatbox {src : Src} (h : s.Since z) : (stateReqHatbox src s).Since z := h.serveSet
theorem State.Since.seqLoad {src : Src} (h : s.Since z) : (seqLoad src s).Since z := h.serveSet
theorem State.Since.seqRunWrite {src : Src} (h : s.Since z) : (seqRunWrite src s).Since z := h.serveSet
theorem State.Since.streamEnable {src : Src} (h : s.Since z) : (streamEnable src s).Since z := h.serveSet
theorem State.Since.streamTailWrite {src : Src} (h : s.Since z) : (streamTailWrite src s).Since z := h.serveSet
theorem State.Since.hostInjectionRequest {src : Src} (h : s.Since z) : (hostInjectionRequest src s).Since z := h.serveSet
theorem State.Since.patHoldRelease {src : Src} (h : s.Since z) : (patHoldRelease src s).Since z := h.serveSet
theorem State.Since.probenow {src : Src} (h : s.Since z) : (probenow src s).Since z := h.serveSet
theorem State.Since.timerStartStop {src : Src} (h : s.Since z) : (timerStartStop src s).Since z := h.serveSet
theorem State.Since.timerCountWrite {src : Src} (h : s.Since z) : (timerCountWrite src s).Since z := h.serveSet
theorem State.Since.fabWake {src : Src} (h : s.Since z) : (fabWake src s).Since z := h.serveSet
theorem State.Since.snapFree {src : Src} (h : s.Since z) : (snapFree src s).Since z := h.serveSet

/-! ## Calibration (Machine/Patina.lean) -/

theorem State.Since.calPut {vs : List (Nat × Word)} (h : s.Since z) : (s.calPut vs).Since z :=
  h.ite ((h.foldl fun _ _ ht => ht.wr.frame).addWord)

theorem State.Since.calReloadNow (h : s.Since z) : s.calReloadNow.Since z := by
  unfold State.calReloadNow
  extract_lets
  split
  · exact h
  · exact h.frame.complete
  · exact h.frame.calPut.setBit.rearm.complete

theorem State.Since.calCommitNow (h : s.Since z) : s.calCommitNow.Since z := by
  unfold State.calCommitNow
  extract_lets
  split
  · exact h.frame.nvPut
  · exact h

theorem State.Since.calBoundary (h : s.Since z) : s.calBoundary.Since z := h.frame.calPut.calReloadNow.calCommitNow
theorem State.Since.patinaRotationMark (h : s.Since z) : (patinaRotationMark s).Since z := h.frame.ite h
theorem State.Since.patinaFresh (h : s.Since z) : s.patinaFresh.Since z := h.frame

theorem State.Since.patinaUpdate {gains : List Word} (h : s.Since z) : (patinaUpdate gains s).Since z :=
  (h.frame.patinaFresh.addSat.setBit.raise.ite h.frame.patinaFresh.addSat).ite h

theorem State.Since.calCommit {src : Src} (h : s.Since z) : (calCommit src s).Since z := by
  unfold Machine.calCommit
  exact h.serveCode fun ht => by
    extract_lets
    split
    · exact ht.fail_fst
    · split
      · exact ht.fail_fst
      · exact ht.frame.fst

theorem State.Since.calReload {src : Src} {chk : Check} (h : s.Since z) : (calReload src chk s).Since z := by
  unfold Machine.calReload
  exact h.serveCode fun ht => by
    extract_lets
    split
    · exact ht.fail_fst
    · split
      · exact ht.fail_fst
      · exact ht.nvRead.frame.fst

theorem State.Since.patinaSet {src : Src} (h : s.Since z) : (patinaSet src s).Since z := by
  unfold Machine.patinaSet
  exact h.serveCode fun ht => by
    extract_lets
    split
    · exact ht.fail_fst
    · split
      · exact ht.fail_fst
      · exact ht.frame.setBit.fst

theorem State.Since.shortOnly {cs : List Nat} (h : s.Since z) : (s.shortOnly cs).Since z := h.setFld

theorem State.Since.setClose (h : s.Since z) : s.setClose.Since z := by
  unfold State.setClose
  extract_lets
  split
  · exact h.frame.shortOnly.ite h
  · exact h

theorem State.Since.patinaSetStart (h : s.Since z) : (patinaSetStart s).Since z := by
  unfold Machine.patinaSetStart
  extract_lets
  split
  · exact h.ite h.takeTc.tableStart.frame.setClose
  · exact h

theorem State.Since.patinaSetGroup {s0 : State} (h : s0.Since z) : (patinaSetGroup s0).Since z := by
  unfold Machine.patinaSetGroup
  split
  · exact h.ite h.advanceTo.frame.shortNone
  · exact h

theorem State.Since.patinaSetApply (h : s.Since z) : (patinaSetApply s).Since z := by
  unfold Machine.patinaSetApply
  extract_lets
  split
  · extract_lets _ t
    have ht : t.Since z := (h.frame.addWord.ite h.frame).calPut
    exact h.ite ht.shortNone.setBit.addSat.activeAgain.raise.complete
  · exact h

/-! ## The sequencer (Machine/Sequencer.lean) -/

theorem State.Since.tableFollow {again : Bool} (h : s.Since z) : (s.tableFollow again).Since z :=
  (h.tableStart.frame.seqLoadEvent.ite h.seqStop).ite (h.activeAgain.ite h.activeStart)

theorem State.Since.stateBoundary (h : s.Since z) : s.stateBoundary.Since z := by
  unfold State.stateBoundary
  extract_lets q
  have hq : q.Since z := h.patinaAbort
  split
  · exact h
  · split
    · exact hq.frame.toRun.refreshAll.tableFollow.balRefresh.ite hq.frame
    · exact hq.frame.frame.impStop.thermRestart.patinaStop.refreshAll.stateChg.tableFollow.balRefresh.ite hq.frame
    · exact hq.frame.frame.seqStop.frame.impDrop.patinaStop
    · exact hq.frame
    · exact hq.frame
    · exact hq.frame

theorem State.Since.swapBoundary {wrap : Bool} (h : s.Since z) : (s.swapBoundary wrap).Since z := by
  unfold State.swapBoundary
  extract_lets
  split
  · exact h
  · exact h.ite ((h.swapBanks.ite h).ite h.swapBanks)

theorem State.Since.runBoundary (h : s.Since z) : s.runBoundary.Since z := h.ite ((h.ite h.seqStop).ite ((h.tableFollow.ite h).ite h))
theorem State.Since.boundary {wrap : Bool} (h : s.Since z) : (s.boundary wrap).Since z := h.stateBoundary.swapBoundary.applyAtBoundary.runBoundary

theorem State.Since.alignStart (h : s.Since z) : s.alignStart.Since z := by
  unfold State.alignStart
  extract_lets
  split
  · exact h.tableStart.frame
  · exact h.frame

theorem State.Since.sweepBoundary (h : s.Since z) : s.sweepBoundary.Since z := (h.frame.setFld.ite h).calBoundary
theorem State.Since.runPass {e : Entry} (h : s.Since z) : (s.runPass e).Since z := (h.sweepBoundary.ite (h.ite h.calBoundary)).planPass
theorem State.Since.tablePass (h : s.Since z) : s.tablePass.Since z := h.frame.runPass.seqShow.frame.ite h.frame.runPass.seqShow.frame
theorem State.Since.leadStart (h : s.Since z) : s.leadStart.Since z := h.frame.blankSpan.seqPhase.seqShow
theorem State.Since.entryStart (h : s.Since z) : s.entryStart.Since z := h.trigWait.seqShow.ite (h.leadStart.ite h.tablePass)

theorem State.Since.watchPass (h : s.Since z) : s.watchPass.Since z :=
  (h.frame.ite h).seqShow.sweepBoundary.planPass.frame.ite (h.frame.ite h).seqShow.planPass.frame

theorem State.Since.calPass (h : s.Since z) : s.calPass.Since z := h.setClose.runPass.frame

theorem State.Since.spanPassed {due : DWord} (h : s.Since z) : (s.spanPassed due).Since z := by
  unfold State.spanPassed
  split
  · exact h.unblank.ite h
  · exact h

theorem State.Since.seqPassStart {s0 : State} (h : s0.Since z) : (seqPassStart s0).Since z := by
  unfold Machine.seqPassStart
  extract_lets s a b _ _ b'
  have hs : s.Since z := h.spanPassed
  have ha : a.Since z := hs.advanceTo
  have hb : b.Since z := ha.boundary
  have hb' : b'.Since z := (ha.addWord.ite ha).frame.boundary
  split
  · exact hs
  · exact hs
  · exact hb.calPass.ite hb
  · exact hb.watchPass.ite hb
  · exact hb.tablePass.ite hb
  · exact hb'.alignStart.ite (hb'.entryStart.ite hb')

theorem State.Since.seqTrigger (h : s.Since z) : (seqTrigger s).Since z := by
  unfold Machine.seqTrigger
  split
  · exact (h.advanceTo.boundary.frame.leadStart.ite h.advanceTo.boundary.frame.tablePass).ite h.advanceTo.boundary
  · exact h

theorem State.Since.trigmiss (h : s.Since z) : (trigmiss s).Since z := h.raise.frame.seqShow.ite h

theorem State.Since.blankedSpanEnd (h : s.Since z) : (blankedSpanEnd s).Since z := by
  unfold Machine.blankedSpanEnd
  split
  · exact h.advanceTo.unblank
  · exact h

theorem State.Since.tableCheckDone (h : s.Since z) : (tableCheckDone s).Since z := by
  unfold Machine.tableCheckDone
  extract_lets
  split
  · exact h
  · split
    · exact h.wr.setBit.raise
    · exact h.frame.setBit

/-! ## Power, reset and scan (Machine/Power.lean) -/

theorem State.Since.finishPage (h : s.Since z) : s.finishPage.Since z := by
  unfold State.finishPage
  extract_lets
  split
  · exact h.frame
  · exact h.frame.ite h.frame.stBytes

theorem State.Since.resetNode {cause : Word} {phase : Phase} {poweron : Bool} (h : s.Since z) :
    (s.resetNode cause phase poweron).Since z := by
  unfold State.resetNode
  extract_lets _ _ _ _ t u
  have ht : t.Since z := h
  have hu : u.Since z := ht.wr
  exact hu.outShow.ite hu.wr.addSat.wr.wr.setFld.outShow

theorem State.Since.resetEnds {test : Bool} (h : s.Since z) : (s.resetEnds test).Since z := h.frame
theorem State.Since.powerOn {islandKept : Bool} (h : s.Since z) : (powerOn islandKept s).Since z := h.resetNode.frame.resetEnds.ite h
theorem State.Since.brownOut (h : s.Since z) : (brownOut s).Since z := h.ite h.finishPage.resetNode.wr.frame.outShow
theorem State.Since.nrstAccepted (h : s.Since z) : (nrstAccepted s).Since z := h.ite h.finishPage.resetNode
theorem State.Since.nrstRelease {testHigh : Bool} (h : s.Since z) : (nrstRelease testHigh s).Since z := h.resetEnds.ite h
theorem State.Since.stuckreset {testHigh : Bool} (h : s.Since z) : (stuckreset testHigh s).Since z := h.setBit.frame.resetEnds.ite h
theorem State.Since.nrstRearm (h : s.Since z) : (nrstRearm s).Since z := h.frame
theorem State.Since.thermalHwCut {tripped : BitVec 6} (h : s.Since z) : (thermalHwCut tripped s).Since z := h.ite h.finishPage.resetNode.frame
theorem State.Since.thermalCutRelease {seconds : Nat} (h : s.Since z) : (thermalCutRelease seconds s).Since z := h.frame.resetEnds.ite h

theorem State.Since.bootCal {met : List (Nat × Check)} (h : s.Since z) : (s.bootCal met).Since z := by
  unfold State.bootCal
  dsimp only
  split
  · exact h.foldl fun _ _ ht => ht.wr
  · exact (h.foldl fun _ _ ht => ht.wr).wr.wr.wr.wr

theorem State.Since.slotRun {b : Bool} (h : s.Since z) : (s.slotRun b).Since z := h.frame.setBit

theorem State.Since.bootImage {i : StartUpIn} (h : s.Since z) : (s.bootImage i).Since z := by
  unfold State.bootImage
  extract_lets _ _ _ _ _ s3
  have hs3 : s3.Since z := h.setFld.setFld.setFld.wr.frame
  exact hs3.slotRun.ite (hs3.slotRun.setBit.frame.ite hs3.frame)

theorem State.Since.bootLeads {i : StartUpIn} (h : s.Since z) : (s.bootLeads i).Since z := by
  unfold State.bootLeads
  extract_lets _ _ _ _ _ _ _ _ _ _ s3
  have hs3 : s3.Since z := (h.transient.ite h).frame.wr.wr.wr.wr
  exact hs3.ite hs3.frame.raise

theorem State.Since.bootRecords {met : List (Nat × Check)} (h : s.Since z) : (s.bootRecords met).Since z := by
  unfold State.bootRecords
  extract_lets _ _ s1
  have hs1 : s1.Since z := by
    dsimp only [s1]
    split
    · exact h.wr
    · exact h
  split
  · exact hs1.frame.wr
  · exact hs1

theorem State.Since.bootLog {met : List (Nat × Check)} (h : s.Since z) : (s.bootLog met).Since z := h.ite h.wr.wr.setBit

theorem State.Since.startUp {i : StartUpIn} (h : s.Since z) : (startUp i s).Since z := by
  unfold Machine.startUp
  extract_lets _ s2
  have hs2 : s2.Since z := h.nvMetCount.setFld.bootCal.fullRound.bootImage
  exact (hs2.ite hs2.bootLeads.bootRecords.frame.discoverStart).ite h

theorem State.Since.placeHeld (h : s.Since z) : s.placeHeld.Since z := by
  unfold State.placeHeld
  extract_lets _ _ u
  have hu : u.Since z := h.frame.foldl fun _ _ ht => ht.evPlace
  exact (hu.ringOverflow.ite hu).foldl fun _ _ ht => ht.logPut

theorem State.Since.readyReports (h : s.Since z) : s.readyReports.Since z := by
  unfold State.readyReports
  extract_lets p s1 s2 s3 _ s4 s5
  clear_value p
  have hs1 : s1.Since z := h.raise.ite h
  have hs2 : s2.Since z := hs1.raise.ite hs1
  have hs3 : s3.Since z := by
    dsimp only [s3]
    split
    · exact hs2.raise
    · exact hs2
  have hs4 : s4.Since z := by
    dsimp only [s4]
    split
    · exact hs3.setBit.addSat.raise
    · exact hs3
  have hs5 : s5.Since z := hs4.raise.ite hs4
  exact hs5.frame

theorem State.Since.ready {micros : Nat} {mram : List (Nat × Check)} (h : s.Since z) : (ready micros mram s).Since z := by
  unfold Machine.ready
  extract_lets _ _ s1 _ _ _ _ _ _ _ _ _ _ s4
  have hs1 : s1.Since z := h.nvMetCount.wr.bootLog.cfgRestore.portsInForce
  have hs4 : s4.Since z := hs1.frame.notifyFrom.reqRun.rearm.thermRestart.takeTc.placeHeld.readyReports.stateChg
  exact (hs4.tableFollow.ite hs4).peersRefresh.probeAll.balRefresh.pinsFollow.slotShow.settle.ite h

theorem State.Since.portSleep {p : Fin 4} (h : s.Since z) : (s.portSleep p).Since z := h.control.control.control.setPort.ite h

theorem State.Since.collectEnd (h : s.Since z) : s.collectEnd.Since z := by
  unfold State.collectEnd
  extract_lets
  split
  · exact h
  · exact (h.frame.foldl fun _ _ ht => ht.snapClose).wr.sweepEnd

theorem State.Since.hatboxEntryComplete (h : s.Since z) : (hatboxEntryComplete s).Since z := by
  unfold Machine.hatboxEntryComplete
  extract_lets _ s0 _ _ _ s2
  have hs0 : s0.Since z := h.nvPageWriteDone.collectEnd
  have hs2 : s2.Since z := (hs0.frame.sliceFree.ite hs0).drawn.frame.wr
  exact ((hs2.topoChg.ite hs2).foldl fun _ _ ht => ht.portSleep).stateChg.frame.wr.leadsOff.balRefresh.ite h

theorem State.Since.wakeBy {ok : Bool} {cause : Word} (h : s.Since z) : (s.wakeBy ok cause).Since z := h.wr.ite h
theorem State.Since.nwake (h : s.Since z) : (nwake s).Since z := h.wakeBy
theorem State.Since.linkActivityWake {port : Fin 4} (h : s.Since z) : (linkActivityWake port s).Since z := h.wakeBy
theorem State.Since.hatboxAlarm (h : s.Since z) : (hatboxAlarm s).Since z := h.wakeBy
theorem State.Since.safetyComparatorWake (h : s.Since z) : (safetyComparatorWake s).Since z := h.wakeBy
theorem State.Since.auxUnknown (h : s.Since z) : s.auxUnknown.Since z := h.foldl fun _ _ ht => ht.wr

theorem State.Since.hatboxWake {slept : Nat} (h : s.Since z) : (hatboxWake slept s).Since z := by
  unfold Machine.hatboxWake
  extract_lets _ _ _ _ _ _ _ _ s1 s2 s3 _ s4 _ s5
  have hs3 : s3.Since z := (State.Since.frame h).auxUnknown.setBit.reqRun.rearm.thermRestart.thermShow.stateChg.timerCatchUp
  have hs4 : s4.Since z := hs3.ite hs3.raise
  have hs5 : s5.Since z := by
    dsimp only [s5]
    split
    · exact hs4.frame.raise
    · exact hs4
  exact hs5.tableFollow.balRefresh.settle.ite h

theorem State.Since.enterScan (h : s.Since z) : s.enterScan.Since z :=
  ((State.Since.frame h).foldl fun _ _ ht => ht.wr).idPut.finishPage.frame

theorem State.Since.scanUnlockFrame {cycles : Nat} {bits : BitVec 56} (h : s.Since z) : (scanUnlockFrame cycles bits s).Since z :=
  (h.frame.ite (h.frame.ite h.enterScan)).ite h

theorem State.Since.scanUnlockTimeout (h : s.Since z) : (scanUnlockTimeout s).Since z := h.frame.ite h
theorem State.Since.safeAck {src : Src} (h : s.Since z) : (Machine.safeAck src s).Since z := h.serveCode fun ht => ht.safeAck_fst
theorem State.Since.safeStop {src : Src} (h : s.Since z) : (Machine.safeStop src s).Since z := h.serveCode fun ht => ht.safeStop_fst

/-! ## Every command -/

/-- A next state comes after `z`. -/
def AnswersSince (z : State) : Host.Outcome State Fault Refusal → Prop
  | .next t => t.Since z
  | .fault _ | .refused _ => True

theorem State.Since.exec (h : s.Since z) : ∀ c : Instr, AnswersSince z (Machine.exec c s)
  | .powerOn _ => h.powerOn
  | .startUp _ => h.startUp
  | .ready _ _ => h.ready
  | .brownOut => h.brownOut
  | .nrstAccepted => h.nrstAccepted
  | .nrstRelease _ => h.nrstRelease
  | .stuckreset _ => h.stuckreset
  | .nrstRearm => h.nrstRearm
  | .reffail => h.reffail
  | .reflock _ => h.reflock
  | .housekeepingRound _ => h.housekeepingRound
  | .guardEntryAfterStop => h.guardEntryAfterStop
  | .thermalHwCut _ => h.thermalHwCut
  | .thermalCutRelease _ => h.thermalCutRelease
  | .stateReqRun _ => h.stateReqRun.settle
  | .stateReqWatch _ => h.stateReqWatch.settle
  | .stateReqHatbox _ => h.stateReqHatbox.settle
  | .hatboxEntryComplete => h.hatboxEntryComplete
  | .nwake => h.nwake
  | .linkActivityWake _ => h.linkActivityWake
  | .hatboxAlarm => h.hatboxAlarm
  | .safetyComparatorWake => h.safetyComparatorWake
  | .hatboxWake _ => h.hatboxWake
  | .spiFrame _ _ => h.spiFrame
  | .canFdRequest _ _ => h.canFdRequest
  | .uartFrame _ => h.uartFrame
  | .uartFrameTimeout => h.uartFrameTimeout
  | .hosterr => h.hosterr
  | .hostPortReconfig => h.hostPortReconfig
  | .registerWrite _ _ _ => h.registerWrite
  | .readClear _ _ => h.readClear
  | .streamWinRead _ _ => h.streamWinRead.settle
  | .evtTailWrite _ _ => h.evtTailWrite
  | .doorbellGo _ => h.doorbellGo
  | .doorbellAbort _ => h.doorbellAbort
  | .nop _ => h.nop
  | .identify _ => h.identify
  | .sysReset _ => h.sysReset
  | .paramGet _ _ => h.paramGet.settle
  | .paramSet _ => h.paramSet.settle
  | .paramStage _ => h.paramStage
  | .paramApply _ => h.paramApply.settle
  | .paramDiscard _ => h.paramDiscard
  | .cfgSave _ => h.cfgSave
  | .cfgDefaults _ => h.cfgDefaults.settle
  | .nvPageWriteDone _ => h.nvPageWriteDone
  | .remoteRequest _ _ _ => h.remoteRequest
  | .remoteResponse _ _ => h.remoteResponse
  | .remoteTimeout => h.remoteTimeout
  | .eventFrame _ _ _ _ => h.eventFrame
  | .fwBegin _ => h.fwBegin
  | .fwData _ => h.fwData
  | .fwEnd _ _ _ => h.fwEnd
  | .fwActivate _ => h.fwActivate
  | .fwCommit _ => h.fwCommit
  | .fwAbort _ => h.fwAbort
  | .seqPassStart => h.seqPassStart.settle
  | .seqTrigger => h.seqTrigger.settle
  | .trigmiss => h.trigmiss.settle
  | .blankedSpanEnd => h.blankedSpanEnd
  | .seqLoad _ => h.seqLoad
  | .tableCheckDone => h.tableCheckDone
  | .seqRunWrite _ => h.seqRunWrite
  | .conversionResult _ _ => h.conversionResult
  | .streamBurstWrite _ => h.streamBurstWrite
  | .streamEnable _ => h.streamEnable
  | .streamTailWrite _ => h.streamTailWrite
  | .hostInjectionRequest _ => h.hostInjectionRequest
  | .injectionStart _ => h.injectionStart
  | .wintrackTimeout => h.wintrackTimeout
  | .patinaRotationMark => h.patinaRotationMark
  | .patinaUpdate _ => h.patinaUpdate
  | .patinaSet _ => h.patinaSet
  | .patinaSetStart => h.patinaSetStart.settle
  | .patinaSetGroup => h.patinaSetGroup
  | .patinaSetApply => h.patinaSetApply.settle
  | .calCommit _ => h.calCommit
  | .calReload _ _ => h.calReload
  | .patHoldRelease _ => h.patHoldRelease
  | .impMeasurementStart _ _ => h.impMeasurementStart
  | .impAnnounceReceived _ _ _ => h.impAnnounceReceived
  | .impPassStart => h.impPassStart
  | .impSegmentEnd _ => h.impSegmentEnd
  | .impPhasorReceived _ => h.impPhasorReceived
  | .impPhasorTimeout _ => h.impPhasorTimeout
  | .impFitDone => h.impFitDone
  | .balPlanEvaluate _ _ => h.balPlanEvaluate
  | .balReport _ => h.balReport
  | .balAssignmentReceived _ => h.balAssignmentReceived
  | .balAssignmentApply => h.balAssignmentApply
  | .balLeaseLapse => h.balLeaseLapse
  | .balOvercurrentTrip _ => h.balOvercurrentTrip
  | .balReclose _ => h.balReclose
  | .shuttleFrameSend _ _ => h.shuttleFrameSend
  | .probenow _ => h.probenow
  | .probeStart _ => h.probeStart
  | .probeCycleEnd _ _ => h.probeCycleEnd
  | .timerWrap _ => h.timerWrap
  | .timerMatch _ _ => h.timerMatch
  | .timerCapture _ _ => h.timerCapture
  | .timerStartStop _ => h.timerStartStop
  | .timerAtStart => h.timerAtStart
  | .timerCountWrite _ => h.timerCountWrite
  | .linkControlReceived _ _ _ _ => h.linkControlReceived
  | .linkTrainBlock _ _ => h.linkTrainBlock
  | .linkDown _ _ => h.linkDown
  | .linkRetrainDelay _ => h.linkRetrainDelay
  | .keepaliveSend _ => h.keepaliveSend
  | .frameReceive _ _ _ => h.frameReceive
  | .linkAckTimeout _ _ _ => h.linkAckTimeout.settle
  | .discover _ => h.discover
  | .topoFrame _ _ => h.topoFrame
  | .discdone => h.discdone
  | .stringAssign _ _ => h.stringAssign
  | .fabWake _ => h.fabWake
  | .wakeFrame _ => h.wakeFrame
  | .timeSyncSend => h.timeSyncSend
  | .timeFrame _ _ _ => h.timeFrame
  | .sweepStart _ => h.sweepStart
  | .sweepStop _ => h.sweepStop
  | .sweepAnnounce _ => h.sweepAnnounce
  | .snapshotTime => h.snapshotTime
  | .sweepRecordSend => h.sweepRecordSend
  | .sweepRecordReceive _ _ _ _ => h.sweepRecordReceive.settle
  | .snapshotCloseTimeout => h.snapshotCloseTimeout
  | .sweepIsolated => h.sweepIsolated
  | .sweepHoldExpiry => h.sweepHoldExpiry
  | .heldRecordSend => h.heldRecordSend
  | .snapshotTrigger _ => h.snapshotTrigger
  | .snapshotFrozen => h.snapshotFrozen
  | .fabricTriggerReceived _ _ _ => h.fabricTriggerReceived
  | .snapFree _ => h.snapFree
  | .goalSet _ => h.goalSet
  | .goalClear _ => h.goalClear
  | .goalTableFrame _ _ _ => h.goalTableFrame
  | .checkpoint _ _ => h.checkpoint
  | .jobFrame _ => h.jobFrame
  | .jobMoveAck _ _ => h.jobMoveAck
  | .jobMoveTimeout _ => h.jobMoveTimeout
  | .recordCopy _ => h.recordCopy
  | .recordRead _ _ => h.recordRead.settle
  | .digestClose _ _ => h.digestClose
  | .digestRead _ _ => h.digestRead.settle
  | .safetyTick => h.safetyTick
  | .safeAck _ => h.safeAck
  | .safeStop _ => h.safeStop
  | .feedbackChange _ _ => h.feedbackChange
  | .closeSequence => h.closeSequence
  | .feedbackTimeout _ => h.feedbackTimeout
  | .closeSequenceRetry => h.closeSequenceRetry
  | .offtestPulseEnd _ => h.offtestPulseEnd
  | .offtestRetry => h.offtestRetry
  | .tpPulse _ => h.tpPulse
  | .tpPulseEnd _ _ _ _ => h.tpPulseEnd
  | .inputChange _ _ => h.inputChange
  | .twinFrameSend => h.twinFrameSend
  | .twinFrameReceive _ _ => h.twinFrameReceive
  | .twinCopyTimeout _ => h.twinCopyTimeout
  | .safewdog _ _ => h.safewdog
  | .chiselSliceStart => h.chiselSliceStart
  | .chiselSliceEnd _ => h.chiselSliceEnd.settle
  | .laneRepair => h.laneRepair.settle
  | .memoryRepairDone => h.memoryRepairDone
  | .chiselStatus _ => h.chiselStatus
  | .scanUnlockFrame _ _ => h.scanUnlockFrame
  | .scanUnlockTimeout => h.scanUnlockTimeout
  | .edramRefresh => h.edramRefresh
  | .edramRefreshLate _ => h.edramRefreshLate
  | .keyCheck _ _ => h.keyCheck
  | .attest _ _ _ => h.attest
  | .ownerAccept _ => h.ownerAccept
  | .logRead _ _ => h.logRead
  | .timerGatePinChange _ _ => h.timerGatePinChange
  | .chopPassBudgetTimeout => h.chopPassBudgetTimeout
  | .sweepAnnounceRepeat => h.sweepAnnounceRepeat
  | .jobRecordInterval _ _ _ => h.jobRecordInterval
  | .hatboxRefreshComparatorRead _ => h.hatboxRefreshComparatorRead
  | .intNoticeHoldoffEnd => h.intNoticeHoldoffEnd

end

/-- Settles O7: what any command answers comes after the state it was given. -/
theorem commandsKeepQueueAndSerial : Obligations.CommandsKeepQueueAndSerial := by
  intro c s t hst
  have h : AnswersSince s (exec c s) := (State.Since.refl s).exec c
  rwa [hst] at h

end Sys2Proof.Machine
end
